-- ==== Sys2Proof/Word.lean ====
section
/-!
DEFINITION. The word types of the TZ1280 (R5, R9): registers are 32 or 64 bits wide, memory is byte addressed.
-/
namespace Sys2Proof

/-- A value written to a 32-bit register (R9). -/
abbrev Word := BitVec 32

/-- A value written to a 64-bit register (R9). -/
abbrev DWord := BitVec 64

/-- One byte of memory (R6). -/
abbrev Byte := BitVec 8

end Sys2Proof
end

