-- ==== Sys2Proof/Syntax.lean ====
section
/-!
DEFINITION. The commands of the TZ1280 (one constructor for each row of the manual's table) and the data they carry: an
access with its attributes (R38), a measured value, a received frame, the outcome of an event outside the block.
-/
namespace Sys2Proof

/-- The attributes of a fabric transaction (R38, R39). `world` is true for the secure world; `vm` is the VMID under which an
application core runs in VS or VU mode (R398). -/
structure Access where
  ini : Nat
  world : Bool
  part : Nat
  spec : Bool := false
  vm : Option Nat := none
deriving DecidableEq, Repr

/-- The access type of a read of memory (R38). -/
inductive ReadKind where
  | data | fetch
deriving DecidableEq, Repr

/-- An upset of a guarded memory that the access finds (R365–R368): bits flipped in the stored data word at `addr`, in
its parity bit, or in the seam word of the line of `addr`; `transient` bits come with the read alone and are gone after
`n` re-reads. -/
inductive Upset where
  | word (addr mask : Nat) (parity : Bool)
  | seam (addr mask : Nat) (parity : Bool)
  | transient (addr n : Nat)
deriving DecidableEq, Repr

/-- The privilege mode of an application core (R398). -/
inductive CoreMode where
  | m | hs | u | vs | vu
deriving DecidableEq, Repr

/-- The causes of a world entry (R401). -/
inductive EntryCause where
  | ecallHs | ecallVs | mInterrupt
deriving DecidableEq, Repr

/-- The context of an application core that a frame holds (R402): x1–x31, f0–f31 and fcsr, then mstatus, mepc, mcause,
mtval, mtval2, mtinst and mscratch. -/
structure CoreCtx where
  pc : Nat := 0
  mode : CoreMode := .m
  x : List Nat := []
  f : List Nat := []
  fcsr : Nat := 0
  csr : List Nat := []
deriving DecidableEq, Repr

/-- What a slot of a sweep delivers (R181, R204, R205): a channel's current sample in class LSB with its comparators and
its voltage in 10 mV, which the hem ADC converts in every other sweep, or the slot 16 conversion of a group's supply in
10 mV. -/
inductive SlotSample where
  | current (c : Fin 128) (x : Int) (energised low : Bool) (vout : Nat)
  | supply (g : Fin 4) (vs : Nat)
deriving DecidableEq, Repr

/-- One sample of a universal input (R307, R309): the input, the value measured in the unit of VALUE, or the resistance
in 0.1 Ω in a temperature mode; in DIGITAL the voltage in mV; and the rising edges of the frame (R310). -/
structure UinSample where
  n : Fin 64
  x : Nat
  edges : Nat := 0
deriving DecidableEq, Repr

/-- The kinds of a core's request that its signature tells apart (R334). -/
inductive ReqKind where
  | load | store | amo | lr | sc
deriving DecidableEq, Repr

/-- A request of a core of a pair (R334): the address in the pair map, the store data or the operand of the atomic, the bytes,
and the DEVICE attribute of the view. -/
structure PairReq where
  kind : ReqKind
  addr : Word
  data : Word := 0
  mask : BitVec 4 := 0xF
  device : Bool := false
deriving DecidableEq, Repr

/-- A register that an instruction wrote (R334). -/
structure RegWritten where
  reg : Fin 32
  float : Bool := false
  data : Word
deriving DecidableEq, Repr

/-- What one core of a pair does in one cycle, as its signature takes it (R334): the PC of the instruction that retired, the
register written, and the request. -/
structure SigCycle where
  retired : Option Word := none
  wrote : Option RegWritten := none
  req : Option PairReq := none
deriving DecidableEq, Repr

/-- The target of a held store (R337). -/
inductive StoreKind where
  | pairLocal | pairReg | memView | deviceView
deriving DecidableEq, Repr

/-- An entry of a pair's commit buffer (R337): `addr` is a physical address, or an offset in pair-local memory or among the
pair-local registers. -/
structure HeldStore where
  kind : StoreKind
  addr : Nat
  data : BitVec 32
  mask : BitVec 4
deriving DecidableEq, Repr

/-- Why a window ended before its length (R332): 32 stores, a load through a DEVICE view, FENCE or FENCE.I, an AMO or SC to a
view, WFI, a trap entry or MRET. -/
inductive EarlyCause where
  | stores | deviceLoad | fence | atomic | wfi | trap
deriving DecidableEq, Repr

/-- The end of a window (R331, R332, R335): what each core folded, the checkpoint of each core (96 words, R339), the stores of
the window that the commit buffer does not list yet, those that the next window, which runs already (R340), has made so far,
and why the window ended early, if it did. -/
structure WindowEnd where
  pair : Fin 4
  sigA : List SigCycle
  sigB : List SigCycle
  cpA : List Nat
  cpB : List Nat
  stores : List HeldStore := []
  next : List HeldStore := []
  early : Option EarlyCause := none
deriving DecidableEq, Repr

/-- The atomic operations (R327, R336, R745). -/
inductive AmoOp where
  | swap | add | xor | and | or | min | max | minu | maxu
  /-- A store-conditional, with whether its reservation holds (R746). -/
  | sc (held : Bool)
deriving DecidableEq, Repr

/-- A Classical CAN or CAN FD frame (R597–R599); `id` is placed as in CAN_OBJ_ID, a base identifier in bits [28:18]. -/
structure CanFrame where
  id : Nat
  ide : Bool := false
  rmt : Bool := false
  fdf : Bool := false
  brs : Bool := false
  esi : Bool := false
  dlc : Nat := 0
  data : List Byte := []
deriving DecidableEq, Repr

/-- A CAN XL frame (R607). -/
structure XlFrame where
  prio : Nat
  sec : Bool := false
  sdt : Nat := 0
  vcid : Nat := 0
  af : Nat := 0
  data : List Byte := []
deriving DecidableEq, Repr

/-- How a transmission attempt ends on the bus (R604, R605): without error, by a lost arbitration, or by an error of kind
`lec` (as CAN_ERR encodes it) in the nominal or a data phase, before or after an acknowledgement. -/
inductive CanEnd where
  | sent
  | lost
  | error (lec : Nat) (dataPhase acked : Bool)
deriving DecidableEq, Repr

/-- What every frame of the peer's DPX says of its sender (R697): VERSION, byte 2, and PAIR_ID. A CAN heartbeat carries no
VERSION and no PAIR_ID (R698). -/
structure DuplexHead where
  version : Nat := 1
  unit : Nat
  role : Nat
  held : Bool := false
  seen : Bool := false
  pairId : Nat := 0
deriving DecidableEq, Repr

/-- The fields of a heartbeat that the receiver uses (R697). -/
structure Heartbeat where
  head : DuplexHead
  fit : Nat := 0
  sweep : Nat := 0
  cycle : Nat := 0
  phaseUs : Nat := 0
deriving DecidableEq, Repr

/-- A change entry of a mirror (R706): `arg` is laid out as CHI_CMD_ARG for PWM (R275). -/
structure MirrorEntry where
  chan : Fin 128
  profile : Nat
  inom : Nat
  arg : Nat
deriving DecidableEq, Repr

/-- A mirror (R706): by channel, the commanded states, CONDUCTING and the samples; `transitUs` is the time it took. -/
structure Mirror where
  head : DuplexHead
  fallback : Bool := false
  sweep : Nat
  pwmUs : Nat := 0
  cmd : List Nat := []
  cond : Nat := 0
  samples : List Int := []
  entries : List MirrorEntry := []
  transitUs : Nat := 0
deriving DecidableEq, Repr

/-- A message of the pair bridge (R731). `kind` is its KIND; `skipped` and `held` are the words of DATA that a response marks
(R748, R751), by bit; `want` are the words of a widened READ that the demand read asks for (R751), which the header gives no
place. -/
structure BridgeMsg where
  version : Nat := 1
  kind : Nat := 0
  unit : Nat := 0
  blocked : Bool := false
  path : Nat := 0
  tag : Nat := 0
  seq : Nat := 0
  ack : Nat := 0
  session : Nat := 0
  len : Nat := 0
  world : Bool := false
  part : Nat := 0
  commit : Nat := 0
  snap : Bool := false
  op : Nat := 0
  firstBe : Nat := 0
  lastBe : Nat := 0
  ini : Nat := 0
  addr : Nat := 0
  cid : Nat := 0
  data : List Byte := []
  skipped : Nat := 0
  held : Nat := 0
  want : Nat := 2 ^ 64 - 1
deriving DecidableEq, Repr

/-- What the tests of a SELFTEST found (R804): the lanes missed by the comparator injection of each named pair, the pairs
that flagged falsely, the cipher cores and the units that failed, and the tests that ran, in the layout of its ARG0. -/
structure SelftestResult where
  missed : List (Fin 256) := []
  falseFlags : Fin 16 := 0
  cores : Fin 16 := 0
  hash : Bool := false
  modular : Bool := false
  ran : Fin 1024 := 1023
deriving DecidableEq, Repr

/-- The commands of the block: one constructor for each row of the manual's table of operations and events. -/
inductive Instr where
  /-- REGISTER_WRITE (R11). -/
  | registerWrite (a : Access) (addr size v : Nat) (item : Option Nat)
  /-- COUNT_CLEAR_READ (R377). -/
  | countClearRead (a : Access) (addr : Nat) (served : Option Nat)
  /-- HST_VAUX_MV_READ (R122). -/
  | hstVauxMvRead (a : Access)
  /-- GUARDED_READ (R368). -/
  | guardedRead (a : Access) (kind : ReadKind) (mem : Fin 7) (addr count : Nat) (ups : List Upset)
  /-- GUARDED_WRITE (R367). -/
  | guardedWrite (a : Access) (mem : Fin 7) (addr : Nat) (data : List Byte) (ups : List Upset)
  /-- SCRUB_LINE_VISIT (R373). -/
  | scrubLineVisit (mem : Fin 7) (line : Nat) (ups : List Upset) (last : Bool)
  /-- L2_EVICTION (R372). -/
  | l2Eviction (line : Nat)
  /-- SCRUB_REQUEST (R375). -/
  | scrubRequest (a : Access) (v : Word)
  /-- SCRUB_PASS_DONE (R375). -/
  | scrubPassDone (mem : Fin 7)
  /-- FIREWALL_COMMIT (R385). -/
  | firewallCommit (a : Access) (v : Word) (recOffset : Option Nat)
  /-- ENFORCE_SET (R384). -/
  | enforceSet (a : Access) (v : Word)
  /-- FAB_LOG_BASE_WRITE (R395). -/
  | fabLogBaseWrite (a : Access) (v : DWord)
  /-- POWER_ON_RESET (R49). -/
  | powerOnReset (unitSel : Bool)
  /-- TCXO_FAIL (R48). -/
  | tcxoFail
  /-- SYSPLL_LOSS_OF_LOCK (R48). -/
  | syspllLossOfLock
  /-- SERPLL_LOSS_OF_LOCK (R48). -/
  | serpllLossOfLock
  /-- SERPLL_RELOCK (R823). -/
  | serpllRelock
  /-- PLL_LOCK (R46). -/
  | pllLock (serial : Bool)
  /-- CLK_AC_DIV_WRITE (R47). -/
  | clkAcDivWrite (a : Access) (v : Word)
  /-- MODULE_RESET_REQUEST (R52). -/
  | moduleResetRequest (a : Access) (v : Word)
  /-- BOOT_ROM_START (R51). -/
  | bootRomStart
  /-- DBG_RESET (R86). -/
  | dbgReset
  /-- BLOCK_RESET (R53). -/
  | blockReset (a : Access) (v : Word)
  /-- BLOCK_RESET_DONE (R53). -/
  | blockResetDone
  /-- PARTITION_RESET (R55). -/
  | partitionReset (a : Access) (v : Word)
  /-- PARTITION_RESET_DONE (R349). -/
  | partitionResetDone
  /-- GATE_CLOCK_OFF (R60). -/
  | gateClockOff (a : Access) (block : Fin 256)
  /-- GATE_CLOCK_ON (R60). -/
  | gateClockOn (a : Access) (block : Fin 256)
  /-- GATE_POWER_OFF (R60). -/
  | gatePowerOff (a : Access) (block : Fin 256)
  /-- GATE_POWER_ON (R62). -/
  | gatePowerOn (a : Access) (block : Fin 256)
  /-- GATE_DRAIN_DONE (R61). -/
  | gateDrainDone (secure : Bool)
  /-- GATE_DRAIN_TIMEOUT (R61). -/
  | gateDrainTimeout (secure : Bool)
  /-- GATE_POWER_UP_DONE (R62). -/
  | gatePowerUpDone (secure : Bool)
  /-- DIP_ENTRY (R92). -/
  | dipEntry
  /-- DIP_EXIT (R91). -/
  | dipExit
  /-- DIP_EXTENDED (R95). -/
  | dipExtended
  /-- HOLDUP_ENTRY (R96). -/
  | holdupEntry
  /-- HOLDUP_FLUSH_DONE (R97). -/
  | holdupFlushDone (kept : List (Fin 256))
  /-- CHANNEL_STATE_RECORD_DONE (R97). -/
  | channelStateRecordDone
  /-- HOLDUP_TIMEOUT (R98). -/
  | holdupTimeout
  /-- VHOLD_EXHAUSTED (R98). -/
  | vholdExhausted
  /-- VS_UNDERVOLTAGE_ENTRY (R109). -/
  | vsUndervoltageEntry (group : Fin 4)
  /-- VS_UNDERVOLTAGE_EXIT (R109). -/
  | vsUndervoltageExit (group : Fin 4)
  /-- HOLDUP_CAP_MEASURE (R102). -/
  | holdupCapMeasure
  /-- HOLDUP_CAP_MEASURE_DONE (R102). -/
  | holdupCapMeasureDone (uf : Nat)
  /-- VOLTAGE_UPDATE (R122). -/
  | voltageUpdate (vaux vhold : Nat) (vs : List Nat)
  /-- TEMP_CONVERSION (R119). -/
  | tempConversion (ctl bp : Int) (ps : List Int)
  /-- MEMORY_WIPE_DONE (R132). -/
  | memoryWipeDone
  /-- STARTUP_SELFTEST_DONE (R136). -/
  | startupSelftestDone (missed : List (Fin 256)) (falseFlags cores : Fin 16) (hash modular : Bool)
  /-- IMAGE_CANDIDATE_CHECK_DONE (R148). -/
  | imageCandidateCheckDone (readError : Bool)
  /-- BOOT_RETRY (R151). -/
  | bootRetry
  /-- BOOT_WATCHDOG_EXPIRY (R152). -/
  | bootWatchdogExpiry
  /-- CHANNEL_INITIAL_STATES (R273). -/
  | channelInitialStates
  /-- LC_REQ_PROVISIONED (R160). -/
  | lcReqProvisioned (a : Access) (v : Word)
  /-- LC_REQ_FIELD (R160). -/
  | lcReqField (a : Access) (v : Word)
  /-- LC_REQ_FIELD_DEBUG (R163). -/
  | lcReqFieldDebug (a : Access) (v : Word)
  /-- LC_REQ_RETURN (R160). -/
  | lcReqReturn (a : Access) (v : Word)
  /-- LC_REQ_END (R160). -/
  | lcReqEnd (a : Access) (v : Word)
  /-- LC_REQ_MANUFACTURE (R162). -/
  | lcReqManufacture (a : Access) (v : Word)
  /-- LC_OTP_PROGRAM_DONE (R161). -/
  | lcOtpProgramDone
  /-- DBG_GRANT_EXPIRY (R161). -/
  | dbgGrantExpiry
  /-- OWNER_SLOT_REVOKE (R158). -/
  | ownerSlotRevoke (a : Access) (v : Word)
  /-- SWEEP_SLOT_SAMPLE (R183). -/
  | sweepSlotSample (x : SlotSample)
  /-- SWEEP_BOUNDARY (R278). -/
  | sweepBoundary (missed : Bool)
  /-- VS_REF_REFILL (R262). -/
  | vsRefRefill (g : Fin 4)
  /-- FAST_SHORT (R187). -/
  | fastShort (c : Fin 128)
  /-- THERMAL_SHUTDOWN (R190). -/
  | thermalShutdown (c : Fin 128)
  /-- THERMAL_LATCH_CLEAR (R190). -/
  | thermalLatchClear (c : Fin 128)
  /-- CLUSTER_WARN_SET (R191). -/
  | clusterWarnSet (g : Fin 4) (k : Fin 8)
  /-- CLUSTER_WARN_CLEAR (R191). -/
  | clusterWarnClear (g : Fin 4) (k : Fin 8)
  /-- WIRE_MODEL_STEP (R196). -/
  | wireModelStep (tj : List Int)
  /-- GROUP_EVALUATION (R215). -/
  | groupEvaluation
  /-- GROUP_LOSS_ESTIMATE (R219). -/
  | groupLossEstimate
  /-- REVERSE_SWITCH_OFF (R175). -/
  | reverseSwitchOff (c : Fin 128)
  /-- REVERSE_SWITCH_ON (R175). -/
  | reverseSwitchOn (c : Fin 128)
  /-- REVERSE_SWITCH_TEST (R177). -/
  | reverseSwitchTest (c : Fin 128)
  /-- REVERSE_SWITCH_TEST_END (R177). -/
  | reverseSwitchTestEnd (c : Fin 128) (mv : Nat)
  /-- TURN_OFF_COMPLETE (R251). -/
  | turnOffComplete (c : Fin 128)
  /-- TURN_ON_COMPLETE (R238). -/
  | turnOnComplete (c : Fin 128)
  /-- DIAG_CYCLE_START (R209). -/
  | diagCycleStart (c : Fin 128)
  /-- SUPPLY_CHECK_END (R208). -/
  | supplyCheckEnd (c : Fin 128)
  /-- OPEN_LOAD_CHECK_END (R208). -/
  | openLoadCheckEnd (c : Fin 128) (openReading : Bool)
  /-- UNDERCURRENT_TIMER (R212). -/
  | undercurrentTimer (c : Fin 128)
  /-- INRUSH_WINDOW_END (R227). -/
  | inrushWindowEnd (c : Fin 128)
  /-- LIMIT_ENGAGE (R234). -/
  | limitEngage (c : Fin 128)
  /-- LIMIT_RELEASE (R234). -/
  | limitRelease (c : Fin 128)
  /-- FW_MISSING (R248). -/
  | fwMissing (c : Fin 128)
  /-- BACKOFF_EXPIRY (R251). -/
  | backoffExpiry (c : Fin 128)
  /-- RETRY_RELOAD (R252). -/
  | retryReload (c : Fin 128)
  /-- CHANNEL_RESTART (R254). -/
  | channelRestart (c : Fin 128)
  /-- PWM_ON_EDGE (R242). -/
  | pwmOnEdge (c : Fin 128) (ns : Nat)
  /-- PWM_OFF_EDGE (R241). -/
  | pwmOffEdge (c : Fin 128)
  /-- ON (R280). -/
  | chOn (a : Access) (i : Fin 16) (chan : Fin 128) (resv : Fin 32) (seq : BitVec 16)
  /-- OFF (R280). -/
  | chOff (a : Access) (i : Fin 16) (chan : Fin 128) (resv : Fin 32) (seq : BitVec 16)
  /-- PWM (R280). -/
  | chPwm (a : Access) (i : Fin 16) (chan : Fin 128) (resv : Fin 32) (seq : BitVec 16)
  /-- SET_PROFILE (R226). -/
  | chSetProfile (a : Access) (i : Fin 16) (chan : Fin 128) (resv : Fin 32) (seq : BitVec 16)
  /-- CLEAR_FAULT (R258). -/
  | chClearFault (a : Access) (i : Fin 16) (chan : Fin 128) (resv : Fin 32) (seq : BitVec 16)
  /-- HOLD (R286). -/
  | chHold (a : Access) (i : Fin 16) (chan : Fin 128) (resv : Fin 32) (seq : BitVec 16)
  /-- CALIBRATE (R301). -/
  | chCalibrate (a : Access) (i : Fin 16) (chan : Fin 128) (resv : Fin 32) (seq : BitVec 16)
  /-- WATCHDOG_KICK (R285). -/
  | watchdogKick (a : Access) (i : Fin 16) (v : Word)
  /-- INSTANCE_EXPIRY (R287). -/
  | instanceExpiry (i : Fin 16)
  /-- CHI_CPL_READ (R283). -/
  | chiCplRead (a : Access) (i : Fin 16)
  /-- LOAD (R296). -/
  | ucLoad (a : Access) (v : Word)
  /-- LOAD_DONE (R296). -/
  | ucLoadDone
  /-- SWAP (R297). -/
  | ucSwap (a : Access) (v : Word)
  /-- CALIBRATION_PHASE_END (R300). -/
  | calibrationPhaseEnd (gain : Int) (offset : Int) (span : Nat)
  /-- UIN_FRAME (R309). -/
  | uinFrame (xs : List UinSample)
  /-- UIN_CFG_WRITE (R316). -/
  | uinCfgWrite (a : Access) (n : Fin 64) (v : Word)
  /-- UIN_NTC_WRITE (R316). -/
  | uinNtcWrite (a : Access) (k : Fin 4) (isB : Bool) (v : Word)
  /-- SHUNT_OPEN (R313). -/
  | shuntOpen (n : Fin 64)
  /-- SHUNT_RECLOSE (R313). -/
  | shuntReclose (n : Fin 64)
  /-- WINDOW_COMPARE (R335). -/
  | windowCompare (w : WindowEnd)
  /-- WINDOW_TIMEOUT (R333). -/
  | windowTimeout (pair : Fin 4)
  /-- AMO_TO_VIEW (R336). -/
  | amoToView (pair : Fin 4) (op : AmoOp) (addr data : Word) (mB aB : DWord)
  /-- COMMITTED_WRITE_ERROR (R341). -/
  | committedWriteError (pair : Fin 4) (addr : Nat) (status : Fin 256)
  /-- MIGRATION_COMPLETE (R344). -/
  | migrationComplete (ns : Nat)
  /-- SELFTEST (R357). -/
  | lssSelftest (a : Access) (v : Word)
  /-- RESTORE (R357). -/
  | lssRestore (a : Access) (v : Word)
  /-- MOVE (R357). -/
  | lssMove (a : Access) (v : Word)
  /-- SPLIT (R359). -/
  | lssSplit (a : Access) (v : Word)
  /-- LOAN (R357). -/
  | lssLoan (a : Access) (v : Word)
  /-- ADOPT (R357). -/
  | lssAdopt (a : Access) (v : Word)
  /-- RETURN (R357). -/
  | lssReturn (a : Access) (v : Word)
  /-- INJECTION_DONE (R355). -/
  | injectionDone (pair : Fin 4) (missed : Fin 256) (falseFlag : Bool)
  /-- PERIODIC_INJECTION (R356). -/
  | periodicInjection
  /-- WORLD_ENTRY (R402). -/
  | worldEntry (core : Fin 4) (cause : EntryCause) (ctx : CoreCtx)
  /-- WORLD_EXIT (R402). -/
  | worldExit (core : Fin 4) (ctx : CoreCtx)
  /-- VMID_WRITE (R414). -/
  | vmidWrite (a : Access) (e : Fin 32) (v : Word)
  /-- MAP_LOAD (R416). -/
  | mapLoad (a : Access) (v : Word)
  /-- WORLD_LOCK_SET (R416). -/
  | worldLockSet (a : Access) (v : Word)
  /-- HOLD_INC (R419). -/
  | holdInc (a : Access) (v : Word)
  /-- HOLD_DEC (R419). -/
  | holdDec (a : Access) (v : Word)
  /-- DEFER_CANCEL (R420). -/
  | deferCancel (a : Access) (v : Word)
  /-- SWDT_KICK (R422). -/
  | swdtKick (a : Access) (v : Word)
  /-- SWDT_EXPIRY (R423). -/
  | swdtExpiry (digestMatches : Bool) (svc : CoreCtx)
  /-- SEC_READY (R425). -/
  | secReady (a : Access) (v : Word)
  /-- RESTARTS_CLEAR (R425). -/
  | restartsClear
  /-- ASSIGN (R440). -/
  | imgAssign (a : Access) (v : Word)
  /-- UNASSIGN (R440). -/
  | imgUnassign (a : Access) (v : Word)
  /-- IMG_RESET (R442). -/
  | imgReset (a : Access) (v : Word)
  /-- QUIESCE (R448). -/
  | imgQuiesce (a : Access) (v : Word)
  /-- RESUME (R450). -/
  | imgResume (a : Access) (v : Word)
  /-- SET_SHARE (R454). -/
  | imgSetShare (a : Access) (v : Word)
  /-- SET_WEIGHT (R455). -/
  | imgSetWeight (a : Access) (v : Word)
  /-- INST_RESET_REQUEST (R447). -/
  | instResetRequest (a : Access) (page : Fin 112) (v : Word)
  /-- FENCE_RELEASE (R445). -/
  | fenceRelease (page : Fin 96)
  /-- FENCE_FORCED (R446). -/
  | fenceForced (page : Fin 96)
  /-- FRAME_PARSE (R465). -/
  | frameParse (port : Fin 15) (head : List Byte) (age : Nat) (err : Option (Fin 4 × Fin 8192))
  /-- FRAME_END (R474). -/
  | frameEnd (port : Fin 15) (rest : List Byte) (err : Bool)
  /-- COPY_TRANSMIT_START (R487). -/
  | copyTransmitStart (port : Fin 16) (parity : Option (Fin 8192))
  /-- COPY_TRANSMIT_END (R492). -/
  | copyTransmitEnd (port : Fin 15) (parity : Option (Fin 8192))
  /-- QUEUE_AGE_CHECK (R485). -/
  | queueAgeCheck
  /-- AGING_SCAN (R475). -/
  | agingScan
  /-- LINK_DOWN (R491). -/
  | linkDown (port : Fin 15) (localFault remoteFault : Bool)
  /-- TBL_WRITE (R493). -/
  | tblWrite (a : Access) (table : Fin 4) (index : Fin 8192) (item : Option Nat)
  /-- TBL_READ (R493). -/
  | tblRead (a : Access) (table : Fin 4) (index : Fin 8192)
  /-- TBL_DELETE (R493). -/
  | tblDelete (a : Access) (table : Fin 4) (index : Fin 8192)
  /-- TBL_INSERT (R493). -/
  | tblInsert (a : Access) (table : Fin 4)
  /-- TBL_LOOKUP (R493). -/
  | tblLookup (a : Access) (table : Fin 4)
  /-- TBL_FLUSH (R493). -/
  | tblFlush (a : Access) (table : Fin 4)
  /-- DRAIN_REQUEST (R495). -/
  | drainRequest (a : Access) (v : Word)
  /-- DRAINED (R495). -/
  | swcDrained
  /-- SWC_CNT_SEL_WRITE (R510). -/
  | swcCntSelWrite (a : Access) (v : Word)
  /-- SPORE_RECORD_WRITE (R501). -/
  | sporeRecordWrite
  /-- SPORE_FAIL (R502). -/
  | sporeFail (status : Nat)
  /-- STREAM_RECOVERY_RESET (R498). -/
  | streamRecoveryReset (i : Fin 256)
  /-- PAUSE_RECEIVE (R517). -/
  | pauseReceive (port : Fin 15) (quanta : Fin 65536)
  /-- PFC_RECEIVE (R517). -/
  | pfcReceive (port : Fin 15) (enable : Fin 256) (quanta : List (Fin 65536))
  /-- PAUSE_HOLD_EXPIRY (R517). -/
  | pauseHoldExpiry (port : Fin 15) (cls : Fin 8)
  /-- PAUSE_FRAME_SEND (R516). -/
  | pauseFrameSend (port : Fin 15)
  /-- PAUSE_REFRESH (R516). -/
  | pauseRefresh (port : Fin 15)
  /-- PAUSE_WDT (R518). -/
  | pauseWdt (port : Fin 15) (cls : Fin 8)
  /-- PAUSE_IGNORE_END (R518). -/
  | pauseIgnoreEnd (port : Fin 15)
  /-- PHY_LINK_UP (R525). -/
  | phyLinkUp (port : Fin 12)
  /-- SQI_LOW (R525). -/
  | sqiLow (port : Fin 8) (sqi : Fin 8)
  /-- PHY_FW_LOAD_DONE (R528). -/
  | phyFwLoadDone (kind : Fin 256)
  /-- MAC_CNT_SEL_WRITE (R550). -/
  | macCntSelWrite (a : Access) (port : Fin 16) (v : Word)
  /-- HQ_TX_TAIL_WRITE (R529). -/
  | hqTxTailWrite (a : Access) (q : Fin 32) (v : Word)
  /-- HQ_RX_TAIL_WRITE (R529). -/
  | hqRxTailWrite (a : Access) (q : Fin 32) (v : Word)
  /-- RING_ENABLE_WRITE (R529). -/
  | ringEnableWrite (a : Access) (q : Fin 32) (tx : Bool) (v : Word)
  /-- DESCRIPTOR_FETCH (R530). -/
  | descriptorFetch (q : Fin 32) (tx : Bool)
  /-- TX_FRAME_HANDOFF (R534). -/
  | txFrameHandoff (q : Fin 32)
  /-- LAUNCH_TIME (R535). -/
  | launchTime (q : Fin 32)
  /-- TX_TIMESTAMP_STORE (R536). -/
  | txTimestampStore (port : Fin 15)
  /-- RX_FRAME_DELIVER (R540). -/
  | rxFrameDeliver
  /-- PARK_RESUME (R544). -/
  | parkResume (q : Fin 32)
  /-- PARK_STALL_TIMEOUT (R544). -/
  | parkStallTimeout (q : Fin 32)
  /-- DMA_ERROR (R547). -/
  | dmaError (q : Fin 32) (tx : Bool) (addr status : Nat)
  /-- HDMA_CNT_SEL_WRITE (R551). -/
  | hdmaCntSelWrite (a : Access) (v : Word)
  /-- SET (R559). -/
  | tmuSet (a : Access) (v : Word)
  /-- ADJ (R559). -/
  | tmuAdj (a : Access) (v : Word)
  /-- SERVO_EN_WRITE (R561). -/
  | servoEnWrite (a : Access) (v : Word)
  /-- OFFSET_SAMPLE (R562). -/
  | offsetSample (a : Access) (v : Word)
  /-- PPS_IN_EDGE (R568). -/
  | ppsInEdge
  /-- PPS_MISS (R568). -/
  | ppsMiss
  /-- HOLDOVER (R563). -/
  | tmuHoldover
  /-- RESELECT (R564). -/
  | reselect (a : Access) (v : Word)
  /-- SRV_RESET (R564). -/
  | srvReset (a : Access) (v : Word)
  /-- PPS_OUT_RISE (R575). -/
  | ppsOutRise
  /-- PPS_OUT_FALL (R575). -/
  | ppsOutFall
  /-- EVT_IN_EDGE (R576). -/
  | evtInEdge (k : Fin 4) (falling : Bool)
  /-- EVI_NS_READ (R576). -/
  | eviNsRead (a : Access) (k : Fin 4)
  /-- EVO_ARM (R577). -/
  | evoArm (a : Access) (k : Fin 4) (v : Word)
  /-- EVO_EDGE (R577). -/
  | evoEdge (k : Fin 4)
  /-- TMR_LOAD (R578). -/
  | tmrLoad (a : Access) (n : Fin 16) (v : Word)
  /-- TMR_EXPIRY (R578). -/
  | tmrExpiry (n : Fin 16)
  /-- OPEN (R600). -/
  | canOpen (a : Access) (c : Fin 12) (obj : Fin 128)
  /-- CLOSE (R600). -/
  | canClose (a : Access) (c : Fin 12) (obj : Fin 128)
  /-- TX_REQ (R602). -/
  | txReq (a : Access) (c : Fin 12) (obj : Fin 128)
  /-- CAN_CANCEL (R604). -/
  | canCancel (a : Access) (c : Fin 12) (obj : Fin 128)
  /-- XTX_CANCEL (R608). -/
  | xtxCancel (a : Access) (c : Fin 12) (obj : Fin 128)
  /-- RECOVER (R596). -/
  | canRecover (a : Access) (c : Fin 12) (obj : Fin 128)
  /-- CAN_MODE_WRITE (R594). -/
  | canModeWrite (a : Access) (c : Fin 12) (v : Word)
  /-- SYNCED (R594). -/
  | canSynced (c : Fin 12)
  /-- CAN_TX_ATTEMPT (R604). -/
  | canTxAttempt (c : Fin 12) (delay : Nat)
  /-- CAN_TX_END (R604). -/
  | canTxEnd (c : Fin 12) (how : CanEnd)
  /-- CAN_FRAME_VALID (R599). -/
  | canFrameValid (c : Fin 12) (f : CanFrame) (own : Bool) (age : Nat)
  /-- BUS_OFF (R596). -/
  | canBusOff (c : Fin 12)
  /-- RECOVERED (R596). -/
  | canRecovered (c : Fin 12)
  /-- DOM_TIMEOUT (R590). -/
  | canDomTimeout (c : Fin 12)
  /-- XL_TX_FETCH (R608). -/
  | xlTxFetch (c : Fin 12)
  /-- XL_RX_FRAME (R610). -/
  | xlRxFrame (c : Fin 12) (f : XlFrame) (age : Nat)
  /-- XL_RX_WRITEBACK (R610). -/
  | xlRxWriteback (c : Fin 12)
  /-- CAN_DMA_ERROR (R611). -/
  | canDmaError (c : Fin 12) (tx : Bool) (addr status : Nat)
  /-- REST (R628). -/
  | npmRest (a : Access) (seg : Fin 32) (key : BitVec 16)
  /-- NPM_WAKE (R634). -/
  | npmWake (a : Access) (seg : Fin 32) (key : BitVec 16)
  /-- CLEAR_STORM (R635). -/
  | clearStorm (a : Access) (seg : Fin 32) (key : BitVec 16)
  /-- REST_PROPOSAL_SENT (R628). -/
  | restProposalSent (seg : Fin 24)
  /-- REST_PROPOSAL (R629). -/
  | restProposal (seg : Fin 24) (seq : Fin 256)
  /-- REST_VOTE (R625). -/
  | restVote (seg : Fin 24) (seq : Fin 256)
  /-- REST_COMMIT (R630). -/
  | restCommit (seg : Fin 24)
  /-- REST_COMMIT_SENT (R628). -/
  | restCommitSent (seg : Fin 24)
  /-- REST_WAIT_EXPIRY (R625). -/
  | restWaitExpiry (seg : Fin 24)
  /-- REST_GRACE_EXPIRY (R625). -/
  | restGraceExpiry (seg : Fin 24)
  /-- REST_ROUND_TIMEOUT (R625). -/
  | restRoundTimeout (seg : Fin 24)
  /-- BUS_ACTIVITY (R632). -/
  | busActivity (seg : Fin 24)
  /-- WAKE_TIMEOUT_EXPIRY (R635). -/
  | wakeTimeoutExpiry (seg : Fin 24)
  /-- IDLE_TIMEOUT (R631). -/
  | idleTimeout (seg : Fin 24)
  /-- WAKE_IN_PULSE (R634). -/
  | wakeInPulse (k : Fin 4)
  /-- WAKE_TIMER_CONFIG (R636). -/
  | wakeTimerConfig (a : Access) (n : Fin 7) (v : Word)
  /-- CPI_SUBMIT (R651). -/
  | cpiSubmit (a : Access) (i : Fin 64) (v : Word)
  /-- JOB_DISPATCH (R655). -/
  | jobDispatch (i : Fin 64) (core : Fin 4) (more : List (Fin 4))
  /-- JOB_END (R660). -/
  | jobEnd (unit : Fin 6) (recomputes : Nat)
  /-- QUARANTINE_ZEROING_DONE (R660). -/
  | quarantineZeroingDone (q : Fin 8)
  /-- CORE_FENCED (R650). -/
  | coreFenced (unit : Fin 5)
  /-- CPI_CPL_READ (R656). -/
  | cpiCplRead (a : Access) (i : Fin 64)
  /-- CPE_CNT_SEL_WRITE (R680). -/
  | cpeCntSelWrite (a : Access) (v : Word)
  /-- KST_LOCK_TAKE (R667). -/
  | kstLockTake (a : Access) (agent : Fin 256)
  /-- KST_LOCK_RELEASE (R667). -/
  | kstLockRelease (a : Access) (agent : Fin 256)
  /-- LOCK_REVOKED (R667). -/
  | lockRevoked
  /-- LOAD_UNWRAP (R669). -/
  | loadUnwrap (a : Access) (slot src : Fin 64) (agent : Fin 256) (item : Option Nat)
  /-- DERIVE_ROOT (R670). -/
  | deriveRoot (a : Access) (slot src : Fin 64) (agent : Fin 256) (item : Option Nat)
  /-- DERIVE_SLOT (R670). -/
  | deriveSlot (a : Access) (slot src : Fin 64) (agent : Fin 256) (item : Option Nat)
  /-- ERASE (R668). -/
  | erase (a : Access) (slot src : Fin 64) (agent : Fin 256)
  /-- GLITCH_ALARM (R672). -/
  | glitchAlarm (detectors : Fin 8)
  /-- GLITCH_CLEAR (R672). -/
  | glitchClear
  /-- MESH_ERASE (R673). -/
  | meshErase
  /-- MESH_CLOSE (R673). -/
  | meshClose
  /-- DUPLEX_RECORD_APPLY (R692). -/
  | duplexRecordApply
  /-- STEP9_BEGIN (R689). -/
  | step9Begin
  /-- UNIT1_LISTEN_TIMEOUT (R689). -/
  | unit1ListenTimeout
  /-- HEARTBEAT_TX (R696). -/
  | heartbeatTx (path : Fin 3)
  /-- HEARTBEAT_RX (R698). -/
  | heartbeatRx (path : Fin 3) (x : Heartbeat)
  /-- MIRROR_RX (R707). -/
  | mirrorRx (path : Fin 2) (x : Mirror)
  /-- HANDOVER_OFFER (R712). -/
  | handoverOffer (path : Fin 2) (head : DuplexHead) (sweep : Nat)
  /-- HANDOVER_TAKEN (R712). -/
  | handoverTaken (path : Fin 2) (head : DuplexHead) (sweep cycle : Nat)
  /-- HANDOVER_ABORT (R712). -/
  | handoverAbort (path : Fin 2) (head : DuplexHead)
  /-- HANDOVER_REQUEST (R711). -/
  | handoverRequest (path : Fin 2) (head : DuplexHead)
  /-- PEER_WAKE (R701). -/
  | peerWake (segs : Fin 16777216)
  /-- COLLAR_IN_CHANGE (R693). -/
  | collarInChange (asserted : Bool)
  /-- PATH_LOST (R699). -/
  | pathLost (path : Fin 3)
  /-- PATH_RESTORED (R699). -/
  | pathRestored (path : Fin 3)
  /-- SUP_KICK (R694). -/
  | supKick (a : Access) (v : Word)
  /-- SUP_WATCHDOG_EXPIRY (R695). -/
  | supWatchdogExpiry
  /-- TAKEOVER (R703). -/
  | takeover
  /-- HANDOVER_ENGAGE (R712). -/
  | handoverEngage
  /-- HANDOVER_TIMEOUT (R712). -/
  | handoverTimeout
  /-- HANDOVER (R711). -/
  | handover (a : Access) (v : Word)
  /-- CLEAR_DISTRUST (R690). -/
  | clearDistrust (a : Access) (v : Word)
  /-- COLD_START (R689). -/
  | coldStart
  /-- COLLAR_CONFLICT (R714). -/
  | collarConflict
  /-- HEM_CONFLICT (R714). -/
  | hemConflict
  /-- COLLAR_OPEN (R715). -/
  | collarOpen
  /-- CYCLE_BOUNDARY (R710). -/
  | cycleBoundary
  /-- SNAP_READY_WRITE (R709). -/
  | snapReadyWrite (a : Access) (v : Word)
  /-- SNAP_COPY_DONE (R709). -/
  | snapCopyDone (region : Fin 16)
  /-- SNAP_DONE (R709). -/
  | snapDone (cycle : Nat)
  /-- ON_PULSE (R717). -/
  | onPulse (c : Fin 128)
  /-- ON_PULSE_END (R717). -/
  | onPulseEnd (c : Fin 128)
  /-- PAIR_ROTATION (R716). -/
  | pairRotation
  /-- REVERT (R713). -/
  | revert
  /-- HELLO_TX (R727). -/
  | helloTx
  /-- HELLO (R727). -/
  | hello (x : BridgeMsg)
  /-- PBR_ENABLE_WRITE (R726). -/
  | pbrEnableWrite (a : Access) (v : Word)
  /-- WINDOW_READ (R737). -/
  | windowRead (a : Access) (addr size : Nat)
  /-- WINDOW_WRITE (R737). -/
  | windowWrite (a : Access) (addr : Nat) (data : List Byte)
  /-- WINDOW_ATOMIC (R745). -/
  | windowAtomic (a : Access) (op : Fin 9) (addr : Nat) (data : Word)
  /-- WINDOW_LR (R746). -/
  | windowLr (a : Access) (addr : Nat)
  /-- WINDOW_SC (R746). -/
  | windowSc (a : Access) (addr : Nat) (data : Word)
  /-- READ (R740). -/
  | bridgeRead (x : BridgeMsg)
  /-- WRITE (R740). -/
  | bridgeWrite (x : BridgeMsg)
  /-- ATOMIC (R745). -/
  | bridgeAtomic (x : BridgeMsg)
  /-- READ_DATA (R737). -/
  | readData (x : BridgeMsg)
  /-- WRITE_DONE (R737). -/
  | writeDone (x : BridgeMsg)
  /-- ATOMIC_DATA (R745). -/
  | atomicData (x : BridgeMsg)
  /-- DOORBELL (R752). -/
  | doorbell (x : BridgeMsg)
  /-- COMMIT_RX (R749). -/
  | commitRx (x : BridgeMsg)
  /-- DISCARD (R749). -/
  | bridgeDiscard (x : BridgeMsg)
  /-- ACK_ONLY (R734). -/
  | ackOnly (x : BridgeMsg)
  /-- INBOUND_EXECUTION_DONE (R736). -/
  | inboundExecutionDone (tag : Fin 256)
  /-- RESEND_TIMEOUT (R734). -/
  | resendTimeout
  /-- LINK_LOST (R729). -/
  | linkLost
  /-- BLOCKED (R743). -/
  | bridgeBlocked
  /-- BLOCKED_HELLO_TX (R743). -/
  | blockedHelloTx
  /-- RETRY_QUEUE_RESTORE (R744). -/
  | retryQueueRestore
  /-- SEMAPHORE_TIMEOUT (R747). -/
  | semaphoreTimeout (no : Fin 16)
  /-- PREFETCH_EXPIRY (R750). -/
  | prefetchExpiry (addr : Nat)
  /-- PREFETCH_LOSS (R751). -/
  | prefetchLoss (addr : Nat)
  /-- DOORBELL_SEND (R752). -/
  | doorbellSend (a : Access) (v : Word)
  /-- CHUNK_SUBMIT (R768). -/
  | chunkSubmit (a : Access) (v : Word)
  /-- CHUNK_DONE (R768). -/
  | chunkDone (same : Bool)
  /-- STG_DONE (R770). -/
  | stgDone (readError : Bool)
  /-- HO_READY (R776). -/
  | hoReady (a : Access) (v : Word)
  /-- HO_TIMEOUT (R776). -/
  | hoTimeout
  /-- PROBATION_END (R789). -/
  | probationEnd (comp : Fin 32)
  /-- PROBATION_FAIL (R790). -/
  | probationFail (comp : Fin 32)
  /-- QUERY (R801). -/
  | mbxQuery (a : Access) (win : Fin 17) (v : Word)
  /-- SUSPEND (R805). -/
  | mbxSuspend (a : Access) (win : Fin 17) (v : Word)
  /-- MBX_RESUME (R805). -/
  | mbxResume (a : Access) (win : Fin 17) (v : Word)
  /-- CANCEL (R806). -/
  | mbxCancel (a : Access) (win : Fin 17) (v : Word)
  /-- RELEASE (R802). -/
  | mbxRelease (a : Access) (win : Fin 17) (v : Word)
  /-- STAGE_BUNDLE (R767). -/
  | stageBundle (a : Access) (win : Fin 17) (v : Word)
  /-- ACTIVATE_NEXT (R774). -/
  | activateNext (a : Access) (win : Fin 17) (v : Word)
  /-- ACTIVATE_ROLLBACK (R790). -/
  | activateRollback (a : Access) (win : Fin 17) (v : Word)
  /-- COMMIT (R791). -/
  | mbxCommit (a : Access) (win : Fin 17) (v : Word)
  /-- MBX_SELFTEST (R804). -/
  | mbxSelftest (a : Access) (win : Fin 17) (v : Word)
  /-- SCRUB (R804). -/
  | mbxScrub (a : Access) (win : Fin 17) (v : Word)
  /-- WIPE_STAGING (R804). -/
  | wipeStaging (a : Access) (win : Fin 17) (v : Word)
  /-- WIPE_HOLDUP_LOG (R804). -/
  | wipeHoldupLog (a : Access) (win : Fin 17) (v : Word)
  /-- CALIBRATE_CHANNELS (R804). -/
  | calibrateChannels (a : Access) (win : Fin 17) (v : Word)
  /-- EXPORT_LOG (R809). -/
  | exportLog (a : Access) (win : Fin 17) (v : Word)
  /-- HANDLE_START (R803). -/
  | handleStart (lane : Fin 5)
  /-- SUSPEND_POINT (R805). -/
  | suspendPoint (lane : Fin 5)
  /-- LONG_OP_END (R807). -/
  | longOpEnd (lane : Fin 5) (tests : SelftestResult)
  /-- ROLLBACK_COMPLETE (R806). -/
  | rollbackComplete (lane : Fin 5) (status : Fin 256) (tests : SelftestResult)
  /-- HANDLE_EXPIRY (R802). -/
  | handleExpiry (slot : Fin 256)
  /-- MBX_CPL_READ (R801). -/
  | mbxCplRead (a : Access) (win : Fin 17)
  /-- LICHEN_REPORT (R810). -/
  | lichenReport
  /-- SEAL_DONE (R812). -/
  | sealDone (a : Access) (v : Word)
  /-- SEAL_LATE (R812). -/
  | sealLate
  /-- CAN_RX_ERROR (R595). -/
  | canRxError (c : Fin 12) (lec : Nat) (dataPhase primary : Bool)
  /-- BLOCK_LOCK (R514). -/
  | blockLock (port : Fin 3)
  /-- WFI_WAKE (R332). -/
  | wfiWake (pair : Fin 4)
deriving DecidableEq, Repr

end Sys2Proof
end

