-- ==== Sys2Proof/Machine/Assoc.lean ====
section
/-!
DEFINITION. Sparse tables: a list of (key, value) pairs with strictly rising keys in which no entry equals the value that
an unlisted key reads as. One canonical form, so that equal tables are equal data.
-/
namespace Sys2Proof.Machine

/-- A sparse table from numbers to values. -/
abbrev Tbl (α : Type) := List (Nat × α)

/-- The value at key `k`; `d` where the table lists none. -/
def tget {α : Type} (d : α) : Tbl α → Nat → α
  | [], _ => d
  | (k', v) :: r, k => if k = k' then v else tget d r k

/-- The table without key `k`. -/
def tdel {α : Type} (t : Tbl α) (k : Nat) : Tbl α := t.filter (fun e => e.1 != k)

/-- The table with key `k` listed as `v`. -/
def tput {α : Type} : Tbl α → Nat → α → Tbl α
  | [], k, v => [(k, v)]
  | (k', v') :: r, k, v =>
    if k = k' then (k, v) :: r else if k < k' then (k, v) :: (k', v') :: r else (k', v') :: tput r k v

/-- Write `v` at key `k`; a value equal to the unlisted value `d` removes the entry. -/
def tset {α : Type} [DecidableEq α] (d : α) (t : Tbl α) (k : Nat) (v : α) : Tbl α :=
  if v = d then tdel t k else tput t k v

/-- Change the value at key `k` by `f`. -/
def tmod {α : Type} [DecidableEq α] (d : α) (t : Tbl α) (k : Nat) (f : α → α) : Tbl α :=
  tset d t k (f (tget d t k))

/-- Every key listed is above `lo`, and the keys rise strictly. -/
def tsortedFrom {α : Type} (lo : Nat) : Tbl α → Bool
  | [] => true
  | (k, _) :: r => decide (lo ≤ k) && tsortedFrom (k + 1) r

/-- The canonical form: strictly rising keys, and no entry equal to the unlisted value. -/
def tcanon {α : Type} [DecidableEq α] (d : α) (t : Tbl α) : Bool :=
  tsortedFrom 0 t && t.all (fun e => decide (e.2 ≠ d))

/-- The entries whose key satisfies `p`. -/
def tkeep {α : Type} (p : Nat → Bool) (t : Tbl α) : Tbl α := t.filter (fun e => p e.1)

/-- Apply `f` to each index of `l` in order. -/
def forEach {σ : Type} (l : List Nat) (f : Nat → σ → σ) (s : σ) : σ := l.foldl (fun s i => f i s) s

/-- `f` applied where `c` holds; otherwise nothing changes. -/
def onlyIf {σ : Type} (c : Bool) (f : σ → σ) (s : σ) : σ := if c then f s else s

/-- Insert `k` into a strictly rising list. -/
def insertNat (k : Nat) : List Nat → List Nat
  | [] => [k]
  | a :: r => if k = a then a :: r else if k < a then k :: a :: r else a :: insertNat k r

end Sys2Proof.Machine
end

