-- ==== Sys2Proof/Machine/Bits.lean ====
section
/-!
DEFINITION. Bit fields, sign extension and byte order (R5, R6, R9): bit 0 is the least significant bit, multi-byte values
are little-endian.
-/
namespace Sys2Proof.Machine

/-- Bits [hi:lo] of `v` (R5). -/
def bits (v hi lo : Nat) : Nat := v / 2 ^ lo % 2 ^ (hi + 1 - lo)

/-- Bit `n` of `v`. -/
def bit (v n : Nat) : Bool := v / 2 ^ n % 2 == 1

/-- `v` with bit `n` set to `b`. -/
def setBit (v n : Nat) (b : Bool) : Nat :=
  if bit v n == b then v else if b then v + 2 ^ n else v - 2 ^ n

/-- 1 for true, 0 for false. -/
def b2n (b : Bool) : Nat := if b then 1 else 0

/-- The value of a `w`-bit field read as a two's complement number. -/
def signed (w v : Nat) : Int := if v < 2 ^ (w - 1) then (v : Int) else (v : Int) - 2 ^ w

/-- The `w`-bit field that holds the integer `x` (wrapping). -/
def unsigned (w : Nat) (x : Int) : Nat := (x % (2 ^ w : Int)).toNat

/-- `v` kept within `w` bits, saturating at the largest value. -/
def sat (w v : Nat) : Nat := min v (2 ^ w - 1)

/-- The integer `x` clamped to `lo`–`hi`. -/
def clampInt (lo hi x : Int) : Int := max lo (min hi x)

/-- Bytes, lowest address first, as a number (R6). -/
def ofBytes : List Byte → Nat
  | [] => 0
  | b :: r => b.toNat + 256 * ofBytes r

/-- The `n` low bytes of `v`, lowest address first (R6). -/
def toBytes : Nat → Nat → List Byte
  | 0, _ => []
  | n + 1, v => BitVec.ofNat 8 v :: toBytes n (v / 256)

/-- The number of 1 bits among the low `n` bits of `v`. -/
def popCount : Nat → Nat → Nat
  | 0, _ => 0
  | n + 1, v => v % 2 + popCount n (v / 2)

/-- The positions of the 1 bits among the low `n` bits of `v`, lowest first. -/
def bitsSet (n v : Nat) : List Nat := (List.range n).filter (bit v)

/-- The lowest 1 bit among the low `n` bits, if any. -/
def lowestBit (n v : Nat) : Option Nat := (bitsSet n v).head?

/-- Bit-serial CRC-32 over one byte (R141 gives the polynomial; the reflected form is 0xEDB8_8320). -/
def crcByte (crc : Nat) (b : Byte) : Nat :=
  (List.range 8).foldl (fun c _ => if c % 2 = 1 then (c / 2) ^^^ 0xEDB88320 else c / 2) (crc ^^^ b.toNat)

/-- The CRC-32 of `l` (R141; log entries 6 and 12). -/
def crc32 (l : List Byte) : Nat := (l.foldl crcByte 0xFFFFFFFF) ^^^ 0xFFFFFFFF

/-- A number in network byte order (R6). -/
def netBytes (n v : Nat) : List Byte := (toBytes n v).reverse

/-- The big-endian number of a byte list. -/
def ofNetBytes (l : List Byte) : Nat := ofBytes l.reverse

/-- An Ethernet frame with its FCS (R511; log entry 12). -/
def withFcs (l : List Byte) : List Byte := l ++ toBytes 4 (crc32 l)

end Sys2Proof.Machine
end

