-- ==== Sys2Proof/Machine/Reg.lean ====
section
/-!
DEFINITION. A row of the manual's register tables (R9–R16): where the field stands, its access code, its reset value, and
the strides of the register families that repeat.
-/
namespace Sys2Proof.Machine

/-- The access codes of R11. -/
inductive AccCode where
  | ro | rw | w1c | w1s | wo | re
deriving DecidableEq, Repr

/-- One field of a register table. `base` is the byte address of the register (of the first of its family); `d1`–`d3`
are the stride and the number of the repeats of the family, outermost first. -/
structure Fam where
  base : Nat
  hi : Nat
  lo : Nat
  acc : AccCode
  reset : Nat
  d1 : Nat × Nat
  d2 : Nat × Nat
  d3 : Nat × Nat
deriving DecidableEq, Repr

/-- A field from its row: a family of one register unless strides are given. -/
def fam (base hi lo : Nat) (acc : AccCode) (reset : Nat) (d1 d2 d3 : Nat × Nat := (0, 1)) : Fam :=
  ⟨base, hi, lo, acc, reset, d1, d2, d3⟩

/-- The width of the field in bits. -/
def Fam.width (f : Fam) : Nat := f.hi + 1 - f.lo

/-- The byte address of the register that holds element (i, j, k) of the family. -/
def Fam.addr (f : Fam) (i j k : Nat) : Nat := f.base + i * f.d1.1 + j * f.d2.1 + k * f.d3.1

/-- The key of element (i, j, k): its register's byte address, and the place of its lowest bit. -/
def Fam.key (f : Fam) (i j k : Nat) : Nat := f.addr i j k * 64 + f.lo

/-- The element of a family at offset `r` within one stride, if the offset names one. -/
def Fam.split (d : Nat × Nat) (r : Nat) : Option (Nat × Nat) :=
  if d.1 = 0 then some (0, r) else if r / d.1 < d.2 then some (r / d.1, r % d.1) else none

/-- The indices of the element whose register stands at byte address `a`, if the family has one there. -/
def Fam.index? (f : Fam) (a : Nat) : Option (Nat × Nat × Nat) :=
  if a < f.base then none else
  match Fam.split f.d1 (a - f.base) with
  | none => none
  | some (i, r1) =>
    match Fam.split f.d2 r1 with
    | none => none
    | some (j, r2) =>
      match Fam.split f.d3 r2 with
      | none => none
      | some (k, r3) => if r3 = 0 then some (i, j, k) else none

end Sys2Proof.Machine
end

