-- ==== Sys2Proof/Machine/Fields.lean ====
section
/-!
DEFINITION. Every row of the manual's register tables, as the field families of Machine/Reg.lean: the name is the
register's name and the field's, each group cites the rule whose table it is. A field whose Reset column says CFG reads 0
until the Pedibel image is applied (R14); one whose Reset column gives no value is listed in the assumption log.
-/
namespace Sys2Proof.Machine.F

/-! ### R64, chapter 1 -/
def SYSCTL_ID_DEVICE : Fam := fam 0x0020000000 15 0 .ro 0x1280
def SYSCTL_ID_SILREV : Fam := fam 0x0020000000 23 16 .ro 1
def SYSCTL_ID_UNIT : Fam := fam 0x0020000000 24 24 .ro 0
def SYSCTL_ID_GRADE : Fam := fam 0x0020000000 25 25 .ro 0
def SYSCTL_PLL_STAT_SYS_LOCK : Fam := fam 0x0020000010 0 0 .ro 0
def SYSCTL_PLL_STAT_SER_LOCK : Fam := fam 0x0020000010 1 1 .ro 0
def SYSCTL_PLL_STAT_TCXO_OK : Fam := fam 0x0020000010 2 2 .ro 1
def SYSCTL_PLL_STAT_BYPASS : Fam := fam 0x0020000010 3 3 .ro 1
def SYSCTL_PLL_EVT_SER_LOL : Fam := fam 0x0020000014 1 1 .w1c 0
def SYSCTL_PLL_CTRL_SYS_EN : Fam := fam 0x0020000018 0 0 .rw 0
def SYSCTL_PLL_CTRL_SER_EN : Fam := fam 0x0020000018 1 1 .rw 0
def SYSCTL_PLL_CTRL_SWITCH : Fam := fam 0x0020000018 2 2 .rw 0
def SYSCTL_CLK_AC_DIV_DIV : Fam := fam 0x0020000020 1 0 .rw 0
def SYSCTL_CLK_AC_DIV_ACT : Fam := fam 0x0020000020 3 2 .ro 0
def SYSCTL_CLK_STATE_RUN : Fam := fam 0x0020000030 31 0 .ro 0xFFFFFFF
def SYSCTL_PWR_STATE_ON : Fam := fam 0x0020000034 31 0 .ro 0xFFFFFFF
def SYSCTL_GATE_REQ_BLOCK : Fam := fam 0x0020000040 7 0 .wo 0
def SYSCTL_GATE_REQ_OP : Fam := fam 0x0020000040 9 8 .wo 0
def SYSCTL_GATE_STAT_S_STATUS : Fam := fam 0x0020000044 7 0 .ro 0
def SYSCTL_GATE_STAT_S_BLOCK : Fam := fam 0x0020000044 15 8 .ro 0
def SYSCTL_GATE_STAT_S_PEND : Fam := fam 0x0020000044 16 16 .ro 0
def SYSCTL_GATE_STAT_N_STATUS : Fam := fam 0x0020000048 7 0 .ro 0
def SYSCTL_GATE_STAT_N_BLOCK : Fam := fam 0x0020000048 15 8 .ro 0
def SYSCTL_GATE_STAT_N_PEND : Fam := fam 0x0020000048 16 16 .ro 0
def SYSCTL_RST_CTRL_MODULE : Fam := fam 0x0020000060 0 0 .wo 0
def SYSCTL_RST_CTRL_KEY : Fam := fam 0x0020000060 31 16 .wo 0
def SYSCTL_BLK_RST_BLOCK : Fam := fam 0x0020000064 7 0 .wo 0
def SYSCTL_PART_RST_PART : Fam := fam 0x0020000068 3 0 .wo 0
def SYSCTL_RST_BUSY_BLK : Fam := fam 0x002000006C 0 0 .ro 0
def SYSCTL_RST_BUSY_PART : Fam := fam 0x002000006C 1 1 .ro 0
def SYSCTL_RST_CAUSE_POR : Fam := fam 0x0020000070 0 0 .w1c 1
def SYSCTL_RST_CAUSE_SOFT : Fam := fam 0x0020000070 1 1 .w1c 0
def SYSCTL_RST_CAUSE_SYSPLL_LOL : Fam := fam 0x0020000070 2 2 .w1c 0
def SYSCTL_RST_CAUSE_TCXO_FAIL : Fam := fam 0x0020000070 3 3 .w1c 0
def SYSCTL_RST_CAUSE_LOWV : Fam := fam 0x0020000070 4 4 .w1c 0
def SYSCTL_RST_CAUSE_LC_CHANGE : Fam := fam 0x0020000070 5 5 .w1c 0
def SYSCTL_RST_CAUSE_DEBUG : Fam := fam 0x0020000070 6 6 .w1c 0
def SYSCTL_RST_CAUSE_BOOT_WDT : Fam := fam 0x0020000070 7 7 .w1c 0
def SYSCTL_RST_CAUSE_BOOT_RETRY : Fam := fam 0x0020000070 8 8 .w1c 0
def SYSCTL_RST_CAUSE_UPDATE : Fam := fam 0x0020000070 9 9 .w1c 0
def SYSCTL_IATTR_SWC_WORLD : Fam := fam 0x0020000088 0 0 .ro 0
def SYSCTL_IATTR_SWC_PART : Fam := fam 0x0020000088 7 4 .ro 0
def SYSCTL_IATTR_PBR_WORLD : Fam := fam 0x002000008C 0 0 .ro 0
def SYSCTL_IATTR_PBR_PART : Fam := fam 0x002000008C 7 4 .ro 0
def SYSCTL_IATTR_CHC_WORLD : Fam := fam 0x0020000090 0 0 .ro 0
def SYSCTL_IATTR_CHC_PART : Fam := fam 0x0020000090 7 4 .ro 0
def SYSCTL_IATTR_CAN_WORLD : Fam := fam 0x0020000094 0 0 .ro 0
def SYSCTL_IATTR_CAN_PART : Fam := fam 0x0020000094 7 4 .ro 0
def SYSCTL_IATTR_HST_WORLD : Fam := fam 0x0020000098 0 0 .ro 0
def SYSCTL_IATTR_HST_PART : Fam := fam 0x0020000098 7 4 .ro 0
def SYSCTL_IATTR_NVC_WORLD : Fam := fam 0x002000009C 0 0 .ro 0
def SYSCTL_IATTR_NVC_PART : Fam := fam 0x002000009C 7 4 .ro 0
/-! ### R122, chapter 2 -/
def HST_SUP_STAT_VAUX_STATE : Fam := fam 0x0021200400 1 0 .ro 0
def HST_SUP_STAT_DIP_EXT : Fam := fam 0x0021200400 2 2 .ro 0
def HST_SUP_STAT_HOLDUP_WEAK : Fam := fam 0x0021200400 3 3 .ro 1
def HST_SUP_STAT_VS_UV : Fam := fam 0x0021200400 7 4 .ro 0xF
def HST_SUP_STAT_THROTTLE : Fam := fam 0x0021200400 8 8 .ro 0
def HST_SUP_STAT_TEMP_WARN : Fam := fam 0x0021200400 9 9 .ro 0
def HST_SUP_EVT_DIP : Fam := fam 0x0021200404 0 0 .w1c 0
def HST_SUP_EVT_DIP_EXT : Fam := fam 0x0021200404 1 1 .w1c 0
def HST_SUP_EVT_WEAK : Fam := fam 0x0021200404 2 2 .w1c 0
def HST_SUP_EVT_VS_UV : Fam := fam 0x0021200404 7 4 .w1c 0
def HST_SUP_EVT_TEMP_WARN : Fam := fam 0x0021200404 8 8 .w1c 0
def HST_SUP_EVT_TEMP_THROTTLE : Fam := fam 0x0021200404 9 9 .w1c 0
def HST_SUP_EVT_BP_HIGH : Fam := fam 0x0021200404 10 10 .w1c 0
def HST_VAUX_MV_NOW : Fam := fam 0x0021200408 15 0 .ro 0
def HST_VAUX_MV_MIN : Fam := fam 0x0021200408 31 16 .re 0xFFFF
def HST_VHOLD_MV_NOW : Fam := fam 0x002120040C 15 0 .ro 0
def HST_VS_MV_A_NOW : Fam := fam 0x0021200410 15 0 .ro 0
def HST_VS_MV_B_NOW : Fam := fam 0x0021200414 15 0 .ro 0
def HST_VS_MV_C_NOW : Fam := fam 0x0021200418 15 0 .ro 0
def HST_VS_MV_D_NOW : Fam := fam 0x002120041C 15 0 .ro 0
def HST_HOLDUP_CAP_UF : Fam := fam 0x0021200420 15 0 .ro 0
def HST_HOLDUP_CAP_VALID : Fam := fam 0x0021200420 16 16 .ro 0
def HST_TEMP_CTL_DEG : Fam := fam 0x0021200424 15 0 .ro 0
def HST_TEMP_PS_A_DEG : Fam := fam 0x0021200428 15 0 .ro 0
def HST_TEMP_PS_B_DEG : Fam := fam 0x002120042C 15 0 .ro 0
def HST_TEMP_PS_C_DEG : Fam := fam 0x0021200430 15 0 .ro 0
def HST_TEMP_PS_D_DEG : Fam := fam 0x0021200434 15 0 .ro 0
def HST_TEMP_BP_DEG : Fam := fam 0x0021200438 15 0 .ro 0
/-! ### R166, chapter 3 -/
def SYSCTL_LC_STATE_STATE : Fam := fam 0x0020000800 2 0 .ro 0
def SYSCTL_LC_STATE_OTP_DISAGREE : Fam := fam 0x0020000800 3 3 .ro 0
def SYSCTL_LC_REQ_TARGET : Fam := fam 0x0020000804 2 0 .wo 0
def SYSCTL_LC_REQ_KEY : Fam := fam 0x0020000804 31 16 .wo 0
def SYSCTL_LC_STAT_STATUS : Fam := fam 0x0020000808 7 0 .ro 0
def SYSCTL_LC_STAT_PEND : Fam := fam 0x0020000808 8 8 .ro 0
def SYSCTL_BOOT_STAT_STAGE : Fam := fam 0x0020000810 3 0 .rw 0
def SYSCTL_BOOT_STAT_BANK : Fam := fam 0x0020000810 4 4 .ro 0
def SYSCTL_BOOT_STAT_TRIAL : Fam := fam 0x0020000810 5 5 .ro 0
def SYSCTL_BOOT_STAT_SW_CRYPTO : Fam := fam 0x0020000810 6 6 .ro 0
def SYSCTL_BOOT_ERR_A : Fam := fam 0x0020000814 3 0 .ro 0
def SYSCTL_BOOT_ERR_B : Fam := fam 0x0020000814 7 4 .ro 0
def SYSCTL_BOOT_T_PART_US : Fam := fam 0x0020000818 31 0 .ro 0
def SYSCTL_BOOT_T_CHAN_US : Fam := fam 0x002000081C 31 0 .ro 0
def SYSCTL_BOOT_WDT_COUNT : Fam := fam 0x0020000820 1 0 .ro 0
def SYSCTL_BOOT_WDT_BAR_A : Fam := fam 0x0020000820 2 2 .ro 0
def SYSCTL_BOOT_WDT_BAR_B : Fam := fam 0x0020000820 3 3 .ro 0
def SYSCTL_IMG_VER_LO_VER : Fam := fam 0x0020000824 31 0 .ro 0
def SYSCTL_IMG_VER_HI_VER : Fam := fam 0x0020000828 31 0 .ro 0
def SYSCTL_IMG_SEQ_SEQ : Fam := fam 0x002000082C 31 0 .ro 0
def SYSCTL_SECVER_COUNTER : Fam := fam 0x0020000830 7 0 .ro 0
def SYSCTL_SECVER_IMAGE : Fam := fam 0x0020000830 15 8 .ro 0
def SYSCTL_SELFTEST_PAIR_FAIL : Fam := fam 0x0020000834 3 0 .ro 0
def SYSCTL_SELFTEST_CORE_FAIL : Fam := fam 0x0020000834 7 4 .ro 0
def SYSCTL_SELFTEST_HASH_FAIL : Fam := fam 0x0020000834 8 8 .ro 0
def SYSCTL_SELFTEST_MOD_FAIL : Fam := fam 0x0020000834 9 9 .ro 0
def SYSCTL_OWNER_SLOT_TRUSTED : Fam := fam 0x0020000838 3 0 .ro 0
def SYSCTL_OWNER_SLOT_REVOKE : Fam := fam 0x0020000838 11 8 .w1s 0
def SYSCTL_DBG_CHAL_CHAL : Fam := fam 0x0020000840 31 0 .ro 0 (4, 8)
def SYSCTL_DBG_TOKEN_ADDR : Fam := fam 0x0020000860 39 0 .wo 0
def SYSCTL_DBG_GRANT_PARTS : Fam := fam 0x0020000868 15 0 .ro 0
def SYSCTL_DBG_GRANT_MINUTES_LEFT : Fam := fam 0x0020000868 26 16 .ro 0
/-! ### R305, chapter 6 -/
def CHI_CMD_ARG_ARG : Fam := fam 0x0040060000 31 0 .rw 0 (0x1000, 16)
def CHI_CMD_OP : Fam := fam 0x0040060004 3 0 .wo 0 (0x1000, 16)
def CHI_CMD_CHANNEL : Fam := fam 0x0040060004 10 4 .wo 0 (0x1000, 16)
def CHI_CMD_SEQ : Fam := fam 0x0040060004 31 16 .wo 0 (0x1000, 16)
def CHI_SEQ_NEXT_SEQ : Fam := fam 0x0040060008 15 0 .ro 0 (0x1000, 16)
def CHI_STATE_STATE : Fam := fam 0x004006000C 1 0 .ro 0 (0x1000, 16)
def CHI_STATE_INSTANCE : Fam := fam 0x004006000C 7 4 .ro 0 (0x1000, 16)
def CHI_STATE_QOCC : Fam := fam 0x004006000C 12 8 .ro 0 (0x1000, 16)
def CHI_STATE_QSHARE : Fam := fam 0x004006000C 20 16 .ro 0 (0x1000, 16)
def CHI_STATE_CPL_CNT : Fam := fam 0x004006000C 28 24 .ro 0 (0x1000, 16)
def CHI_CPL_SEQ : Fam := fam 0x0040060010 15 0 .re 0 (0x1000, 16)
def CHI_CPL_STATUS : Fam := fam 0x0040060010 23 16 .re 0 (0x1000, 16)
def CHI_CPL_OP : Fam := fam 0x0040060010 27 24 .re 0 (0x1000, 16)
def CHI_CPL_VALID : Fam := fam 0x0040060010 31 31 .re 0 (0x1000, 16)
def CHI_CPL_X_CHANNEL : Fam := fam 0x0040060014 6 0 .ro 0 (0x1000, 16)
def CHI_CPL_X_DETAIL : Fam := fam 0x0040060014 11 8 .ro 0 (0x1000, 16)
def CHI_CPL_X_SWEEP : Fam := fam 0x0040060014 31 12 .ro 0 (0x1000, 16)
def CHI_REFUSE_SEQ : Fam := fam 0x0040060018 15 0 .ro 0 (0x1000, 16)
def CHI_REFUSE_STATUS : Fam := fam 0x0040060018 23 16 .ro 0 (0x1000, 16)
def CHI_REFUSE_COUNT : Fam := fam 0x0040060018 31 24 .re 0 (0x1000, 16)
def CHI_KICK_KEY : Fam := fam 0x004006001C 15 0 .wo 0 (0x1000, 16)
def CHI_WDT_TIMEOUT : Fam := fam 0x0040060020 13 0 .ro 0 (0x1000, 16)
def CHI_WDT_REMAIN : Fam := fam 0x0040060020 29 16 .ro 0 (0x1000, 16)
def CHI_IRQ_EN_EN : Fam := fam 0x0040060024 2 0 .rw 0 (0x1000, 16)
def CHI_IRQ_STAT_CPL : Fam := fam 0x0040060028 0 0 .w1c 0 (0x1000, 16)
def CHI_IRQ_STAT_EVT : Fam := fam 0x0040060028 1 1 .w1c 0 (0x1000, 16)
def CHI_IRQ_STAT_EXPIRED : Fam := fam 0x0040060028 2 2 .w1c 0 (0x1000, 16)
def CHI_SWEEP_NUM : Fam := fam 0x004006002C 31 0 .ro 0 (0x1000, 16)
def CHI_OWNED_MAP : Fam := fam 0x0040060040 31 0 .ro 0 (0x1000, 16) (4, 4)
def CHI_EVT_SUM_MAP : Fam := fam 0x0040060050 31 0 .ro 0 (0x1000, 16) (4, 4)
def CHI_DIAG_SEL_CHANNEL : Fam := fam 0x0040060080 6 0 .rw 0 (0x1000, 16)
def CHI_DIAG_TJ_DEG : Fam := fam 0x0040060084 15 0 .ro 0 (0x1000, 16)
def CHI_DIAG_WIRE_THETA_W : Fam := fam 0x0040060088 15 0 .ro 0 (0x1000, 16)
def CHI_DIAG_WIRE_AMB : Fam := fam 0x0040060088 31 16 .ro 0 (0x1000, 16)
def CHI_DIAG_IRMS_IRMS : Fam := fam 0x004006008C 15 0 .ro 0 (0x1000, 16)
def CHI_CH_COND_COND : Fam := fam 0x0040060800 31 0 .ro 0 (0x1000, 16) (0x10, 128)
def CHI_CH_RECOV_RECOV : Fam := fam 0x0040060804 31 0 .ro 0 (0x1000, 16) (0x10, 128)
def CHI_CH_MEAS_MEAS : Fam := fam 0x0040060808 31 0 .ro 0 (0x1000, 16) (0x10, 128)
def CHI_CH_EVT_EVT : Fam := fam 0x004006080C 22 0 .w1c 0 (0x1000, 16) (0x10, 128)
/-! ### R306, chapter 6 -/
def CHC_STAT_RUN : Fam := fam 0x0020200000 0 0 .ro 0
def CHC_STAT_BANK : Fam := fam 0x0020200000 1 1 .ro 0
def CHC_STAT_LOADED : Fam := fam 0x0020200000 2 2 .ro 0
def CHC_STAT_CAL_SPARE : Fam := fam 0x0020200000 3 3 .ro 0
def CHC_STAT_CAL_STOPPED : Fam := fam 0x0020200000 4 4 .ro 0
def CHC_STAT_SPARE_FOR : Fam := fam 0x0020200000 11 8 .ro 0xF
def CHC_SWEEP_NUM : Fam := fam 0x0020200004 31 0 .ro 0
def CHC_EVT_UC_REVERTED : Fam := fam 0x0020200008 0 0 .w1c 0
def CHC_EVT_DEADLINE_MISS : Fam := fam 0x0020200008 1 1 .w1c 0
def CHC_EVT_CAL_FAULT : Fam := fam 0x0020200008 2 2 .w1c 0
def CHC_EVT_LOAD_DONE : Fam := fam 0x0020200008 3 3 .w1c 0
def CHC_MISS_CNT_COUNT : Fam := fam 0x002020000C 15 0 .re 0
def CHC_UC_VER0_LO_VER : Fam := fam 0x0020200010 31 0 .ro 0
def CHC_UC_VER0_HI_VER : Fam := fam 0x0020200014 31 0 .ro 0
def CHC_UC_VER1_LO_VER : Fam := fam 0x0020200018 31 0 .ro 0
def CHC_UC_VER1_HI_VER : Fam := fam 0x002020001C 31 0 .ro 0
def CHC_UC_SCHEMA_BANK0 : Fam := fam 0x0020200020 15 0 .ro 0
def CHC_UC_SCHEMA_BANK1 : Fam := fam 0x0020200020 31 16 .ro 0
def CHC_UC_SRC_ADDR : Fam := fam 0x0020200028 39 0 .rw 0
def CHC_UC_CTRL_LOAD : Fam := fam 0x0020200030 0 0 .wo 0
def CHC_UC_CTRL_SWAP : Fam := fam 0x0020200030 1 1 .wo 0
def CHC_UC_CTRL_KEY : Fam := fam 0x0020200030 31 16 .wo 0
def CHC_UC_STAT_STATUS : Fam := fam 0x0020200034 7 0 .ro 0
def CHC_UC_STAT_PEND : Fam := fam 0x0020200034 8 8 .ro 0
def CHC_CAL_STAT_FAULT : Fam := fam 0x0020200040 7 0 .ro 0
def CHC_CAL_STAT_CAL_ADC : Fam := fam 0x0020200040 11 8 .ro 0xF
def CHC_CAL_STAT_CYCLES : Fam := fam 0x0020200040 31 16 .ro 0
def CHC_CAL_CORR_GAIN : Fam := fam 0x0020200060 15 0 .ro 0 (4, 8)
def CHC_CAL_CORR_OFFSET : Fam := fam 0x0020200060 31 16 .ro 0 (4, 8)
def CHC_GRP_RMS_RMS_1S : Fam := fam 0x0020200080 15 0 .ro 0 (4, 4)
def CHC_GRP_RMS_RMS_10MS : Fam := fam 0x0020200080 31 16 .ro 0 (4, 4)
def CHC_GRP_LOSS_MW : Fam := fam 0x0020200090 15 0 .ro 0 (4, 4)
def CHC_CH_CTRL_CTRL : Fam := fam 0x0020200400 31 0 .ro 0 (4, 128)
def CHC_INST_STAT_STATE : Fam := fam 0x0020200800 1 0 .ro 0 (4, 16)
def CHC_INST_STAT_QOCC : Fam := fam 0x0020200800 12 8 .ro 0 (4, 16)
def CHC_INST_STAT_CPL_CNT : Fam := fam 0x0020200800 20 16 .ro 0 (4, 16)
def CHC_CH_COND_COND : Fam := fam 0x0020201000 31 0 .ro 0 (0x10, 128)
def CHC_CH_RECOV_RECOV : Fam := fam 0x0020201004 31 0 .ro 0 (0x10, 128)
def CHC_CH_MEAS_MEAS : Fam := fam 0x0020201008 31 0 .ro 0 (0x10, 128)
def CHC_CH_EVT_EVT : Fam := fam 0x002020100C 22 0 .w1c 0 (0x10, 128)
def CHC_DIAG_SEL_CHANNEL : Fam := fam 0x0020201800 6 0 .rw 0
def CHC_DIAG_TJ_DEG : Fam := fam 0x0020201804 15 0 .ro 0
def CHC_DIAG_WIRE_THETA_W : Fam := fam 0x0020201808 15 0 .ro 0
def CHC_DIAG_WIRE_AMB : Fam := fam 0x0020201808 31 16 .ro 0
def CHC_DIAG_IRMS_IRMS : Fam := fam 0x002020180C 15 0 .ro 0
def CHC_EVT_SUM_MAP : Fam := fam 0x0020201900 31 0 .ro 0 (4, 4)
/-! ### R316, chapter 6 -/
def UIN_CFG_MODE : Fam := fam 0x0020300000 2 0 .rw 0 (4, 64)
def UIN_CFG_THRESH : Fam := fam 0x0020300000 11 3 .rw 0 (4, 64)
def UIN_CFG_HYST : Fam := fam 0x0020300000 16 12 .rw 0 (4, 64)
def UIN_CFG_FILT : Fam := fam 0x0020300000 20 17 .rw 0 (4, 64)
def UIN_CFG_DEBOUNCE : Fam := fam 0x0020300000 27 21 .rw 0 (4, 64)
def UIN_CFG_INVERT : Fam := fam 0x0020300000 28 28 .rw 0 (4, 64)
def UIN_CFG_NTC_SET : Fam := fam 0x0020300000 31 30 .rw 0 (4, 64)
def UIN_VAL_VALUE : Fam := fam 0x0020300400 23 0 .ro 0 (4, 64)
def UIN_VAL_VALID : Fam := fam 0x0020300400 24 24 .ro 0 (4, 64)
def UIN_VAL_FAULT : Fam := fam 0x0020300400 25 25 .ro 0 (4, 64)
def UIN_VAL_FAULT_KIND : Fam := fam 0x0020300400 27 26 .ro 0 (4, 64)
def UIN_VAL_LEVEL : Fam := fam 0x0020300400 28 28 .ro 0 (4, 64)
def UIN_VAL_CFG_BAD : Fam := fam 0x0020300400 29 29 .ro 0 (4, 64)
def UIN_RES_OHM : Fam := fam 0x0020300500 23 0 .ro 0 (4, 64)
def UIN_PULSE_COUNT : Fam := fam 0x0020300600 31 0 .re 0 (4, 64)
def UIN_EDGE_EDGE : Fam := fam 0x0020300700 31 0 .w1c 0 (4, 2)
def UIN_FAULT_EVT_FAULT : Fam := fam 0x0020300708 31 0 .w1c 0 (4, 2)
def UIN_STAT_EXCITE : Fam := fam 0x0020300710 0 0 .ro 0
def UIN_STAT_FRAME : Fam := fam 0x0020300710 31 16 .ro 0
def UIN_NTC_R25_OHM : Fam := fam 0x0020300800 23 0 .rw 0 (8, 4)
def UIN_NTC_B_KELVIN : Fam := fam 0x0020300804 15 0 .rw 0 (8, 4)
/-! ### R330, chapter 7 -/
def LSS_LOC_INFO_PAIR : Fam := fam 0x10000000000 1 0 .ro 0 (0x1000, 16)
def LSS_LOC_INFO_PART : Fam := fam 0x10000000000 7 4 .ro 0 (0x1000, 16)
def LSS_LOC_INFO_WINDOW : Fam := fam 0x10000000000 9 8 .ro 0 (0x1000, 16)
def LSS_LOC_INFO_SAFE_VALID : Fam := fam 0x10000000000 10 10 .ro 1 (0x1000, 16)
def LSS_LOC_MTIME_US : Fam := fam 0x10000000008 63 0 .ro 0 (0x1000, 16)
def LSS_LOC_MTIMECMP_US : Fam := fam 0x10000000010 63 0 .rw 0xFFFFFFFFFFFFFFFF (0x1000, 16)
def LSS_LOC_EVT_WERR : Fam := fam 0x10000000018 0 0 .w1c 0 (0x1000, 16)
def LSS_LOC_EVT_MIGRATED : Fam := fam 0x10000000018 1 1 .w1c 0 (0x1000, 16)
def LSS_LOC_EVT_REPLAYED : Fam := fam 0x10000000018 2 2 .w1c 0 (0x1000, 16)
def LSS_LOC_MIGCNT_COUNT : Fam := fam 0x10000000020 15 0 .ro 0 (0x1000, 16)
/-! ### R363, chapter 7 -/
def LSS_CFG_FH_PAIR : Fam := fam 0x0020F00000 1 0 .ro 0
def LSS_CFG_FH_NONE : Fam := fam 0x0020F00000 2 2 .ro 0
def LSS_CFG_REPLAY_LIMIT : Fam := fam 0x0020F00000 15 8 .ro 0
def LSS_PAIR_STAT_STATE : Fam := fam 0x0020F00010 2 0 .ro 0 (4, 4)
def LSS_PAIR_STAT_PART : Fam := fam 0x0020F00010 7 4 .ro 0 (4, 4)
def LSS_PAIR_STAT_WINDOW : Fam := fam 0x0020F00010 9 8 .ro 2 (4, 4)
def LSS_PAIR_STAT_LOCKSTEP_BROKEN : Fam := fam 0x0020F00010 10 10 .ro 0 (4, 4)
def LSS_PAIR_STAT_FAIL_CAUSE : Fam := fam 0x0020F00010 14 12 .ro 0 (4, 4)
def LSS_PAIR_REPLAY_RECENT : Fam := fam 0x0020F00020 15 0 .re 0 (4, 4)
def LSS_PAIR_REPLAY_TOTAL : Fam := fam 0x0020F00020 31 16 .ro 0 (4, 4)
def LSS_PAIR_EARLY_COUNT : Fam := fam 0x0020F00030 31 0 .ro 0 (4, 4)
def LSS_EVT_REPLAY : Fam := fam 0x0020F00040 3 0 .w1c 0
def LSS_EVT_FAULT : Fam := fam 0x0020F00040 7 4 .w1c 0
def LSS_EVT_MIGRATED : Fam := fam 0x0020F00040 8 8 .w1c 0
def LSS_EVT_STOPPED : Fam := fam 0x0020F00040 9 9 .w1c 0
def LSS_EVT_WERR : Fam := fam 0x0020F00040 10 10 .w1c 0
def LSS_EVT_SELFTEST_FAIL : Fam := fam 0x0020F00040 11 11 .w1c 0
def LSS_EVT_SPLIT : Fam := fam 0x0020F00040 12 12 .w1c 0
def LSS_IRQ_EN_EN : Fam := fam 0x0020F00044 12 0 .rw 0
def LSS_CTRL_OP : Fam := fam 0x0020F00050 3 0 .wo 0
def LSS_CTRL_PAIR : Fam := fam 0x0020F00050 5 4 .wo 0
def LSS_CTRL_PART : Fam := fam 0x0020F00050 11 8 .wo 0
def LSS_CTRL_KEY : Fam := fam 0x0020F00050 31 16 .wo 0
def LSS_CTRL_STAT_STATUS : Fam := fam 0x0020F00054 7 0 .ro 0
def LSS_CTRL_STAT_PEND : Fam := fam 0x0020F00054 8 8 .ro 0
def LSS_MIG_LOG0_FROM : Fam := fam 0x0020F00060 1 0 .ro 0
def LSS_MIG_LOG0_TO : Fam := fam 0x0020F00060 5 4 .ro 0
def LSS_MIG_LOG0_PART : Fam := fam 0x0020F00060 11 8 .ro 0
def LSS_MIG_LOG0_KIND : Fam := fam 0x0020F00060 13 12 .ro 0
def LSS_MIG_LOG0_NS100 : Fam := fam 0x0020F00060 31 16 .ro 0
def LSS_MIG_LOG1_WINDOW : Fam := fam 0x0020F00064 31 0 .ro 0
def LSS_MIG_CNT_COUNT : Fam := fam 0x0020F00068 15 0 .ro 0
def LSS_WERR_ADDR_ADDR : Fam := fam 0x0020F00070 39 0 .ro 0
def LSS_WERR_INFO_STATUS : Fam := fam 0x0020F00078 7 0 .ro 0
def LSS_WERR_INFO_PAIR : Fam := fam 0x0020F00078 9 8 .ro 0
def LSS_WERR_INFO_PART : Fam := fam 0x0020F00078 15 12 .ro 0
def LSS_WERR_INFO_COUNT : Fam := fam 0x0020F00078 31 16 .re 0
def LSS_MTIME_US : Fam := fam 0x0020F00080 63 0 .ro 0
def LSS_PART_STATE : Fam := fam 0x0020F00100 2 0 .ro 0 (4, 16)
def LSS_PART_PAIR : Fam := fam 0x0020F00100 5 4 .ro 0 (4, 16)
def LSS_PART_SAFE_VALID : Fam := fam 0x0020F00100 6 6 .ro 1 (4, 16)
def LSS_INJ_RES_MISSED : Fam := fam 0x0020F00200 7 0 .ro 0 (4, 4)
def LSS_INJ_RES_FALSE_FLAG : Fam := fam 0x0020F00200 8 8 .ro 0 (4, 4)
def LSS_INJ_RES_PASS : Fam := fam 0x0020F00200 9 9 .ro 0 (4, 4)
def LSS_INJ_RES_RUNS : Fam := fam 0x0020F00200 31 16 .ro 0 (4, 4)
/-! ### R397, chapter 8 -/
def FAB_CTRL_ENFORCE : Fam := fam 0x0020100000 0 0 .w1s 0
def FAB_LOG_BASE_ADDR : Fam := fam 0x0020100008 39 13 .rw 0x87FF
def FAB_LOG_WR_IDX : Fam := fam 0x0020100010 7 0 .ro 0
def FAB_LOG_WR_SEQ : Fam := fam 0x0020100010 31 16 .ro 0
def FAB_LOG_RD_IDX : Fam := fam 0x0020100014 7 0 .rw 0
def FAB_LOG_LOST_COUNT : Fam := fam 0x0020100018 15 0 .re 0
def FAB_LOG_CTRL_COALESCE : Fam := fam 0x002010001C 0 0 .rw 1
def FAB_EVT_NEW : Fam := fam 0x0020100020 0 0 .w1c 0
def FAB_EVT_LOST : Fam := fam 0x0020100020 1 1 .w1c 0
def FAB_EVT_UNCORR : Fam := fam 0x0020100020 2 2 .w1c 0
def FAB_EVT_SEAM : Fam := fam 0x0020100020 3 3 .w1c 0
def FAB_EVT_RE_LIMIT : Fam := fam 0x0020100020 4 4 .w1c 0
def FAB_IRQ_EN_EN : Fam := fam 0x0020100024 4 0 .rw 0
def FAB_CNT_DENY_COUNT : Fam := fam 0x0020100030 31 0 .ro 0
def FAB_CNT_UNMAPPED_COUNT : Fam := fam 0x0020100034 31 0 .ro 0
def FAB_CNT_OTHER_COUNT : Fam := fam 0x0020100038 31 0 .ro 0
def FAB_CNT_SPEC_COUNT : Fam := fam 0x002010003C 31 0 .ro 0
def FAB_MG_CNT_REBUILT : Fam := fam 0x0020100040 15 0 .ro 0 (4, 7)
def FAB_MG_CNT_TRANSIENT : Fam := fam 0x0020100040 23 16 .ro 0 (4, 7)
def FAB_MG_CNT_UNCORR : Fam := fam 0x0020100040 31 24 .ro 0 (4, 7)
def FAB_SCRUB_STAT_PASSES : Fam := fam 0x0020100060 15 0 .ro 0 (4, 7)
def FAB_SCRUB_STAT_REQ_BUSY : Fam := fam 0x0020100060 16 16 .ro 0 (4, 7)
def FAB_SCRUB_STAT_PROGRESS : Fam := fam 0x0020100060 31 24 .ro 0 (4, 7)
def FAB_SCRUB_REQ_MEM : Fam := fam 0x002010007C 6 0 .wo 0
def FAB_QR_BASE_ADDR : Fam := fam 0x0020100100 39 8 .ro 0 (0x10, 8)
def FAB_QR_CTRL_ACTIVE : Fam := fam 0x0020100108 0 0 .ro 0 (0x10, 8)
def FAB_QR_CTRL_OWNER : Fam := fam 0x0020100108 13 8 .ro 0 (0x10, 8)
def FAB_QR_LEN_LEN : Fam := fam 0x002010010C 31 8 .ro 0 (0x10, 8)
def FAB_STG_BASE_BASE : Fam := fam 0x0020100200 39 12 .rw 0
def FAB_STG_LIMIT_LIMIT : Fam := fam 0x0020100208 39 12 .rw 0
def FAB_STG_KEY_INIT : Fam := fam 0x0020100210 7 0 .rw 0
def FAB_STG_KEY_INIT_MASK : Fam := fam 0x0020100210 15 8 .rw 0
def FAB_STG_KEY_NORMAL : Fam := fam 0x0020100210 16 16 .rw 0
def FAB_STG_KEY_SECURE : Fam := fam 0x0020100210 17 17 .rw 0
def FAB_STG_KEY_PERM : Fam := fam 0x0020100210 20 18 .rw 0
def FAB_STG_KEY_EN : Fam := fam 0x0020100210 21 21 .rw 0
def FAB_STG_KEY_LOCK : Fam := fam 0x0020100210 22 22 .rw 0
def FAB_STG_PART_MASK : Fam := fam 0x0020100214 15 0 .rw 0
def FAB_COMMIT_TARGET : Fam := fam 0x0020100218 7 0 .wo 0
def FAB_COMMIT_REGION : Fam := fam 0x0020100218 11 8 .wo 0
def FAB_COMMIT_KEY : Fam := fam 0x0020100218 31 16 .wo 0
def FAB_COMMIT_STAT_STATUS : Fam := fam 0x002010021C 7 0 .ro 0
def FAB_COMMIT_STAT_PEND : Fam := fam 0x002010021C 8 8 .ro 0
def FAB_RGN_BASE_BASE : Fam := fam 0x0020101000 39 12 .ro 0 (0x200, 23) (0x20, 16)
def FAB_RGN_LIMIT_LIMIT : Fam := fam 0x0020101008 39 12 .ro 0 (0x200, 23) (0x20, 16)
def FAB_RGN_KEY_KEY : Fam := fam 0x0020101010 22 0 .ro 0 (0x200, 23) (0x20, 16)
def FAB_RGN_PART_MASK : Fam := fam 0x0020101014 15 0 .ro 0 (0x200, 23) (0x20, 16)
/-! ### R431, chapter 9 -/
def WCT_LOCK_WORLD_LOCK : Fam := fam 0x0021000000 0 0 .w1s 0
def WCT_STAT_SEC_STATE : Fam := fam 0x0021000004 1 0 .ro 0
def WCT_STAT_RESTARTS : Fam := fam 0x0021000004 5 4 .ro 0
def WCT_STAT_L2_DEFAULT : Fam := fam 0x0021000004 8 8 .ro 0
def WCT_STAT_FRAME_HELD : Fam := fam 0x0021000004 15 12 .ro 0
def WCT_EVT_SWDT_EXPIRED : Fam := fam 0x0021000008 0 0 .w1c 0
def WCT_EVT_SEC_FAILED : Fam := fam 0x0021000008 1 1 .w1c 0
def WCT_EVT_ROUTE_MASKED : Fam := fam 0x0021000008 2 2 .w1c 0
def WCT_EVT_DEFER_END : Fam := fam 0x0021000008 3 3 .w1c 0
def WCT_EVT_SEC_READY : Fam := fam 0x0021000008 4 4 .w1c 0
def WCT_IRQ_EN_EN : Fam := fam 0x002100000C 4 0 .rw 0
def WCT_SEC_CTRL_READY : Fam := fam 0x0021000010 0 0 .wo 0
def WCT_SEC_CTRL_KEY : Fam := fam 0x0021000010 31 16 .wo 0
def WCT_SWDT_KICK_KEY : Fam := fam 0x0021000014 15 0 .wo 0
def WCT_SWDT_REMAIN_US : Fam := fam 0x0021000018 15 0 .ro 0x2710
def WCT_RESTART_CNT_TOTAL : Fam := fam 0x002100001C 15 0 .ro 0
def WCT_CFG_SVC_CORE : Fam := fam 0x0021000020 1 0 .ro 0
def WCT_CFG_SEC_PART : Fam := fam 0x0021000020 7 4 .ro 0
def WCT_CFG_HOST_PART : Fam := fam 0x0021000020 11 8 .ro 0
def WCT_CFG_AC_PARTS : Fam := fam 0x0021000020 31 16 .ro 0
def WCT_L2_WAYS_SECURE : Fam := fam 0x0021000024 15 0 .ro 0
def WCT_MAP_SRC_ADDR : Fam := fam 0x0021000030 39 0 .rw 0
def WCT_MAP_LOAD_LOAD : Fam := fam 0x0021000038 0 0 .wo 0
def WCT_MAP_STAT_STATUS : Fam := fam 0x002100003C 7 0 .ro 0
def WCT_BLK_WORLD : Fam := fam 0x0021000100 0 0 .ro 0 (4, 22)
def WCT_BLK_GATE : Fam := fam 0x0021000100 3 2 .ro 0 (4, 22)
def WCT_HOLD_COUNT : Fam := fam 0x0021000200 7 0 .ro 0 (4, 22)
def WCT_HOLD_CTRL_BLOCK : Fam := fam 0x0021000300 7 0 .wo 0
def WCT_HOLD_CTRL_OP : Fam := fam 0x0021000300 9 8 .wo 0
def WCT_HOLD_STAT_STATUS : Fam := fam 0x0021000304 7 0 .ro 0
def WCT_DEFER_BLOCK : Fam := fam 0x0021000310 7 0 .ro 0
def WCT_DEFER_OP : Fam := fam 0x0021000310 9 8 .ro 0
def WCT_DEFER_PEND : Fam := fam 0x0021000310 16 16 .ro 0
def WCT_DEFER_CANCEL_CANCEL : Fam := fam 0x0021000314 0 0 .wo 0
def WCT_IRQ_WORLD_SECURE : Fam := fam 0x0021000400 31 0 .ro 0 (4, 16)
def WCT_INST_WORLD_SECURE : Fam := fam 0x0021000480 31 0 .ro 0 (4, 4)
def WCT_VMID_VMID : Fam := fam 0x0021000600 13 0 .rw 0 (4, 32)
def WCT_VMID_PART : Fam := fam 0x0021000600 19 16 .rw 0 (4, 32)
def WCT_VMID_VALID : Fam := fam 0x0021000600 31 31 .rw 0 (4, 32)
/-! ### R438, chapter 10 -/
def INST_ID_PAGE : Fam := fam 0x0040000700 6 0 .ro 0 (0x1000, 112)
def INST_ID_CLASS : Fam := fam 0x0040000700 9 8 .ro 0 (0x1000, 112)
def INST_ID_WORLD : Fam := fam 0x0040000700 12 12 .ro 0 (0x1000, 112)
def INST_ID_PART : Fam := fam 0x0040000700 19 16 .ro 0 (0x1000, 112)
def INST_GEN_GEN : Fam := fam 0x0040000704 11 0 .ro 1 (0x1000, 112)
def INST_GEN_FENCE : Fam := fam 0x0040000704 16 16 .ro 0 (0x1000, 112)
def INST_SHARE_SHARE : Fam := fam 0x0040000708 11 0 .ro 0 (0x1000, 112)
def INST_SHARE_WEIGHT : Fam := fam 0x0040000708 23 16 .ro 0 (0x1000, 112)
def INST_OCC_OCC : Fam := fam 0x004000070C 11 0 .ro 0 (0x1000, 112)
def INST_STALE_COUNT : Fam := fam 0x0040000710 15 0 .re 0 (0x1000, 112)
def INST_FLAGS_QUIESCE : Fam := fam 0x0040000714 0 0 .ro 0 (0x1000, 112)
def INST_FLAGS_QUIESCE_DONE : Fam := fam 0x0040000714 1 1 .ro 0 (0x1000, 112)
def INST_EVT_RESET : Fam := fam 0x0040000718 0 0 .w1c 0 (0x1000, 112)
def INST_EVT_SHARE : Fam := fam 0x0040000718 1 1 .w1c 0 (0x1000, 112)
def INST_EVT_QUIESCE : Fam := fam 0x0040000718 2 2 .w1c 0 (0x1000, 112)
def INST_EVT_RESUME : Fam := fam 0x0040000718 3 3 .w1c 0 (0x1000, 112)
def INST_EVT_FENCE_FORCED : Fam := fam 0x0040000718 4 4 .w1c 0 (0x1000, 112)
def INST_IRQ_EN_EN : Fam := fam 0x004000071C 4 0 .rw 0 (0x1000, 112)
def INST_RESET_KEY : Fam := fam 0x0040000720 15 0 .wo 0 (0x1000, 112)
def INST_RESET_STAT_STATUS : Fam := fam 0x0040000724 7 0 .ro 0 (0x1000, 112)
def INST_RESET_STAT_PEND : Fam := fam 0x0040000724 8 8 .ro 0 (0x1000, 112)
/-! ### R458, chapter 10 -/
def IMG_CTRL_OP : Fam := fam 0x0020E00000 3 0 .wo 0
def IMG_CTRL_PAGE : Fam := fam 0x0020E00000 10 4 .wo 0
def IMG_CTRL_KEY : Fam := fam 0x0020E00000 31 16 .wo 0
def IMG_ARG_PART : Fam := fam 0x0020E00004 3 0 .rw 0
def IMG_ARG_WEIGHT : Fam := fam 0x0020E00004 15 8 .rw 0
def IMG_ARG_SHARE : Fam := fam 0x0020E00004 27 16 .rw 0
def IMG_CTRL_STAT_STATUS : Fam := fam 0x0020E00008 7 0 .ro 0
def IMG_CTRL_STAT_PEND : Fam := fam 0x0020E00008 8 8 .ro 0
def IMG_CTRL_STAT_PAGE : Fam := fam 0x0020E00008 22 16 .ro 0
def IMG_EVT_DONE : Fam := fam 0x0020E0000C 0 0 .w1c 0
def IMG_EVT_QUIESCE_DONE : Fam := fam 0x0020E0000C 1 1 .w1c 0
def IMG_EVT_FENCE_FORCED : Fam := fam 0x0020E0000C 2 2 .w1c 0
def IMG_EVT_CFG_BAD : Fam := fam 0x0020E0000C 3 3 .w1c 0
def IMG_IRQ_EN_EN : Fam := fam 0x0020E00010 3 0 .rw 0
def IMG_POOL_SUM : Fam := fam 0x0020E00020 11 0 .ro 0 (4, 3)
def IMG_POOL_SIZE : Fam := fam 0x0020E00020 27 16 .ro 0 (4, 3)
def IMG_INST_CFG_ASSIGNED : Fam := fam 0x0020E01000 0 0 .ro 0 (0x10, 112)
def IMG_INST_CFG_PART : Fam := fam 0x0020E01000 7 4 .ro 0 (0x10, 112)
def IMG_INST_CFG_WORLD : Fam := fam 0x0020E01000 8 8 .ro 0 (0x10, 112)
def IMG_INST_CFG_CLASS : Fam := fam 0x0020E01000 11 10 .ro 0 (0x10, 112)
def IMG_INST_SHARE_SHARE : Fam := fam 0x0020E01004 11 0 .ro 0 (0x10, 112)
def IMG_INST_SHARE_WEIGHT : Fam := fam 0x0020E01004 23 16 .ro 0 (0x10, 112)
def IMG_INST_STAT_GEN : Fam := fam 0x0020E01008 11 0 .ro 1 (0x10, 112)
def IMG_INST_STAT_PEND : Fam := fam 0x0020E01008 12 12 .ro 0 (0x10, 112)
def IMG_INST_STAT_QUIESCE : Fam := fam 0x0020E01008 13 13 .ro 0 (0x10, 112)
def IMG_INST_STAT_QUIESCE_DONE : Fam := fam 0x0020E01008 14 14 .ro 0 (0x10, 112)
def IMG_INST_STAT_CFG_BAD : Fam := fam 0x0020E01008 15 15 .ro 0 (0x10, 112)
def IMG_INST_STAT_OCC : Fam := fam 0x0020E01008 27 16 .ro 0 (0x10, 112)
def IMG_INST_STALE_COUNT : Fam := fam 0x0020E0100C 15 0 .re 0 (0x10, 112)
def IMG_INST_STALE_RESETS : Fam := fam 0x0020E0100C 31 16 .ro 0 (0x10, 112)
/-! ### R510, chapter 11 -/
def SWC_CTRL_FWD_EN : Fam := fam 0x0020400000 0 0 .rw 0
def SWC_CTRL_SPORE_EN : Fam := fam 0x0020400000 1 1 .rw 0
def SWC_CTRL_SPORE_DROPS : Fam := fam 0x0020400000 2 2 .rw 0
def SWC_STAT_FREE : Fam := fam 0x0020400004 13 0 .ro 0x2000
def SWC_STAT_FREE_SHARED : Fam := fam 0x0020400004 29 16 .ro 0x1B80
def SWC_DESC_STAT_FRAMES : Fam := fam 0x0020400008 12 0 .ro 0
def SWC_DESC_STAT_COPIES : Fam := fam 0x0020400008 29 16 .ro 0
def SWC_PFC_HDRM_CELLS : Fam := fam 0x002040000C 12 0 .rw 0
def SWC_AGE_LIMIT_MS : Fam := fam 0x0020400010 10 0 .rw 0x1F4
def SWC_AGING_SECONDS : Fam := fam 0x0020400014 19 0 .rw 0x12C
def SWC_AGING_EN : Fam := fam 0x0020400014 31 31 .rw 1
def SWC_LEARN_STAT_DYNAMIC : Fam := fam 0x0020400018 13 0 .ro 0
def SWC_LEARN_FULL_COUNT : Fam := fam 0x002040001C 15 0 .re 0
def SWC_EVT_DRAINED : Fam := fam 0x0020400020 0 0 .w1c 0
def SWC_EVT_SPORE_LOST : Fam := fam 0x0020400020 1 1 .w1c 0
def SWC_EVT_SPORE_FAIL : Fam := fam 0x0020400020 2 2 .w1c 0
def SWC_EVT_TABLE_ERR : Fam := fam 0x0020400020 3 3 .w1c 0
def SWC_EVT_BUF_PARITY : Fam := fam 0x0020400020 4 4 .w1c 0
def SWC_EVT_LEARN_FULL : Fam := fam 0x0020400020 5 5 .w1c 0
def SWC_EVT_TBL_DONE : Fam := fam 0x0020400020 6 6 .w1c 0
def SWC_IRQ_EN_EN : Fam := fam 0x0020400024 6 0 .rw 0
def SWC_EPOCH_EPOCH : Fam := fam 0x0020400030 31 0 .ro 0
def SWC_EPOCH_OLDEST_EPOCH : Fam := fam 0x0020400034 31 0 .ro 0
def SWC_DRAIN_REQ_EPOCH : Fam := fam 0x0020400038 31 0 .rw 0
def SWC_DRAIN_STAT_DRAINED : Fam := fam 0x002040003C 0 0 .ro 1
def SWC_TBL_CMD_OP : Fam := fam 0x0020400040 3 0 .wo 0
def SWC_TBL_CMD_TABLE : Fam := fam 0x0020400040 5 4 .wo 0
def SWC_TBL_CMD_INDEX : Fam := fam 0x0020400040 28 16 .wo 0
def SWC_TBL_STAT_STATUS : Fam := fam 0x0020400044 7 0 .ro 0
def SWC_TBL_STAT_PEND : Fam := fam 0x0020400044 8 8 .ro 0
def SWC_TBL_STAT_INDEX : Fam := fam 0x0020400044 28 16 .ro 0
def SWC_TBL_EPOCH_EPOCH : Fam := fam 0x0020400048 31 0 .ro 0
def SWC_TBL_COUNT_REMOVED : Fam := fam 0x002040004C 13 0 .ro 0
def SWC_TBL_ERR_TABLE : Fam := fam 0x0020400050 1 0 .ro 0
def SWC_TBL_ERR_INDEX : Fam := fam 0x0020400050 28 16 .ro 0
def SWC_TBL_ERR_VALID : Fam := fam 0x0020400050 31 31 .ro 0
def SWC_AGENT_CFG_TRAP : Fam := fam 0x0020400060 2 0 .rw 7
def SWC_CNT_SEL_PORT : Fam := fam 0x0020400070 3 0 .rw 0
def SWC_CNT_SEL_KIND : Fam := fam 0x0020400070 12 8 .rw 0
def SWC_CNT_VAL_VALUE : Fam := fam 0x0020400078 63 0 .ro 0
def SWC_TBL_DATA_DATA : Fam := fam 0x0020400080 31 0 .rw 0 (4, 16)
def SWC_SPORE_BASE_ADDR : Fam := fam 0x00204000C0 39 12 .rw 0
def SWC_SPORE_SIZE_LOG2 : Fam := fam 0x00204000C8 4 0 .rw 6
def SWC_SPORE_WR_IDX : Fam := fam 0x00204000CC 15 0 .ro 0
def SWC_SPORE_WR_SEQ : Fam := fam 0x00204000CC 31 16 .ro 0
def SWC_SPORE_RD_IDX : Fam := fam 0x00204000D0 15 0 .rw 0
def SWC_SPORE_LOST_COUNT : Fam := fam 0x00204000D4 15 0 .re 0
def SWC_PORT_A_EN : Fam := fam 0x0020400100 0 0 .rw 1 (0x10, 16)
def SWC_PORT_A_LEARN : Fam := fam 0x0020400100 1 1 .rw 1 (0x10, 16)
def SWC_PORT_A_CT_EN : Fam := fam 0x0020400100 2 2 .rw 0 (0x10, 16)
def SWC_PORT_A_ING_FILTER : Fam := fam 0x0020400100 3 3 .rw 1 (0x10, 16)
def SWC_PORT_A_ACCEPT : Fam := fam 0x0020400100 5 4 .rw 0 (0x10, 16)
def SWC_PORT_A_PVID : Fam := fam 0x0020400100 17 6 .rw 1 (0x10, 16)
def SWC_PORT_A_DEF_CLASS : Fam := fam 0x0020400100 20 18 .rw 0 (0x10, 16)
def SWC_PORT_B_PCP_MAP : Fam := fam 0x0020400104 23 0 .rw 0xFAC688 (0x10, 16)
def SWC_PORT_B_LOSSLESS : Fam := fam 0x0020400104 31 24 .rw 0 (0x10, 16)
def SWC_PORT_C_SAMPLE_N : Fam := fam 0x0020400108 15 0 .rw 0 (0x10, 16)
def SWC_PORT_C_SP_FLOOR : Fam := fam 0x0020400108 18 16 .rw 6 (0x10, 16)
def SWC_PORT_STAT_LINK : Fam := fam 0x002040010C 0 0 .ro 0 (0x10, 16)
def SWC_PORT_STAT_XOFF : Fam := fam 0x002040010C 15 8 .ro 0 (0x10, 16)
def SWC_QCFG_MIN_CELLS : Fam := fam 0x0020400400 7 0 .rw 4 (4, 128)
def SWC_QCFG_ALPHA : Fam := fam 0x0020400400 10 8 .rw 3 (4, 128)
def SWC_QCFG_WEIGHT : Fam := fam 0x0020400400 22 16 .rw 1 (4, 128)
def SWC_QPFC_XOFF_TH : Fam := fam 0x0020400600 11 0 .rw 0 (4, 128)
def SWC_QPFC_XON_TH : Fam := fam 0x0020400600 27 16 .rw 0 (4, 128)
def SWC_QSTAT_CELLS : Fam := fam 0x0020400800 13 0 .ro 0 (4, 128)
def SWC_QSTAT_COPIES : Fam := fam 0x0020400800 29 16 .ro 0 (4, 128)
def SWC_QING_CELLS : Fam := fam 0x0020400A00 13 0 .ro 0 (4, 128)
/-! ### R550, chapter 12 -/
def MAC_CTRL_TX_EN : Fam := fam 0x0020500000 0 0 .rw 1 (0x10000, 16)
def MAC_CTRL_RX_EN : Fam := fam 0x0020500000 1 1 .rw 1 (0x10000, 16)
def MAC_CTRL_FC_MODE : Fam := fam 0x0020500000 3 2 .rw 0 (0x10000, 16)
def MAC_CTRL_MAX_LEN : Fam := fam 0x0020500000 17 4 .rw 0x2400 (0x10000, 16)
def MAC_STAT_LINK : Fam := fam 0x0020500004 0 0 .ro 0 (0x10000, 16)
def MAC_STAT_HELD : Fam := fam 0x0020500004 8 1 .ro 0 (0x10000, 16)
def MAC_STAT_PAUSE_IGN : Fam := fam 0x0020500004 9 9 .ro 0 (0x10000, 16)
def MAC_STAT_LOCAL_FAULT : Fam := fam 0x0020500004 10 10 .ro 0 (0x10000, 16)
def MAC_STAT_REMOTE_FAULT : Fam := fam 0x0020500004 11 11 .ro 0 (0x10000, 16)
def MAC_EVT_LINK_CHG : Fam := fam 0x0020500008 0 0 .w1c 0 (0x10000, 16)
def MAC_EVT_PAUSE_WDT : Fam := fam 0x0020500008 1 1 .w1c 0 (0x10000, 16)
def MAC_EVT_TS_LOST : Fam := fam 0x0020500008 2 2 .w1c 0 (0x10000, 16)
def MAC_EVT_WAKE_MATCH : Fam := fam 0x0020500008 3 3 .w1c 0 (0x10000, 16)
def MAC_EVT_SQI_LOW : Fam := fam 0x0020500008 4 4 .w1c 0 (0x10000, 16)
def MAC_EVT_PHY_FW_BAD : Fam := fam 0x0020500008 5 5 .w1c 0 (0x10000, 16)
def MAC_IRQ_EN_EN : Fam := fam 0x002050000C 5 0 .rw 0 (0x10000, 16)
def MAC_PAUSE_CFG_QUANTA : Fam := fam 0x0020500010 15 0 .rw 0xFFFF (0x10000, 16)
def MAC_PAUSE_CFG_REFRESH : Fam := fam 0x0020500010 31 16 .rw 0x7FFF (0x10000, 16)
def MAC_PAUSE_WDT_MS : Fam := fam 0x0020500014 10 0 .rw 0x64 (0x10000, 16)
def MAC_PAUSE_IGN_REMAIN_MS : Fam := fam 0x0020500018 9 0 .ro 0 (0x10000, 16)
def MAC_CBS_IDLE_SLOPE : Fam := fam 0x0020500020 17 0 .rw 0 (0x10000, 16) (4, 8)
def MAC_CBS_CREDIT_BITS : Fam := fam 0x0020500040 31 0 .ro 0 (0x10000, 16) (4, 8)
def MAC_TXTS_STAT_OCC : Fam := fam 0x0020500060 6 0 .ro 0 (0x10000, 16)
def MAC_TXTS_STAT_LOST_PEND : Fam := fam 0x0020500060 15 8 .ro 0 (0x10000, 16)
def MAC_TXTS_LOST_COUNT : Fam := fam 0x0020500064 15 0 .re 0 (0x10000, 16)
def MAC_CNT_SEL_KIND : Fam := fam 0x0020500070 4 0 .rw 0 (0x10000, 16)
def MAC_CNT_VAL_VALUE : Fam := fam 0x0020500078 63 0 .ro 0 (0x10000, 16)
def MAC_ADDR_LO_ADDR : Fam := fam 0x0020500080 31 0 .rw 0 (0x10000, 16)
def MAC_ADDR_HI_ADDR : Fam := fam 0x0020500084 15 0 .rw 0 (0x10000, 16)
def MAC_WAKE_CTRL_EN : Fam := fam 0x0020500100 15 0 .rw 0 (0x10000, 16)
def MAC_WAKE_HIT_HIT : Fam := fam 0x0020500104 15 0 .w1c 0 (0x10000, 16)
def MAC_WAKE_MASK_MASK : Fam := fam 0x0020500200 31 0 .rw 0 (0x10000, 16) (0x20, 16) (4, 4)
def MAC_WAKE_CRC_CHECK : Fam := fam 0x0020500210 15 0 .rw 0 (0x10000, 16) (0x20, 16)
def MAC_PHY_CTRL_EN : Fam := fam 0x0020500400 0 0 .rw 1 (0x10000, 16)
def MAC_PHY_CTRL_MS_CFG : Fam := fam 0x0020500400 1 1 .rw 1 (0x10000, 16)
def MAC_PHY_CTRL_SQI_WARN : Fam := fam 0x0020500400 4 2 .rw 2 (0x10000, 16)
def MAC_PHY_CTRL_PLCA_EN : Fam := fam 0x0020500400 5 5 .rw 1 (0x10000, 16)
def MAC_PHY_CTRL_NODE_ID : Fam := fam 0x0020500400 8 6 .rw 0 (0x10000, 16)
def MAC_PHY_CTRL_NODE_COUNT : Fam := fam 0x0020500400 12 9 .rw 8 (0x10000, 16)
def MAC_PHY_CTRL_TO_TIMER : Fam := fam 0x0020500400 20 13 .rw 0x20 (0x10000, 16)
def MAC_PHY_CTRL_BURST_MAX : Fam := fam 0x0020500400 28 21 .rw 0 (0x10000, 16)
def MAC_PHY_STAT_LINK : Fam := fam 0x0020500404 0 0 .ro 0 (0x10000, 16)
def MAC_PHY_STAT_ENERGY : Fam := fam 0x0020500404 1 1 .ro 0 (0x10000, 16)
def MAC_PHY_STAT_SQI : Fam := fam 0x0020500404 4 2 .ro 0 (0x10000, 16)
def MAC_PHY_STAT_ROM_FW : Fam := fam 0x0020500404 5 5 .ro 1 (0x10000, 16)
def MAC_PHY_STAT_FW_VER : Fam := fam 0x0020500404 31 16 .ro 0 (0x10000, 16)
/-! ### R551, chapter 12 -/
def HDMA_EVT_RX_PARTIAL : Fam := fam 0x0020600000 0 0 .w1c 0
def HDMA_EVT_RX_DROP : Fam := fam 0x0020600000 1 1 .w1c 0
def HDMA_EVT_DMA_ERR : Fam := fam 0x0020600000 2 2 .w1c 0
def HDMA_IRQ_EN_EN : Fam := fam 0x0020600004 2 0 .rw 0
def HDMA_PARKED_MAP : Fam := fam 0x0020600008 31 0 .ro 0
def HDMA_RX_MAP_HQ : Fam := fam 0x0020600010 4 0 .rw 0 (4, 15)
def HDMA_HQ_PERM_DIRECT_OK : Fam := fam 0x0020600080 0 0 .rw 0 (4, 32)
def HDMA_HQ_PERM_PORTS : Fam := fam 0x0020600080 30 16 .rw 0 (4, 32)
def HDMA_CNT_SEL_HQ : Fam := fam 0x0020600100 4 0 .rw 0
def HDMA_CNT_SEL_KIND : Fam := fam 0x0020600100 11 8 .rw 0
def HDMA_CNT_VAL_VALUE : Fam := fam 0x0020600108 63 0 .ro 0
/-! ### R552, chapter 12 -/
def HQ_RX_BASE_ADDR : Fam := fam 0x0040040000 39 12 .rw 0 (0x1000, 32)
def HQ_RX_CFG_LOG2SZ : Fam := fam 0x0040040008 3 0 .rw 4 (0x1000, 32)
def HQ_RX_CFG_EN : Fam := fam 0x0040040008 16 16 .rw 0 (0x1000, 32)
def HQ_RX_TAIL_IDX : Fam := fam 0x004004000C 11 0 .rw 0 (0x1000, 32)
def HQ_RX_HEAD_IDX : Fam := fam 0x0040040010 11 0 .ro 0 (0x1000, 32)
def HQ_TX_BASE_ADDR : Fam := fam 0x0040040018 39 12 .rw 0 (0x1000, 32)
def HQ_TX_CFG_LOG2SZ : Fam := fam 0x0040040020 3 0 .rw 4 (0x1000, 32)
def HQ_TX_CFG_EN : Fam := fam 0x0040040020 16 16 .rw 0 (0x1000, 32)
def HQ_TX_TAIL_IDX : Fam := fam 0x0040040024 11 0 .rw 0 (0x1000, 32)
def HQ_TX_HEAD_IDX : Fam := fam 0x0040040028 11 0 .ro 0 (0x1000, 32)
def HQ_IRQ_EN_EN : Fam := fam 0x0040040030 3 0 .rw 0 (0x1000, 32)
def HQ_IRQ_STAT_RX : Fam := fam 0x0040040034 0 0 .w1c 0 (0x1000, 32)
def HQ_IRQ_STAT_TX : Fam := fam 0x0040040034 1 1 .w1c 0 (0x1000, 32)
def HQ_IRQ_STAT_RX_PARTIAL : Fam := fam 0x0040040034 2 2 .w1c 0 (0x1000, 32)
def HQ_IRQ_STAT_ERR : Fam := fam 0x0040040034 3 3 .w1c 0 (0x1000, 32)
def HQ_IRQ_MOD_US : Fam := fam 0x0040040038 15 0 .rw 0 (0x1000, 32)
def HQ_STAT_PARKED : Fam := fam 0x004004003C 0 0 .ro 0 (0x1000, 32)
def HQ_STAT_STALL_US : Fam := fam 0x004004003C 19 10 .ro 0 (0x1000, 32)
def HQ_RX_DROP_COUNT : Fam := fam 0x0040040040 15 0 .re 0 (0x1000, 32)
def HQ_RX_PARTIAL_COUNT : Fam := fam 0x0040040044 15 0 .re 0 (0x1000, 32)
def HQ_ERR_STATUS : Fam := fam 0x0040040048 7 0 .ro 0 (0x1000, 32)
def HQ_ERR_TX : Fam := fam 0x0040040048 8 8 .ro 0 (0x1000, 32)
def HQ_ERR_ADDR_ADDR : Fam := fam 0x0040040050 39 0 .ro 0 (0x1000, 32)
/-! ### R586, chapter 13 -/
def TMU_CTRL_SERVO_EN : Fam := fam 0x0020700000 0 0 .rw 0
def TMU_CTRL_SRC : Fam := fam 0x0020700000 1 1 .rw 0
def TMU_CTRL_STEP_EN : Fam := fam 0x0020700000 2 2 .rw 1
def TMU_STAT_STATE : Fam := fam 0x0020700004 1 0 .ro 0
def TMU_STAT_LOCK_RUN : Fam := fam 0x0020700004 5 2 .ro 0
def TMU_EVT_STEPPED : Fam := fam 0x0020700008 0 0 .w1c 0
def TMU_EVT_LOCKED : Fam := fam 0x0020700008 1 1 .w1c 0
def TMU_EVT_HOLDOVER : Fam := fam 0x0020700008 2 2 .w1c 0
def TMU_EVT_PPS_MISS : Fam := fam 0x0020700008 3 3 .w1c 0
def TMU_EVT_EVI : Fam := fam 0x0020700008 4 4 .w1c 0
def TMU_EVT_EVI_OVF : Fam := fam 0x0020700008 5 5 .w1c 0
def TMU_EVT_OUT_LATE : Fam := fam 0x0020700008 6 6 .w1c 0
def TMU_EVT_TMR : Fam := fam 0x0020700008 7 7 .w1c 0
def TMU_EVT_SET_DONE : Fam := fam 0x0020700008 8 8 .w1c 0
def TMU_IRQ_EN_EN : Fam := fam 0x002070000C 8 0 .rw 0
def TMU_NOW_SEC_LO_SEC : Fam := fam 0x0020700010 31 0 .ro 0
def TMU_NOW_SEC_HI_SEC : Fam := fam 0x0020700014 15 0 .ro 0
def TMU_NOW_NS_NS : Fam := fam 0x0020700018 29 0 .ro 0
def TMU_NOW_FRAC_FRAC : Fam := fam 0x002070001C 31 0 .ro 0
def TMU_NOW64_T : Fam := fam 0x0020700020 63 0 .ro 0
def TMU_NOW_US_US : Fam := fam 0x0020700028 31 0 .ro 0
def TMU_NOW_US_HI_US : Fam := fam 0x002070002C 31 0 .ro 0
def TMU_RATE_RATE : Fam := fam 0x0020700030 31 0 .rw 0
def TMU_UTC_OFS_SEC : Fam := fam 0x0020700034 15 0 .rw 0
def TMU_UTC_OFS_LEAP61 : Fam := fam 0x0020700034 16 16 .rw 0
def TMU_UTC_OFS_LEAP59 : Fam := fam 0x0020700034 17 17 .rw 0
def TMU_SET_SEC_LO_SEC : Fam := fam 0x0020700040 31 0 .rw 0
def TMU_SET_SEC_HI_SEC : Fam := fam 0x0020700044 15 0 .rw 0
def TMU_SET_NS_NS : Fam := fam 0x0020700048 29 0 .rw 0
def TMU_SET_CMD_OP : Fam := fam 0x002070004C 1 0 .wo 0
def TMU_SET_CMD_KEY : Fam := fam 0x002070004C 31 16 .wo 0
def TMU_ADJ_NS_NS : Fam := fam 0x0020700050 63 0 .rw 0
def TMU_SET_STAT_STATUS : Fam := fam 0x0020700058 7 0 .ro 0
def TMU_SET_STAT_PEND : Fam := fam 0x0020700058 8 8 .ro 0
def TMU_SRV_OFS_NS : Fam := fam 0x0020700060 31 0 .wo 0
def TMU_SRV_CFG_KP : Fam := fam 0x0020700064 15 0 .rw 0x1000
def TMU_SRV_CFG_KI : Fam := fam 0x0020700064 31 16 .rw 0x100
def TMU_SRV_CFG2_LOG_INT : Fam := fam 0x0020700068 3 0 .rw 0xD
def TMU_SRV_CFG2_LOCK_NS : Fam := fam 0x0020700068 27 16 .rw 0x64
def TMU_SRV_LAST_NS : Fam := fam 0x002070006C 31 0 .ro 0
def TMU_SRV_INTEG_I : Fam := fam 0x0020700070 31 0 .ro 0
def TMU_SRV_CTRL_RESELECT : Fam := fam 0x0020700074 0 0 .wo 0
def TMU_SRV_CTRL_SRV_RESET : Fam := fam 0x0020700074 1 1 .wo 0
def TMU_STEP_CNT_COUNT : Fam := fam 0x0020700078 15 0 .ro 0
def TMU_STEP_CNT_SRV_BAD : Fam := fam 0x0020700078 31 16 .ro 0
def TMU_TOD_SEC_LO_SEC : Fam := fam 0x0020700080 31 0 .rw 0
def TMU_TOD_SEC_HI : Fam := fam 0x0020700084 15 0 .rw 0
def TMU_TOD_VALID : Fam := fam 0x0020700084 31 31 .rw 0
def TMU_PPS_IN_CAP_T : Fam := fam 0x0020700088 63 0 .ro 0
def TMU_PPS_OUT_WIDTH_US : Fam := fam 0x0020700090 19 0 .rw 0x186A0
def TMU_PPS_OUT_EN : Fam := fam 0x0020700090 31 31 .rw 0
def TMU_PPS_OUT_ADV_ADV_NS : Fam := fam 0x0020700094 15 0 .rw 0
def TMU_EVI_CTRL_EDGE : Fam := fam 0x0020700100 1 0 .rw 0 (0x10, 4)
def TMU_EVI_CTRL_OCC : Fam := fam 0x0020700100 12 8 .ro 0 (0x10, 4)
def TMU_EVI_CTRL_OVF_CNT : Fam := fam 0x0020700100 31 16 .ro 0 (0x10, 4)
def TMU_EVI_SEC_SEC : Fam := fam 0x0020700104 31 0 .ro 0 (0x10, 4)
def TMU_EVI_NS_NS : Fam := fam 0x0020700108 29 0 .re 0 (0x10, 4)
def TMU_EVI_NS_FALL : Fam := fam 0x0020700108 30 30 .re 0 (0x10, 4)
def TMU_EVI_NS_VALID : Fam := fam 0x0020700108 31 31 .re 0 (0x10, 4)
def TMU_EVO_CTRL_MODE : Fam := fam 0x0020700140 1 0 .rw 0 (0x20, 4)
def TMU_EVO_CTRL_LEVEL : Fam := fam 0x0020700140 2 2 .rw 0 (0x20, 4)
def TMU_EVO_START_SEC_SEC : Fam := fam 0x0020700144 31 0 .rw 0 (0x20, 4)
def TMU_EVO_START_NS_NS : Fam := fam 0x0020700148 29 0 .rw 0 (0x20, 4)
def TMU_EVO_PERIOD_NS : Fam := fam 0x002070014C 29 0 .rw 0x3B9ACA00 (0x20, 4)
def TMU_EVO_WIDTH_NS : Fam := fam 0x0020700150 29 0 .rw 0x3E8 (0x20, 4)
def TMU_EVO_STAT_ARMED : Fam := fam 0x0020700154 0 0 .ro 0 (0x20, 4)
def TMU_EVO_STAT_OUT_LATE : Fam := fam 0x0020700154 1 1 .w1c 0 (0x20, 4)
def TMU_TMR_CTRL_EN : Fam := fam 0x0020700200 0 0 .rw 0 (0x10, 16)
def TMU_TMR_CTRL_PERIODIC : Fam := fam 0x0020700200 1 1 .rw 0 (0x10, 16)
def TMU_TMR_LOAD_US : Fam := fam 0x0020700204 31 0 .rw 0 (0x10, 16)
def TMU_TMR_REMAIN_US : Fam := fam 0x0020700208 31 0 .ro 0 (0x10, 16)
def TMU_TMR_EVT_EXPIRED : Fam := fam 0x0020700300 15 0 .w1c 0
def TMU_PORT_LAT_RX_NS : Fam := fam 0x0020700400 15 0 .rw 0 (0x10, 16)
def TMU_PORT_LAT_TX_NS : Fam := fam 0x0020700400 31 16 .rw 0 (0x10, 16)
def TMU_PORT_TC_TC_MODE : Fam := fam 0x0020700404 1 0 .rw 0 (0x10, 15)
def TMU_PORT_LINK_LINK_DELAY_NS : Fam := fam 0x0020700408 19 0 .rw 0 (0x10, 16)
/-! ### R619, chapter 14 -/
def CAN_CTRL_MODE : Fam := fam 0x0020800000 1 0 .rw 0 (0x10000, 12)
def CAN_CTRL_AUTO_RECOV : Fam := fam 0x0020800000 2 2 .rw 1 (0x10000, 12)
def CAN_CTRL_DPX_EN : Fam := fam 0x0020800000 3 3 .rw 0 (0x10000, 12)
def CAN_CTRL_XCVR : Fam := fam 0x0020800000 5 4 .rw 1 (0x10000, 12)
def CAN_CTRL_FD_EN : Fam := fam 0x0020800000 6 6 .rw 1 (0x10000, 12)
def CAN_CTRL_XL_EN : Fam := fam 0x0020800000 7 7 .rw 0 (0x10000, 12)
def CAN_CTRL_FAST : Fam := fam 0x0020800000 8 8 .rw 0 (0x10000, 12)
def CAN_STAT_STATE : Fam := fam 0x0020800004 1 0 .ro 3 (0x10000, 12)
def CAN_STAT_ALONE : Fam := fam 0x0020800004 2 2 .ro 0 (0x10000, 12)
def CAN_STAT_SYNCED : Fam := fam 0x0020800004 3 3 .ro 0 (0x10000, 12)
def CAN_STAT_RECOVERING : Fam := fam 0x0020800004 4 4 .ro 0 (0x10000, 12)
def CAN_STAT_XCVR_SLEEP : Fam := fam 0x0020800004 5 5 .ro 0 (0x10000, 12)
def CAN_STAT_DOM_TIMEOUT : Fam := fam 0x0020800004 6 6 .ro 0 (0x10000, 12)
def CAN_STAT_ALONE_RUN : Fam := fam 0x0020800004 12 8 .ro 0 (0x10000, 12)
def CAN_ERR_TEC : Fam := fam 0x0020800008 7 0 .ro 0 (0x10000, 12)
def CAN_ERR_REC : Fam := fam 0x0020800008 15 8 .ro 0 (0x10000, 12)
def CAN_ERR_LEC : Fam := fam 0x0020800008 18 16 .ro 0 (0x10000, 12)
def CAN_ERR_DLEC : Fam := fam 0x0020800008 21 19 .ro 0 (0x10000, 12)
def CAN_ERR_BUSOFF_CNT : Fam := fam 0x0020800008 31 24 .ro 0 (0x10000, 12)
def CAN_EVT_RX_NEW : Fam := fam 0x002080000C 0 0 .w1c 0 (0x10000, 12)
def CAN_EVT_TX_DONE : Fam := fam 0x002080000C 1 1 .w1c 0 (0x10000, 12)
def CAN_EVT_OVERRUN : Fam := fam 0x002080000C 2 2 .w1c 0 (0x10000, 12)
def CAN_EVT_ALONE : Fam := fam 0x002080000C 3 3 .w1c 0 (0x10000, 12)
def CAN_EVT_ERR_PASSIVE : Fam := fam 0x002080000C 4 4 .w1c 0 (0x10000, 12)
def CAN_EVT_BUS_OFF : Fam := fam 0x002080000C 5 5 .w1c 0 (0x10000, 12)
def CAN_EVT_RECOVERED : Fam := fam 0x002080000C 6 6 .w1c 0 (0x10000, 12)
def CAN_EVT_XL_RX : Fam := fam 0x002080000C 7 7 .w1c 0 (0x10000, 12)
def CAN_EVT_XL_TX : Fam := fam 0x002080000C 8 8 .w1c 0 (0x10000, 12)
def CAN_EVT_XL_DROP : Fam := fam 0x002080000C 9 9 .w1c 0 (0x10000, 12)
def CAN_EVT_DMA_ERR : Fam := fam 0x002080000C 10 10 .w1c 0 (0x10000, 12)
def CAN_EVT_CFG_IGNORED : Fam := fam 0x002080000C 11 11 .w1c 0 (0x10000, 12)
def CAN_EVT_WRITE_IGNORED : Fam := fam 0x002080000C 12 12 .w1c 0 (0x10000, 12)
def CAN_IRQ_EN_EN : Fam := fam 0x0020800010 12 0 .rw 0 (0x10000, 12)
def CAN_CMD_OBJ : Fam := fam 0x0020800014 6 0 .wo 0 (0x10000, 12)
def CAN_CMD_OP : Fam := fam 0x0020800014 10 8 .wo 0 (0x10000, 12)
def CAN_CMD_STAT_STATUS : Fam := fam 0x0020800018 7 0 .ro 0 (0x10000, 12)
def CAN_CMD_STAT_OBJ : Fam := fam 0x0020800018 14 8 .ro 0 (0x10000, 12)
def CAN_CMD_STAT_OP : Fam := fam 0x0020800018 18 16 .ro 0 (0x10000, 12)
def CAN_NBT_BRP : Fam := fam 0x0020800020 8 0 .rw 0 (0x10000, 12)
def CAN_NBT_SEG1 : Fam := fam 0x0020800020 16 9 .rw 0x7E (0x10000, 12)
def CAN_NBT_SEG2 : Fam := fam 0x0020800020 23 17 .rw 0x1F (0x10000, 12)
def CAN_NBT_SJW : Fam := fam 0x0020800020 30 24 .rw 0x1F (0x10000, 12)
def CAN_DBT_BRP : Fam := fam 0x0020800024 4 0 .rw 0 (0x10000, 12)
def CAN_XBT_BRP : Fam := fam 0x0020800028 4 0 .rw 0 (0x10000, 12)
def CAN_DBT_SEG1 : Fam := fam 0x0020800024 9 5 .rw 0x1E (0x10000, 12)
def CAN_XBT_SEG1 : Fam := fam 0x0020800028 9 5 .rw 0x1E (0x10000, 12)
def CAN_DBT_SEG2 : Fam := fam 0x0020800024 13 10 .rw 7 (0x10000, 12)
def CAN_XBT_SEG2 : Fam := fam 0x0020800028 13 10 .rw 7 (0x10000, 12)
def CAN_DBT_SJW : Fam := fam 0x0020800024 17 14 .rw 7 (0x10000, 12)
def CAN_XBT_SJW : Fam := fam 0x0020800028 17 14 .rw 7 (0x10000, 12)
def CAN_DBT_TDCO : Fam := fam 0x0020800024 25 18 .rw 0x20 (0x10000, 12)
def CAN_XBT_TDCO : Fam := fam 0x0020800028 25 18 .rw 0x20 (0x10000, 12)
def CAN_DBT_TDC_EN : Fam := fam 0x0020800024 26 26 .rw 1 (0x10000, 12)
def CAN_XBT_TDC_EN : Fam := fam 0x0020800028 26 26 .rw 1 (0x10000, 12)
def CAN_TDC_STAT_DELAY : Fam := fam 0x002080002C 7 0 .ro 0 (0x10000, 12)
def CAN_RX_NEW_MAP : Fam := fam 0x0020800030 31 0 .w1c 0 (0x10000, 12) (4, 4)
def CAN_TX_END_MAP : Fam := fam 0x0020800040 31 0 .w1c 0 (0x10000, 12) (4, 4)
def CAN_RX_FRAMES_COUNT : Fam := fam 0x0020800060 31 0 .ro 0 (0x10000, 12)
def CAN_TX_FRAMES_COUNT : Fam := fam 0x0020800064 31 0 .ro 0 (0x10000, 12)
def CAN_RX_NOMATCH_COUNT : Fam := fam 0x0020800068 15 0 .re 0 (0x10000, 12)
def CAN_XL_DROP_COUNT : Fam := fam 0x002080006C 15 0 .re 0 (0x10000, 12)
def CAN_XTX_BASE_ADDR : Fam := fam 0x0020800100 39 12 .rw 0 (0x10000, 12)
def CAN_XTX_CFG_LOG2SZ : Fam := fam 0x0020800108 3 0 .rw 4 (0x10000, 12)
def CAN_XTX_CFG_EN : Fam := fam 0x0020800108 16 16 .rw 0 (0x10000, 12)
def CAN_XTX_TAIL_IDX : Fam := fam 0x002080010C 9 0 .rw 0 (0x10000, 12)
def CAN_XTX_HEAD_IDX : Fam := fam 0x0020800110 9 0 .ro 0 (0x10000, 12)
def CAN_XRX_BASE_ADDR : Fam := fam 0x0020800120 39 12 .rw 0 (0x10000, 12)
def CAN_XRX_CFG_LOG2SZ : Fam := fam 0x0020800128 3 0 .rw 4 (0x10000, 12)
def CAN_XRX_CFG_EN : Fam := fam 0x0020800128 16 16 .rw 0 (0x10000, 12)
def CAN_XRX_TAIL_IDX : Fam := fam 0x002080012C 9 0 .rw 0 (0x10000, 12)
def CAN_XRX_HEAD_IDX : Fam := fam 0x0020800130 9 0 .ro 0 (0x10000, 12)
def CAN_XERR_STATUS : Fam := fam 0x0020800140 7 0 .ro 0 (0x10000, 12)
def CAN_XERR_TX : Fam := fam 0x0020800140 8 8 .ro 0 (0x10000, 12)
def CAN_XERR_ADDR_ADDR : Fam := fam 0x0020800148 39 0 .ro 0 (0x10000, 12)
def CAN_XFLT_A_PRIO : Fam := fam 0x0020800200 10 0 .rw 0 (0x10000, 12) (8, 16)
def CAN_XFLT_A_PRIO_MASK : Fam := fam 0x0020800200 26 16 .rw 0 (0x10000, 12) (8, 16)
def CAN_XFLT_A_EN : Fam := fam 0x0020800200 31 31 .rw 0 (0x10000, 12) (8, 16)
def CAN_XFLT_B_VCID : Fam := fam 0x0020800204 7 0 .rw 0 (0x10000, 12) (8, 16)
def CAN_XFLT_B_VCID_MASK : Fam := fam 0x0020800204 15 8 .rw 0 (0x10000, 12) (8, 16)
def CAN_XFLT_B_SDT : Fam := fam 0x0020800204 23 16 .rw 0 (0x10000, 12) (8, 16)
def CAN_XFLT_B_SDT_CMP : Fam := fam 0x0020800204 24 24 .rw 0 (0x10000, 12) (8, 16)
/-! ### R620, chapter 14 -/
def CAN_OBJ_CFG_EN : Fam := fam 0x0020804000 0 0 .rw 0 (0x10000, 12) (0x80, 128)
def CAN_OBJ_CFG_DIR : Fam := fam 0x0020804000 1 1 .rw 0 (0x10000, 12) (0x80, 128)
def CAN_OBJ_CFG_FMT : Fam := fam 0x0020804000 3 2 .rw 0 (0x10000, 12) (0x80, 128)
def CAN_OBJ_CFG_IDE : Fam := fam 0x0020804000 4 4 .rw 0 (0x10000, 12) (0x80, 128)
def CAN_OBJ_CFG_IDE_ANY : Fam := fam 0x0020804000 5 5 .rw 0 (0x10000, 12) (0x80, 128)
def CAN_OBJ_CFG_RMT : Fam := fam 0x0020804000 6 6 .rw 0 (0x10000, 12) (0x80, 128)
def CAN_OBJ_ID_ID : Fam := fam 0x0020804004 28 0 .rw 0 (0x10000, 12) (0x80, 128)
def CAN_OBJ_MASK_MASK : Fam := fam 0x0020804008 28 0 .rw 0 (0x10000, 12) (0x80, 128)
def CAN_OBJ_CTRL_DLC : Fam := fam 0x002080400C 3 0 .rw 0 (0x10000, 12) (0x80, 128)
def CAN_OBJ_STAT_VALID : Fam := fam 0x0020804010 0 0 .ro 0 (0x10000, 12) (0x80, 128)
def CAN_OBJ_STAT_OPEN : Fam := fam 0x0020804010 1 1 .ro 0 (0x10000, 12) (0x80, 128)
def CAN_OBJ_STAT_SHADOW_FULL : Fam := fam 0x0020804010 2 2 .ro 0 (0x10000, 12) (0x80, 128)
def CAN_OBJ_STAT_OVERRUN : Fam := fam 0x0020804010 3 3 .w1c 0 (0x10000, 12) (0x80, 128)
def CAN_OBJ_STAT_TX_PENDING : Fam := fam 0x0020804010 4 4 .ro 0 (0x10000, 12) (0x80, 128)
def CAN_OBJ_STAT_CANCEL_PEND : Fam := fam 0x0020804010 5 5 .ro 0 (0x10000, 12) (0x80, 128)
def CAN_OBJ_STAT_SENT : Fam := fam 0x0020804010 6 6 .ro 0 (0x10000, 12) (0x80, 128)
def CAN_OBJ_STAT_STATUS : Fam := fam 0x0020804010 15 8 .ro 0 (0x10000, 12) (0x80, 128)
def CAN_OBJ_STAT_ATTEMPTS : Fam := fam 0x0020804010 23 16 .ro 0 (0x10000, 12) (0x80, 128)
def CAN_OBJ_TS_US : Fam := fam 0x0020804014 31 0 .ro 0 (0x10000, 12) (0x80, 128)
def CAN_OBJ_RXINFO_EPOCH : Fam := fam 0x0020804018 3 0 .ro 0 (0x10000, 12) (0x80, 128)
def CAN_OBJ_RXINFO_DLC : Fam := fam 0x0020804018 7 4 .ro 0 (0x10000, 12) (0x80, 128)
def CAN_OBJ_RXINFO_FDF : Fam := fam 0x0020804018 8 8 .ro 0 (0x10000, 12) (0x80, 128)
def CAN_OBJ_RXINFO_BRS : Fam := fam 0x0020804018 9 9 .ro 0 (0x10000, 12) (0x80, 128)
def CAN_OBJ_RXINFO_ESI : Fam := fam 0x0020804018 10 10 .ro 0 (0x10000, 12) (0x80, 128)
def CAN_OBJ_RXINFO_RMT : Fam := fam 0x0020804018 11 11 .ro 0 (0x10000, 12) (0x80, 128)
def CAN_OBJ_RXID_ID : Fam := fam 0x002080401C 28 0 .ro 0 (0x10000, 12) (0x80, 128)
def CAN_OBJ_RXID_IDE : Fam := fam 0x002080401C 29 29 .ro 0 (0x10000, 12) (0x80, 128)
def CAN_OBJ_DATA_DATA : Fam := fam 0x0020804020 31 0 .rw 0 (0x10000, 12) (0x80, 128) (4, 16)
/-! ### R646, chapter 15 -/
def NPM_CMD_OP : Fam := fam 0x0020900000 2 0 .wo 0
def NPM_CMD_SEG : Fam := fam 0x0020900000 12 8 .wo 0
def NPM_CMD_KEY : Fam := fam 0x0020900000 31 16 .wo 0
def NPM_CMD_STAT_STATUS : Fam := fam 0x0020900004 7 0 .ro 0
def NPM_CMD_STAT_PEND : Fam := fam 0x0020900004 8 8 .ro 0
def NPM_EVT_SLEPT : Fam := fam 0x0020900008 0 0 .w1c 0
def NPM_EVT_WOKE : Fam := fam 0x0020900008 1 1 .w1c 0
def NPM_EVT_ROUND_END : Fam := fam 0x0020900008 2 2 .w1c 0
def NPM_EVT_FALSE_WAKE : Fam := fam 0x0020900008 3 3 .w1c 0
def NPM_EVT_STORM : Fam := fam 0x0020900008 4 4 .w1c 0
def NPM_EVT_PROPOSAL_RX : Fam := fam 0x0020900008 5 5 .w1c 0
def NPM_EVT_TMU_RESET : Fam := fam 0x0020900008 6 6 .w1c 0
def NPM_IRQ_EN_EN : Fam := fam 0x002090000C 6 0 .rw 0
def NPM_HOLD_SEGS : Fam := fam 0x0020900010 23 0 .rw 0
def NPM_STORM_SEGS : Fam := fam 0x0020900014 23 0 .ro 0
def NPM_ASLEEP_SEGS : Fam := fam 0x0020900018 23 0 .ro 0
def NPM_TIMING0_REST_WAIT : Fam := fam 0x0020900020 15 0 .rw 0x3E8
def NPM_TIMING0_REST_GRACE : Fam := fam 0x0020900020 31 16 .rw 0x32
def NPM_TIMING1_WAKE_TIMEOUT : Fam := fam 0x0020900024 15 0 .rw 0x7D0
def NPM_NODE_NODE_ID : Fam := fam 0x0020900028 7 0 .rw 0
def NPM_ETH_DA_LO_ADDR : Fam := fam 0x002090002C 31 0 .rw 0
def NPM_ETH_DA_HI_ADDR : Fam := fam 0x0020900030 15 0 .rw 0
def NPM_WAKE_IN_SEGS : Fam := fam 0x0020900040 23 0 .rw 0 (4, 4)
def NPM_WAKE_IN_EN : Fam := fam 0x0020900040 31 31 .rw 0 (4, 4)
def NPM_WT_CFG_SEGS : Fam := fam 0x0020900068 23 0 .rw 0 (8, 7)
def NPM_WT_CFG_EN : Fam := fam 0x0020900068 24 24 .rw 0 (8, 7)
def NPM_WT_CFG_PERIODIC : Fam := fam 0x0020900068 25 25 .rw 0 (8, 7)
def NPM_WT_LOAD_US : Fam := fam 0x002090006C 31 0 .rw 0 (8, 7)
def NPM_SEG_CFG_EN : Fam := fam 0x0020900100 0 0 .rw 0 (0x10, 24)
def NPM_SEG_CFG_AUTO : Fam := fam 0x0020900100 1 1 .rw 0 (0x10, 24)
def NPM_SEG_CFG_IDLE_S : Fam := fam 0x0020900100 11 2 .rw 0 (0x10, 24)
def NPM_SEG_CFG_PATTERN_REQ : Fam := fam 0x0020900100 12 12 .rw 0 (0x10, 24)
def NPM_SEG_CFG_WAKE_ON_TX : Fam := fam 0x0020900100 13 13 .rw 0 (0x10, 24)
def NPM_SEG_CFG_TX_OBJ : Fam := fam 0x0020900100 20 14 .rw 0 (0x10, 24)
def NPM_SEG_CFG_REST_ID : Fam := fam 0x0020900100 31 21 .rw 0 (0x10, 24)
def NPM_SEG_STAT_STATE : Fam := fam 0x0020900104 1 0 .ro 0 (0x10, 24)
def NPM_SEG_STAT_PHASE : Fam := fam 0x0020900104 2 2 .ro 0 (0x10, 24)
def NPM_SEG_STAT_SRC : Fam := fam 0x0020900104 5 3 .ro 0 (0x10, 24)
def NPM_SEG_STAT_DETAIL : Fam := fam 0x0020900104 11 8 .ro 0 (0x10, 24)
def NPM_SEG_STAT_OUTCOME : Fam := fam 0x0020900104 14 12 .ro 0 (0x10, 24)
def NPM_SEG_STAT_SEQ : Fam := fam 0x0020900104 23 16 .ro 0 (0x10, 24)
def NPM_SEG_STAT_FALSE_RUN : Fam := fam 0x0020900104 27 24 .ro 0 (0x10, 24)
def NPM_SEG_STAT_STORM : Fam := fam 0x0020900104 28 28 .ro 0 (0x10, 24)
def NPM_SEG_WTIME_US : Fam := fam 0x0020900108 31 0 .ro 0 (0x10, 24)
def NPM_SEG_CNT_WAKES : Fam := fam 0x002090010C 15 0 .ro 0 (0x10, 24)
def NPM_SEG_CNT_FALSE : Fam := fam 0x002090010C 31 16 .ro 0 (0x10, 24)
/-! ### R680, chapter 16 -/
def CPE_STAT_BUSY : Fam := fam 0x0020A00000 3 0 .ro 0
def CPE_STAT_FENCED : Fam := fam 0x0020A00000 7 4 .ro 0
def CPE_STAT_HASH_FAIL : Fam := fam 0x0020A00000 8 8 .ro 0
def CPE_STAT_MA_FAIL : Fam := fam 0x0020A00000 9 9 .ro 0
def CPE_STAT_GLITCH : Fam := fam 0x0020A00000 12 10 .ro 0
def CPE_STAT_QR_WAIT : Fam := fam 0x0020A00000 22 16 .ro 0
def CPE_EVT_FENCE : Fam := fam 0x0020A00004 0 0 .w1c 0
def CPE_EVT_RECOMPUTE : Fam := fam 0x0020A00004 1 1 .w1c 0
def CPE_EVT_ALARM : Fam := fam 0x0020A00004 2 2 .w1c 0
def CPE_EVT_QR_WAIT : Fam := fam 0x0020A00004 3 3 .w1c 0
def CPE_IRQ_EN_EN : Fam := fam 0x0020A00008 3 0 .rw 0
def CPE_CORE_STAT_INST : Fam := fam 0x0020A00010 5 0 .ro 0 (4, 4)
def CPE_CORE_STAT_BUSY : Fam := fam 0x0020A00010 8 8 .ro 0 (4, 4)
def CPE_CORE_STAT_RECOMPUTES : Fam := fam 0x0020A00010 31 16 .ro 0 (4, 4)
def CPE_CNT_SEL_INST : Fam := fam 0x0020A00020 5 0 .rw 0
def CPE_CNT_SEL_KIND : Fam := fam 0x0020A00020 10 8 .rw 0
def CPE_CNT_VAL_VALUE : Fam := fam 0x0020A00028 63 0 .ro 0
/-! ### R681, chapter 16 -/
def CPI_SUB_ADDR_ADDR : Fam := fam 0x0040000000 31 6 .rw 0 (0x1000, 64)
def CPI_SUBMIT_ADDR_HI : Fam := fam 0x0040000004 7 0 .wo 0 (0x1000, 64)
def CPI_SUBMIT_TAG : Fam := fam 0x0040000004 31 16 .wo 0 (0x1000, 64)
def CPI_REFUSE_TAG : Fam := fam 0x0040000008 15 0 .ro 0 (0x1000, 64)
def CPI_REFUSE_STATUS : Fam := fam 0x0040000008 23 16 .ro 0 (0x1000, 64)
def CPI_REFUSE_COUNT : Fam := fam 0x0040000008 31 24 .re 0 (0x1000, 64)
def CPI_STATE_CPL_CNT : Fam := fam 0x004000000C 5 0 .ro 0 (0x1000, 64)
def CPI_STATE_NO_CORE : Fam := fam 0x004000000C 8 8 .ro 0 (0x1000, 64)
def CPI_CPL_TAG : Fam := fam 0x0040000010 15 0 .re 0 (0x1000, 64)
def CPI_CPL_STATUS : Fam := fam 0x0040000010 23 16 .re 0 (0x1000, 64)
def CPI_CPL_MODE : Fam := fam 0x0040000010 27 24 .re 0 (0x1000, 64)
def CPI_CPL_DIR : Fam := fam 0x0040000010 28 28 .re 0 (0x1000, 64)
def CPI_CPL_VALID : Fam := fam 0x0040000010 31 31 .re 0 (0x1000, 64)
def CPI_CPL_X_DONE_LEN : Fam := fam 0x0040000014 26 0 .ro 0 (0x1000, 64)
def CPI_CPL_X_CLASS : Fam := fam 0x0040000014 29 28 .ro 0 (0x1000, 64)
def CPI_IRQ_EN_CPL : Fam := fam 0x0040000018 0 0 .rw 0 (0x1000, 64)
def CPI_IRQ_STAT_CPL : Fam := fam 0x004000001C 0 0 .w1c 0 (0x1000, 64)
def CPI_TAGFAIL_COUNT : Fam := fam 0x0040000020 15 0 .re 0 (0x1000, 64)
/-! ### R682, chapter 16 -/
def KST_LOCK_REQ_AGENT : Fam := fam 0x0020B00000 7 0 .wo 0
def KST_LOCK_REQ_RELEASE : Fam := fam 0x0020B00000 8 8 .wo 0
def KST_LOCK_STAT_HOLDER : Fam := fam 0x0020B00004 7 0 .ro 0
def KST_LOCK_STAT_REVOKED : Fam := fam 0x0020B00004 15 8 .ro 0
def KST_LOCK_STAT_HELD_US : Fam := fam 0x0020B00004 26 16 .ro 0
def KST_OP_OP : Fam := fam 0x0020B00008 2 0 .wo 0
def KST_OP_SLOT : Fam := fam 0x0020B00008 9 4 .wo 0
def KST_OP_SRC_SLOT : Fam := fam 0x0020B00008 15 10 .wo 0
def KST_OP_AGENT : Fam := fam 0x0020B00008 23 16 .wo 0
def KST_OP_STAT_STATUS : Fam := fam 0x0020B0000C 7 0 .ro 0
def KST_OP_STAT_PEND : Fam := fam 0x0020B0000C 8 8 .ro 0
def KST_OP_STAT_GEN : Fam := fam 0x0020B0000C 31 16 .ro 0
def KST_ATTR_KSIZE : Fam := fam 0x0020B00018 0 0 .rw 0
def KST_ATTR_USAGE : Fam := fam 0x0020B00018 6 1 .rw 0
def KST_ATTR_MODES : Fam := fam 0x0020B00018 13 7 .rw 0
def KST_ATTR_WORLD : Fam := fam 0x0020B00018 14 14 .rw 0
def KST_OWNER_LO_MASK : Fam := fam 0x0020B00020 31 0 .rw 0
def KST_OWNER_HI_MASK : Fam := fam 0x0020B00024 31 0 .rw 0
def KST_STAT_MESH_OPEN : Fam := fam 0x0020B00030 0 0 .ro 0
def KST_STAT_ROOT_EN : Fam := fam 0x0020B00030 1 1 .ro 0
def KST_STAT_GLITCH : Fam := fam 0x0020B00030 4 2 .ro 0
def KST_EVT_MESH : Fam := fam 0x0020B00034 0 0 .w1c 0
def KST_EVT_REVOKED : Fam := fam 0x0020B00034 1 1 .w1c 0
def KST_EVT_OP_DONE : Fam := fam 0x0020B00034 2 2 .w1c 0
def KST_IRQ_EN_EN : Fam := fam 0x0020B00038 2 0 .rw 0
def KST_PARAM_DATA : Fam := fam 0x0020B00040 31 0 .wo 0 (4, 16)
def KST_SLOT_ATTR_VALID : Fam := fam 0x0020B00100 0 0 .ro 0 (0x10, 64)
def KST_SLOT_ATTR_KSIZE : Fam := fam 0x0020B00100 1 1 .ro 0 (0x10, 64)
def KST_SLOT_ATTR_USAGE : Fam := fam 0x0020B00100 7 2 .ro 0 (0x10, 64)
def KST_SLOT_ATTR_MODES : Fam := fam 0x0020B00100 14 8 .ro 0 (0x10, 64)
def KST_SLOT_ATTR_WORLD : Fam := fam 0x0020B00100 15 15 .ro 0 (0x10, 64)
def KST_SLOT_ATTR_SOURCE : Fam := fam 0x0020B00100 16 16 .ro 0 (0x10, 64)
def KST_SLOT_GEN_GEN : Fam := fam 0x0020B00104 15 0 .ro 1 (0x10, 64)
def KST_SLOT_OWN_LO_MASK : Fam := fam 0x0020B00108 31 0 .ro 0 (0x10, 64)
def KST_SLOT_OWN_HI_MASK : Fam := fam 0x0020B0010C 31 0 .ro 0 (0x10, 64)
/-! ### R725, chapter 17 -/
def DPX_CFG_EN : Fam := fam 0x0020C00000 0 0 .ro 0
def DPX_CFG_REVERT_EN : Fam := fam 0x0020C00000 1 1 .ro 0
def DPX_CFG_CAN_EN : Fam := fam 0x0020C00000 2 2 .ro 0
def DPX_CFG_CAN_SEL : Fam := fam 0x0020C00000 7 4 .ro 0
def DPX_CFG_UPLINKS : Fam := fam 0x0020C00000 9 8 .ro 0
def DPX_CFG_UNIT : Fam := fam 0x0020C00000 16 16 .ro 0
def DPX_PAIR_ID_ID : Fam := fam 0x0020C00004 31 0 .ro 0
def DPX_TIMING_CYCLE_US : Fam := fam 0x0020C00008 15 0 .ro 0
def DPX_TIMING_REVERT_HOLD_S : Fam := fam 0x0020C00008 31 16 .ro 0
def DPX_SUP_CFG_SUP_WDT_US : Fam := fam 0x0020C0000C 15 0 .ro 0
def DPX_SUP_CFG_SUP_PART : Fam := fam 0x0020C0000C 19 16 .ro 0
def DPX_STATE_ROLE : Fam := fam 0x0020C00010 2 0 .ro 0
def DPX_STATE_DRIVE : Fam := fam 0x0020C00010 3 3 .ro 1
def DPX_STATE_FULL : Fam := fam 0x0020C00010 4 4 .ro 0
def DPX_STATE_HO_OUT : Fam := fam 0x0020C00010 5 5 .ro 0
def DPX_STATE_DEGRADED : Fam := fam 0x0020C00010 6 6 .ro 0
def DPX_STATE_HEM_DISTRUST : Fam := fam 0x0020C00010 7 7 .ro 0
def DPX_STATE_COLLAR_OUT : Fam := fam 0x0020C00010 8 8 .ro 0
def DPX_STATE_COLLAR_IN : Fam := fam 0x0020C00010 9 9 .ro 0
def DPX_STATE_COLLAR_OPEN : Fam := fam 0x0020C00010 10 10 .ro 0
def DPX_STATE_COLLAR_CONFLICT : Fam := fam 0x0020C00010 11 11 .ro 0
def DPX_STATE_PEER_ROLE : Fam := fam 0x0020C00010 14 12 .ro 0
def DPX_STATE_PEER_HEARD : Fam := fam 0x0020C00010 15 15 .ro 0
def DPX_STATE_CLASH : Fam := fam 0x0020C00010 16 16 .ro 0
def DPX_FIT_OWN : Fam := fam 0x0020C00014 15 0 .ro 0
def DPX_FIT_PEER : Fam := fam 0x0020C00014 31 16 .ro 0
def DPX_EVT_TAKEOVER : Fam := fam 0x0020C00018 0 0 .w1c 0
def DPX_EVT_HANDOVER_IN : Fam := fam 0x0020C00018 1 1 .w1c 0
def DPX_EVT_HANDOVER_OUT : Fam := fam 0x0020C00018 2 2 .w1c 0
def DPX_EVT_ABORT : Fam := fam 0x0020C00018 3 3 .w1c 0
def DPX_EVT_DUAL : Fam := fam 0x0020C00018 4 4 .w1c 0
def DPX_EVT_YIELD : Fam := fam 0x0020C00018 5 5 .w1c 0
def DPX_EVT_RELEASED : Fam := fam 0x0020C00018 6 6 .w1c 0
def DPX_EVT_COLLAR_OPEN : Fam := fam 0x0020C00018 7 7 .w1c 0
def DPX_EVT_PATH_LOST : Fam := fam 0x0020C00018 8 8 .w1c 0
def DPX_EVT_PATH_RESTORED : Fam := fam 0x0020C00018 9 9 .w1c 0
def DPX_EVT_READY : Fam := fam 0x0020C00018 10 10 .w1c 0
def DPX_EVT_NOT_READY : Fam := fam 0x0020C00018 11 11 .w1c 0
def DPX_EVT_INCOMPATIBLE : Fam := fam 0x0020C00018 12 12 .w1c 0
def DPX_EVT_SELFTEST_FAIL : Fam := fam 0x0020C00018 13 13 .w1c 0
def DPX_EVT_CYCLE : Fam := fam 0x0020C00018 14 14 .w1c 0
def DPX_EVT_SNAP_DONE : Fam := fam 0x0020C00018 15 15 .w1c 0
def DPX_EVT_COLD_START : Fam := fam 0x0020C00018 16 16 .w1c 0
def DPX_IRQ_EN_EN : Fam := fam 0x0020C0001C 16 0 .rw 0
def DPX_PATH_AGE_US : Fam := fam 0x0020C00020 15 0 .ro 0xFFFF (4, 3)
def DPX_PATH_HEARD : Fam := fam 0x0020C00020 16 16 .ro 0 (4, 3)
def DPX_PATH_LOST : Fam := fam 0x0020C00020 17 17 .ro 0 (4, 3)
def DPX_PATH_LOSSES : Fam := fam 0x0020C00020 31 24 .ro 0 (4, 3)
def DPX_SUP_KICK_KEY : Fam := fam 0x0020C00030 15 0 .wo 0
def DPX_SUP_STAT_REMAIN_US : Fam := fam 0x0020C00034 15 0 .ro 0
def DPX_CTRL_OP : Fam := fam 0x0020C00038 3 0 .wo 0
def DPX_CTRL_KEY : Fam := fam 0x0020C00038 31 16 .wo 0
def DPX_CTRL_STAT_STATUS : Fam := fam 0x0020C0003C 7 0 .ro 0
def DPX_CTRL_STAT_PEND : Fam := fam 0x0020C0003C 8 8 .ro 0
def DPX_LAST_TO_CAUSE : Fam := fam 0x0020C00040 2 0 .ro 0
def DPX_LAST_TO_DECIDE_US : Fam := fam 0x0020C00040 15 4 .ro 0
def DPX_LAST_TO_ENGAGE_US : Fam := fam 0x0020C00040 27 16 .ro 0
def DPX_LAST_TO_TIME_US : Fam := fam 0x0020C00044 31 0 .ro 0
def DPX_COUNT_TAKEOVERS : Fam := fam 0x0020C00048 15 0 .ro 0
def DPX_COUNT_HANDOVERS : Fam := fam 0x0020C00048 31 16 .ro 0
def DPX_MIRROR_SWEEP : Fam := fam 0x0020C00050 31 0 .ro 0
def DPX_MIRROR_MISS_COUNT : Fam := fam 0x0020C00054 15 0 .re 0
def DPX_CYCLE_NUM : Fam := fam 0x0020C00058 31 0 .ro 0
def DPX_SNAP_READY_REGIONS : Fam := fam 0x0020C0005C 15 0 .w1s 0
def DPX_SNAP_STAT_COPIED : Fam := fam 0x0020C00060 15 0 .ro 0
def DPX_SNAP_STAT_BUSY : Fam := fam 0x0020C00060 16 16 .ro 0
def DPX_SNAP_CYCLE_NUM : Fam := fam 0x0020C00064 31 0 .ro 0
def DPX_SNAP_AGE_CYCLES : Fam := fam 0x0020C00068 15 0 .ro 0xFFFF
def DPX_HEM_CONFLICT_MAP : Fam := fam 0x0020C00080 31 0 .ro 0 (4, 4)
def DPX_PULSE_FAIL_MAP : Fam := fam 0x0020C00090 31 0 .w1c 0 (4, 4)
def DPX_COV_DIAG_AGE_MS : Fam := fam 0x0020C000A0 15 0 .ro 0xFFFF
def DPX_COV_PULSE_AGE_S : Fam := fam 0x0020C000A4 15 0 .ro 0xFFFF
def DPX_COV_PULSE_PASSES : Fam := fam 0x0020C000A4 31 16 .ro 0
def DPX_COV_PAIRS_AGE_S : Fam := fam 0x0020C000A8 15 0 .ro 0xFFFF
def DPX_COV_SCRUB_AGE_S : Fam := fam 0x0020C000AC 15 0 .ro 0xFFFF
def DPX_SNAP_LOC_ADDR : Fam := fam 0x0020C00100 39 0 .ro 0 (0x10, 16)
def DPX_SNAP_LOC_PART : Fam := fam 0x0020C00100 51 48 .ro 0 (0x10, 16)
def DPX_SNAP_DST_ADDR : Fam := fam 0x0020C00108 39 0 .ro 0 (0x10, 16)
def DPX_SNAP_DST_LEN : Fam := fam 0x0020C00108 56 40 .ro 0 (0x10, 16)
def DPX_PEER_MAC_LO_ADDR : Fam := fam 0x0020C00200 31 0 .ro 0
def DPX_PEER_MAC_HI_ADDR : Fam := fam 0x0020C00204 15 0 .ro 0
def DPX_PEER_MAC_HI_VID : Fam := fam 0x0020C00204 27 16 .ro 0
def DPX_CAN_ID_ID : Fam := fam 0x0020C00208 10 0 .ro 0
def DPX_WAKE_FWD_SEGS : Fam := fam 0x0020C0020C 23 0 .ro 0
/-! ### R756, chapter 18 -/
def PBR_CTRL_EN : Fam := fam 0x0020D00000 0 0 .rw 0
def PBR_STAT_LINK : Fam := fam 0x0020D00004 0 0 .ro 0
def PBR_STAT_PATH : Fam := fam 0x0020D00004 1 1 .ro 0
def PBR_STAT_BLOCKED : Fam := fam 0x0020D00004 2 2 .ro 0
def PBR_STAT_PEER_BLOCKED : Fam := fam 0x0020D00004 3 3 .ro 0
def PBR_STAT_RETRACTED : Fam := fam 0x0020D00004 4 4 .ro 0
def PBR_STAT_OUT_OCC : Fam := fam 0x0020D00004 13 8 .ro 0
def PBR_STAT_IN_OCC : Fam := fam 0x0020D00004 21 16 .ro 0
def PBR_STAT_HOLD_OCC : Fam := fam 0x0020D00004 27 24 .ro 0
def PBR_SESSION_OWN : Fam := fam 0x0020D00008 15 0 .ro 0
def PBR_SESSION_PEER : Fam := fam 0x0020D00008 31 16 .ro 0
def PBR_EVT_LINK_UP : Fam := fam 0x0020D0000C 0 0 .w1c 0
def PBR_EVT_LINK_DOWN : Fam := fam 0x0020D0000C 1 1 .w1c 0
def PBR_EVT_CROSS : Fam := fam 0x0020D0000C 2 2 .w1c 0
def PBR_EVT_PREFETCH_LOSS : Fam := fam 0x0020D0000C 3 3 .w1c 0
def PBR_EVT_REMOTE_ERR : Fam := fam 0x0020D0000C 4 4 .w1c 0
def PBR_EVT_DB : Fam := fam 0x0020D0000C 5 5 .w1c 0
def PBR_EVT_IN_DENY : Fam := fam 0x0020D0000C 6 6 .w1c 0
def PBR_IRQ_EN_EN : Fam := fam 0x0020D00010 6 0 .rw 0
def PBR_DB_OUT_BITS : Fam := fam 0x0020D00014 31 0 .wo 0
def PBR_DB_IN_BITS : Fam := fam 0x0020D00018 23 0 .w1c 0
def PBR_DB_EN_BITS : Fam := fam 0x0020D0001C 23 0 .rw 0
def PBR_CNT_RETX_COUNT : Fam := fam 0x0020D00020 15 0 .re 0
def PBR_CNT_CROSS_COUNT : Fam := fam 0x0020D00024 15 0 .ro 0
def PBR_CNT_CROSS_DOWNS : Fam := fam 0x0020D00024 31 16 .ro 0
def PBR_CNT_LOSS_COUNT : Fam := fam 0x0020D00028 15 0 .re 0
def PBR_CNT_BAD_COUNT : Fam := fam 0x0020D0002C 15 0 .re 0
def PBR_LAST_LOSS_ADDR : Fam := fam 0x0020D00030 39 0 .ro 0
def PBR_SEM_STAT_HELD : Fam := fam 0x0020D00038 15 0 .ro 0
def PBR_SEM_CNT_SC_FAIL : Fam := fam 0x0020D0003C 15 0 .re 0
def PBR_WIN_A_SIZE_LOG2 : Fam := fam 0x0020D00100 4 0 .rw 0xC (0x10, 16)
def PBR_WIN_A_EN : Fam := fam 0x0020D00100 8 8 .rw 0 (0x10, 16)
def PBR_WIN_A_PREFETCH : Fam := fam 0x0020D00100 9 9 .rw 0 (0x10, 16)
def PBR_WIN_A_READ : Fam := fam 0x0020D00100 10 10 .rw 0 (0x10, 16)
def PBR_WIN_A_WRITE : Fam := fam 0x0020D00100 11 11 .rw 0 (0x10, 16)
def PBR_WIN_A_OFF : Fam := fam 0x0020D00100 27 12 .rw 0 (0x10, 16)
def PBR_WIN_B_PEER_BASE : Fam := fam 0x0020D00108 39 12 .rw 0 (0x10, 16)
def PBR_IN_BASE_BASE : Fam := fam 0x0020D00200 39 12 .rw 0 (0x20, 16)
def PBR_IN_LIMIT_LIMIT : Fam := fam 0x0020D00208 39 12 .rw 0 (0x20, 16)
def PBR_IN_KEY_PARTS : Fam := fam 0x0020D00210 15 0 .rw 0 (0x20, 16)
def PBR_IN_KEY_NORMAL : Fam := fam 0x0020D00210 16 16 .rw 0 (0x20, 16)
def PBR_IN_KEY_SECURE : Fam := fam 0x0020D00210 17 17 .rw 0 (0x20, 16)
def PBR_IN_KEY_R : Fam := fam 0x0020D00210 18 18 .rw 0 (0x20, 16)
def PBR_IN_KEY_W : Fam := fam 0x0020D00210 19 19 .rw 0 (0x20, 16)
def PBR_IN_KEY_A : Fam := fam 0x0020D00210 20 20 .rw 0 (0x20, 16)
def PBR_IN_KEY_EN : Fam := fam 0x0020D00210 21 21 .rw 0 (0x20, 16)
def PBR_IN_KEY_EXEC_PART : Fam := fam 0x0020D00210 27 24 .rw 0 (0x20, 16)
def PBR_IN_KEY_EXEC_WORLD : Fam := fam 0x0020D00210 28 28 .rw 0 (0x20, 16)
/-! ### R796, chapter 19 -/
def NVC_EVT_CHUNK : Fam := fam 0x0021300000 0 0 .w1c 0
def NVC_EVT_STG_DONE : Fam := fam 0x0021300000 1 1 .w1c 0
def NVC_EVT_HO_REQ : Fam := fam 0x0021300000 2 2 .w1c 0
def NVC_EVT_ACT_DONE : Fam := fam 0x0021300000 3 3 .w1c 0
def NVC_EVT_PROB_FAIL : Fam := fam 0x0021300000 4 4 .w1c 0
def NVC_EVT_PASSED : Fam := fam 0x0021300000 5 5 .w1c 0
def NVC_EVT_COMMIT_DONE : Fam := fam 0x0021300000 6 6 .w1c 0
def NVC_IRQ_EN_EN : Fam := fam 0x0021300004 6 0 .rw 0
def NVC_CHUNK_ADDR_ADDR : Fam := fam 0x0021300100 39 6 .rw 0
def NVC_CHUNK_SUB_INDEX : Fam := fam 0x0021300108 14 0 .wo 0
def NVC_CHUNK_SUB_KEY : Fam := fam 0x0021300108 31 16 .wo 0
def NVC_CHUNK_STAT_STATUS : Fam := fam 0x002130010C 7 0 .ro 0
def NVC_CHUNK_STAT_PEND : Fam := fam 0x002130010C 8 8 .ro 0
def NVC_CHUNK_STAT_INDEX : Fam := fam 0x002130010C 30 16 .ro 0
def NVC_STG_COUNT_STAGED : Fam := fam 0x0021300110 14 0 .ro 0
def NVC_STG_COUNT_TOTAL : Fam := fam 0x0021300110 30 16 .ro 0
def NVC_STG_STAT_STATE : Fam := fam 0x0021300114 2 0 .ro 0
def NVC_STG_STAT_BANK : Fam := fam 0x0021300114 3 3 .ro 0
def NVC_STG_STAT_CHECK : Fam := fam 0x0021300114 15 8 .ro 0
def NVC_MISS_FIRST_INDEX : Fam := fam 0x0021300118 14 0 .ro 0
def NVC_MISS_SEL_WORD : Fam := fam 0x002130011C 9 0 .rw 0
def NVC_MISS_WORD_MAP : Fam := fam 0x0021300120 31 0 .ro 0
def NVC_PEER_STG_STAGED : Fam := fam 0x0021300140 14 0 .ro 0
def NVC_PEER_STG_MATCH : Fam := fam 0x0021300140 16 16 .ro 0
def NVC_PEER_STG_VALID : Fam := fam 0x0021300140 17 17 .ro 0
def NVC_UPD_STAT_PHASE : Fam := fam 0x0021300200 3 0 .ro 0
def NVC_UPD_STAT_NEXT : Fam := fam 0x0021300200 12 8 .ro 0
def NVC_UPD_STAT_NEXT_NONE : Fam := fam 0x0021300200 13 13 .ro 0
def NVC_UPD_STAT_LAST_STATUS : Fam := fam 0x0021300200 23 16 .ro 0
def NVC_UPD_STAT_ACTIVATED : Fam := fam 0x0021300200 29 24 .ro 0
def NVC_UPD_PROB_REMAIN_S : Fam := fam 0x0021300204 16 0 .ro 0
def NVC_UPD_FAIL_COMPONENT : Fam := fam 0x0021300208 4 0 .ro 0
def NVC_UPD_FAIL_CAUSE : Fam := fam 0x0021300208 11 8 .ro 0
def NVC_HO_REQ_PARTS : Fam := fam 0x0021300210 15 0 .ro 0
def NVC_HO_READY_PART : Fam := fam 0x0021300214 3 0 .wo 0
def NVC_HO_CFG_HO_WAIT_MS : Fam := fam 0x0021300218 15 0 .rw 0x64
def NVC_BROM_SLOTS_USED : Fam := fam 0x0021300230 15 0 .ro 0
def NVC_BROM_SLOTS_REVOKED : Fam := fam 0x0021300230 31 16 .ro 0
def NVC_PEER_MAP_WORD : Fam := fam 0x0021301000 31 0 .rw 0 (4, 780)
/-! ### R817, chapter 20 -/
def MBX_STAT_USED : Fam := fam 0x0021100000 8 0 .ro 0
def MBX_EVT_FINAL : Fam := fam 0x0021100004 0 0 .w1c 0
def MBX_EVT_REFUSED : Fam := fam 0x0021100004 1 1 .w1c 0
def MBX_IRQ_EN_EN : Fam := fam 0x0021100008 1 0 .rw 0
def MBX_LANE_HANDLE : Fam := fam 0x0021100010 15 0 .ro 0 (4, 5)
def MBX_LANE_QUEUED : Fam := fam 0x0021100010 19 16 .ro 0 (4, 5)
def MBX_LANE_BUSY : Fam := fam 0x0021100010 24 24 .ro 0 (4, 5)
def MBX_PERM_CLASS : Fam := fam 0x0021100040 5 0 .rw 0 (4, 16)
def MBX_QUOTA_MAX : Fam := fam 0x0021100080 8 0 .rw 0x10 (4, 16)
def MBX_ARG_ARG : Fam := fam 0x0021101000 31 0 .rw 0 (0x100, 17) (4, 8)
def MBX_GO_OP : Fam := fam 0x0021101020 7 0 .wo 0 (0x100, 17)
def MBX_GO_SESSION : Fam := fam 0x0021101020 31 16 .wo 0 (0x100, 17)
def MBX_CPL_SESSION : Fam := fam 0x0021101024 15 0 .re 0 (0x100, 17)
def MBX_CPL_STATUS : Fam := fam 0x0021101024 23 16 .re 0 (0x100, 17)
def MBX_CPL_OP : Fam := fam 0x0021101024 30 24 .re 0 (0x100, 17)
def MBX_CPL_VALID : Fam := fam 0x0021101024 31 31 .re 0 (0x100, 17)
def MBX_CPL_X_HANDLE : Fam := fam 0x0021101028 15 0 .ro 0 (0x100, 17)
def MBX_CPL_X_STATE : Fam := fam 0x0021101028 18 16 .ro 7 (0x100, 17)
def MBX_CPL_R0_RESULT : Fam := fam 0x002110102C 31 0 .ro 0 (0x100, 17)
def MBX_CPL_R1_RESULT : Fam := fam 0x0021101030 31 0 .ro 0 (0x100, 17)
def MBX_WIN_STAT_CPL_CNT : Fam := fam 0x0021101034 4 0 .ro 0 (0x100, 17)
def MBX_WIN_STAT_HELD : Fam := fam 0x0021101034 16 8 .ro 0 (0x100, 17)
def MBX_WIN_IRQ_EN_CPL : Fam := fam 0x0021101038 0 0 .rw 0 (0x100, 17)
def MBX_WIN_IRQ_STAT_CPL : Fam := fam 0x002110103C 0 0 .w1c 0 (0x100, 17)
def MBX_OWN_MAP : Fam := fam 0x0021101040 31 0 .ro 0 (0x100, 17) (4, 8)
/-! ### R818, chapter 20 -/
def HST_CTRL_LR_EN : Fam := fam 0x0021200000 0 0 .rw 0
def HST_EVT_SEAL_REQ : Fam := fam 0x0021200004 0 0 .w1c 0
def HST_EVT_SEAL_LATE : Fam := fam 0x0021200004 1 1 .w1c 0
def HST_EVT_LR_FAIL : Fam := fam 0x0021200004 2 2 .w1c 0
def HST_EVT_LR_LOST : Fam := fam 0x0021200004 3 3 .w1c 0
def HST_EVT_MESH : Fam := fam 0x0021200004 4 4 .w1c 0
def HST_IRQ_EN_EN : Fam := fam 0x0021200008 4 0 .rw 0
def HST_LR_BASE_ADDR : Fam := fam 0x0021200010 39 12 .rw 0
def HST_LR_SIZE_LOG2 : Fam := fam 0x0021200018 3 0 .rw 8
def HST_LR_WR_IDX : Fam := fam 0x002120001C 11 0 .ro 0
def HST_LR_SEQ_SEQ : Fam := fam 0x0021200020 31 0 .ro 0
def HST_LR_RD_IDX : Fam := fam 0x0021200024 11 0 .rw 0
def HST_LR_LOST_COUNT : Fam := fam 0x0021200028 15 0 .re 0
def HST_SEAL_BASE_ADDR : Fam := fam 0x0021200030 39 12 .rw 0
def HST_SEAL_SIZE_LOG2 : Fam := fam 0x0021200038 3 0 .rw 4
def HST_SEAL_WR_IDX : Fam := fam 0x002120003C 7 0 .rw 0
def HST_SEAL_REQ_FIRST_SEQ : Fam := fam 0x0021200040 31 0 .ro 0
def HST_SEAL_DONE_FIRST_SEQ : Fam := fam 0x0021200044 31 0 .wo 0
def HST_SEAL_CNT_LATE : Fam := fam 0x0021200048 15 0 .ro 0
def HST_SEAL_CNT_SKIPPED : Fam := fam 0x0021200048 31 16 .ro 0
def HST_SEAL_STAT_PEND : Fam := fam 0x002120004C 0 0 .ro 0
def HST_SEAL_STAT_LAST : Fam := fam 0x002120004C 31 1 .ro 0
def HST_MESH_OPEN : Fam := fam 0x0021200050 0 0 .ro 0
def HST_MESH_LATCHED : Fam := fam 0x0021200050 1 1 .w1c 0

/-- Fields of the table of R64. -/
def tableR64_0 : List Fam := [
  SYSCTL_ID_DEVICE, SYSCTL_ID_SILREV, SYSCTL_ID_UNIT, SYSCTL_ID_GRADE,
  SYSCTL_PLL_STAT_SYS_LOCK, SYSCTL_PLL_STAT_SER_LOCK, SYSCTL_PLL_STAT_TCXO_OK, SYSCTL_PLL_STAT_BYPASS,
  SYSCTL_PLL_EVT_SER_LOL, SYSCTL_PLL_CTRL_SYS_EN, SYSCTL_PLL_CTRL_SER_EN, SYSCTL_PLL_CTRL_SWITCH,
  SYSCTL_CLK_AC_DIV_DIV, SYSCTL_CLK_AC_DIV_ACT, SYSCTL_CLK_STATE_RUN, SYSCTL_PWR_STATE_ON,
  SYSCTL_GATE_REQ_BLOCK, SYSCTL_GATE_REQ_OP, SYSCTL_GATE_STAT_S_STATUS, SYSCTL_GATE_STAT_S_BLOCK,
  SYSCTL_GATE_STAT_S_PEND, SYSCTL_GATE_STAT_N_STATUS, SYSCTL_GATE_STAT_N_BLOCK, SYSCTL_GATE_STAT_N_PEND,
  SYSCTL_RST_CTRL_MODULE, SYSCTL_RST_CTRL_KEY, SYSCTL_BLK_RST_BLOCK, SYSCTL_PART_RST_PART,
  SYSCTL_RST_BUSY_BLK, SYSCTL_RST_BUSY_PART, SYSCTL_RST_CAUSE_POR, SYSCTL_RST_CAUSE_SOFT,
  SYSCTL_RST_CAUSE_SYSPLL_LOL, SYSCTL_RST_CAUSE_TCXO_FAIL, SYSCTL_RST_CAUSE_LOWV, SYSCTL_RST_CAUSE_LC_CHANGE,
  SYSCTL_RST_CAUSE_DEBUG, SYSCTL_RST_CAUSE_BOOT_WDT, SYSCTL_RST_CAUSE_BOOT_RETRY, SYSCTL_RST_CAUSE_UPDATE]
/-- Fields of the table of R64. -/
def tableR64_1 : List Fam := [
  SYSCTL_IATTR_SWC_WORLD, SYSCTL_IATTR_SWC_PART, SYSCTL_IATTR_PBR_WORLD, SYSCTL_IATTR_PBR_PART,
  SYSCTL_IATTR_CHC_WORLD, SYSCTL_IATTR_CHC_PART, SYSCTL_IATTR_CAN_WORLD, SYSCTL_IATTR_CAN_PART,
  SYSCTL_IATTR_HST_WORLD, SYSCTL_IATTR_HST_PART, SYSCTL_IATTR_NVC_WORLD, SYSCTL_IATTR_NVC_PART]
/-- Fields of the table of R122. -/
def tableR122 : List Fam := [
  HST_SUP_STAT_VAUX_STATE, HST_SUP_STAT_DIP_EXT, HST_SUP_STAT_HOLDUP_WEAK, HST_SUP_STAT_VS_UV,
  HST_SUP_STAT_THROTTLE, HST_SUP_STAT_TEMP_WARN, HST_SUP_EVT_DIP, HST_SUP_EVT_DIP_EXT,
  HST_SUP_EVT_WEAK, HST_SUP_EVT_VS_UV, HST_SUP_EVT_TEMP_WARN, HST_SUP_EVT_TEMP_THROTTLE,
  HST_SUP_EVT_BP_HIGH, HST_VAUX_MV_NOW, HST_VAUX_MV_MIN, HST_VHOLD_MV_NOW,
  HST_VS_MV_A_NOW, HST_VS_MV_B_NOW, HST_VS_MV_C_NOW, HST_VS_MV_D_NOW,
  HST_HOLDUP_CAP_UF, HST_HOLDUP_CAP_VALID, HST_TEMP_CTL_DEG, HST_TEMP_PS_A_DEG,
  HST_TEMP_PS_B_DEG, HST_TEMP_PS_C_DEG, HST_TEMP_PS_D_DEG, HST_TEMP_BP_DEG]
/-- Fields of the table of R166. -/
def tableR166 : List Fam := [
  SYSCTL_LC_STATE_STATE, SYSCTL_LC_STATE_OTP_DISAGREE, SYSCTL_LC_REQ_TARGET, SYSCTL_LC_REQ_KEY,
  SYSCTL_LC_STAT_STATUS, SYSCTL_LC_STAT_PEND, SYSCTL_BOOT_STAT_STAGE, SYSCTL_BOOT_STAT_BANK,
  SYSCTL_BOOT_STAT_TRIAL, SYSCTL_BOOT_STAT_SW_CRYPTO, SYSCTL_BOOT_ERR_A, SYSCTL_BOOT_ERR_B,
  SYSCTL_BOOT_T_PART_US, SYSCTL_BOOT_T_CHAN_US, SYSCTL_BOOT_WDT_COUNT, SYSCTL_BOOT_WDT_BAR_A,
  SYSCTL_BOOT_WDT_BAR_B, SYSCTL_IMG_VER_LO_VER, SYSCTL_IMG_VER_HI_VER, SYSCTL_IMG_SEQ_SEQ,
  SYSCTL_SECVER_COUNTER, SYSCTL_SECVER_IMAGE, SYSCTL_SELFTEST_PAIR_FAIL, SYSCTL_SELFTEST_CORE_FAIL,
  SYSCTL_SELFTEST_HASH_FAIL, SYSCTL_SELFTEST_MOD_FAIL, SYSCTL_OWNER_SLOT_TRUSTED, SYSCTL_OWNER_SLOT_REVOKE,
  SYSCTL_DBG_CHAL_CHAL, SYSCTL_DBG_TOKEN_ADDR, SYSCTL_DBG_GRANT_PARTS, SYSCTL_DBG_GRANT_MINUTES_LEFT]
/-- Fields of the table of R305. -/
def tableR305 : List Fam := [
  CHI_CMD_ARG_ARG, CHI_CMD_OP, CHI_CMD_CHANNEL, CHI_CMD_SEQ,
  CHI_SEQ_NEXT_SEQ, CHI_STATE_STATE, CHI_STATE_INSTANCE, CHI_STATE_QOCC,
  CHI_STATE_QSHARE, CHI_STATE_CPL_CNT, CHI_CPL_SEQ, CHI_CPL_STATUS,
  CHI_CPL_OP, CHI_CPL_VALID, CHI_CPL_X_CHANNEL, CHI_CPL_X_DETAIL,
  CHI_CPL_X_SWEEP, CHI_REFUSE_SEQ, CHI_REFUSE_STATUS, CHI_REFUSE_COUNT,
  CHI_KICK_KEY, CHI_WDT_TIMEOUT, CHI_WDT_REMAIN, CHI_IRQ_EN_EN,
  CHI_IRQ_STAT_CPL, CHI_IRQ_STAT_EVT, CHI_IRQ_STAT_EXPIRED, CHI_SWEEP_NUM,
  CHI_OWNED_MAP, CHI_EVT_SUM_MAP, CHI_DIAG_SEL_CHANNEL, CHI_DIAG_TJ_DEG,
  CHI_DIAG_WIRE_THETA_W, CHI_DIAG_WIRE_AMB, CHI_DIAG_IRMS_IRMS, CHI_CH_COND_COND,
  CHI_CH_RECOV_RECOV, CHI_CH_MEAS_MEAS, CHI_CH_EVT_EVT]
/-- Fields of the table of R306. -/
def tableR306_0 : List Fam := [
  CHC_STAT_RUN, CHC_STAT_BANK, CHC_STAT_LOADED, CHC_STAT_CAL_SPARE,
  CHC_STAT_CAL_STOPPED, CHC_STAT_SPARE_FOR, CHC_SWEEP_NUM, CHC_EVT_UC_REVERTED,
  CHC_EVT_DEADLINE_MISS, CHC_EVT_CAL_FAULT, CHC_EVT_LOAD_DONE, CHC_MISS_CNT_COUNT,
  CHC_UC_VER0_LO_VER, CHC_UC_VER0_HI_VER, CHC_UC_VER1_LO_VER, CHC_UC_VER1_HI_VER,
  CHC_UC_SCHEMA_BANK0, CHC_UC_SCHEMA_BANK1, CHC_UC_SRC_ADDR, CHC_UC_CTRL_LOAD,
  CHC_UC_CTRL_SWAP, CHC_UC_CTRL_KEY, CHC_UC_STAT_STATUS, CHC_UC_STAT_PEND,
  CHC_CAL_STAT_FAULT, CHC_CAL_STAT_CAL_ADC, CHC_CAL_STAT_CYCLES, CHC_CAL_CORR_GAIN,
  CHC_CAL_CORR_OFFSET, CHC_GRP_RMS_RMS_1S, CHC_GRP_RMS_RMS_10MS, CHC_GRP_LOSS_MW,
  CHC_CH_CTRL_CTRL, CHC_INST_STAT_STATE, CHC_INST_STAT_QOCC, CHC_INST_STAT_CPL_CNT,
  CHC_CH_COND_COND, CHC_CH_RECOV_RECOV, CHC_CH_MEAS_MEAS, CHC_CH_EVT_EVT]
/-- Fields of the table of R306. -/
def tableR306_1 : List Fam := [
  CHC_DIAG_SEL_CHANNEL, CHC_DIAG_TJ_DEG, CHC_DIAG_WIRE_THETA_W, CHC_DIAG_WIRE_AMB,
  CHC_DIAG_IRMS_IRMS, CHC_EVT_SUM_MAP]
/-- Fields of the table of R316. -/
def tableR316 : List Fam := [
  UIN_CFG_MODE, UIN_CFG_THRESH, UIN_CFG_HYST, UIN_CFG_FILT,
  UIN_CFG_DEBOUNCE, UIN_CFG_INVERT, UIN_CFG_NTC_SET, UIN_VAL_VALUE,
  UIN_VAL_VALID, UIN_VAL_FAULT, UIN_VAL_FAULT_KIND, UIN_VAL_LEVEL,
  UIN_VAL_CFG_BAD, UIN_RES_OHM, UIN_PULSE_COUNT, UIN_EDGE_EDGE,
  UIN_FAULT_EVT_FAULT, UIN_STAT_EXCITE, UIN_STAT_FRAME, UIN_NTC_R25_OHM,
  UIN_NTC_B_KELVIN]
/-- Fields of the table of R330. -/
def tableR330 : List Fam := [
  LSS_LOC_INFO_PAIR, LSS_LOC_INFO_PART, LSS_LOC_INFO_WINDOW, LSS_LOC_INFO_SAFE_VALID,
  LSS_LOC_MTIME_US, LSS_LOC_MTIMECMP_US, LSS_LOC_EVT_WERR, LSS_LOC_EVT_MIGRATED,
  LSS_LOC_EVT_REPLAYED, LSS_LOC_MIGCNT_COUNT]
/-- Fields of the table of R363. -/
def tableR363_0 : List Fam := [
  LSS_CFG_FH_PAIR, LSS_CFG_FH_NONE, LSS_CFG_REPLAY_LIMIT, LSS_PAIR_STAT_STATE,
  LSS_PAIR_STAT_PART, LSS_PAIR_STAT_WINDOW, LSS_PAIR_STAT_LOCKSTEP_BROKEN, LSS_PAIR_STAT_FAIL_CAUSE,
  LSS_PAIR_REPLAY_RECENT, LSS_PAIR_REPLAY_TOTAL, LSS_PAIR_EARLY_COUNT, LSS_EVT_REPLAY,
  LSS_EVT_FAULT, LSS_EVT_MIGRATED, LSS_EVT_STOPPED, LSS_EVT_WERR,
  LSS_EVT_SELFTEST_FAIL, LSS_EVT_SPLIT, LSS_IRQ_EN_EN, LSS_CTRL_OP,
  LSS_CTRL_PAIR, LSS_CTRL_PART, LSS_CTRL_KEY, LSS_CTRL_STAT_STATUS,
  LSS_CTRL_STAT_PEND, LSS_MIG_LOG0_FROM, LSS_MIG_LOG0_TO, LSS_MIG_LOG0_PART,
  LSS_MIG_LOG0_KIND, LSS_MIG_LOG0_NS100, LSS_MIG_LOG1_WINDOW, LSS_MIG_CNT_COUNT,
  LSS_WERR_ADDR_ADDR, LSS_WERR_INFO_STATUS, LSS_WERR_INFO_PAIR, LSS_WERR_INFO_PART,
  LSS_WERR_INFO_COUNT, LSS_MTIME_US, LSS_PART_STATE, LSS_PART_PAIR]
/-- Fields of the table of R363. -/
def tableR363_1 : List Fam := [
  LSS_PART_SAFE_VALID, LSS_INJ_RES_MISSED, LSS_INJ_RES_FALSE_FLAG, LSS_INJ_RES_PASS,
  LSS_INJ_RES_RUNS]
/-- Fields of the table of R397. -/
def tableR397_0 : List Fam := [
  FAB_CTRL_ENFORCE, FAB_LOG_BASE_ADDR, FAB_LOG_WR_IDX, FAB_LOG_WR_SEQ,
  FAB_LOG_RD_IDX, FAB_LOG_LOST_COUNT, FAB_LOG_CTRL_COALESCE, FAB_EVT_NEW,
  FAB_EVT_LOST, FAB_EVT_UNCORR, FAB_EVT_SEAM, FAB_EVT_RE_LIMIT,
  FAB_IRQ_EN_EN, FAB_CNT_DENY_COUNT, FAB_CNT_UNMAPPED_COUNT, FAB_CNT_OTHER_COUNT,
  FAB_CNT_SPEC_COUNT, FAB_MG_CNT_REBUILT, FAB_MG_CNT_TRANSIENT, FAB_MG_CNT_UNCORR,
  FAB_SCRUB_STAT_PASSES, FAB_SCRUB_STAT_REQ_BUSY, FAB_SCRUB_STAT_PROGRESS, FAB_SCRUB_REQ_MEM,
  FAB_QR_BASE_ADDR, FAB_QR_CTRL_ACTIVE, FAB_QR_CTRL_OWNER, FAB_QR_LEN_LEN,
  FAB_STG_BASE_BASE, FAB_STG_LIMIT_LIMIT, FAB_STG_KEY_INIT, FAB_STG_KEY_INIT_MASK,
  FAB_STG_KEY_NORMAL, FAB_STG_KEY_SECURE, FAB_STG_KEY_PERM, FAB_STG_KEY_EN,
  FAB_STG_KEY_LOCK, FAB_STG_PART_MASK, FAB_COMMIT_TARGET, FAB_COMMIT_REGION]
/-- Fields of the table of R397. -/
def tableR397_1 : List Fam := [
  FAB_COMMIT_KEY, FAB_COMMIT_STAT_STATUS, FAB_COMMIT_STAT_PEND, FAB_RGN_BASE_BASE,
  FAB_RGN_LIMIT_LIMIT, FAB_RGN_KEY_KEY, FAB_RGN_PART_MASK]
/-- Fields of the table of R431. -/
def tableR431 : List Fam := [
  WCT_LOCK_WORLD_LOCK, WCT_STAT_SEC_STATE, WCT_STAT_RESTARTS, WCT_STAT_L2_DEFAULT,
  WCT_STAT_FRAME_HELD, WCT_EVT_SWDT_EXPIRED, WCT_EVT_SEC_FAILED, WCT_EVT_ROUTE_MASKED,
  WCT_EVT_DEFER_END, WCT_EVT_SEC_READY, WCT_IRQ_EN_EN, WCT_SEC_CTRL_READY,
  WCT_SEC_CTRL_KEY, WCT_SWDT_KICK_KEY, WCT_SWDT_REMAIN_US, WCT_RESTART_CNT_TOTAL,
  WCT_CFG_SVC_CORE, WCT_CFG_SEC_PART, WCT_CFG_HOST_PART, WCT_CFG_AC_PARTS,
  WCT_L2_WAYS_SECURE, WCT_MAP_SRC_ADDR, WCT_MAP_LOAD_LOAD, WCT_MAP_STAT_STATUS,
  WCT_BLK_WORLD, WCT_BLK_GATE, WCT_HOLD_COUNT, WCT_HOLD_CTRL_BLOCK,
  WCT_HOLD_CTRL_OP, WCT_HOLD_STAT_STATUS, WCT_DEFER_BLOCK, WCT_DEFER_OP,
  WCT_DEFER_PEND, WCT_DEFER_CANCEL_CANCEL, WCT_IRQ_WORLD_SECURE, WCT_INST_WORLD_SECURE,
  WCT_VMID_VMID, WCT_VMID_PART, WCT_VMID_VALID]
/-- Fields of the table of R438. -/
def tableR438 : List Fam := [
  INST_ID_PAGE, INST_ID_CLASS, INST_ID_WORLD, INST_ID_PART,
  INST_GEN_GEN, INST_GEN_FENCE, INST_SHARE_SHARE, INST_SHARE_WEIGHT,
  INST_OCC_OCC, INST_STALE_COUNT, INST_FLAGS_QUIESCE, INST_FLAGS_QUIESCE_DONE,
  INST_EVT_RESET, INST_EVT_SHARE, INST_EVT_QUIESCE, INST_EVT_RESUME,
  INST_EVT_FENCE_FORCED, INST_IRQ_EN_EN, INST_RESET_KEY, INST_RESET_STAT_STATUS,
  INST_RESET_STAT_PEND]
/-- Fields of the table of R458. -/
def tableR458 : List Fam := [
  IMG_CTRL_OP, IMG_CTRL_PAGE, IMG_CTRL_KEY, IMG_ARG_PART,
  IMG_ARG_WEIGHT, IMG_ARG_SHARE, IMG_CTRL_STAT_STATUS, IMG_CTRL_STAT_PEND,
  IMG_CTRL_STAT_PAGE, IMG_EVT_DONE, IMG_EVT_QUIESCE_DONE, IMG_EVT_FENCE_FORCED,
  IMG_EVT_CFG_BAD, IMG_IRQ_EN_EN, IMG_POOL_SUM, IMG_POOL_SIZE,
  IMG_INST_CFG_ASSIGNED, IMG_INST_CFG_PART, IMG_INST_CFG_WORLD, IMG_INST_CFG_CLASS,
  IMG_INST_SHARE_SHARE, IMG_INST_SHARE_WEIGHT, IMG_INST_STAT_GEN, IMG_INST_STAT_PEND,
  IMG_INST_STAT_QUIESCE, IMG_INST_STAT_QUIESCE_DONE, IMG_INST_STAT_CFG_BAD, IMG_INST_STAT_OCC,
  IMG_INST_STALE_COUNT, IMG_INST_STALE_RESETS]
/-- Fields of the table of R510. -/
def tableR510_0 : List Fam := [
  SWC_CTRL_FWD_EN, SWC_CTRL_SPORE_EN, SWC_CTRL_SPORE_DROPS, SWC_STAT_FREE,
  SWC_STAT_FREE_SHARED, SWC_DESC_STAT_FRAMES, SWC_DESC_STAT_COPIES, SWC_PFC_HDRM_CELLS,
  SWC_AGE_LIMIT_MS, SWC_AGING_SECONDS, SWC_AGING_EN, SWC_LEARN_STAT_DYNAMIC,
  SWC_LEARN_FULL_COUNT, SWC_EVT_DRAINED, SWC_EVT_SPORE_LOST, SWC_EVT_SPORE_FAIL,
  SWC_EVT_TABLE_ERR, SWC_EVT_BUF_PARITY, SWC_EVT_LEARN_FULL, SWC_EVT_TBL_DONE,
  SWC_IRQ_EN_EN, SWC_EPOCH_EPOCH, SWC_EPOCH_OLDEST_EPOCH, SWC_DRAIN_REQ_EPOCH,
  SWC_DRAIN_STAT_DRAINED, SWC_TBL_CMD_OP, SWC_TBL_CMD_TABLE, SWC_TBL_CMD_INDEX,
  SWC_TBL_STAT_STATUS, SWC_TBL_STAT_PEND, SWC_TBL_STAT_INDEX, SWC_TBL_EPOCH_EPOCH,
  SWC_TBL_COUNT_REMOVED, SWC_TBL_ERR_TABLE, SWC_TBL_ERR_INDEX, SWC_TBL_ERR_VALID,
  SWC_AGENT_CFG_TRAP, SWC_CNT_SEL_PORT, SWC_CNT_SEL_KIND, SWC_CNT_VAL_VALUE]
/-- Fields of the table of R510. -/
def tableR510_1 : List Fam := [
  SWC_TBL_DATA_DATA, SWC_SPORE_BASE_ADDR, SWC_SPORE_SIZE_LOG2, SWC_SPORE_WR_IDX,
  SWC_SPORE_WR_SEQ, SWC_SPORE_RD_IDX, SWC_SPORE_LOST_COUNT, SWC_PORT_A_EN,
  SWC_PORT_A_LEARN, SWC_PORT_A_CT_EN, SWC_PORT_A_ING_FILTER, SWC_PORT_A_ACCEPT,
  SWC_PORT_A_PVID, SWC_PORT_A_DEF_CLASS, SWC_PORT_B_PCP_MAP, SWC_PORT_B_LOSSLESS,
  SWC_PORT_C_SAMPLE_N, SWC_PORT_C_SP_FLOOR, SWC_PORT_STAT_LINK, SWC_PORT_STAT_XOFF,
  SWC_QCFG_MIN_CELLS, SWC_QCFG_ALPHA, SWC_QCFG_WEIGHT, SWC_QPFC_XOFF_TH,
  SWC_QPFC_XON_TH, SWC_QSTAT_CELLS, SWC_QSTAT_COPIES, SWC_QING_CELLS]
/-- Fields of the table of R550. -/
def tableR550_0 : List Fam := [
  MAC_CTRL_TX_EN, MAC_CTRL_RX_EN, MAC_CTRL_FC_MODE, MAC_CTRL_MAX_LEN,
  MAC_STAT_LINK, MAC_STAT_HELD, MAC_STAT_PAUSE_IGN, MAC_STAT_LOCAL_FAULT,
  MAC_STAT_REMOTE_FAULT, MAC_EVT_LINK_CHG, MAC_EVT_PAUSE_WDT, MAC_EVT_TS_LOST,
  MAC_EVT_WAKE_MATCH, MAC_EVT_SQI_LOW, MAC_EVT_PHY_FW_BAD, MAC_IRQ_EN_EN,
  MAC_PAUSE_CFG_QUANTA, MAC_PAUSE_CFG_REFRESH, MAC_PAUSE_WDT_MS, MAC_PAUSE_IGN_REMAIN_MS,
  MAC_CBS_IDLE_SLOPE, MAC_CBS_CREDIT_BITS, MAC_TXTS_STAT_OCC, MAC_TXTS_STAT_LOST_PEND,
  MAC_TXTS_LOST_COUNT, MAC_CNT_SEL_KIND, MAC_CNT_VAL_VALUE, MAC_ADDR_LO_ADDR,
  MAC_ADDR_HI_ADDR, MAC_WAKE_CTRL_EN, MAC_WAKE_HIT_HIT, MAC_WAKE_MASK_MASK,
  MAC_WAKE_CRC_CHECK, MAC_PHY_CTRL_EN, MAC_PHY_CTRL_MS_CFG, MAC_PHY_CTRL_SQI_WARN,
  MAC_PHY_CTRL_PLCA_EN, MAC_PHY_CTRL_NODE_ID, MAC_PHY_CTRL_NODE_COUNT, MAC_PHY_CTRL_TO_TIMER]
/-- Fields of the table of R550. -/
def tableR550_1 : List Fam := [
  MAC_PHY_CTRL_BURST_MAX, MAC_PHY_STAT_LINK, MAC_PHY_STAT_ENERGY, MAC_PHY_STAT_SQI,
  MAC_PHY_STAT_ROM_FW, MAC_PHY_STAT_FW_VER]
/-- Fields of the table of R551. -/
def tableR551 : List Fam := [
  HDMA_EVT_RX_PARTIAL, HDMA_EVT_RX_DROP, HDMA_EVT_DMA_ERR, HDMA_IRQ_EN_EN,
  HDMA_PARKED_MAP, HDMA_RX_MAP_HQ, HDMA_HQ_PERM_DIRECT_OK, HDMA_HQ_PERM_PORTS,
  HDMA_CNT_SEL_HQ, HDMA_CNT_SEL_KIND, HDMA_CNT_VAL_VALUE]
/-- Fields of the table of R552. -/
def tableR552 : List Fam := [
  HQ_RX_BASE_ADDR, HQ_RX_CFG_LOG2SZ, HQ_RX_CFG_EN, HQ_RX_TAIL_IDX,
  HQ_RX_HEAD_IDX, HQ_TX_BASE_ADDR, HQ_TX_CFG_LOG2SZ, HQ_TX_CFG_EN,
  HQ_TX_TAIL_IDX, HQ_TX_HEAD_IDX, HQ_IRQ_EN_EN, HQ_IRQ_STAT_RX,
  HQ_IRQ_STAT_TX, HQ_IRQ_STAT_RX_PARTIAL, HQ_IRQ_STAT_ERR, HQ_IRQ_MOD_US,
  HQ_STAT_PARKED, HQ_STAT_STALL_US, HQ_RX_DROP_COUNT, HQ_RX_PARTIAL_COUNT,
  HQ_ERR_STATUS, HQ_ERR_TX, HQ_ERR_ADDR_ADDR]
/-- Fields of the table of R586. -/
def tableR586_0 : List Fam := [
  TMU_CTRL_SERVO_EN, TMU_CTRL_SRC, TMU_CTRL_STEP_EN, TMU_STAT_STATE,
  TMU_STAT_LOCK_RUN, TMU_EVT_STEPPED, TMU_EVT_LOCKED, TMU_EVT_HOLDOVER,
  TMU_EVT_PPS_MISS, TMU_EVT_EVI, TMU_EVT_EVI_OVF, TMU_EVT_OUT_LATE,
  TMU_EVT_TMR, TMU_EVT_SET_DONE, TMU_IRQ_EN_EN, TMU_NOW_SEC_LO_SEC,
  TMU_NOW_SEC_HI_SEC, TMU_NOW_NS_NS, TMU_NOW_FRAC_FRAC, TMU_NOW64_T,
  TMU_NOW_US_US, TMU_NOW_US_HI_US, TMU_RATE_RATE, TMU_UTC_OFS_SEC,
  TMU_UTC_OFS_LEAP61, TMU_UTC_OFS_LEAP59, TMU_SET_SEC_LO_SEC, TMU_SET_SEC_HI_SEC,
  TMU_SET_NS_NS, TMU_SET_CMD_OP, TMU_SET_CMD_KEY, TMU_ADJ_NS_NS,
  TMU_SET_STAT_STATUS, TMU_SET_STAT_PEND, TMU_SRV_OFS_NS, TMU_SRV_CFG_KP,
  TMU_SRV_CFG_KI, TMU_SRV_CFG2_LOG_INT, TMU_SRV_CFG2_LOCK_NS, TMU_SRV_LAST_NS]
/-- Fields of the table of R586. -/
def tableR586_1 : List Fam := [
  TMU_SRV_INTEG_I, TMU_SRV_CTRL_RESELECT, TMU_SRV_CTRL_SRV_RESET, TMU_STEP_CNT_COUNT,
  TMU_STEP_CNT_SRV_BAD, TMU_TOD_SEC_LO_SEC, TMU_TOD_SEC_HI, TMU_TOD_VALID,
  TMU_PPS_IN_CAP_T, TMU_PPS_OUT_WIDTH_US, TMU_PPS_OUT_EN, TMU_PPS_OUT_ADV_ADV_NS,
  TMU_EVI_CTRL_EDGE, TMU_EVI_CTRL_OCC, TMU_EVI_CTRL_OVF_CNT, TMU_EVI_SEC_SEC,
  TMU_EVI_NS_NS, TMU_EVI_NS_FALL, TMU_EVI_NS_VALID, TMU_EVO_CTRL_MODE,
  TMU_EVO_CTRL_LEVEL, TMU_EVO_START_SEC_SEC, TMU_EVO_START_NS_NS, TMU_EVO_PERIOD_NS,
  TMU_EVO_WIDTH_NS, TMU_EVO_STAT_ARMED, TMU_EVO_STAT_OUT_LATE, TMU_TMR_CTRL_EN,
  TMU_TMR_CTRL_PERIODIC, TMU_TMR_LOAD_US, TMU_TMR_REMAIN_US, TMU_TMR_EVT_EXPIRED,
  TMU_PORT_LAT_RX_NS, TMU_PORT_LAT_TX_NS, TMU_PORT_TC_TC_MODE, TMU_PORT_LINK_LINK_DELAY_NS]
/-- Fields of the table of R619. -/
def tableR619_0 : List Fam := [
  CAN_CTRL_MODE, CAN_CTRL_AUTO_RECOV, CAN_CTRL_DPX_EN, CAN_CTRL_XCVR,
  CAN_CTRL_FD_EN, CAN_CTRL_XL_EN, CAN_CTRL_FAST, CAN_STAT_STATE,
  CAN_STAT_ALONE, CAN_STAT_SYNCED, CAN_STAT_RECOVERING, CAN_STAT_XCVR_SLEEP,
  CAN_STAT_DOM_TIMEOUT, CAN_STAT_ALONE_RUN, CAN_ERR_TEC, CAN_ERR_REC,
  CAN_ERR_LEC, CAN_ERR_DLEC, CAN_ERR_BUSOFF_CNT, CAN_EVT_RX_NEW,
  CAN_EVT_TX_DONE, CAN_EVT_OVERRUN, CAN_EVT_ALONE, CAN_EVT_ERR_PASSIVE,
  CAN_EVT_BUS_OFF, CAN_EVT_RECOVERED, CAN_EVT_XL_RX, CAN_EVT_XL_TX,
  CAN_EVT_XL_DROP, CAN_EVT_DMA_ERR, CAN_EVT_CFG_IGNORED, CAN_EVT_WRITE_IGNORED,
  CAN_IRQ_EN_EN, CAN_CMD_OBJ, CAN_CMD_OP, CAN_CMD_STAT_STATUS,
  CAN_CMD_STAT_OBJ, CAN_CMD_STAT_OP, CAN_NBT_BRP, CAN_NBT_SEG1]
/-- Fields of the table of R619. -/
def tableR619_1 : List Fam := [
  CAN_NBT_SEG2, CAN_NBT_SJW, CAN_DBT_BRP, CAN_XBT_BRP,
  CAN_DBT_SEG1, CAN_XBT_SEG1, CAN_DBT_SEG2, CAN_XBT_SEG2,
  CAN_DBT_SJW, CAN_XBT_SJW, CAN_DBT_TDCO, CAN_XBT_TDCO,
  CAN_DBT_TDC_EN, CAN_XBT_TDC_EN, CAN_TDC_STAT_DELAY, CAN_RX_NEW_MAP,
  CAN_TX_END_MAP, CAN_RX_FRAMES_COUNT, CAN_TX_FRAMES_COUNT, CAN_RX_NOMATCH_COUNT,
  CAN_XL_DROP_COUNT, CAN_XTX_BASE_ADDR, CAN_XTX_CFG_LOG2SZ, CAN_XTX_CFG_EN,
  CAN_XTX_TAIL_IDX, CAN_XTX_HEAD_IDX, CAN_XRX_BASE_ADDR, CAN_XRX_CFG_LOG2SZ,
  CAN_XRX_CFG_EN, CAN_XRX_TAIL_IDX, CAN_XRX_HEAD_IDX, CAN_XERR_STATUS,
  CAN_XERR_TX, CAN_XERR_ADDR_ADDR, CAN_XFLT_A_PRIO, CAN_XFLT_A_PRIO_MASK,
  CAN_XFLT_A_EN, CAN_XFLT_B_VCID, CAN_XFLT_B_VCID_MASK, CAN_XFLT_B_SDT]
/-- Fields of the table of R619. -/
def tableR619_2 : List Fam := [
  CAN_XFLT_B_SDT_CMP]
/-- Fields of the table of R620. -/
def tableR620 : List Fam := [
  CAN_OBJ_CFG_EN, CAN_OBJ_CFG_DIR, CAN_OBJ_CFG_FMT, CAN_OBJ_CFG_IDE,
  CAN_OBJ_CFG_IDE_ANY, CAN_OBJ_CFG_RMT, CAN_OBJ_ID_ID, CAN_OBJ_MASK_MASK,
  CAN_OBJ_CTRL_DLC, CAN_OBJ_STAT_VALID, CAN_OBJ_STAT_OPEN, CAN_OBJ_STAT_SHADOW_FULL,
  CAN_OBJ_STAT_OVERRUN, CAN_OBJ_STAT_TX_PENDING, CAN_OBJ_STAT_CANCEL_PEND, CAN_OBJ_STAT_SENT,
  CAN_OBJ_STAT_STATUS, CAN_OBJ_STAT_ATTEMPTS, CAN_OBJ_TS_US, CAN_OBJ_RXINFO_EPOCH,
  CAN_OBJ_RXINFO_DLC, CAN_OBJ_RXINFO_FDF, CAN_OBJ_RXINFO_BRS, CAN_OBJ_RXINFO_ESI,
  CAN_OBJ_RXINFO_RMT, CAN_OBJ_RXID_ID, CAN_OBJ_RXID_IDE, CAN_OBJ_DATA_DATA]
/-- Fields of the table of R646. -/
def tableR646_0 : List Fam := [
  NPM_CMD_OP, NPM_CMD_SEG, NPM_CMD_KEY, NPM_CMD_STAT_STATUS,
  NPM_CMD_STAT_PEND, NPM_EVT_SLEPT, NPM_EVT_WOKE, NPM_EVT_ROUND_END,
  NPM_EVT_FALSE_WAKE, NPM_EVT_STORM, NPM_EVT_PROPOSAL_RX, NPM_EVT_TMU_RESET,
  NPM_IRQ_EN_EN, NPM_HOLD_SEGS, NPM_STORM_SEGS, NPM_ASLEEP_SEGS,
  NPM_TIMING0_REST_WAIT, NPM_TIMING0_REST_GRACE, NPM_TIMING1_WAKE_TIMEOUT, NPM_NODE_NODE_ID,
  NPM_ETH_DA_LO_ADDR, NPM_ETH_DA_HI_ADDR, NPM_WAKE_IN_SEGS, NPM_WAKE_IN_EN,
  NPM_WT_CFG_SEGS, NPM_WT_CFG_EN, NPM_WT_CFG_PERIODIC, NPM_WT_LOAD_US,
  NPM_SEG_CFG_EN, NPM_SEG_CFG_AUTO, NPM_SEG_CFG_IDLE_S, NPM_SEG_CFG_PATTERN_REQ,
  NPM_SEG_CFG_WAKE_ON_TX, NPM_SEG_CFG_TX_OBJ, NPM_SEG_CFG_REST_ID, NPM_SEG_STAT_STATE,
  NPM_SEG_STAT_PHASE, NPM_SEG_STAT_SRC, NPM_SEG_STAT_DETAIL, NPM_SEG_STAT_OUTCOME]
/-- Fields of the table of R646. -/
def tableR646_1 : List Fam := [
  NPM_SEG_STAT_SEQ, NPM_SEG_STAT_FALSE_RUN, NPM_SEG_STAT_STORM, NPM_SEG_WTIME_US,
  NPM_SEG_CNT_WAKES, NPM_SEG_CNT_FALSE]
/-- Fields of the table of R680. -/
def tableR680 : List Fam := [
  CPE_STAT_BUSY, CPE_STAT_FENCED, CPE_STAT_HASH_FAIL, CPE_STAT_MA_FAIL,
  CPE_STAT_GLITCH, CPE_STAT_QR_WAIT, CPE_EVT_FENCE, CPE_EVT_RECOMPUTE,
  CPE_EVT_ALARM, CPE_EVT_QR_WAIT, CPE_IRQ_EN_EN, CPE_CORE_STAT_INST,
  CPE_CORE_STAT_BUSY, CPE_CORE_STAT_RECOMPUTES, CPE_CNT_SEL_INST, CPE_CNT_SEL_KIND,
  CPE_CNT_VAL_VALUE]
/-- Fields of the table of R681. -/
def tableR681 : List Fam := [
  CPI_SUB_ADDR_ADDR, CPI_SUBMIT_ADDR_HI, CPI_SUBMIT_TAG, CPI_REFUSE_TAG,
  CPI_REFUSE_STATUS, CPI_REFUSE_COUNT, CPI_STATE_CPL_CNT, CPI_STATE_NO_CORE,
  CPI_CPL_TAG, CPI_CPL_STATUS, CPI_CPL_MODE, CPI_CPL_DIR,
  CPI_CPL_VALID, CPI_CPL_X_DONE_LEN, CPI_CPL_X_CLASS, CPI_IRQ_EN_CPL,
  CPI_IRQ_STAT_CPL, CPI_TAGFAIL_COUNT]
/-- Fields of the table of R682. -/
def tableR682 : List Fam := [
  KST_LOCK_REQ_AGENT, KST_LOCK_REQ_RELEASE, KST_LOCK_STAT_HOLDER, KST_LOCK_STAT_REVOKED,
  KST_LOCK_STAT_HELD_US, KST_OP_OP, KST_OP_SLOT, KST_OP_SRC_SLOT,
  KST_OP_AGENT, KST_OP_STAT_STATUS, KST_OP_STAT_PEND, KST_OP_STAT_GEN,
  KST_ATTR_KSIZE, KST_ATTR_USAGE, KST_ATTR_MODES, KST_ATTR_WORLD,
  KST_OWNER_LO_MASK, KST_OWNER_HI_MASK, KST_STAT_MESH_OPEN, KST_STAT_ROOT_EN,
  KST_STAT_GLITCH, KST_EVT_MESH, KST_EVT_REVOKED, KST_EVT_OP_DONE,
  KST_IRQ_EN_EN, KST_PARAM_DATA, KST_SLOT_ATTR_VALID, KST_SLOT_ATTR_KSIZE,
  KST_SLOT_ATTR_USAGE, KST_SLOT_ATTR_MODES, KST_SLOT_ATTR_WORLD, KST_SLOT_ATTR_SOURCE,
  KST_SLOT_GEN_GEN, KST_SLOT_OWN_LO_MASK, KST_SLOT_OWN_HI_MASK]
/-- Fields of the table of R725. -/
def tableR725_0 : List Fam := [
  DPX_CFG_EN, DPX_CFG_REVERT_EN, DPX_CFG_CAN_EN, DPX_CFG_CAN_SEL,
  DPX_CFG_UPLINKS, DPX_CFG_UNIT, DPX_PAIR_ID_ID, DPX_TIMING_CYCLE_US,
  DPX_TIMING_REVERT_HOLD_S, DPX_SUP_CFG_SUP_WDT_US, DPX_SUP_CFG_SUP_PART, DPX_STATE_ROLE,
  DPX_STATE_DRIVE, DPX_STATE_FULL, DPX_STATE_HO_OUT, DPX_STATE_DEGRADED,
  DPX_STATE_HEM_DISTRUST, DPX_STATE_COLLAR_OUT, DPX_STATE_COLLAR_IN, DPX_STATE_COLLAR_OPEN,
  DPX_STATE_COLLAR_CONFLICT, DPX_STATE_PEER_ROLE, DPX_STATE_PEER_HEARD, DPX_STATE_CLASH,
  DPX_FIT_OWN, DPX_FIT_PEER, DPX_EVT_TAKEOVER, DPX_EVT_HANDOVER_IN,
  DPX_EVT_HANDOVER_OUT, DPX_EVT_ABORT, DPX_EVT_DUAL, DPX_EVT_YIELD,
  DPX_EVT_RELEASED, DPX_EVT_COLLAR_OPEN, DPX_EVT_PATH_LOST, DPX_EVT_PATH_RESTORED,
  DPX_EVT_READY, DPX_EVT_NOT_READY, DPX_EVT_INCOMPATIBLE, DPX_EVT_SELFTEST_FAIL]
/-- Fields of the table of R725. -/
def tableR725_1 : List Fam := [
  DPX_EVT_CYCLE, DPX_EVT_SNAP_DONE, DPX_EVT_COLD_START, DPX_IRQ_EN_EN,
  DPX_PATH_AGE_US, DPX_PATH_HEARD, DPX_PATH_LOST, DPX_PATH_LOSSES,
  DPX_SUP_KICK_KEY, DPX_SUP_STAT_REMAIN_US, DPX_CTRL_OP, DPX_CTRL_KEY,
  DPX_CTRL_STAT_STATUS, DPX_CTRL_STAT_PEND, DPX_LAST_TO_CAUSE, DPX_LAST_TO_DECIDE_US,
  DPX_LAST_TO_ENGAGE_US, DPX_LAST_TO_TIME_US, DPX_COUNT_TAKEOVERS, DPX_COUNT_HANDOVERS,
  DPX_MIRROR_SWEEP, DPX_MIRROR_MISS_COUNT, DPX_CYCLE_NUM, DPX_SNAP_READY_REGIONS,
  DPX_SNAP_STAT_COPIED, DPX_SNAP_STAT_BUSY, DPX_SNAP_CYCLE_NUM, DPX_SNAP_AGE_CYCLES,
  DPX_HEM_CONFLICT_MAP, DPX_PULSE_FAIL_MAP, DPX_COV_DIAG_AGE_MS, DPX_COV_PULSE_AGE_S,
  DPX_COV_PULSE_PASSES, DPX_COV_PAIRS_AGE_S, DPX_COV_SCRUB_AGE_S, DPX_SNAP_LOC_ADDR,
  DPX_SNAP_LOC_PART, DPX_SNAP_DST_ADDR, DPX_SNAP_DST_LEN, DPX_PEER_MAC_LO_ADDR]
/-- Fields of the table of R725. -/
def tableR725_2 : List Fam := [
  DPX_PEER_MAC_HI_ADDR, DPX_PEER_MAC_HI_VID, DPX_CAN_ID_ID, DPX_WAKE_FWD_SEGS]
/-- Fields of the table of R756. -/
def tableR756_0 : List Fam := [
  PBR_CTRL_EN, PBR_STAT_LINK, PBR_STAT_PATH, PBR_STAT_BLOCKED,
  PBR_STAT_PEER_BLOCKED, PBR_STAT_RETRACTED, PBR_STAT_OUT_OCC, PBR_STAT_IN_OCC,
  PBR_STAT_HOLD_OCC, PBR_SESSION_OWN, PBR_SESSION_PEER, PBR_EVT_LINK_UP,
  PBR_EVT_LINK_DOWN, PBR_EVT_CROSS, PBR_EVT_PREFETCH_LOSS, PBR_EVT_REMOTE_ERR,
  PBR_EVT_DB, PBR_EVT_IN_DENY, PBR_IRQ_EN_EN, PBR_DB_OUT_BITS,
  PBR_DB_IN_BITS, PBR_DB_EN_BITS, PBR_CNT_RETX_COUNT, PBR_CNT_CROSS_COUNT,
  PBR_CNT_CROSS_DOWNS, PBR_CNT_LOSS_COUNT, PBR_CNT_BAD_COUNT, PBR_LAST_LOSS_ADDR,
  PBR_SEM_STAT_HELD, PBR_SEM_CNT_SC_FAIL, PBR_WIN_A_SIZE_LOG2, PBR_WIN_A_EN,
  PBR_WIN_A_PREFETCH, PBR_WIN_A_READ, PBR_WIN_A_WRITE, PBR_WIN_A_OFF,
  PBR_WIN_B_PEER_BASE, PBR_IN_BASE_BASE, PBR_IN_LIMIT_LIMIT, PBR_IN_KEY_PARTS]
/-- Fields of the table of R756. -/
def tableR756_1 : List Fam := [
  PBR_IN_KEY_NORMAL, PBR_IN_KEY_SECURE, PBR_IN_KEY_R, PBR_IN_KEY_W,
  PBR_IN_KEY_A, PBR_IN_KEY_EN, PBR_IN_KEY_EXEC_PART, PBR_IN_KEY_EXEC_WORLD]
/-- Fields of the table of R796. -/
def tableR796 : List Fam := [
  NVC_EVT_CHUNK, NVC_EVT_STG_DONE, NVC_EVT_HO_REQ, NVC_EVT_ACT_DONE,
  NVC_EVT_PROB_FAIL, NVC_EVT_PASSED, NVC_EVT_COMMIT_DONE, NVC_IRQ_EN_EN,
  NVC_CHUNK_ADDR_ADDR, NVC_CHUNK_SUB_INDEX, NVC_CHUNK_SUB_KEY, NVC_CHUNK_STAT_STATUS,
  NVC_CHUNK_STAT_PEND, NVC_CHUNK_STAT_INDEX, NVC_STG_COUNT_STAGED, NVC_STG_COUNT_TOTAL,
  NVC_STG_STAT_STATE, NVC_STG_STAT_BANK, NVC_STG_STAT_CHECK, NVC_MISS_FIRST_INDEX,
  NVC_MISS_SEL_WORD, NVC_MISS_WORD_MAP, NVC_PEER_STG_STAGED, NVC_PEER_STG_MATCH,
  NVC_PEER_STG_VALID, NVC_UPD_STAT_PHASE, NVC_UPD_STAT_NEXT, NVC_UPD_STAT_NEXT_NONE,
  NVC_UPD_STAT_LAST_STATUS, NVC_UPD_STAT_ACTIVATED, NVC_UPD_PROB_REMAIN_S, NVC_UPD_FAIL_COMPONENT,
  NVC_UPD_FAIL_CAUSE, NVC_HO_REQ_PARTS, NVC_HO_READY_PART, NVC_HO_CFG_HO_WAIT_MS,
  NVC_BROM_SLOTS_USED, NVC_BROM_SLOTS_REVOKED, NVC_PEER_MAP_WORD]
/-- Fields of the table of R817. -/
def tableR817 : List Fam := [
  MBX_STAT_USED, MBX_EVT_FINAL, MBX_EVT_REFUSED, MBX_IRQ_EN_EN,
  MBX_LANE_HANDLE, MBX_LANE_QUEUED, MBX_LANE_BUSY, MBX_PERM_CLASS,
  MBX_QUOTA_MAX, MBX_ARG_ARG, MBX_GO_OP, MBX_GO_SESSION,
  MBX_CPL_SESSION, MBX_CPL_STATUS, MBX_CPL_OP, MBX_CPL_VALID,
  MBX_CPL_X_HANDLE, MBX_CPL_X_STATE, MBX_CPL_R0_RESULT, MBX_CPL_R1_RESULT,
  MBX_WIN_STAT_CPL_CNT, MBX_WIN_STAT_HELD, MBX_WIN_IRQ_EN_CPL, MBX_WIN_IRQ_STAT_CPL,
  MBX_OWN_MAP]
/-- Fields of the table of R818. -/
def tableR818 : List Fam := [
  HST_CTRL_LR_EN, HST_EVT_SEAL_REQ, HST_EVT_SEAL_LATE, HST_EVT_LR_FAIL,
  HST_EVT_LR_LOST, HST_EVT_MESH, HST_IRQ_EN_EN, HST_LR_BASE_ADDR,
  HST_LR_SIZE_LOG2, HST_LR_WR_IDX, HST_LR_SEQ_SEQ, HST_LR_RD_IDX,
  HST_LR_LOST_COUNT, HST_SEAL_BASE_ADDR, HST_SEAL_SIZE_LOG2, HST_SEAL_WR_IDX,
  HST_SEAL_REQ_FIRST_SEQ, HST_SEAL_DONE_FIRST_SEQ, HST_SEAL_CNT_LATE, HST_SEAL_CNT_SKIPPED,
  HST_SEAL_STAT_PEND, HST_SEAL_STAT_LAST, HST_MESH_OPEN, HST_MESH_LATCHED]

/-- Every field of every register table. -/
def all : List Fam :=
  tableR64_0 ++
  tableR64_1 ++
  tableR122 ++
  tableR166 ++
  tableR305 ++
  tableR306_0 ++
  tableR306_1 ++
  tableR316 ++
  tableR330 ++
  tableR363_0 ++
  tableR363_1 ++
  tableR397_0 ++
  tableR397_1 ++
  tableR431 ++
  tableR438 ++
  tableR458 ++
  tableR510_0 ++
  tableR510_1 ++
  tableR550_0 ++
  tableR550_1 ++
  tableR551 ++
  tableR552 ++
  tableR586_0 ++
  tableR586_1 ++
  tableR619_0 ++
  tableR619_1 ++
  tableR619_2 ++
  tableR620 ++
  tableR646_0 ++
  tableR646_1 ++
  tableR680 ++
  tableR681 ++
  tableR682 ++
  tableR725_0 ++
  tableR725_1 ++
  tableR725_2 ++
  tableR756_0 ++
  tableR756_1 ++
  tableR796 ++
  tableR817 ++
  tableR818

end Sys2Proof.Machine.F
end

