-- ==== Sys2Proof/Machine/Part.lean ====
section
/-!
DEFINITION. PARTITION records (R325, R353, R354): the views of a partition on a lock-step pair, its image, and the checks of
the record.
-/
namespace Sys2Proof.Machine

/-- A view of a partition (R325): base and size in the pair map, physical base, permissions R, W, X, and DEVICE. -/
structure PView where
  vbase : Nat
  size : Nat
  pbase : Nat
  perm : Nat
  device : Bool
deriving DecidableEq, Repr

/-- View `v` of the record `w` (R353). -/
def partView (w : List Nat) (v : Nat) : PView :=
  let g := fun k => w.getD (8 + 4 * v + k) 0
  { vbase := g 0, size := 2 ^ bits (g 1) 4 0, pbase := g 2 + g 3 % 256 * 2 ^ 32, perm := bits (g 1) 8 6
    device := bit (g 1) 9 }

/-- The view's physical window holds the `n` bytes from `a`, and its permissions have bit `p`: 0 R, 1 W, 2 X (R325). -/
def PView.covers (v : PView) (a n p : Nat) : Bool :=
  bit v.perm p && decide (v.pbase ≤ a) && decide (a + n ≤ v.pbase + v.size)

/-- The views of the record `w`. -/
def partViews (w : List Nat) : List PView := (List.range (w.getD 3 0)).map (partView w)

/-- A view keeps R325: 4 KiB to 256 MiB, naturally aligned, within the view range. -/
def viewOk (w : List Nat) (v : Nat) : Bool :=
  let g := fun k => w.getD (8 + 4 * v + k) 0
  let x := partView w v
  decide (12 ≤ bits (g 1) 4 0) && decide (bits (g 1) 4 0 ≤ 28) && x.vbase % x.size == 0 && x.pbase % x.size == 0
    && decide (0x10000000 ≤ x.vbase) && decide (x.vbase + x.size ≤ 0xF0000000)

/-- Two views of one partition overlap. -/
def overlap (a b : PView) : Bool := decide (a.vbase < b.vbase + b.size) && decide (b.vbase < a.vbase + a.size)

/-- No two views of the list overlap. -/
def disjointViews : List PView → Bool
  | [] => true
  | v :: r => r.all (fun u => ! overlap v u) && disjointViews r

/-- Host of the record: 0–3 a pair, 8 the application cores. -/
def partHost (w : List Nat) : Nat := bits (w.getD 0 0) 7 4

/-- Every reserved bit of the record is 0 (R353), those of the views and sources that it does not use too. -/
def partReservedOk (w : List Nat) : Bool :=
  let g := fun k => w.getD k 0
  g 0 / 2 ^ 10 == 0 && g 3 < 32 && g 4 < 32 && g 6 < 256 && g 7 == 0 && g 87 == 0
    && (List.range 16).all (fun v => g (9 + 4 * v) / 2 ^ 10 == 0 && bit (g (9 + 4 * v)) 5 == false && g (11 + 4 * v) / 2 ^ 8 == 0)
    && (List.range 15).all (fun j => g (72 + j) / 2 ^ 9 == 0)

/-- Every field of the record lies within its range (R353, R354). -/
def partFieldsOk (w : List Nat) : Bool :=
  let g := fun k => w.getD k 0
  let h := partHost w
  partReservedOk w && (decide (h ≤ 3) || h == 8) && (decide (3 < h) || (decide (4 ≤ g 1) && decide (g 1 ≤ 131072)))
    && decide (g 3 ≤ 16) && decide (g 4 ≤ 15) && (List.range (g 3)).all (viewOk w) && disjointViews (partViews w)

/-- The image of the record as bytes (R353). -/
def partImage (w : List Nat) : List Byte := ((w.drop 88).flatMap (toBytes 4)).take (w.getD 1 0)

end Sys2Proof.Machine
end

