-- ==== Sys2Proof/Config.lean ====
section
/-!
DEFINITION. What an implementation fixes, and the free values: results that the manual gives no value for. A free value
has no body, so nothing can be proved of it but what holds for every value.
-/
namespace Sys2Proof.Config

/-- A value the manual leaves open, the `n`-th drawn (notes/assumptions). -/
opaque freeValue : Nat → Nat

/-- The block identifier in the log record of an access to an address of no block, for which R391 names no target: one of
those that R20 assigns (R21; log entry 4). -/
opaque unmappedBlock : Fin 0x1C

/-! The cryptographic functions are those of the standards that R647, R669 and R670 name; their values are left
uninterpreted, so that what is proved holds whatever they are. -/

/-- What a cipher or hash job computes on (R647, R652): mode, direction, key, second key, IV field, associated data, data,
and the data unit of XTS in bytes. -/
structure CipherInput where
  mode : Nat
  dir : Nat
  key : List Byte := []
  key2 : List Byte := []
  iv : List Byte := []
  aad : List Byte := []
  data : List Byte := []
  unit : Nat := 0
deriving DecidableEq, Repr

/-- The output of a cipher or hash job (R647). -/
opaque cipher : CipherInput → List Byte

/-- The 16-byte tag that GCM, GMAC or CMAC computes (R647). -/
opaque tag : CipherInput → List Byte

/-- The unwrap of AES-KW (mode 5) or AES-KWP (mode 6) with a key (R647, R669): the content, if its integrity holds. -/
opaque unwrap : Nat → List Byte → List Byte → Option (List Byte)

/-- An ECDSA P-384 signature verifies (R676): the 240 bytes of the input. -/
opaque ecdsaVerifies : List Byte → Bool

/-- An HSS signature verifies (R676): public key, signature, message. -/
opaque hssVerifies : List Byte → List Byte → List Byte → Bool

/-- The key derived per R670: PRF key, LABEL, CONTEXT, length in bits. -/
opaque derive : List Byte → List Byte → List Byte → Nat → List Byte

/-- The device root key, and the key that MANUFACTURE uses in its place (R670). -/
opaque rootKey : List Byte
opaque manufactureKey : List Byte

/-- The digests in BROM of the manufacturing keys (state 0) and of the return keys (state 4): the ECDSA key's, and the HSS
key's where `hss` (R157). -/
opaque bromDigest (state : Nat) (hss : Bool) : List Byte

/-- The ECDSA signature of a debug token verifies with the key whose digest a slot holds (R163): digest and token. -/
opaque tokenVerifies : List Byte → List Byte → Bool

/-- The device serial (R163). -/
opaque serial : Nat

end Sys2Proof.Config
end

