-- ==== Sys2Proof/Machine/Memory.lean ====
section
/-!
DEFINITION. The guarded memories (R364–R375): bytes, the parity state of each word, the seam words and the poison bits.

A line's seam word is held as the difference between it and the XOR of the line's 64 stored words (0 when it is exact,
R366), a parity bit as membership of the list of words whose 33 bits hold an odd number of 1 bits (R365).
-/
namespace Sys2Proof.Machine

/-- One line held in the shared L2 cache (R318, R372, R406): the way it stands in, and the world whose access allocated it. Its
content stands in `MemSt.cells` at `l2Base` + its address. -/
structure L2Line where
  held : Bool := false
  dirty : Bool := false
  secure : Bool := false
  way : Nat := 0
deriving DecidableEq, Repr

/-- The guarded memories. `cells` lists the bytes other than 0 (the wipe of R131 leaves 0 everywhere); `perr` the words
that fail parity, `sperr` the lines whose seam word fails parity, `seam` the seam differences, `poison` the poisoned
lines; a line is named by its address divided by 256. -/
structure MemSt where
  cells : List Host.Cell := []
  perr : List Nat := []
  sperr : List Nat := []
  seam : Tbl Nat := []
  poison : List Nat := []
  l2 : Tbl L2Line := []
deriving DecidableEq, Repr

namespace MemSt

/-- Where L2 content stands: above the 40-bit physical address space (the L2 has no place in it, R20). -/
def l2Base : Nat := 0x10000000000

/-- Where the pair-local memory of pair `n` stands, above the physical address space (R20, R324). -/
def lpBase (n : Nat) : Nat := 0x20000000000 + n * 0x20000

/-- The value an unlisted byte reads as (R131). -/
def blank : Byte := 0

/-- The byte at `a`. -/
def byte (s : MemSt) (a : Nat) : Byte := tget blank s.cells a

/-- The memory with byte `a` stored as `v`. -/
def putByte (s : MemSt) (a : Nat) (v : Byte) : MemSt := { s with cells := tset blank s.cells a v }

/-- The `n` bytes from `a`, lowest address first (log entry 10). -/
def bytes (s : MemSt) (a n : Nat) : List Byte := (List.range n).map (fun i => s.byte (a + i))

/-- The memory with bytes `l` stored from `a` upward. -/
def putBytes (s : MemSt) (a : Nat) : List Byte → MemSt
  | [] => s
  | b :: r => putBytes (s.putByte a b) (a + 1) r

/-- The 32-bit word at `a` (R6). -/
def word (s : MemSt) (a : Nat) : Nat := ofBytes (s.bytes a 4)

/-- The memory with the 32-bit word at `a` stored as `v` (R6). -/
def putWord (s : MemSt) (a v : Nat) : MemSt := s.putBytes a (toBytes 4 v)

/-- The canonical form of the memory: strictly rising addresses, and no entry equal to what an unlisted byte reads as
(log entries 8 and 10). -/
def wf (s : MemSt) : Bool := tcanon blank s.cells

/-- The line of address `a` (R366). -/
def line (a : Nat) : Nat := a / 256

/-- The words of line `l` that fail parity, by index 0–63. -/
def badWords (s : MemSt) (l : Nat) : List Nat := (s.perr.filter (fun w => w / 256 == l)).map (fun w => w / 4 % 64)

/-- Line `l` is poisoned (R366). -/
def poisoned (s : MemSt) (l : Nat) : Bool := s.poison.contains l

/-- Set the poison bit of line `l`. -/
def setPoison (s : MemSt) (l : Nat) : MemSt := { s with poison := insertNat l s.poison }

/-- An upset strikes: stored bits flip, and the parity state and the seam difference follow (R365, R366). -/
def strike (s : MemSt) : Upset → MemSt
  | .word a mask par =>
    let w := a / 4 * 4
    let odd := (popCount 32 mask + b2n par) % 2 == 1
    let s := s.putWord w (s.word w ^^^ (mask % 2 ^ 32))
    { s with
      perr := if odd then (if s.perr.contains w then s.perr.erase w else insertNat w s.perr) else s.perr
      seam := tset 0 s.seam (line w) (tget 0 s.seam (line w) ^^^ (mask % 2 ^ 32)) }
  | .seam a mask par =>
    let l := line a
    let odd := (popCount 32 mask + b2n par) % 2 == 1
    { s with
      sperr := if odd then (if s.sperr.contains l then s.sperr.erase l else insertNat l s.sperr) else s.sperr
      seam := tset 0 s.seam l (tget 0 s.seam l ^^^ (mask % 2 ^ 32)) }
  | .transient _ _ => s

/-- What a check of one word finds (R368): nothing, a record to log (code, DETAIL0, DETAIL1), and whether it failed. -/
structure Check where
  code : Nat := 0
  d0 : Nat := 0
  d1 : Nat := 0
  failed : Bool := false
deriving DecidableEq, Repr

/-- R368 for the word at `w` (word aligned), whose first `n` re-reads fail only in passing: the memory afterwards, and
what was found. A poisoned line answers POISON_READ (R370). -/
def checkWord (s : MemSt) (w : Nat) (transient : Option Nat) : MemSt × Check :=
  let l := line w
  let ix := w / 4 % 64
  if s.poisoned l then (s, { code := 0x0106, d0 := ix, failed := true })
  else if ! s.perr.contains w then
    match transient with
    | some n => if 1 ≤ n ∧ n ≤ 2 then (s, { code := 0x0101, d0 := ix + n * 256 }) else (s, {})
    | none => (s, {})
  else
    let others := (s.badWords l).filter (fun i => i != ix)
    match others with
    | j :: _ => (s.setPoison l, { code := 0x0103, d0 := ix + 512 + j * 1024, failed := true })
    | [] =>
      if s.sperr.contains l then (s.setPoison l, { code := 0x0103, d0 := ix + 64 + 512, failed := true })
      else
        let d := tget 0 s.seam l
        let s := s.putWord w (s.word w ^^^ d)
        ({ s with perr := s.perr.erase w, seam := tset 0 s.seam l 0 }, { code := 0x0102, d0 := ix + 512, d1 := d })

/-- R373, R374: one visit of the scrubber to line `l`. -/
def scrub (s : MemSt) (l : Nat) : MemSt × Check :=
  if s.poisoned l then (s, {})
  else
    match s.badWords l with
    | i :: j :: _ => (s.setPoison l, { code := 0x0103, d0 := i + j * 1024, failed := true })
    | [i] => s.checkWord (l * 256 + i * 4) none
    | [] =>
      if s.sperr.contains l then
        ({ s with sperr := s.sperr.erase l, seam := tset 0 s.seam l 0 }, { code := 0x0105, d0 := 64 })
      else if tget 0 s.seam l ≠ 0 then (s.setPoison l, { code := 0x0104, failed := true })
      else (s, {})

/-- The word addresses that the `n` bytes from `a` touch. -/
def touched (a n : Nat) : List Nat :=
  if n = 0 then [] else (List.range ((a + n - 1) / 4 - a / 4 + 1)).map (fun i => (a / 4 + i) * 4)

/-- The lines that the `n` bytes from `a` cover whole (R367). -/
def wholeLines (a n : Nat) : List Nat := (List.range ((a + n) / 256 - (a + 255) / 256)).map (· + (a + 255) / 256)

/-- A full-line write: the seam word is computed from the new data, and every error of the line is gone (R367). -/
def clearLine (s : MemSt) (l : Nat) : MemSt :=
  { s with
    perr := s.perr.filter (fun w => w / 256 != l)
    sperr := s.sperr.erase l
    seam := tset 0 s.seam l 0
    poison := s.poison.erase l }

/-- Every byte of [lo, hi), lo and hi on line boundaries, reads as 0, and no error is left there (R49, R131). -/
def wipe (s : MemSt) (lo hi : Nat) : MemSt :=
  let out := fun a => ! (decide (lo ≤ a) && decide (a < hi))
  { s with
    cells := tkeep out s.cells
    perr := s.perr.filter out
    sperr := s.sperr.filter (fun l => out (l * 256))
    seam := tkeep (fun l => out (l * 256)) s.seam
    poison := s.poison.filter (fun l => out (l * 256)) }

/-- The lines of [lo, hi) that hold an error. -/
def dirtyLines (s : MemSt) (lo hi : Nat) : List Nat :=
  ((s.perr.map line) ++ s.sperr ++ (s.seam.map (·.1))).filter (fun l => decide (lo ≤ l * 256) && decide (l * 256 < hi))

/-- The `n` bytes from `src` copied to `dst`, with parity, seam and poison state (R371); both on line boundaries. -/
def copyLines (s : MemSt) (src dst n : Nat) : MemSt :=
  let hit := fun a => decide (src ≤ a) && decide (a < src + n)
  let mv := fun a => a - src + dst
  let w := s.wipe dst (dst + n)
  { w with
    cells := (s.cells.filter (fun e => hit e.1)).foldl (fun t e => tset blank t (mv e.1) e.2) w.cells
    perr := (s.perr.filter hit).foldl (fun l a => insertNat (mv a) l) w.perr
    sperr := (s.sperr.filter (fun l => hit (l * 256))).foldl (fun t l => insertNat (mv (l * 256) / 256) t) w.sperr
    seam := (s.seam.filter (fun e => hit (e.1 * 256))).foldl (fun t e => tset 0 t (mv (e.1 * 256) / 256) e.2) w.seam
    poison := (s.poison.filter (fun l => hit (l * 256))).foldl (fun t l => insertNat (mv (l * 256) / 256) t) w.poison }

/-- The transient errors that `ups` gives the word at `w`. -/
def transientAt (ups : List Upset) (w : Nat) : Option Nat :=
  ups.findSome? (fun u => match u with | .transient a n => if a / 4 * 4 = w then some n else none | _ => none)

/-- Check the words at `ws` in order; stop at the first that fails. The checks made, in order (log entry 11). -/
def checkWords (s : MemSt) (ups : List Upset) : List Nat → MemSt × List Check
  | [] => (s, [])
  | w :: r =>
    let (s1, c) := s.checkWord w (transientAt ups w)
    if c.failed then (s1, [c])
    else
      let (s2, cs) := checkWords s1 ups r
      (s2, c :: cs)

/-- Apply the write of `data` at `a` under R367: check the old words but those of lines that the write covers whole, then
store. -/
def guardedPut (s : MemSt) (ups : List Upset) (a : Nat) (data : List Byte) : MemSt × List Check :=
  let whole := wholeLines a data.length
  let (s1, cs) := s.checkWords ups ((touched a data.length).filter (fun w => ! whole.contains (line w)))
  if cs.any (·.failed) then (s1, cs) else ((whole.foldl clearLine s1).putBytes a data, cs)

end MemSt

end Sys2Proof.Machine
end

