-- ==== Sys2Proof/Machine/State.lean ====
section
/-!
DEFINITION. The state of the TZ1280 as plain data. Every field of the manual's register tables is held in `Module.regs`
under the key of its register and place (Machine/Reg.lean, Machine/Fields.lean); what the rules describe beside the
registers (queues, latches, work in progress, what a block remembers) is held in the structures below, by block.
-/
namespace Sys2Proof.Machine

/-- How a command can stop. No rule of the manual stops the block, so no meaning raises one: each constructor is kept for
the interface only. -/
inductive Fault where
  /-- Raised by nobody: the manual names no state from which the block cannot go on. Safe. -/
  | none
deriving DecidableEq, Repr

/-- Why a command has no meaning. -/
inductive Refusal where
  /-- Raised by an arm of `exec` whose command has no meaning yet. Safe: the run stops. -/
  | notModelled (mnemonic : String)
deriving DecidableEq, Repr

/-- The response to the last access (R17, R388): its status, the data of a read, and the RE_SKIPPED mark of R380. -/
structure Resp where
  status : Nat := 0
  data : Nat := 0
  skipped : Bool := false
deriving DecidableEq, Repr

/-! ### System control (chapter 1) -/

/-- A gating request in progress (R60–R62): its block and its OP, per SYSCTL_GATE_REQ. -/
structure GateJob where
  block : Nat
  op : Nat
deriving DecidableEq, Repr

/-- What SYSCTL holds beside its registers: the module reset being held (R51), a gating request in progress for each
world (R418), the block reset in progress and whether its clock is gated again afterwards (R54), the partition reset in
progress (R55), and the cause of a forced divider that stands apart from the VAUX state (R119), and whether SYSPLL and SERPLL are
locked (R46, R48). -/
structure SysSt where
  resetHeld : Bool := true
  gateS : Option GateJob := none
  gateN : Option GateJob := none
  blkRst : Option Nat := none
  regate : Bool := false
  partRst : Option Nat := none
  tempForce : Bool := false
  sysLock : Bool := false
  serLock : Bool := false
deriving DecidableEq, Repr

/-! ### Fabric (chapter 8) -/

/-- The newest record of the error log, as R393 compares it: block, initiator, code, address, the time in ns, its place
and its repeats. -/
structure NewestRec where
  block : Nat
  ini : Nat
  code : Nat
  addr : Nat
  tai : Nat
  place : Nat
  rep : Nat
deriving DecidableEq, Repr

/-- What FAB holds beside its registers. -/
structure FabSt where
  newest : Option NewestRec := none
deriving DecidableEq, Repr

/-! ### Worlds (chapter 9) -/

/-- A frame of WCT (R402): the interrupted context and the entry kind. -/
structure Frame where
  ctx : CoreCtx
  ecall : Bool
deriving DecidableEq, Repr

/-- The access fault of a VS or VU access whose VMID no entry holds (R399). -/
inductive AccessFault where
  | load | store | fetch
deriving DecidableEq, Repr

/-- An application core as WCT sees it: its context where WCT has set it, whether it is in world 1, the frame held for
it, an M-level interrupt kept pending (R426), and the access fault it last took in HS mode under R399. -/
structure CoreSt where
  ctx : CoreCtx := {}
  secure : Bool := false
  frame : Option Frame := none
  irqPend : Bool := false
  fault : Option AccessFault := none
deriving DecidableEq, Repr

/-- What WCT holds beside its registers: the cores, whether the secure watchdog runs (R422), and the µs since reset of
the last READY (R425). -/
structure WctSt where
  cores : Tbl CoreSt := []
  swdtRun : Bool := false
  readyAt : Nat := 0
deriving DecidableEq, Repr

/-! ### Instances (chapter 10) -/

/-- What a held reset of an instance does when it ends (R440, R442, R445): it is held by the wrap fence, since which µs; it answers the
request of IMG_CTRL, it answers the tenant's INST_RESET. -/
structure InstSt where
  fence : Bool := false
  since : Nat := 0
  imgWaits : Bool := false
  tenantWaits : Bool := false
deriving DecidableEq, Repr


/-! ### OTP (chapters 3 and 19) -/

/-- One of the 16 boot ROM patch slots (R786): its block, whether it is programmed, and its two fuses. -/
structure BromSlot where
  block : List Byte := []
  used : Bool := false
  valid : Bool := false
  revoked : Bool := false
deriving DecidableEq, Repr

/-- The fuses of the OTP. -/
structure Otp where
  /-- The three copies of the state fuses (R159): bit 0 PROVISIONED, 1 FIELD, 2 RETURN, 3 END. -/
  lc0 : Nat := 0
  lc1 : Nat := 0
  lc2 : Nat := 0
  /-- The digests of the four owner key slots, ECDSA and HSS; a digest not written is empty (R158). -/
  ecdsa : Tbl (List Byte) := []
  hss : Tbl (List Byte) := []
  /-- Revoke bits of the owner key slots (R158). -/
  revoked : Nat := 0
  /-- Blown increments of the anti-rollback counter (R153). -/
  counter : Nat := 0
  /-- The boot ROM patch slots (R786). -/
  brom : Tbl BromSlot := []
deriving DecidableEq, Repr

/-! ### Channels, groups and command instances (chapters 4–6) -/

/-- A commanded state (R273, R280); a PWM holds its period in µs and its duty in 0.1 %. -/
inductive Commanded where
  | off
  | on
  | pwm (period duty : Nat)
deriving DecidableEq, Repr

/-- What the output does: off, in its turn-on transition, on, or in a turn-off, hard or slewed (R238). -/
inductive OutPhase where
  | off
  | turningOn
  | on
  | turningOff (hard : Bool)
deriving DecidableEq, Repr

/-- The phase of an off-state diagnostic cycle (R208): whether every sample so far was energised and how many were taken, or
the µs since reset at which the source was applied. -/
inductive DiagPhase where
  | none
  | supply (allEnergised : Bool) (samples : Nat)
  | openLoad (us : Nat)
deriving DecidableEq, Repr

/-- An inrush profile (R230, R231): limit mode, slew step, and the eight breakpoints (t in 10 µs, m in 1/16). -/
structure Profile where
  limit : Bool := false
  slew : Nat := 0
  pts : List (Nat × Nat) := []
deriving DecidableEq, Repr

/-- An open inrush window (R227): the envelope time at the start of the present sweep in ns (negative where the turn-on
lies within it), the profile and I_NOM it started with (R226), the sweeps it has been extended (R264), and the sums of
limit mode (R235): time in µs, energy in nJ; whether the clock stands since the last classification, and did before
it (R264); the profile's number (R230, R231), and the set-point of the limit loop in 0.625 mA / 256 (R234). -/
structure InrushWindow where
  base : Int := 0
  profile : Profile := {}
  number : Nat := 0
  setPoint : Nat := 0
  inom : Nat := 0
  ext : Nat := 0
  limitUs : Nat := 0
  limitNj : Nat := 0
  stand : Bool := false
  standPrev : Bool := false
deriving DecidableEq, Repr

/-- A protection turn-off as it was recorded, for the order of R193: the µs since reset, what the record changed as it stood
before, and the EVT words of the block and of the owner's page before it. -/
structure TripFrom where
  us : Nat := 0
  retryLeft : Nat := 0
  backoff : Bool := false
  exhausted : Bool := false
  limitEnd : Bool := false
  cmd : Commanded := .off
  evtBlock : Nat := 0
  evtPage : Nat := 0
deriving DecidableEq, Repr

/-- One output channel. -/
structure Chan where
  /-- Channel protection block, load block and control word (R220, R224, R268). -/
  prot0 : Nat := 0
  prot1 : Nat := 0
  load : Nat := 0
  ctrl : Nat := 0
  /-- PROFILE and I_NOM in force since the last turn-on (R226), and the slew step of that turn-on (R238, R703). -/
  inForce : Nat := 0
  slew : Nat := 0
  configBad : Bool := false
  cmd : Commanded := .off
  phase : OutPhase := .off
  /-- The period and duty in force while the PWM runs (R242). -/
  pwm : Option (Nat × Nat) := .none
  /-- The PWM was entered from off and has made no on-edge (R244). -/
  firstEdge : Bool := false
  /-- In ns, the present sweep's start after the last on-edge (R243); the µs since reset of the last on-edge (R241), of the
  last turn-off's begin and end, and of the last turn-on's end (R177, R207, R244, R247). -/
  onNs : Int := 0
  edgeAt : Nat := 0
  offFrom : Nat := 0
  offAt : Nat := 0
  onAt : Nat := 0
  /-- A takeover or handover engages the channel, which is commanded PWM, at its first on-edge (R115, R703). -/
  engage : Bool := false
  /-- Off by a protection, and not turned on since; by THERMAL or WIRE (R256); the record of the last one (R193). -/
  protOff : Bool := false
  thermOff : Bool := false
  tripFrom : Option TripFrom := .none
  cause : Nat := 0
  retryLeft : Nat := 4
  exhausted : Bool := false
  fwMissing : Bool := false
  limitEnd : Bool := false
  thermCycles : Nat := 0
  /-- A backoff wait runs, or starts when the turn-off completes (R251); its length in µs, and where it started in µs since
  reset. -/
  backoff : Bool := false
  backoffUs : Nat := 0
  backoffFrom : Option Nat := .none
  /-- Where the 10 s of R252 run from, in µs since reset. -/
  steadyAt : Option Nat := .none
  /-- The junction's thermal latch and the wire latch (R190, R198). -/
  thermLatch : Bool := false
  wireLatch : Bool := false
  /-- θ_w and the ambient in use, in 2^−24 °C (R196, R197). -/
  theta : Int := 0
  amb : Int := 0
  ambFallback : Bool := false
  wireWarn : Bool := false
  clusterWarn : Bool := false
  grpOver : Bool := false
  grpLoss : Bool := false
  window : Option InrushWindow := .none
  limiting : Bool := false
  /-- Consecutive samples above the threshold (R189). -/
  ocCount : Nat := 0
  /-- The reverse switch is held off by R175. -/
  reverse : Bool := false
  swTest : Bool := false
  swFail : Bool := false
  diag : DiagPhase := .none
  openLoad : Bool := false
  shortToSupply : Bool := false
  peerDriven : Bool := false
  /-- Consecutive readings against the present value of the three flags above (R210). -/
  olRun : Nat := 0
  stsRun : Nat := 0
  peerRun : Nat := 0
  undercurrent : Bool := false
  /-- The last sample was below I_UC, and the samples in a row on that side of it (R212). -/
  ucLow : Bool := false
  ucRun : Nat := 0
  /-- The last sample (class LSB), whether it was saturated, and the hem readings (R184, R204, R205). -/
  sample : Int := 0
  sat : Bool := false
  vout : Nat := 0
  energised : Bool := false
  low : Bool := true
  /-- Since the last model step, the sum of the squared currents of the wire model, the peer's share included (R203), and
  that of the own samples alone; then the latter for each of the last 1 000 steps, newest first (R219). A mirror that comes
  after the step of its sweep leaves the first negative. `used` is the sample of the present sweep, 0 where the channel is off,
  and `last` that of the sweep before. -/
  used : Int := 0
  last : Int := 0
  sq : Int := 0
  sqOwn : Nat := 0
  sqMs : List Nat := []
  /-- Junction temperature, 1/16 °C (R293). -/
  tj : Int := 0
  failPending : Bool := false
  /-- Shed by the group limit, and off until R194 ends it. -/
  shed : Bool := false
  /-- The free-wheel comparator is watched (R247). -/
  fwWatch : Bool := false
  /-- A 50 µs test pulse of the standby self-test runs (R717). -/
  pulse : Bool := false
  /-- The channel has carried 1 % of its continuous current in the on-pulse (R717). -/
  carried : Bool := false
deriving DecidableEq, Repr

/-- One supply group: the VS conversions of VS_ref in 10 mV (R262), the last VS conversion, the present droop
classification, the run of droop sweeps, the shed wait in evaluations, GROUP_LOSS and GROUP_OVER, and the squared
sums: of the present ms, and of each of the last 1 000 ms, newest first (R215); the PWM counter (R242). -/
structure Group where
  vsConv : List Nat := []
  vs : Nat := 0
  droop : Bool := false
  droopRun : Nat := 0
  shedWait : Nat := 0
  overLimit : Bool := false
  loss : Bool := false
  sq : Nat := 0
  sqMs : List Nat := []
  pwmUs : Nat := 0
deriving DecidableEq, Repr

/-- A command in a queue (R275). -/
structure ChiCmd where
  op : Nat
  chan : Nat
  resv : Nat
  seq : Nat
  arg : Nat
deriving DecidableEq, Repr

/-- A completion (R282, R305). -/
structure ChiCpl where
  seq : Nat
  status : Nat
  op : Nat
  chan : Nat
  detail : Nat
  sweep : Nat
deriving DecidableEq, Repr

/-- One command instance: its queue, its completion FIFO, the CALIBRATE commands running, each with the sweep number of its
execution (each reserves an entry, R282, R305), the time left in µs, and the service received in the present backlog (R455). -/
structure Chi where
  queue : List ChiCmd := []
  fifo : List ChiCpl := []
  cal : List (ChiCmd × Nat) := []
  leftUs : Nat := 0
  served : Nat := 0
deriving DecidableEq, Repr

/-- What a pending operation of the microcode banks is (R296, R297). -/
inductive UcJob where
  | none
  | load
  | swap
deriving DecidableEq, Repr

/-- What CHC holds beside its registers. -/
structure ChcSt where
  chans : Tbl Chan := []
  groups : Tbl Group := []
  insts : Tbl Chi := []
  /-- Custom profiles 0x6–0xF (R231). -/
  profiles : Tbl Profile := []
  ucJob : UcJob := .none
  /-- Code of the two microcode banks. -/
  code0 : List Byte := []
  code1 : List Byte := []
  /-- Sweeps left of the second in which a deadline miss reverts a swap, and that one does at the next boundary (R298). -/
  revertLeft : Nat := 0
  revertDue : Bool := false
  /-- The instances that are backlogged, by bit (R455). -/
  backlog : Nat := 0
  /-- PART + 1 of the entry of each CHI in the INSTANCE_MAP record, 0 where it has none (R270). -/
  parts : Tbl Nat := []
  /-- The shadow phase of the calibration runs, and the ADC named next (R299, R301). -/
  calShadow : Bool := false
  calNext : Option Nat := .none
  /-- The retained CHANNEL copy (R303): the words of the record, empty where it was not valid; and the retained
  CHC_MICROCODE copy. -/
  keptChan : List Nat := []
  keptUc : List Byte := []
deriving DecidableEq, Repr

/-! ### Universal inputs (chapter 6) -/

/-- One universal input: the configuration word and the NTC set in force (R316; the mode is OFF where the word is invalid,
R827), the reserved bit of the word stored, the filter in 2^−10 units of VALUE and whether it has started, the last DIGITAL
reading, the level before INVERT and the frames a new one has held, samples in a row against FAULT, whether the shunt is open (R310–R313), and
whether a configuration waits for the next frame. -/
structure UinIn where
  word : Nat := 0
  r25 : Nat := 0
  b : Nat := 0
  bad : Bool := false
  resv : Bool := false
  y : Int := 0
  started : Bool := false
  reading : Bool := false
  level : Bool := false
  debounce : Nat := 0
  faultRun : Nat := 0
  shuntOpen : Bool := false
  changed : Bool := false
deriving DecidableEq, Repr

/-- What UIN holds beside its registers: the inputs, that EXCITE changed in the present frame or that both units of a handover
excited in it (R826), and the reserved bits of the INPUT record's words, by input, which its retained copy holds (R827). -/
structure UinSt where
  ins : Tbl UinIn := []
  exciteChanged : Bool := false
  keptResv : Nat := 0
deriving DecidableEq, Repr
/-! ### Lock-step pairs (chapter 7) -/

/-- What follows the comparator injection of a pair in TEST (R351, R355–R357): at start-up the PARTITION records decide, it
settles as SPARE or IDLE, the same after a periodic test, it is restored, it was the source of a MOVE or ADOPT, or it starts a
partition. -/
inductive AfterTest where
  | startUp
  | settle
  | periodic
  | selftestFailed
  | restore
  | moved
  | start (part : Nat)
deriving DecidableEq, Repr

/-- One lock-step pair (R330, R337–R343): the sequence number of the window that runs, the checkpoint buffer that holds the
restore point and the other one (96 words each), the entries of the commit buffer that are held, oldest first, whether the
window is a replay, the second of LSS_MTIME in which replays are counted and their count, whether the pair waits in WFI, the
access fault that its cores last took, the half of LSS_LOC_MTIME held for the second access, what follows its test, and whether
that test completes the request of LSS_CTRL. -/
structure PairSt where
  seq : Nat := 0
  restore : List Nat := []
  other : List Nat := []
  held : List HeldStore := []
  replaying : Bool := false
  secNo : Nat := 0
  secCount : Nat := 0
  wfi : Bool := false
  fault : Option AccessFault := none
  mtimeHi : Nat := 0
  after : AfterTest := .startUp
  answers : Bool := false
deriving DecidableEq, Repr

/-- A migration under way (R344): its kind (0 fault, 1 MOVE, 2 ADOPT), whether step 2 has passed, and the µs in which it
began. -/
structure Migration where
  part : Nat
  src : Nat
  dst : Nat
  kind : Nat
  tested : Bool
  us : Nat := 0
deriving DecidableEq, Repr

/-- What LSS holds beside its registers: the pairs, the partition image store (the words of each PARTITION record, by
partition, R353), the migration under way, a MOVE or ADOPT that waits for a window boundary (kind and partition),
whether the MOVE in hand is one of DPX's rotation (R716), which answers no request, and the pair that each partition last had,
plus 1. -/
structure LssSt where
  pairs : Tbl PairSt := []
  store : Tbl (List Nat) := []
  mig : Option Migration := none
  moveReq : Option (Nat × Nat) := none
  rotating : Bool := false
  lastPair : Tbl Nat := []
deriving DecidableEq, Repr


/-! ### Configuration memory, supplies and start-up (chapters 2, 3 and 19) -/

/-- An entry of the update record log (R785); its phase code is that of NVC_UPD_STAT.PHASE, or 8 for MODULE_TRIAL, and
`comp` is the component index. -/
structure UpdEntry where
  phase : Nat
  comp : Nat
  status : Nat
  tai : Nat
deriving DecidableEq, Repr

/-- One configuration bank (R139, R766): its bytes that are not erased (an erased byte reads 0xFF), and the entries of the
update record log, newest first. -/
structure BankSt where
  cells : Tbl Byte := []
  log : List UpdEntry := []
deriving DecidableEq, Repr

/-- The copy of the error log ring in configuration memory (R825): the 256 slots by slot number, and FAB_LOG_WR,
FAB_LOG_RD and the SEQ of FAB_LOG_WR when the flush began. -/
structure HoldupLog where
  slots : Tbl (List Byte) := []
  wr : Nat := 0
  rd : Nat := 0
  seq : Nat := 0
deriving DecidableEq, Repr

/-- The last complete channel state record (R100, R201, R273): whether it is used, the commanded states and θ_w. -/
structure ChanRecord where
  used : Bool := false
  cmds : Tbl Commanded := []
  thetas : Tbl Int := []
deriving DecidableEq, Repr

/-- What no reset changes beside the OTP: the banks, the copy of the error log, and the channel state record. -/
structure NvmSt where
  bankA : BankSt := {}
  bankB : BankSt := {}
  log : Option HoldupLog := none
  record : Option ChanRecord := none
deriving DecidableEq, Repr

/-- A flush of the hold-up sequence under way (R825): the copy as it would be if every slot had been reached at once. -/
structure SupSt where
  flush : Option HoldupLog := none
  flushed : Bool := false
  /-- Lowest VAUX in mV of the present dip (R816). -/
  dipMin : Nat := 0xFFFF
  /-- The start measurement of the VHOLD capacitance has completed (R102). -/
  measured : Bool := false
  /-- A measurement runs. -/
  measuring : Bool := false
deriving DecidableEq, Repr

/-- The start sequence: µs since reset release (R167), the candidates not yet checked, as bank and whether it is TRIAL
(R150), the bank whose watchdog resets SYSCTL_BOOT_WDT.COUNT counts (R152), LOWV of the next power-on
(R99), and the recorded grant (R161): PARTS and MINUTES. -/
structure BootSt where
  us : Nat := 0
  cands : List (Nat × Bool) := []
  wdtBank : Option Nat := none
  lowv : Bool := false
  grant : Option (Nat × Nat) := none
  entry : Bool := false
  /-- µs until the grant loses its next minute (R161). -/
  grantUs : Nat := 0
  /-- A life-cycle request that waits for the OTP (R161). -/
  lcNext : Option Nat := none
  /-- The furthest STAGE that secure firmware has written in this start (R155, R167). -/
  reached : Nat := 0
  /-- The kinds of PHY whose firmware step 7 has loaded (R528). -/
  phyDone : Nat := 0
  /-- Step 8 has completed (R125, R126). -/
  chanDone : Bool := false
  /-- The boot region is reserved for the secure world (R130). -/
  region : Bool := false
  /-- The boot ROM lines that the patch slots replaced at this start, by address (R786). -/
  patches : Tbl (List Byte) := []
deriving DecidableEq, Repr

/-! ### Switch core (chapter 11) -/

/-- A copy of a frame (R464, R482, R488): its egress port and class, its place in the queue once it is queued, whether it is in
transmission and its egress time-stamp, whether it is cut-through, draws on the PFC headroom, or is parked in HDMA. -/
structure Copy where
  port : Nat
  cls : Nat
  pos : Option Nat := none
  sending : Bool := false
  startT : Nat := 0
  ct : Bool := false
  pfc : Bool := false
  parked : Bool := false
deriving DecidableEq, Repr

/-- Where a frame goes: forwarded, to the pair agent, from the pair agent to a port (R462), or a MAC control frame that the MAC
consumes (R513). -/
inductive FrameKind where
  | forwarded | agent | fromAgent | control
deriving DecidableEq, Repr

/-- A frame that HDMA passed with DIRECT or TS_REQ (R534, R536): the queue pair and the number of its transmit frame. -/
structure TxTag where
  hq : Nat
  no : Nat
  direct : Bool
  tsReq : Bool
deriving DecidableEq, Repr

/-- A frame in the switch core, with all that its decision took (R464) and what became of its copies (R503); the cells it holds,
and those of them that come from the headroom of its ingress port (R483). -/
structure SwFrame where
  id : Nat
  kind : FrameKind := .forwarded
  inPort : Nat
  bytes : List Byte
  ts : Nat := 0
  vid : Nat := 0
  pcp : Nat := 0
  tagged : Bool := false
  cls : Nat := 0
  rule : Option Nat := none
  stream : Option Nat := none
  genSeq : Option Nat := none
  strip : Bool := false
  hq : Option Nat := none
  tx : Option TxTag := none
  epoch : Nat := 0
  intended : Nat := 0
  delivered : Nat := 0
  /-- Reason for which the whole frame was dropped; 0 if it was not. -/
  reason : Nat := 0
  /-- Ports whose copies were dropped, with the reason. -/
  drops : List (Nat × Nat) := []
  cause : Nat := 0
  parsed : Nat := 0
  ended : Bool := false
  trunc : Bool := false
  ct : Bool := false
  copies : List Copy := []
  held : Nat := 0
  hdrm : Nat := 0
deriving DecidableEq, Repr

/-- Recovery state of a stream (R498), with the µs in which a frame last passed. -/
structure StreamSt where
  inReset : Bool := true
  recov : Nat := 0
  hist : Nat := 0
  last : Nat := 0
deriving DecidableEq, Repr

/-- What SWC holds beside its registers: the four tables as words by index (R470, R471, R476, R496), the entries whose
parity is bad (table × 2^13 + index), recovery states, the frames in the buffer, counters by port × 64 + KIND, frames
counted for SAMPLE_N, staged spore records, the byte deficit of each queue and the class whose turn it is on each port
(R487), the time-stamps that left ports still have to store (port, queue pair, frame number, time), and the µs of the last aging scan
(R475) and of the last age check (R485). -/
structure SwcSt where
  fwd : Tbl (List Nat) := []
  vlan : Tbl (List Nat) := [(1, [0xFFFFFFFF, 0xF])]
  rules : Tbl (List Nat) := []
  streams : Tbl (List Nat) := []
  bad : List Nat := []
  recov : Tbl StreamSt := []
  frames : List SwFrame := []
  nextId : Nat := 0
  nextPos : Nat := 0
  cnt : Tbl Nat := []
  samples : Tbl Nat := []
  stage : List (List Byte) := []
  deficit : Tbl Nat := []
  turn : Tbl Nat := []
  tsDue : List (Nat × Nat × Nat × Nat) := []
  scanUs : Nat := 0
  ageUs : Nat := 0
deriving DecidableEq, Repr

/-! ### Port MACs and host DMA (chapter 12) -/

/-- The hold of a class by received pause: its length in ns, the µs in which its time began, none while the frame then in
transmission has not ended (R517), and the µs since which the class has been held without a break (R518). -/
structure ClassHold where
  ns : Nat := 0
  start : Option Nat := none
  since : Nat := 0
deriving DecidableEq, Repr

/-- What a MAC holds beside its registers: the classes in XOFF that its last pause frame announced, and the µs in which it was
sent (R516), its counters, and the holds of its classes. -/
structure MacSt where
  told : Nat := 0
  cnt : Tbl Nat := []
  sentUs : Nat := 0
  hold : Tbl ClassHold := []
deriving DecidableEq, Repr

/-- A transmit frame of a queue pair, from SOF to EOF (R532–R538): its number, its descriptors with their ring indices, its
status once it has ended, whether it was passed to P15, its length, and what its write-back says of its time-stamp. -/
structure TxFrame where
  no : Nat
  descs : List (Nat × List Nat)
  status : Option Nat := none
  passed : Bool := false
  len : Nat := 0
  ts : Option Nat := none
  tsPort : Option Nat := none
  lost : Bool := false
  lostCnt : Nat := 0
  late : Bool := false
deriving DecidableEq, Repr

/-- A receive frame that is being written (R540, R543): the frame in SWC, its bytes as handed over, how many are written, the
descriptors filled with the bytes in each, and words 0x04, 0x08 and the time-stamp of their write-back. -/
structure RxFrame where
  id : Nat
  data : List Byte
  off : Nat := 0
  filled : List (Nat × List Nat × Nat) := []
  w1 : Nat := 0
  w2 : Nat := 0
  ts : Nat := 0
deriving DecidableEq, Repr

/-- A queue pair: the descriptors fetched and not used, and the next index to fetch, of both rings; the transmit frames that
are not written back, and the number of the next; the park slot (R543). -/
structure HqSt where
  tx : List (Nat × List Nat) := []
  txNext : Nat := 0
  txNo : Nat := 0
  frames : List TxFrame := []
  rx : List (Nat × List Nat) := []
  rxNext : Nat := 0
  park : Option RxFrame := none
deriving DecidableEq, Repr

/-- What HDMA holds beside its registers: the queue pairs, counters by queue pair × 16 + KIND, and, for R455 and R531, the queue
pairs whose transmit rings held posted descriptors and the bytes that each has been served since that set last changed. -/
structure HdmaSt where
  hqs : Tbl HqSt := []
  cnt : Tbl Nat := []
  backlog : Nat := 0
  served : Tbl Nat := []
deriving DecidableEq, Repr
/-! ### Time unit (chapter 13) -/

/-- An entry of an EVT_IN FIFO (R576): the counter in ns, and whether the edge fell. -/
structure EviEntry where
  t : Nat
  fall : Bool
deriving DecidableEq, Repr

/-- A scheduled output (R577): START in ns once resolved, whether its first edge is out, its next rising edge, and the pin with
whether it waits to fall and the µs in which it rose. -/
structure EvoSt where
  start : Nat := 0
  fired : Bool := false
  next : Nat := 0
  pin : Bool := false
  falls : Bool := false
  roseUs : Nat := 0
deriving DecidableEq, Repr

/-- What TMU holds beside its registers: the time counter in 2^−32 ns (R553), the FIFOs of EVT_IN, the outputs, the level of
PPS_OUT, the samples in a row above LOCK_NS (R561), the timers that run (bit n: TMRn), the µs of the last offset sample (R563) and
of the last pulse of PPS_IN (R568), and of PPS_OUT whether a pulse is due and the µs in which it rose (R575). -/
structure TmuSt where
  t : Nat := 0
  evi : Tbl (List EviEntry) := []
  evo : Tbl EvoSt := []
  ppsOut : Bool := false
  miss : Nat := 0
  timers : Nat := 0
  sampleUs : Nat := 0
  ppsUs : Nat := 0
  ppsDue : Bool := false
  riseUs : Nat := 0
deriving DecidableEq, Repr


/-! ### CAN controllers (chapter 14) -/

/-- A frame held in the shadow buffer of a receive object (R597, R599): the frame and its SOF stamp, U[35:0]. -/
structure CanShadow where
  f : CanFrame := ⟨0, false, false, false, false, false, 0, []⟩
  u : Nat := 0
deriving DecidableEq, Repr

/-- The head frame of the XL transmit ring in the transmit buffer (R608): the ring index, the descriptor's words, the data,
the attempts made and the stamp of the last. -/
structure XlHead where
  idx : Nat
  words : List Nat
  data : List Byte
  attempts : Nat := 0
  u : Nat := 0
deriving DecidableEq, Repr

/-- A received XL frame held until it is written out (R610): the frame, its filter and its SOF stamp. -/
structure XlHeld where
  f : XlFrame
  flt : Nat
  u : Nat
deriving DecidableEq, Repr

/-- One CAN controller: the shadow buffers by object; the attempt under way (its object, or none for the XL head) and whether
a cancel was latched within it; the time of its last SOF in µs; the mode that INIT waits to take; whether it is bus-off, and
whether bus-off is due; the XL buffers; and the end of the ring that XTX_CANCEL named. -/
structure CanSt where
  shadow : Tbl CanShadow := []
  attempt : Option (Option Nat) := none
  cancel : Bool := false
  lastSof : Option Nat := none
  initDue : Bool := false
  busOff : Bool := false
  busOffDue : Bool := false
  head : Option XlHead := none
  held : List XlHeld := []
  xtxEnd : Option Nat := none
deriving DecidableEq, Repr

/-! ### Network rest and wake (chapter 15) -/

/-- One segment of NPM: the ms counted of the interval that runs (R626), whether that interval has started (the proposal or
the commit is sent), the ms since it last saw a wake event while AWAKE (R631), the ends of its false wakes of the last 60 s
in ms (R635), a wake request latched while NPM is gated (source and detail, R644), a WAKE frame that waits for its link (R641),
the µs of its last wake (R638), and whether the frame of the round has been handed to the CAN object or the MAC (R640). -/
structure SegSt where
  ms : Nat := 0
  sent : Bool := false
  idle : Nat := 0
  falseAt : List Nat := []
  latched : Option (Nat × Nat) := none
  wakeDue : Bool := false
  wokeUs : Option Nat := none
  framed : Bool := false
deriving DecidableEq, Repr

/-- What NPM holds beside its registers: the segments, and its ms count. -/
structure NpmSt where
  segs : Tbl SegSt := []
  ms : Nat := 0
deriving DecidableEq, Repr

/-! ### Cipher engine and key store (chapter 16) -/

/-- A job (R651): its instance, tag, descriptor address, and the attributes at admission (R435); once dispatched, the words of
its descriptor (R652), its output class (0 direct, 1 held, 2 streamed), the copies of its keys (R668), the quarantine range it
holds (R659), and whether it is stale (R442). -/
structure CpeJob where
  inst : Nat
  tag : Nat
  addr : Nat
  world : Bool
  part : Nat
  w : List Nat := []
  cls : Nat := 0
  key : List Byte := []
  key2 : List Byte := []
  qr : Option Nat := none
  stale : Bool := false
deriving DecidableEq, Repr

/-- An entry of a completion FIFO (R656, R662). -/
structure CpeCpl where
  tag : Nat
  status : Nat
  mode : Nat
  dir : Nat
  len : Nat := 0
  cls : Nat := 0
deriving DecidableEq, Repr

/-- A cipher instance: the jobs admitted and not dispatched, the completions, and the counters by KIND (R680). -/
structure CpeInst where
  queue : List CpeJob := []
  fifo : List CpeCpl := []
  cnt : Tbl Nat := []
deriving DecidableEq, Repr

/-- A job that runs: the units it runs on (0–3 cipher cores, 4 the hash unit, 5 the modular-arithmetic unit; more than one
for XTS). -/
structure CpeRun where
  units : List Nat
  job : CpeJob
deriving DecidableEq, Repr

/-- A quarantine range that CPE overwrites with zeros (R660, R675): the job that ended, with its status; none after a block
reset. -/
structure CpeZero where
  q : Nat
  ended : Option (CpeJob × Nat) := none
deriving DecidableEq, Repr

/-- What CPE holds beside its registers: the instances, the jobs that run, those to be dispatched again (R650), the instances
whose jobs wait for a range, in order (R659), the ranges set, in order, the ranges being zeroed, whether an alarm holds
dispatch and the time in µs of the last change of the detectors (R672), and for the scheduler of R654 the instances with a job
waiting and the blocks each has had since that set changed (R455). -/
structure CpeSt where
  insts : Tbl CpeInst := []
  runs : List CpeRun := []
  redo : List CpeJob := []
  qrWait : List Nat := []
  qrSet : List Nat := []
  zero : List CpeZero := []
  hold : Bool := false
  glitchUs : Nat := 0
  backlog : List Nat := []
  served : Tbl Nat := []
deriving DecidableEq, Repr

/-- What KST holds beside its registers: the keys by slot (R664), which no register shows (R665). -/
structure KstSt where
  keys : Tbl (List Byte) := []
deriving DecidableEq, Repr

/-! ### Duplex controller (chapter 17) -/

/-- A handover under way (R712): outgoing or incoming, engaged, its trigger (R724), the sweep S of the offer, the cycle C
of HANDOVER_TAKEN once sent, and the µs since reset of the offer. -/
structure Handover where
  out : Bool
  engaged : Bool := false
  trigger : Nat := 0
  sweep : Nat := 0
  taken : Option Nat := none
  sentUs : Nat := 0
deriving DecidableEq, Repr

/-- What DPX_COV shows (R716): by LSS_MTIME in µs, counted from 1, the last diagnostic cycle of each channel and the last
passed injection of each pair; the last complete pulse pass, with the channels pulsed since; the last complete pass over
all memories, with those scrubbed since. -/
structure Coverage where
  diagAt : Tbl Nat := []
  pairAt : Tbl Nat := []
  pulseAt : Nat := 0
  pulsed : Nat := 0
  scrubAt : Nat := 0
  scrubbed : Nat := 0
deriving DecidableEq, Repr

/-- What DPX holds beside its registers. -/
structure DpxSt where
  /-- The peer's commanded state of each channel in the last mirror: 0 OFF, 1 ON, 2 PWM (R211). -/
  peerCmd : Tbl Nat := []
  /-- The PWM argument of each channel in the mirrors' entries (R706). -/
  pwmArg : Tbl Nat := []
  /-- CONDUCTING of each channel in the last mirror (R824). -/
  peerCond : Nat := 0
  /-- A mirror has joined the samples of the last sweep (R203). -/
  joined : Bool := false
  /-- Step 9 has begun, and an ACTIVE peer has been heard since LISTEN began (R689, R692). -/
  step9 : Bool := false
  activeSeen : Bool := false
  /-- In µs since reset: when step 9 began (R689), when COLLAR_IN last changed (R692, R714, R715), when the last valid frame
  came (R689), since when this unit has been STANDBY_READY with all bits of FIT at 1 (R713), and, counted from 1, when the last
  rotation was (R716). -/
  step9Us : Nat := 0
  collarUs : Nat := 0
  heardUs : Nat := 0
  revertUs : Nat := 0
  rotatedUs : Nat := 0
  /-- For each path, in µs since reset counted from 1, since when valid frames have come with no gap above 1 ms (R699). -/
  pathRun : Tbl Nat := []
  /-- The peer's present sweep by its frames and the own sweeps since (R712). -/
  peerSweep : Nat := 0
  /-- SUP_OK (R705). -/
  supOk : Bool := true
  /-- Readiness at the last valid frame of the active unit (R702). -/
  ready : Bool := false
  /-- A mirror has arrived; the gap before it was within the limit; own sweeps since it (R707). -/
  mirrored : Bool := false
  gapOk : Bool := false
  sinceMirror : Nat := 0
  /-- COLLAR_HELD and COLLAR_SEEN of the last valid frame (R715). -/
  peerHeld : Bool := false
  peerSeen : Bool := false
  ho : Option Handover := none
  /-- The trigger of a HANDOVER_REQUEST sent from this STANDBY_READY, if one was (R713). -/
  asked : Option Nat := none
  /-- Turn-ons begin at the next sweep boundary (R703); begun turn-ons are not complete; µs since the decision. -/
  engage : Bool := false
  engaging : Bool := false
  sinceUs : Nat := 0
  /-- SEQ of each path (R697). -/
  seqs : Tbl Nat := []
  /-- µs since the last cycle boundary (R697, R710), and whether the boundaries follow those of a peer. -/
  phaseUs : Nat := 0
  shadow : Bool := false
  /-- Channels with SHORT_TO_SUPPLY when the unit last became ACTIVE, and the sweeps in a row of the third kind (R714). -/
  sts : List Nat := []
  hemRun : Nat := 0
  /-- Parameters that the last mirror sent restated, by channel (R706). -/
  told : Tbl Nat := []
  /-- Failures in a row of each channel's on-pulse (R717). -/
  pulseRun : Tbl Nat := []
  /-- In µs since reset counted from 1: since when each channel's mirrors have met R824, the begin of its last on-pulse, and the
  end of the last one of each group (R716). -/
  steady : Tbl Nat := []
  pulseFrom : Tbl Nat := []
  pulseEnd : Tbl Nat := []
  /-- The partition moved last by the rotation (R716). -/
  rotated : Nat := 15
  cov : Coverage := {}
deriving DecidableEq, Repr

/-! ### Mailbox and health (chapter 20) -/

/-- A handle slot (R802, R803): generation, state (7 free), the requester, OP and SESSION of its submission, its arguments,
its place in submission order, whether it holds its lane, whether it was suspended while running; the session of a SUSPEND
that waits, the sessions of CANCELs that wait; whether its commit step has begun; its status once its work has ended, and
its results. -/
structure Slot where
  gen : Nat := 0
  state : Nat := 7
  owner : Nat := 0
  op : Nat := 0
  session : Nat := 0
  args : List Nat := []
  order : Nat := 0
  lane : Bool := false
  suspends : List Nat := []
  cancels : List Nat := []
  committed : Bool := false
  ended : Option Nat := none
  status : Nat := 0
  r0 : Nat := 0
  r1 : Nat := 0
  /-- When the handle became final (R802). -/
  finalUs : Nat := 0
deriving DecidableEq, Repr

/-- An entry of a completion FIFO (R801). -/
structure MbxCpl where
  session : Nat
  status : Nat
  op : Nat
  handle : Nat := 0
  state : Nat := 7
  r0 : Nat := 0
  r1 : Nat := 0
deriving DecidableEq, Repr

/-- What MBX holds beside its registers: the slots, the next place in submission order, the entries of each window (the
first 16 are in its FIFO, those behind them wait), and the sense ADCs that a CALIBRATE_CHANNELS still has to calibrate. -/
structure MbxSt where
  slots : Tbl Slot := []
  next : Nat := 0
  fifos : Tbl (List MbxCpl) := []
  adcs : List Nat := []
deriving DecidableEq, Repr

/-- The latches of HST "since the previous report" (R811), whether a report has been written since module reset, the multiple
of 10 000 µs to which the newest belongs (R810), and when the seal request was raised and whether it has been found late
(R812). -/
structure HstSt where
  first : Bool := true
  sup : Nat := 0
  mesh : Bool := false
  vmin : Nat := 0xFFFF
  replays : Tbl Nat := []
  migrations : Nat := 0
  werrs : Nat := 0
  rebuilds : Nat := 0
  transients : Nat := 0
  poisons : Nat := 0
  written : Nat := 0
  overwritten : Nat := 0
  uc : Nat := 0
  trips : Nat := 0
  drops : Nat := 0
  swc : Nat := 0
  lastAt : Option Nat := none
  sealUs : Nat := 0
  sealLate : Bool := false
deriving DecidableEq, Repr

/-! ### Pair bridge (chapter 18) -/

/-- Who holds a semaphore (R746): a pair by origin world and partition, another initiator by initiator and world. -/
inductive Holder where
  | pair (world : Bool) (part : Nat)
  | other (ini : Nat) (world : Bool)
deriving DecidableEq, Repr

/-- A semaphore of the receiving bridge (R746): its number, its holder, its 64-byte granule, and the µs since reset of its
LR. -/
structure Sem where
  no : Nat
  holder : Holder
  granule : Nat
  takenUs : Nat := 0
deriving DecidableEq, Repr

/-- The effect of a read of an RE register that has not committed (R377, R378): what a discard gives back, or, for a
tracker and a bridge read, what the commit does. -/
inductive ReEffect where
  /-- A count clear: the field's key and width, and the value served. -/
  | count (key width value : Nat)
  /-- A completion popped, and the CHI_CPL_X fields shown before. -/
  | chi (i : Nat) (e : ChiCpl) (chan detail sweep : Nat)
  | evi (k : Nat) (e : EviEntry)
  /-- A completion popped, and the CPI_CPL_X fields shown before. -/
  | cpi (i : Nat) (e : CpeCpl) (len cls : Nat)
  | bridge (cid : Nat)
  /-- A mailbox entry popped, and what MBX_CPL_X, R0 and R1 showed before. -/
  | mbx (r : Nat) (e : MbxCpl) (handle state r0 r1 : Nat)
  /-- The restart of HST_VAUX_MV.MIN, which the commit makes (R122, R377). -/
  | tracker
deriving DecidableEq, Repr

/-- A local access that waits for its response (R735, R737): its message tag, the access, its address and size, the address of
the first byte that its message asks for, and whether it fills the prefetch buffer (R750); `waits` is false for a read-ahead
and for a snapshot write of DPX. -/
structure BridgeReq where
  tag : Nat
  kind : Nat
  acc : Access
  addr : Nat
  size : Nat
  base : Nat
  waits : Bool := true
  fill : Bool := false
  sent : Bool := false
deriving DecidableEq, Repr

/-- An inbound message under execution (R735, R736): a request with its response, or a doorbell that waits for earlier writes
(R752). -/
structure BridgeIn where
  msg : BridgeMsg
  answer : BridgeMsg := {}
deriving DecidableEq, Repr

/-- A granule of the prefetch buffer (R750): its peer address, its 64 bytes, the words it may serve, and the µs since reset in
which it came. -/
structure Granule where
  addr : Nat
  data : List Byte
  good : Nat
  keptUs : Nat := 0
deriving DecidableEq, Repr

/-- A deferred read of a local pair (R749): CID, partition, peer address, and whether its COMMIT is on its way, or the link
has gone DOWN before that. -/
structure Deferred where
  cid : Nat
  part : Nat
  addr : Nat
  committed : Bool := false
  lost : Bool := false
deriving DecidableEq, Repr

/-- A deferred read of the peer whose effect is pending (R378, R748): CID, originating initiator, address, effect, and the
word's data where the read was widened to it, for the holding buffer (R751). -/
structure PeerRead where
  cid : Nat
  ini : Nat
  addr : Nat
  effect : ReEffect
  keep : Option (List Byte) := none
deriving DecidableEq, Repr

/-- A sequenced message not yet acknowledged (R734): how often it was sent, and the µs since reset of its last sending. -/
structure Unacked where
  msg : BridgeMsg
  sends : Nat := 1
  sentUs : Nat := 0
deriving DecidableEq, Repr

/-- A word of the holding buffer (R751): its address, its data, and the µs since reset in which it came. -/
structure Held where
  addr : Nat
  data : List Byte
  keptUs : Nat := 0
deriving DecidableEq, Repr

/-- What PBR holds beside its registers: the outbound channel (messages not sent, then the retry queue), the messages not
acknowledged, the sequence numbers, the accesses that wait, inbound work, the inbound
requests that the retry queue waits for (R744), the semaphores (the one taken longest ago first), the peer's deferred effects
by CID, the local pairs' deferred reads, the prefetch buffer, the holding buffer (oldest first), and, in µs since reset counted
from 1, since when the head of the channel, a request, has waited for credit (R743). -/
structure PbrSt where
  queue : List BridgeMsg := []
  unacked : List Unacked := []
  nextSeq : Nat := 1
  lastSeq : Nat := 0
  reqs : List BridgeReq := []
  inq : List BridgeIn := []
  retry : List BridgeMsg := []
  retryTags : List Nat := []
  sems : List Sem := []
  effects : List PeerRead := []
  defers : List Deferred := []
  nextCid : Nat := 0
  prefetch : List Granule := []
  holding : List Held := []
  headUs : Nat := 0
  /-- The peer's PAIR_ID has matched, and the peer has named this bridge's session (R727). -/
  paired : Bool := false
  named : Bool := false
deriving DecidableEq, Repr

/-! ### Live update (chapter 19) -/

/-- What an activation under way waits for (R776–R782): the handover or the cut-over of a partition, with the pair on loan;
the bank swap; the drain of the switch; READY of the secure firmware, with WCT_RESTART_CNT at its start. -/
inductive ActWait where
  | handover (part pair : Nat)
  | adopt (part pair : Nat)
  | swap (bank : Nat)
  | drain (epoch : Nat)
  | ready (restarts : Nat)
deriving DecidableEq, Repr

/-- An activation under way: the component index and what it waits for. -/
structure Activation where
  comp : Nat
  wait : ActWait
deriving DecidableEq, Repr

/-- An activated component on probation (R789): its index, the µs it still has to serve. -/
structure OnProbation where
  comp : Nat
  leftUs : Nat
deriving DecidableEq, Repr

/-- What NVC holds beside its registers and the banks. -/
structure NvcSt where
  /-- Chunks staged and not in the bank's bitmap (R769). -/
  working : List Nat := []
  /-- The chunk in progress, by index and buffer address (R768). -/
  chunk : Option (Nat × Nat) := none
  act : Option Activation := none
  /-- The components activated, in activation order. -/
  done : List OnProbation := []
  /-- The images that partitions ran before their activation (R776 step 6). -/
  prevPart : Tbl (List Nat) := []
  /-- The record of the partition that changes over, as words, with its handover area and the running schema (R776, R777). -/
  newRec : List Nat := []
  area : Nat := 0
  schema : Nat := 0
  /-- a0, a1 and a2 with which a partition that is rolled back starts (R790). -/
  startRegs : Tbl (List Nat) := []
  /-- The boot ROM patch slots that the activation programmed (R787). -/
  bromSlots : List Nat := []
  /-- The secure image store holds the staged firmware as current (R781). -/
  secNew : Bool := false
  /-- The staging status, phase and failure that the staging bank restores (R796). -/
  stg : Nat := 0
  check : Nat := 0
  phase : Nat := 0
  last : Nat := 0
  failComp : Nat := 0
  failCause : Nat := 0
  /-- A MODULE rollback waits for the peer (R790), and a MODULE trial has not yet been judged (R784). -/
  backWaits : Bool := false
  /-- When F ran the new record in the activation under way (R776 step 3), and for how long the unit has been unfit (R789). -/
  hoUs : Nat := 0
  unfitUs : Nat := 0
  trialWaits : Bool := false
deriving DecidableEq, Repr
/-! ### Read effects and what the module sends -/

/-- A pending read effect: pair, window sequence number, register address. -/
structure PendingRe where
  pair : Nat
  window : Nat
  addr : Nat
  effect : ReEffect
deriving DecidableEq, Repr

/-- What the module sends to the world outside it, and the writes of its blocks to targets other than memory. -/
inductive Emission where
  /-- A write that a block or an engine issues to a target other than memory. -/
  | blockWrite (a : Access) (addr : Nat) (bytes : List Byte)
  /-- An Ethernet frame that leaves a port, FCS included. -/
  | frame (port : Nat) (bytes : List Byte)
  /-- A CAN frame sent without error. -/
  | can (c : Nat) (f : CanFrame)
  | canXl (c : Nat) (f : XlFrame)
  /-- A message of the pair bridge to the peer module (R731). -/
  | bridge (msg : BridgeMsg)
deriving DecidableEq, Repr


/-! ### The machine -/

/-- The module: everything the spec gives it but the OTP and the queue of commands. -/
structure Module where
  /-- Every register field, by key; an unlisted field holds its reset value. -/
  regs : Tbl Nat := []
  /-- The copy of the CFG fields that SYSCTL keeps in the core domain (R62). -/
  cfg : Tbl Nat := []
  mem : MemSt := {}
  /-- Response to the last access. -/
  resp : Resp := {}
  /-- The model's own counter of free values drawn. -/
  fresh : Nat := 0
  sys : SysSt := {}
  fab : FabSt := {}
  wct : WctSt := {}
  inst : Tbl InstSt := []
  swc : SwcSt := {}
  mac : Tbl MacSt := []
  hdma : HdmaSt := {}
  tmu : TmuSt := {}
  can : Tbl CanSt := []
  npm : NpmSt := {}
  cpe : CpeSt := {}
  kst : KstSt := {}
  pbr : PbrSt := {}
  chc : ChcSt := {}
  uin : UinSt := {}
  dpx : DpxSt := {}
  lss : LssSt := {}
  nvm : NvmSt := {}
  sup : SupSt := {}
  boot : BootSt := {}
  nvc : NvcSt := {}
  mbx : MbxSt := {}
  hst : HstSt := {}
  /-- Pending effects of reads by lock-step pairs (R378). -/
  reads : List PendingRe := []
  /-- What the module has sent out, newest first. -/
  out : List Emission := []
deriving DecidableEq, Repr

/-- The state of the block and the queue of the commands that wait. -/
structure State where
  /-- First in, first out. -/
  pending : List Instr := []
  /-- The one-time programmable memory, which no reset changes. -/
  otp : Otp := {}
  m : Module := {}
deriving DecidableEq, Repr

/-- The machine after power-on reset is released, and before any command (R49, R50): every register field holds its
reset value, no image is applied, every memory reads 0, and the queue is empty. -/
def State.reset : State := {}

end Sys2Proof.Machine
end

