-- ==== Sys2Proof/Machine/Ops.lean ====
section
/-!
DEFINITION. The named operations over registers, memory and the log that every command's meaning is written with.
-/
namespace Sys2Proof.Machine

/-! ### Lifting to the state -/

/-- The outcome of a command whose effect on the module is `f`; the OTP and the queue stay (log entry 8). -/
def State.run (s : State) (f : Module → Module) : Host.Outcome State Fault Refusal := .next { s with m := f s.m }

/-- The outcome of a command that also programs the OTP. -/
def State.runOtp (s : State) (f : Otp → Module → Otp × Module) : Host.Outcome State Fault Refusal :=
  .next { s with otp := (f s.otp s.m).1, m := (f s.otp s.m).2 }

/-! ### Register fields -/

namespace Module

/-- The value of field `f`, element (i, j, k): as many bits as the field has. -/
def rd (m : Module) (f : Fam) (i j k : Nat := 0) : Nat := tget f.reset m.regs (f.key i j k) % 2 ^ f.width

/-- Store `v`, kept to the field's width, in field `f`, element (i, j, k). -/
def wr (m : Module) (f : Fam) (v : Nat) (i j k : Nat := 0) : Module :=
  { m with regs := tset f.reset m.regs (f.key i j k) (v % 2 ^ f.width) }

/-- The field is not 0. -/
def flag (m : Module) (f : Fam) (i j k : Nat := 0) : Bool := m.rd f i j k != 0

/-- Store 1 or 0. -/
def wrb (m : Module) (f : Fam) (b : Bool) (i j k : Nat := 0) : Module := m.wr f (b2n b) i j k

/-- Set a flag field to 1. -/
def raise (m : Module) (f : Fam) (i j k : Nat := 0) : Module := m.wr f 1 i j k

/-- Set a field to 0. -/
def lower (m : Module) (f : Fam) (i j k : Nat := 0) : Module := m.wr f 0 i j k

/-- Add `n` to a wrapping count. -/
def addW (m : Module) (f : Fam) (n : Nat) (i j k : Nat := 0) : Module := m.wr f (m.rd f i j k + n) i j k

/-- Add `n` to a saturating count. -/
def addS (m : Module) (f : Fam) (n : Nat) (i j k : Nat := 0) : Module := m.wr f (sat f.width (m.rd f i j k + n)) i j k

/-- Set bit `n` of a bit-map field. -/
def setMap (m : Module) (f : Fam) (n : Nat) (b : Bool := true) (i j k : Nat := 0) : Module :=
  m.wr f (setBit (m.rd f i j k) n b) i j k

/-- Bit `n` of a family of 32-bit maps: word n / 32, bit n mod 32. -/
def mapBit (m : Module) (f : Fam) (n : Nat) : Bool := bit (m.rd f (n / 32)) (n % 32)

/-- Set bit `n` of a family of 32-bit maps. -/
def putMapBit (m : Module) (f : Fam) (n : Nat) (b : Bool := true) : Module := m.setMap f (n % 32) b (n / 32)

/-- The field returns to its reset value. -/
def clr (m : Module) (f : Fam) (i j k : Nat := 0) : Module := { m with regs := tdel m.regs (f.key i j k) }

/-- Every field whose register's byte address lies in [lo, hi) returns to its reset value, but those `keep` names. -/
def clrRange (m : Module) (lo hi : Nat) (keep : Nat → Bool := fun _ => false) : Module :=
  { m with regs := tkeep (fun k => ! (decide (lo ≤ k / 64) && decide (k / 64 < hi)) || keep (k / 64)) m.regs }

/-- The CFG fields in [lo, hi) take the values of the retained copy again (R62, R53). -/
def restoreCfg (m : Module) (lo hi : Nat) : Module :=
  let back := m.cfg.filter (fun e => decide (lo ≤ e.1 / 64) && decide (e.1 / 64 < hi))
  { m with regs := back.foldl (fun t e => if e.2 = 0 then tdel t e.1 else tput t e.1 e.2) m.regs }

/-- The fields in [lo, hi) as they stand become their retained copy (R62). -/
def saveCfg (m : Module) (lo hi : Nat) : Module :=
  let here := fun k => decide (lo ≤ k / 64) && decide (k / 64 < hi)
  let kept := tkeep (fun k => ! here k) m.cfg
  { m with cfg := (m.regs.filter (fun e => here e.1)).foldl (fun t e => tput t e.1 e.2) kept }

/-- Apply `f` where `c` holds (log entry 8). -/
def when (m : Module) (c : Bool) (f : Module → Module) : Module := if c then f m else m

/-- Work of the instance on page `p` is discarded (R443, R448): counted for the tenant and for the manager. -/
def staleCount (m : Module) (p n : Nat) : Module := (m.addS F.INST_STALE_COUNT n p).addS F.IMG_INST_STALE_COUNT n p

/-- HST's own latches for the fields "since the previous report" (R811). -/
def latch (m : Module) (f : HstSt → HstSt) : Module := { m with hst := f m.hst }

/-- An event bit of SWC, which HST also latches (R811). -/
def swcEvent (m : Module) (f : Fam) : Module := (m.raise f).latch (fun h => { h with swc := setBit h.swc f.lo true })

/-- LSS_MTIME in µs, counted from 1, as DPX remembers it for its coverage. -/
def covNow (m : Module) : Nat := m.rd F.LSS_MTIME_US + 1

/-- Change DPX's coverage (R716). -/
def setCov (m : Module) (f : Coverage → Coverage) : Module := { m with dpx := { m.dpx with cov := f m.dpx.cov } }

/-- A scrub pass over memory `k` is complete (R375, R716): FAB_SCRUB_STAT counts it (log entry 44). -/
def scrubPassed (m : Module) (k : Nat) : Module :=
  let m := m.addW F.FAB_SCRUB_STAT_PASSES 1 k
  let now := m.covNow
  m.setCov (fun c =>
    let s := setBit c.scrubbed k true
    if s = 127 then { c with scrubbed := 0, scrubAt := now } else { c with scrubbed := s })

/-- The time `t` in ns moved by `d` ns, as a 64-bit time-stamp (log entry 35). -/
def shiftNs (t : Nat) (d : Int) : Nat := unsigned 64 ((t : Int) + d)

/-- Draw a free value below `n`: nothing says which (Config.freeValue) (log entry 1). -/
def draw (m : Module) (n : Nat) : Module × Nat :=
  ({ m with fresh := m.fresh + 1 }, Config.freeValue m.fresh % n)

/-! ### The block map -/

/-- The block identifier of the target at physical address `a` (R20, R31, R36), `none` where nothing is mapped. -/
def blockOf (a : Nat) : Option Nat :=
  if a < 0x40000 then some 0x00
  else if 0x10000000 ≤ a ∧ a < 0x11000000 then some 0x01
  else if 0x20000000 ≤ a ∧ a < 0x21400000 then some (2 + (a - 0x20000000) / 0x100000)
  else if 0x30000000 ≤ a ∧ a < 0x40000000 then some 0x0F
  else if 0x40000000 ≤ a ∧ a < 0x40040000 then some 0x0C
  else if 0x40040000 ≤ a ∧ a < 0x40060000 then some 0x08
  else if 0x40060000 ≤ a ∧ a < 0x40070000 then some 0x04
  else if 0x800000000 ≤ a ∧ a < 0x900000000 then some 0x16
  else none

/-- The first byte of the register window of block `b`, 0x02–0x15 (R20). -/
def winBase (b : Nat) : Nat := 0x20000000 + (b - 2) * 0x100000

/-- Address `a` lies in an instance aperture (R36). -/
def isAperture (a : Nat) : Bool := decide (0x40000000 ≤ a ∧ a < 0x40070000)

/-- The aperture page of address `a` (R36). -/
def pageOf (a : Nat) : Nat := (a - 0x40000000) / 0x1000

/-- A core-domain block, which has neither clock gate nor power switch (R58). -/
def coreDomain (b : Nat) : Bool := b == 0 || b == 1 || b == 2 || b == 3 || b == 0x12 || decide (0x16 ≤ b)

/-- The clock of block `b` runs and its domain is on (R63). -/
def running (m : Module) (b : Nat) : Bool :=
  coreDomain b || (bit (m.rd F.SYSCTL_CLK_STATE_RUN) b && bit (m.rd F.SYSCTL_PWR_STATE_ON) b)

/-- Block `b` works: module reset is not held, the clock of the block runs, its domain is on, and it is not in reset (R51, R53,
R63). -/
def works (m : Module) (b : Nat) : Bool := ! m.sys.resetHeld && m.running b && m.sys.blkRst != some b

/-- A gating-off request drains block `b` (R61). -/
def draining (m : Module) (b : Nat) : Bool :=
  [m.sys.gateS, m.sys.gateN].any (fun j => match j with | some j => j.block == b && j.op % 2 == 0 | none => false)

/-! ### Which registers there are -/

/-- Element `p` of the family `f` is a field: for some registers and fields of a port window the table names the ports
(R550). -/
def fieldHere (f : Fam) (p : Nat) : Bool :=
  let o := f.base - 0x20500000
  if f.base < 0x20500000 ∨ 0x20600000 ≤ f.base then true
  else if o = 0x400 then
    decide (3 ≤ p) && decide (p ≤ 14) && (if f.lo = 0 then true else if f.lo ≤ 2 then decide (p ≤ 10) else decide (11 ≤ p))
  else if o = 0x404 then decide (3 ≤ p) && decide (p ≤ 14) && (f.lo != 2 || decide (p ≤ 10))
  else if (o = 0 ∧ f.lo = 2) ∨ (0x10 ≤ o ∧ o ≤ 0x18) ∨ (0x80 ≤ o ∧ o ≤ 0x104) then decide (p ≤ 14) else true

/-- The fields of the register at byte address `a`, with the element each is. -/
def fieldsAt (a : Nat) : List (Fam × Nat × Nat × Nat) :=
  (F.all.filterMap (fun f => (f.index? a).map (fun x => (f, x)))).filter (fun x => fieldHere x.1 x.2.1)

/-- The width in bytes of the register at byte address `addr`, if a register table lists one (R9, R16). -/
def regWidth (addr : Nat) : Option Nat :=
  match fieldsAt addr with
  | [] => none
  | l => some (if l.any (fun x => decide (32 ≤ x.1.hi)) then 8 else 4)

/-! ### Time -/

/-- The time counter in its 64-bit form, seconds × 10^9 + nanoseconds (R391, R556). -/
def tai (m : Module) : Nat := m.tmu.t / 2 ^ 32

/-- Time in µs since reset was released. -/
def now (m : Module) : Nat := m.boot.us

/-! ### Service by weight -/

/-- Whose turn it is (R455): `l` holds those that wait, each with the size of its next entry, `served` the service each has had
so far. Among those not ahead of their share by weight, the one whose entry ends its share first; the first in order of equals
(log entry 24). -/
def fairTurn (l : List (Nat × Nat)) (served weight : Nat → Nat) : Option Nat :=
  let total := (l.map (fun e => served e.1)).sum
  let weights := (l.map (fun e => weight e.1)).sum
  ((l.filter (fun e => decide (served e.1 * weights ≤ total * weight e.1))).foldl (fun (best : Option (Nat × Nat)) e =>
    match best with
    | none => some e
    | some b => if (served e.1 + e.2) * weight b.1 < (served b.1 + b.2) * weight e.1 then some e else best) none).map Prod.fst

/-! ### The error log -/

/-- What a log record says of its event (R391). -/
structure Rec where
  block : Nat
  code : Nat
  ini : Nat := 0
  addr : Nat := 0
  part : Nat := 0
  world : Bool := false
  spec : Bool := false
  kind : Nat := 0
  status : Nat := 0
  d0 : Nat := 0
  d1 : Nat := 0
  committed : Bool := false

/-- A record about an access: initiator, partition and world are the access's; every write of a lock-step pair is a committed
one (R337, R341). -/
def Rec.ofAccess (a : Access) (block code addr kind status : Nat) (d0 d1 : Nat := 0) : Rec :=
  { block := block, code := code, ini := a.ini, addr := addr, part := a.part, world := a.world, spec := a.spec,
    kind := kind, status := status, d0 := d0, d1 := d1
    committed := kind == 1 && decide (0x10 ≤ a.ini) && decide (a.ini ≤ 0x13) }

/-- Byte address of slot `i` of the ring (R390). -/
def logSlot (m : Module) (i : Nat) : Nat := m.rd F.FAB_LOG_BASE_ADDR * 0x2000 + i % 256 * 32

/-- The eight words of a record (R391). -/
def recWords (r : Rec) (tai rep seq : Nat) : List Nat :=
  [tai % 2 ^ 32, tai / 2 ^ 32 % 2 ^ 32,
   r.block + r.ini * 2 ^ 8 + r.code * 2 ^ 16,
   r.addr % 2 ^ 32,
   r.addr / 2 ^ 32 % 2 ^ 8 + r.part % 16 * 2 ^ 8 + b2n r.world * 2 ^ 12 + b2n r.spec * 2 ^ 13 + r.kind * 2 ^ 14
     + r.status * 2 ^ 16 + rep * 2 ^ 24,
   r.d0 % 2 ^ 32, r.d1 % 2 ^ 32,
   seq + b2n r.committed * 2 ^ 16]

/-- FAB's own write of the ring, with what its checks found: it bypasses the firewall (R390) and keeps the seam words (R367); a
poisoned line takes nothing (R370). -/
def ringWrite (m : Module) (a : Nat) (l : List Byte) : Module × List MemSt.Check :=
  let (st, cs) := m.mem.guardedPut [] a l
  ({ m with mem := st }, cs)

/-- The event counts and flags of FAB for code `c` (R397). -/
def logCounts (m : Module) (c : Nat) : Module :=
  let m := if c = 1 then m.addW F.FAB_CNT_DENY_COUNT 1 else if c = 2 then m.addW F.FAB_CNT_UNMAPPED_COUNT 1
    else if 3 ≤ c ∧ c ≤ 10 then m.addW F.FAB_CNT_OTHER_COUNT 1 else m
  let m := m.when (c == 0x0103 || c == 0x0106) (·.raise F.FAB_EVT_UNCORR)
  let m := m.when (c == 0x0104) (·.raise F.FAB_EVT_SEAM)
  m.when (c == 8) (·.raise F.FAB_EVT_RE_LIMIT)

/-- One record is written to the error log: coalescing (R393), a full ring (R394), and the indices; with the line of the ring
written and what the checks of its old words found. -/
def record (m : Module) (r : Rec) : Module × Nat × List MemSt.Check :=
  let m := (m.logCounts r.code).latch (fun h => { h with written := h.written + 1 })
  let t := m.tai
  let same := match m.fab.newest with
    | some n => n.block == r.block && n.ini == r.ini && n.code == r.code && n.addr == r.addr
        && decide (t ≤ n.tai + 1000000) && decide (n.tai ≤ t + 1000000)
    | none => false
  if m.flag F.FAB_LOG_CTRL_COALESCE && same then
    match m.fab.newest with
    | some n =>
      let rep := sat 8 (n.rep + 1)
      let m := { m with fab := { m.fab with newest := some { n with rep := rep } } }
      let x := m.ringWrite (n.place + 0x13) [BitVec.ofNat 8 rep]
      (x.1, n.place / 256 * 256, x.2)
    | none => (m, 0, [])
  else
    let i := m.rd F.FAB_LOG_WR_IDX
    let q := m.rd F.FAB_LOG_WR_SEQ
    let full := (i + 1) % 256 == m.rd F.FAB_LOG_RD_IDX
    let m := m.when full (fun m =>
      (((m.addW F.FAB_LOG_RD_IDX 1).addS F.FAB_LOG_LOST_COUNT 1).raise F.FAB_EVT_LOST).latch
        (fun h => { h with overwritten := h.overwritten + 1 }))
    let x := m.ringWrite (m.logSlot i) ((recWords r t 0 q).flatMap (toBytes 4))
    let n := ((x.1.addW F.FAB_LOG_WR_IDX 1).addW F.FAB_LOG_WR_SEQ 1).raise F.FAB_EVT_NEW
    ({ n with fab := { n.fab with newest := some ⟨r.block, r.ini, r.code, r.addr, t, m.logSlot i, 0⟩ } }, m.logSlot i / 256 * 256, x.2)

/-- The block identifier of guarded memory `k`: 0 SRAM, 1 DRAM, 2 L2, 3–6 pair-local (R364). -/
def memBlock (k : Nat) : Nat := if k = 0 then 1 else 0x15 + k

/-- Counts of the checks of guarded memory `k`, and their records, which `put` writes (R368, R374, R397). -/
def checksBy (put : Module → Rec → Module) (m : Module) (k : Nat) (r : Rec) (base : Nat) (cs : List MemSt.Check) : Module :=
  cs.foldl (fun m c =>
    if c.code = 0 then m else
    let m := if c.code = 0x0102 then m.addW F.FAB_MG_CNT_REBUILT 1 k
      else if c.code = 0x0101 then m.addS F.FAB_MG_CNT_TRANSIENT 1 k
      else if c.code = 0x0103 ∨ c.code = 0x0104 then m.addS F.FAB_MG_CNT_UNCORR 1 k else m
    let m := m.latch (fun h => { h with
      rebuilds := h.rebuilds + b2n (c.code == 0x0102), transients := h.transients + b2n (c.code == 0x0101)
      poisons := h.poisons + b2n (c.code == 0x0103 || c.code == 0x0104) })
    put m { r with block := memBlock k, code := c.code, addr := base + c.d0 % 64 * 4,
                   status := if c.failed then 0x0D else 0, d0 := c.d0, d1 := c.d1 }) m

/-- A record is written, and after it those of the errors met in the ring's old words (R367, R368), each of which may meet
others, at most `n` deep. -/
def logN : Nat → Module → Rec → Module
  | 0, m, r => (m.record r).1
  | n + 1, m, r =>
    let x := m.record r
    checksBy (logN n) x.1 0 { block := 3, code := 0, kind := 1 } x.2.1 x.2.2

/-- Write a record to the error log. The checks of a write repair or poison what they find, so that the errors of the ring's 32
lines are met in a row at most that many times (log entry 9). -/
def log (m : Module) (r : Rec) : Module := logN 32 m r

/-- A record that block `b` writes about itself (R392; log entry 50). -/
def logBlk (m : Module) (b code : Nat) (addr d0 d1 : Nat := 0) : Module :=
  m.log { block := b, code := code, addr := addr, d0 := d0, d1 := d1 }

/-! ### Responses -/

/-- A request that succeeds: status OK and data `d`. -/
def ok (m : Module) (d : Nat := 0) : Module := { m with resp := { status := 0, data := d } }

/-- Why an access is refused: status, code, block and DETAIL0 (R388); or why a pair issues no transaction for it (`silent`):
its cores take an access fault, or with status 0 the load waits (R324, R326). -/
structure Deny where
  status : Nat
  code : Nat
  block : Nat
  d0 : Nat := 0
  silent : Bool := false
deriving DecidableEq, Repr

/-- The error response: data 0, and the record of R388; a speculative access refused by the firewall or a quarantine
range is counted and not logged (R389; log entry 9); nor is what issues no transaction. -/
def refuse (m : Module) (a : Access) (addr kind : Nat) (d : Deny) : Module :=
  let m := { m with resp := { status := d.status } }
  if d.silent then m
  else if a.spec && (d.code == 1 && decide (d.d0 < 2 ^ 29) || d.code == 7) then m.addW F.FAB_CNT_SPEC_COUNT 1
  else m.log (Rec.ofAccess a d.block d.code addr kind d.status d.d0)

/-! ### Admission of an access -/

/-- Bit `n` of the mask of the regions of target `t` for which `p` holds. -/
def regionMask (p : Nat → Bool) : Nat := (List.range 16).foldl (fun acc r => if p r then acc + 2 ^ r else acc) 0

/-- Region `r` of target `t` is enabled and covers address `addr` (R381). -/
def regionCovers (m : Module) (t r addr : Nat) : Bool :=
  bit (m.rd F.FAB_RGN_KEY_KEY t r) 21 && decide (m.rd F.FAB_RGN_BASE_BASE t r ≤ addr / 4096)
    && decide (addr / 4096 ≤ m.rd F.FAB_RGN_LIMIT_LIMIT t r)

/-- Region `r` of target `t` admits the access (R382). `kind` is 0 data read, 1 data write, 2 instruction fetch. -/
def regionAdmits (m : Module) (t r : Nat) (a : Access) (addr kind : Nat) : Bool :=
  let k := m.rd F.FAB_RGN_KEY_KEY t r
  let mask := bits k 15 8
  m.regionCovers t r addr && (a.ini &&& mask) == (bits k 7 0 &&& mask)
    && (if a.world then bit k 17 else bit k 16) && bit (m.rd F.FAB_RGN_PART_MASK t r) a.part && bit k (18 + kind)

/-- An initiator that the firewall refuses before ENFORCE: a normal-world core or pair (R384). -/
def earlyRefused (a : Access) : Bool := ! a.world && (decide (a.ini ≤ 3) || decide (0x10 ≤ a.ini ∧ a.ini ≤ 0x13))

/-- The firewall's refusal (R382, R384), if any. -/
def firewall (m : Module) (t : Nat) (a : Access) (addr kind : Nat) : Option Deny :=
  let deny : Deny := { status := 2, code := 1, block := t, d0 := regionMask (fun r => m.regionCovers t r addr) }
  if ! m.flag F.FAB_CTRL_ENFORCE then (if earlyRefused a then some deny else none)
  else if (List.range 16).any (fun r => m.regionAdmits t r a addr kind) then none else some deny

/-- The effective WORLD of a block (R410, R411): true where the block refuses the normal world. -/
def secureBlock (m : Module) (b : Nat) : Bool :=
  b == 0x0D || b == 0x10 || (! (b == 2 || b == 3 || b == 0x12 || decide (0x16 ≤ b)) && m.flag F.WCT_BLK_WORLD b)

/-- A quarantine range that the `n` bytes from `addr` overlap, and that does not admit the access (R387). -/
def quarantined (m : Module) (a : Access) (owner : Option Nat) (addr n : Nat) : Bool :=
  (List.range 8).any (fun q => m.flag F.FAB_QR_CTRL_ACTIVE q
    && decide (addr < (m.rd F.FAB_QR_BASE_ADDR q + m.rd F.FAB_QR_LEN_LEN q) * 256)
    && decide (m.rd F.FAB_QR_BASE_ADDR q * 256 < addr + n)
    && ! (a.ini == 0x21 && owner == some (m.rd F.FAB_QR_CTRL_OWNER q)))

/-- The world of instance page `p` (R412). -/
def pageWorld (m : Module) (p : Nat) : Bool := m.mapBit F.WCT_INST_WORLD_SECURE p

/-- An aperture page admits only its tenant (R434). -/
def tenantOk (m : Module) (p : Nat) (a : Access) : Bool :=
  m.flag F.IMG_INST_CFG_ASSIGNED p && m.pageWorld p == a.world && m.rd F.IMG_INST_CFG_PART p == a.part

/-- The life-cycle state admits the debug access `a` (R157): both worlds in MANUFACTURE and RETURN, the normal world in
PROVISIONED, there the partitions of the grant in FIELD_DEBUG (R161, R165), none in FIELD and END. -/
def debugGranted (m : Module) (a : Access) : Bool :=
  match m.rd F.SYSCTL_LC_STATE_STATE with
  | 0 => true
  | 4 => true
  | 1 => ! a.world
  | 3 => ! a.world && bit (m.rd F.SYSCTL_DBG_GRANT_PARTS) a.part
  | _ => false

/-- The refusal of an access to an address of no block: BLOCK is an identifier that the manual does not name (log entry 4). -/
def unmapped : Deny := { status := 0x10, code := 2, block := Config.unmappedBlock.val }

/-- The refusal of an access of `n` bytes at `addr` that fits no register: inside a register or of another width it is
MISALIGNED (R10), elsewhere UNMAPPED (R16, R32, R34); BLOCK is the identifier of the block whose window or aperture it is
(R20, R37; log entry 4). -/
def misfit (addr n : Nat) : Option Deny :=
  match blockOf addr with
  | none => some unmapped
  | some b =>
    let bad : Deny := { status := 0x10, code := 3, block := b }
    match regWidth addr with
    | some w => if n = w then none else some bad
    | none =>
      if (addr % 4 ≠ 0 ∧ (regWidth (addr / 4 * 4)).isSome) ∨ regWidth (addr / 8 * 8) = some 8 then some bad
      else some { status := 0x10, code := 2, block := b }

/-- The `n` bytes from `addr` touch the boot region while it is reserved for the secure world (R130). -/
def regionReserved (m : Module) (a : Access) (addr n : Nat) : Bool :=
  m.boot.region && ! a.world && decide (0x800000000 < addr + n) && decide (addr < 0x804000000)

/-- The checks that precede the target block itself (R32, R130, R55, R165, R382, R387, R410, R434), in the order the
assumption log names; `owner` is the cipher instance on whose behalf CPE acts (log entry 4). -/
def fabricDeny (m : Module) (a : Access) (addr n kind : Nat) (owner : Option Nat := none) : Option Deny :=
  match blockOf addr with
  | none => some unmapped
  | some b =>
    if m.sys.partRst == some a.part then some { status := 0x0F, code := 6, block := b }
    else if a.ini == 0x3F && ! m.debugGranted a then some { status := 2, code := 1, block := b, d0 := 2 ^ 29 }
    else if isAperture addr then
      if m.tenantOk (pageOf addr) a then none else some { status := 2, code := 1, block := b, d0 := 2 ^ 30 }
    else if m.secureBlock b && ! a.world then some { status := 2, code := 1, block := b, d0 := 2 ^ 31 }
    else if m.quarantined a owner addr n then some { status := 2, code := 7, block := b }
    else if m.regionReserved a addr n then some { status := 2, code := 1, block := b, d0 := regionMask (fun r => m.regionCovers b r addr) }
    else m.firewall b a addr kind

/-- The checks of a register access at the target block: gated or off (R63), in block reset or draining (R53, R61;
log entry 4). -/
def blockDeny (m : Module) (b : Nat) : Option Deny :=
  if ! m.running b then some { status := 0x0F, code := 4, block := b }
  else if m.sys.blkRst == some b || m.draining b then some { status := 0x0F, code := 5, block := b }
  else none

/-! ### The pair bridge window -/

/-- The pair link to a peer is established (R35, R726). -/
def bridgeUp (m : Module) : Bool := m.flag F.PBR_STAT_LINK

/-- Address `a` lies in the pair bridge window (R31). -/
def isWindow (a : Nat) : Bool := decide (0x30000000 ≤ a) && decide (a < 0x40000000)

/-- The offset of a local address in the pair bridge window. -/
def winOffset (addr : Nat) : Nat := addr - 0x30000000

/-- The enabled window that holds a local address (R739). -/
def winOf (m : Module) (addr : Nat) : Option Nat :=
  (List.range 16).find? (fun w =>
    let n := m.rd F.PBR_WIN_A_SIZE_LOG2 w
    m.flag F.PBR_WIN_A_EN w && winOffset addr / 2 ^ n == m.rd F.PBR_WIN_A_OFF w * 2 ^ 12 / 2 ^ n)

/-- The bridge's refusal of an access to its window (R35, R739): `admits` is the window's bit that admits it. -/
def windowDeny (m : Module) (addr : Nat) (admits : Fam) : Option Deny :=
  if ! m.bridgeUp then some { status := 0x0F, code := 9, block := 0x0F }
  else
    match m.winOf addr with
    | none => some { status := 0x10, code := 2, block := 0x0F }
    | some w => if m.flag admits w then none else some { status := 2, code := 1, block := 0x0F }

/-- The refusal of a block's own transaction of `n` bytes to a target other than guarded memory, past the fabric's checks: the
bridge window's, the target block's (R53, R61, R63), and that of what fits no register (R10, R16, R34; log entry 51). -/
def targetDeny (m : Module) (addr n kind : Nat) : Option Deny :=
  if isWindow addr then m.windowDeny addr (if kind = 1 then F.PBR_WIN_A_WRITE else F.PBR_WIN_A_READ)
  else
    match blockOf addr with
    | none => none
    | some b =>
      if b = 0 then none
      else
        match m.blockDeny b with
        | some d => some d
        | none => misfit addr n

/-! ### The views of a pair -/

/-- The pair that issued an access, if one did (R39). -/
def pairOf (a : Access) : Option Nat := if 0x10 ≤ a.ini ∧ a.ini ≤ 0x13 then some (a.ini - 0x10) else none

/-- The partition that pair `n` runs, where its state is RUN or SPLIT and LSS_PART names the pair. -/
def hosted (m : Module) (n : Nat) : Option Nat :=
  let p := m.rd F.LSS_PAIR_STAT_PART n
  let pst := m.rd F.LSS_PAIR_STAT_STATE n
  let st := m.rd F.LSS_PART_STATE p
  if (pst = 3 ∨ pst = 6) ∧ m.rd F.LSS_PART_PAIR p = n ∧ (st = 1 ∨ st = 2) then some p else none

/-- The views of the partition that pair `n` runs (R325). -/
def pairViews (m : Module) (n : Nat) : List PView :=
  match m.hosted n with | some p => partViews (tget [] m.lss.store p) | none => []

/-- The view through which pair `n` reaches the `n` bytes at physical address `addr` with permission `p` (R325; log entry 27). -/
def viewFor (m : Module) (pair addr n p : Nat) : Option PView := (m.pairViews pair).find? (·.covers addr n p)

/-- A store of pair `n` to a DEVICE view is held, or drains: it waits for the bridge's answer (R326, R337, R338). -/
def deviceBusy (m : Module) (n : Nat) : Bool :=
  (tget {} m.lss.pairs n).held.any (fun x => x.kind == .deviceView)
    || m.pbr.reqs.any (fun q => q.waits && q.kind == 0x13 && q.acc.ini == 0x10 + n
        && (m.viewFor n q.addr q.size 1).any (·.device))

/-- No range and no view covers the access (R324). -/
def noView : Deny := { status := 2, code := 0, block := 0x11, silent := true }

/-- The load waits for the stores to DEVICE views (R326). -/
def loadWaits : Deny := { status := 0, code := 0, block := 0x11, silent := true }

/-- What a pair's view unit refuses (R324–R326): a load or fetch that no view covers with its permission, and a load through a
DEVICE view while a store to one is held or draining. Stores pass it before they are held (R337). -/
def pairBars (m : Module) (a : Access) (addr n kind : Nat) : Option Deny :=
  match pairOf a with
  | none => none
  | some p =>
    if kind = 1 then (if (m.hosted p).isNone then some noView else none)
    else
      match m.viewFor p addr n kind with
      | none => some noView
      | some v => if kind = 0 && v.device && m.deviceBusy p then some loadWaits else none

/-- The refusal of a register access at `addr`, if any (log entry 4). -/
def accessDeny (m : Module) (a : Access) (addr n kind : Nat) : Option Deny :=
  match m.pairBars a addr n kind with
  | some d => some d
  | none =>
    match m.fabricDeny a addr n kind with
    | some d => some d
    | none =>
      match blockOf addr with
      | some b => m.blockDeny b
      | none => none

/-- The refusal of R820, for a register whose rule admits only some writers and names no other outcome (log entry 4). -/
def denyWriter (addr : Nat) : Deny := { status := 2, code := 1, block := (blockOf addr).getD 0, d0 := 2 ^ 31 }

/-- A write to the register at `addr` that is a command of its own: the access is checked, then `eff` is its effect. -/
def access (m : Module) (a : Access) (addr : Nat) (kind : Nat) (eff : Module → Module) : Module :=
  match m.accessDeny a addr 4 kind with
  | some d => m.refuse a addr kind d
  | none => eff m.ok

/-- The same, for a register that admits writers of `allowed` only (R820). -/
def accessIf (m : Module) (a : Access) (addr : Nat) (allowed : Bool) (eff : Module → Module) : Module :=
  m.access a addr 1 (fun m => if allowed then eff m else m.refuse a addr 1 (denyWriter addr))

/-! ### Reads with an effect -/

/-- The sequence number of the window that pair `p` runs. -/
def windowSeq (m : Module) (p : Nat) : Nat := (tget {} m.lss.pairs p).seq

/-- The effect of a read takes place at once, but for a pair's tracker restart, which waits for the commit (R378). -/
def takesAtOnce : ReEffect → Bool
  | .tracker => false
  | _ => true

/-- HST_VAUX_MV.MIN restarts (R122, R377). -/
def trackerRestart (m : Module) : Module := m.wr F.HST_VAUX_MV_MIN (m.rd F.HST_VAUX_MV_NOW)

/-- What a read of an RE register does: the value it answers, what a discard gives back (none where the read takes nothing),
and the effect of the commit. -/
structure RePlan where
  value : Nat
  what : Option ReEffect
  effect : Module → Module

/-- A read of the RE register at `addr` that answers `v` (R376–R380): a speculative read has no effect and is marked; a
pair's read takes effect at once and keeps in `what` what a discard of its window gives back, at most 16 of them; any other
read commits at completion (log entry 27). -/
def reRead (m : Module) (a : Access) (addr v : Nat) (what : Option ReEffect) (eff : Module → Module) : Module :=
  m.access a addr 0 (fun m =>
    if a.spec then { m with resp := { status := 0, data := v, skipped := true } }
    else
      match pairOf a, what with
      | some p, some w =>
        if 16 ≤ (m.reads.filter (fun r => r.pair == p)).length then
          m.refuse a addr 0 { status := 1, code := 8, block := (blockOf addr).getD 0 }
        else
          let m := m.when (takesAtOnce w) eff
          ({ m with reads := ⟨p, m.windowSeq p, addr, w⟩ :: m.reads }).ok v
      | _, _ => (eff m).ok v)

/-- A read of the RE register at `addr` by its plan. -/
def rePlanned (m : Module) (a : Access) (addr : Nat) (p : RePlan) : Module := m.reRead a addr p.value p.what p.effect

/-- The count clear of field `f`, element (i, j, k), by the value `v` that a read returned (R377): counts that arrived since
are kept; a wrapping count may have passed 0. -/
def countClear (m : Module) (f : Fam) (v i j k : Nat) : Module := m.wr f (m.rd f i j k + 2 ^ f.width - v % 2 ^ f.width) i j k

/-- A discarded read gives back what it took (R378); of the counts, only the 32-bit one of UIN_PULSE wraps
(log entry 27). -/
def giveBack (m : Module) : ReEffect → Module
  | .count key width v =>
    let sum := tget 0 m.regs key + v
    { m with regs := tset 0 m.regs key (if width = 32 then sum % 2 ^ 32 else sat width sum) }
  | .chi i e chan detail sweep =>
    let x := tget {} m.chc.insts i
    let m := { m with chc := { m.chc with insts := tset {} m.chc.insts i { x with fifo := e :: x.fifo } } }
    ((m.wr F.CHI_CPL_X_CHANNEL chan i).wr F.CHI_CPL_X_DETAIL detail i).wr F.CHI_CPL_X_SWEEP sweep i
  | .evi k e => { m with tmu := { m.tmu with evi := tmod [] m.tmu.evi k (fun l => e :: l) } }
  | .cpi i e len cls =>
    let m := { m with cpe := { m.cpe with insts := tmod {} m.cpe.insts i (fun x => { x with fifo := e :: x.fifo }) } }
    (m.wr F.CPI_CPL_X_DONE_LEN len i).wr F.CPI_CPL_X_CLASS cls i
  | .bridge _ => m
  | .mbx r e h st r0 r1 =>
    let m := { m with mbx := { m.mbx with fifos := tmod [] m.mbx.fifos r (fun l => e :: l) } }
    (((m.wr F.MBX_CPL_X_HANDLE h r).wr F.MBX_CPL_X_STATE st r).wr F.MBX_CPL_R0_RESULT r0 r).wr F.MBX_CPL_R1_RESULT r1 r
  | .tracker => m

/-! ### Bus accesses to memory -/

/-- The guarded memory behind physical address `a`. -/
def memOf (a : Nat) : Option Nat :=
  if 0x10000000 ≤ a ∧ a < 0x11000000 then some 0 else if 0x800000000 ≤ a ∧ a < 0x900000000 then some 1 else none

/-- Counts and records of the checks of guarded memory `k` (R368, R374, R397). -/
def logChecks (m : Module) (k : Nat) (r : Rec) (base : Nat) (cs : List MemSt.Check) : Module := checksBy log m k r base cs

/-- A read of `n` bytes of guarded memory `k` past the fabric's checks (R368). -/
def memRead (m : Module) (a : Access) (k addr n kind : Nat) : Module × Option (List Byte) :=
  let (st, cs) := m.mem.checkWords [] (MemSt.touched addr n)
  let m := { m with mem := st }
  let m := m.logChecks k (Rec.ofAccess a 0 0 addr kind 0) (addr / 256 * 256) cs
  if cs.any (·.failed) then ({ m with resp := { status := 0x0D } }, none) else (m.ok, some (m.mem.bytes addr n))

/-- The bytes `l` of the boot ROM at `addr`, as the patch slots replace them (R786). -/
def patched (m : Module) (addr : Nat) (l : List Byte) : List Byte :=
  l.mapIdx (fun i b => (tget [] m.boot.patches ((addr + i) / 256 * 256)).getD ((addr + i) % 256) b)

/-- A read of `n` bytes at physical address `a`, by a block of the module or a core: the firewall, then the memory guard.
`none` with the response's status where it fails (log entry 51). -/
def busRead (m : Module) (a : Access) (addr n : Nat) (owner : Option Nat := none) (kind : Nat := 0) :
    Module × Option (List Byte) :=
  match m.fabricDeny a addr n kind owner with
  | some d => (m.refuse a addr kind d, none)
  | none =>
    match memOf addr with
    | none =>
      match m.targetDeny addr n kind with
      | some d => (m.refuse a addr kind d, none)
      | none =>
        let (m, v) := m.draw (2 ^ (8 * n))
        (m.ok, some (m.patched addr (toBytes n v)))
    | some k => m.memRead a k addr n kind

/-- PBR_SEM_STAT shows the semaphores held. -/
def showSems (m : Module) : Module :=
  m.wr F.PBR_SEM_STAT_HELD (m.pbr.sems.foldl (fun v s => setBit v s.no true) 0)

/-- A write or atomic accepted at the SRAM or DRAM target takes the semaphores of its granules from their holders
(R747). -/
def semWrite (m : Module) (addr n : Nat) : Module :=
  let hit := fun (s : Sem) => decide (addr / 64 ≤ s.granule) && decide (s.granule ≤ (addr + n - 1) / 64)
  if m.pbr.sems.any hit then
    showSems { m with pbr := { m.pbr with sems := m.pbr.sems.filter (fun s => ! hit s) } }
  else m

/-- A write of `data` at physical address `a`. True where it succeeded (log entry 51). -/
def busWrite (m : Module) (a : Access) (addr : Nat) (data : List Byte) (owner : Option Nat := none) : Module × Bool :=
  match m.fabricDeny a addr data.length 1 owner with
  | some d => (m.refuse a addr 1 d, false)
  | none =>
    match memOf addr with
    | none =>
      match m.targetDeny addr data.length 1 with
      | some d => (m.refuse a addr 1 d, false)
      | none => ({ m with out := .blockWrite a addr data :: m.out }.ok, true)
    | some k =>
      let m := m.semWrite addr data.length
      let (st, cs) := m.mem.guardedPut [] addr data
      let m := { m with mem := st }
      let m := m.logChecks k (Rec.ofAccess a 0 0 addr 1 0) (addr / 256 * 256) cs
      if cs.any (·.failed) then ({ m with resp := { status := 0x0D } }, false) else (m.ok, true)

/-! ### Status registers of R57 -/

/-- The 32-bit little-endian words of a byte list (R6). -/
def words : List Byte → List Nat
  | b0 :: b1 :: b2 :: b3 :: r => ofBytes [b0, b1, b2, b3] :: words r
  | _ => []

/-- The access attributes of block initiators whose world and partition SYSCTL_IATTR holds (R39; log entry 50). -/
def iattr (m : Module) (ini : Nat) : Access :=
  let g := fun w p => { ini := ini, world := m.flag w, part := m.rd p : Access }
  if ini = 0x22 then g F.SYSCTL_IATTR_SWC_WORLD F.SYSCTL_IATTR_SWC_PART
  else if ini = 0x23 then g F.SYSCTL_IATTR_PBR_WORLD F.SYSCTL_IATTR_PBR_PART
  else if ini = 0x24 then g F.SYSCTL_IATTR_CHC_WORLD F.SYSCTL_IATTR_CHC_PART
  else if ini = 0x25 then g F.SYSCTL_IATTR_CAN_WORLD F.SYSCTL_IATTR_CAN_PART
  else if ini = 0x26 then g F.SYSCTL_IATTR_HST_WORLD F.SYSCTL_IATTR_HST_PART
  else g F.SYSCTL_IATTR_NVC_WORLD F.SYSCTL_IATTR_NVC_PART

/-! ### The attributes of a transaction -/

/-- PART of the valid WCT_VMID entry that holds `vmid` (R398). -/
def vmPart (m : Module) (vmid : Nat) : Option Nat :=
  ((List.range 32).find? (fun e => m.flag F.WCT_VMID_VALID e && m.rd F.WCT_VMID_VMID e == vmid)).map (fun e =>
    m.rd F.WCT_VMID_PART e)

/-- Initiator `ini` is released from reset: none while module reset is held, and before the wipe completes the boot ROM on AC0
alone (R51, R133). -/
def released (m : Module) (ini : Nat) : Bool :=
  ! m.sys.resetHeld && (ini == 0 || decide (2 ≤ m.rd F.SYSCTL_BOOT_STAT_STAGE))

/-- An assigned instance on pages `lo` to `hi` has the world and partition of the access (R39). -/
def onBehalf (m : Module) (lo hi : Nat) (a : Access) : Bool :=
  (List.range (hi + 1)).any (fun p => decide (lo ≤ p) && m.tenantOk p a)

/-- The initiators that set the speculative attribute, on reads alone (R41): the application cores, HDMA and PBR. -/
def prefetches (ini : Nat) : Bool := decide (ini ≤ 3) || ini == 0x20 || ini == 0x23

/-- The transaction that initiator `a.ini` issues for an access of type `kind` (R38): no initiator alters its world and
partition, which are taken from where R39 and R398 say (R42), and `none` where it issues none (R133, R399; log entry 53). -/
def issued (m : Module) (a : Access) (kind : Nat) : Option Access :=
  let a := { a with spec := a.spec && kind != 1 && prefetches a.ini, vm := if a.ini ≤ 3 then a.vm else none }
  if ! m.released a.ini then none
  else if a.ini ≤ 3 then
    if (tget {} m.wct.cores a.ini).secure then some { a with world := true, part := m.rd F.WCT_CFG_SEC_PART, vm := none }
    else
      match a.vm with
      | none => some { a with world := false, part := m.rd F.WCT_CFG_HOST_PART }
      | some v => (m.vmPart v).map (fun p => { a with world := false, part := p })
  else if 0x10 ≤ a.ini ∧ a.ini ≤ 0x13 then
    if m.lss.mig.any (·.src == a.ini - 0x10) then none else
    match m.hosted (a.ini - 0x10) with
    | some p => some { a with world := false, part := p }
    | none => if m.rd F.LSS_PAIR_STAT_STATE (a.ini - 0x10) = 6 then some { a with world := false, part := 0 } else none
  else if a.ini = 0x20 then (if m.onBehalf 64 95 a then some a else none)
  else if a.ini = 0x21 then (if m.onBehalf 0 63 a then some a else none)
  else if a.ini = 0x22 ∨ 0x24 ≤ a.ini ∧ a.ini ≤ 0x27 then some (m.iattr a.ini)
  else some a

/-- An error response to a load or fetch of a pair, or one that issues no transaction, raises an access fault in both cores
(R324, R341). -/
def pairFault (m : Module) (a : Access) (kind : Nat) : Module :=
  if kind = 1 then m else
  match pairOf a with
  | none => m
  | some p =>
    if m.resp.status = 0 then m else
    let f : AccessFault := if kind = 0 then .load else .fetch
    { m with lss := { m.lss with pairs := tmod {} m.lss.pairs p (fun x => { x with fault := some f }) } }

/-- An access that issues no transaction: in VS or VU mode the core takes the access fault of its type in HS mode (R399). -/
def withheld (m : Module) (a : Access) (kind : Nat) : Module :=
  if ! m.released a.ini || decide (3 < a.ini) then m
  else
    let f : AccessFault := if kind = 0 then .load else if kind = 1 then .store else .fetch
    let c := tget {} m.wct.cores a.ini
    { m with wct := { m.wct with cores := tset {} m.wct.cores a.ini { c with fault := some f, ctx := { c.ctx with mode := .hs } } } }

end Module

/-! ### Commands that are accesses -/

/-- The outcome of an event that takes place while module reset is not held. -/
def State.runUp (s : State) (f : Module → Module) : Host.Outcome State Fault Refusal := s.run (fun m => m.when (! m.sys.resetHeld) f)

/-- The outcome of an event of block `b`, which takes place while the block works. -/
def State.runIn (s : State) (b : Nat) (f : Module → Module) : Host.Outcome State Fault Refusal := s.run (fun m => m.when (m.works b) f)

/-- The outcome of an event of block `b`, which takes place while the block works and may change the OTP. -/
def State.runOtpIn (s : State) (b : Nat) (f : Otp → Module → Otp × Module) : Host.Outcome State Fault Refusal :=
  s.runOtp (fun o m => if m.works b then f o m else (o, m))

/-- The outcome of an access of type `kind`, with the attributes its initiator issues it with, whose effect on the module is
`f` (R38, R39, R398). -/
def State.runBy (s : State) (a : Access) (kind : Nat) (f : Access → Module → Module) : Host.Outcome State Fault Refusal :=
  s.run (fun m => match m.issued a kind with | some b => (f b m).pairFault b kind | none => m.withheld a kind)

end Sys2Proof.Machine
end

