-- ==== Sys2Proof/Machine/Cpe.lean ====
section
/-!
DEFINITION. The cipher engine (chapter 16): submission, dispatch, held and streamed output, stale jobs and completions.
-/
namespace Sys2Proof.Machine

/-! ### Descriptors -/

/-- Word `k` of a job's descriptor. -/
def CpeJob.word (j : CpeJob) (k : Nat) : Nat := j.w.getD k 0

/-- Fields of the descriptor (R652). -/
def CpeJob.mode (j : CpeJob) : Nat := bits (j.word 0) 3 0
def CpeJob.dir (j : CpeJob) : Nat := bits (j.word 0) 4 4
def CpeJob.slot (j : CpeJob) : Nat := bits (j.word 0) 13 8
def CpeJob.gen (j : CpeJob) : Nat := bits (j.word 0) 31 16
def CpeJob.len (j : CpeJob) : Nat := bits (j.word 1) 26 0
def CpeJob.src (j : CpeJob) : Nat := j.word 2 + bits (j.word 3) 7 0 * 2 ^ 32
def CpeJob.dst (j : CpeJob) : Nat := j.word 4 + bits (j.word 5) 7 0 * 2 ^ 32
def CpeJob.aad (j : CpeJob) : Nat := j.word 6 + bits (j.word 7) 7 0 * 2 ^ 32
def CpeJob.aadLen (j : CpeJob) : Nat := bits (j.word 8) 19 0
def CpeJob.tagLen (j : CpeJob) : Nat := bits (j.word 8) 28 24
def CpeJob.slot2 (j : CpeJob) : Nat := bits (j.word 9) 5 0
def CpeJob.du (j : CpeJob) : Nat := 2 ^ bits (j.word 9) 11 8
def CpeJob.gen2 (j : CpeJob) : Nat := bits (j.word 9) 31 16
/-- The part of the IV that the mode uses (R652): 12 bytes for GCM and GMAC, the data-unit number of XTS, the counter block of
CTR. -/
def CpeJob.iv (j : CpeJob) : List Byte :=
  (((j.w.drop 10).take 4).flatMap (toBytes 4)).take
    (if j.mode ≤ 1 then 12 else if j.mode = 2 then 8 else if j.mode = 3 then 16 else 0)
def CpeJob.tagAddr (j : CpeJob) : Nat := j.word 14 + bits (j.word 15) 7 0 * 2 ^ 32

/-- The mode uses a key (R647). -/
def CpeJob.keyed (j : CpeJob) : Bool := decide (j.mode ≤ 6)

/-- The unit that a mode needs: 0 a cipher core, 4 the hash unit, 5 the modular-arithmetic unit (R647). -/
def CpeJob.kind (j : CpeJob) : Nat := if j.mode ≤ 6 then 0 else if j.mode ≤ 0xA then 4 else 5

/-- The mode reads associated data. -/
def CpeJob.usesAad (j : CpeJob) : Bool := decide (j.mode ≤ 1)

/-- The mode makes or verifies a tag: GCM, GMAC, CMAC. -/
def CpeJob.tagged (j : CpeJob) : Bool := decide (j.mode ≤ 1) || j.mode == 4

/-- The greatest number of bytes written at DST (R653). -/
def CpeJob.outLen (j : CpeJob) : Nat :=
  if j.mode = 0 ∨ j.mode = 2 ∨ j.mode = 3 then j.len
  else if j.mode = 5 ∨ j.mode = 6 then (if j.dir = 0 then (j.len + 7) / 8 * 8 + 8 else j.len - 8)
  else if j.mode = 8 then 32 else if j.mode = 9 then 48 else if j.mode = 0xA then 64 else 0

/-- The output class (R658, R659): 0 direct, 1 held, 2 streamed. -/
def CpeJob.outClass (j : CpeJob) : Nat :=
  if j.dir = 1 ∧ j.mode = 0 then (if j.len ≤ 16384 then 1 else 2)
  else if j.dir = 1 ∧ (j.mode = 5 ∨ j.mode = 6) then 1 else 0

/-- A reserved bit of the descriptor is set (R652). -/
def CpeJob.reservedSet (j : CpeJob) : Bool :=
  bits (j.word 0) 7 5 != 0 || bits (j.word 0) 15 14 != 0 || bits (j.word 1) 31 27 != 0 || bits (j.word 3) 31 8 != 0
    || bits (j.word 5) 31 8 != 0 || bits (j.word 7) 31 8 != 0 || bits (j.word 8) 23 20 != 0 || bits (j.word 8) 31 29 != 0
    || bits (j.word 9) 7 6 != 0 || bits (j.word 9) 15 12 != 0 || bits (j.word 15) 31 8 != 0

/-- The range lies in SRAM or DRAM, whole (R653). -/
def inGuarded (a n : Nat) : Bool := n == 0 || ((Module.memOf a).isSome && Module.memOf a == Module.memOf (a + n - 1))

/-- The limits of each mode on its lengths (R653, R659). -/
def CpeJob.limitsHold (j : CpeJob) : Bool :=
  let n := j.len
  let tagIn := fun lo => decide (lo ≤ j.tagLen) && decide (j.tagLen ≤ 16)
  match j.mode with
  | 0 => tagIn 12 && (j.outClass != 2 || j.dst % 256 == 0)
  | 1 => n == 0 && decide (1 ≤ j.aadLen) && tagIn 12
  | 2 => decide (512 ≤ j.du) && decide (j.du ≤ 65536) && n % j.du == 0 && decide (j.du ≤ n) && j.slot2 != j.slot
  | 3 => n % 16 == 0 && decide (ofNetBytes (j.iv.drop 12) + n / 16 ≤ 2 ^ 32)
  | 4 => tagIn 8
  | 5 => n % 8 == 0 && (if j.dir = 0 then decide (16 ≤ n) && decide (n ≤ 16384) else decide (24 ≤ n) && decide (n ≤ 16392))
  | 6 => if j.dir = 0 then decide (1 ≤ n) && decide (n ≤ 16384) else n % 8 == 0 && decide (24 ≤ n) && decide (n ≤ 16392)
  | 8 | 9 | 0xA => j.dir == 0
  | 0xC => j.dir == 0 && n == 240
  | 0xD => j.dir == 0 && decide (16 ≤ n) && decide (n ≤ 16384)
  | _ => false

/-! ### Signature inputs (R676) -/

/-- LMS and LMOTS parameter sets of R146, by the type codes of RFC 8554: the height, and the number of chains
(log entry 12). -/
def lmsHeight (t : Nat) : Option Nat := if t = 6 then some 10 else if t = 7 then some 15 else if t = 8 then some 20 else none
def otsChains (t : Nat) : Option Nat := if t = 3 then some 67 else if t = 4 then some 34 else none

/-- The 32-bit big-endian number at offset `o` of `l`. -/
def netWord (l : List Byte) (o : Nat) : Nat := ofNetBytes ((l.drop o).take 4)

/-- The parameter sets of an HSS public key and signature are those of R146. -/
def hssAllowed (pub sig : List Byte) : Bool :=
  match lmsHeight (netWord pub 4), otsChains (netWord pub 8) with
  | some h, some p =>
    netWord pub 0 == 1 || (netWord pub 0 == 2 &&
      (let next := 4 + 4 + (4 + 32 + 32 * p) + 4 + 32 * h
       (lmsHeight (netWord sig next)).isSome && (otsChains (netWord sig (next + 4))).isSome))
  | _, _ => false

/-- The status of an HSS job (R676). -/
def hssStatus (l : List Byte) : Nat :=
  let p := netWord l 0
  let g := netWord l 4
  let n := netWord l 8
  let body := l.drop 16
  if p + g + n ≠ body.length ∨ n = 0 ∨ 64 < n then 0x10
  else
    let pub := body.take p
    let sig := (body.drop p).take g
    if ! hssAllowed pub sig then 0x10
    else if Config.hssVerifies pub sig (body.drop (p + g)) then 0 else 8

namespace Module

/-! ### Instances and units -/

/-- Cipher instance `i`. -/
def cpi (m : Module) (i : Nat) : CpeInst := tget {} m.cpe.insts i

/-- Change cipher instance `i`. -/
def setCpi (m : Module) (i : Nat) (f : CpeInst → CpeInst) : Module :=
  { m with cpe := { m.cpe with insts := tmod {} m.cpe.insts i f } }

/-- Count `n` under `kind` for CPIi (R680). -/
def cpiCount (m : Module) (i kind n : Nat) : Module :=
  m.setCpi i (fun x => { x with cnt := tmod 0 x.cnt kind (fun v => (v + n) % 2 ^ 64) })

/-- The jobs that have begun: those that run, those to be run again, and those whose range is being zeroed. -/
def cpeBegun (m : Module) : List CpeJob :=
  m.cpe.runs.map CpeRun.job ++ m.cpe.redo ++ m.cpe.zero.filterMap (fun z => z.ended.map Prod.fst)

/-- Jobs of CPIi that have begun, under any generation (R445). -/
def cpiInFlight (m : Module) (i : Nat) : Nat := (m.cpeBegun.filter (fun j => j.inst == i)).length

/-- Jobs admitted and not completed (R451). -/
def cpiOcc (m : Module) (i : Nat) : Nat := (m.cpi i).queue.length + m.cpiInFlight i

/-- Completion entries reserved by dispatched jobs (R654). -/
def cpiReserved (m : Module) (i : Nat) : Nat := (m.cpeBegun.filter (fun j => j.inst == i && ! j.stale)).length

/-- A unit runs a job. -/
def unitBusy (m : Module) (u : Nat) : Bool := m.cpe.runs.any (fun r => r.units.contains u)

/-- A unit is fenced or failed (R650, R136). -/
def unitFailed (m : Module) (u : Nat) : Bool :=
  if u < 4 then bit (m.rd F.CPE_STAT_FENCED) u else if u = 4 then m.flag F.CPE_STAT_HASH_FAIL else m.flag F.CPE_STAT_MA_FAIL

/-- A unit that can take a job. -/
def unitFree (m : Module) (u : Nat) : Bool := ! m.unitBusy u && ! m.unitFailed u

/-- CPE_STAT.BUSY, CPE_STAT.QR_WAIT and CPE_CORE_STAT show what runs (R680). -/
def showUnits (m : Module) : Module :=
  let m := forEach (List.range 4) (fun c m =>
    match m.cpe.runs.find? (fun r => r.units.contains c) with
    | some r => ((m.setMap F.CPE_STAT_BUSY c true).raise F.CPE_CORE_STAT_BUSY c).wr F.CPE_CORE_STAT_INST r.job.inst c
    | none => ((m.setMap F.CPE_STAT_BUSY c false).lower F.CPE_CORE_STAT_BUSY c).wr F.CPE_CORE_STAT_INST 0 c) m
  m.wr F.CPE_STAT_QR_WAIT m.cpe.qrWait.length

/-- The attributes of a job's transactions (R657). -/
def jobAccess (j : CpeJob) : Access := { ini := 0x21, world := j.world, part := j.part }

/-! ### Submission (R651) -/

/-- A write of CPI_SUBMIT. -/
def cpiSubmit (m : Module) (i v : Nat) : Module :=
  let tag := bits v 31 16
  let st := if (tget {} m.inst i).fence then 1 else if m.rd F.IMG_INST_SHARE_SHARE i ≤ m.cpiOcc i then 5 else 0
  if st ≠ 0 then ((m.wr F.CPI_REFUSE_TAG tag i).wr F.CPI_REFUSE_STATUS st i).addS F.CPI_REFUSE_COUNT 1 i
  else
    let j : CpeJob :=
      { inst := i, tag := tag, addr := m.rd F.CPI_SUB_ADDR_ADDR i * 64 + bits v 7 0 * 2 ^ 32
        world := m.pageWorld i, part := m.rd F.IMG_INST_CFG_PART i }
    m.setCpi i (fun x => { x with queue := x.queue ++ [j] })

/-! ### Completions -/

/-- A completion is posted (R656), with the counts of R680 and R681. -/
def cpiPost (m : Module) (i : Nat) (e : CpeCpl) (nbytes : Nat) : Module :=
  let m := (m.setCpi i (fun x => { x with fifo := x.fifo ++ [e] })).raise F.CPI_IRQ_STAT_CPL i
  let m := (m.cpiCount i 0 1).cpiCount i 1 nbytes
  let m := if e.status = 8 then (m.cpiCount i 2 1).addS F.CPI_TAGFAIL_COUNT 1 i else m
  let m := if e.status = 6 then m.cpiCount i 3 1 else m
  let m := if e.status = 7 then m.cpiCount i 4 1 else m
  if e.status = 9 then m.cpiCount i 5 1 else m

/-- Job `j` completes with `st`, having left `n` bytes at DST. -/
def jobPost (m : Module) (j : CpeJob) (st n : Nat) : Module :=
  m.cpiPost j.inst { tag := j.tag, status := st, mode := j.mode, dir := j.dir, len := n, cls := j.cls }
    (if st = 0 then j.len + (if j.usesAad then j.aadLen else 0) else 0)

/-- A stale job's end is counted (R443). -/
def staleJob (m : Module) (i : Nat) : Module := (m.staleCount i 1).cpiCount i 6 1

/-! ### Quarantine ranges (R387, R659, R660) -/

/-- A range that is free. -/
def freeRange (m : Module) : Option Nat :=
  (List.range 8).find? (fun q => ! m.flag F.FAB_QR_CTRL_ACTIVE q)

/-- Set range `q` over the destination of `j`. -/
def setRange (m : Module) (q : Nat) (j : CpeJob) : Module :=
  let m := ((m.wr F.FAB_QR_BASE_ADDR (j.dst / 256) q).wr F.FAB_QR_LEN_LEN ((j.len + 255) / 256) q).wr F.FAB_QR_CTRL_OWNER j.inst q
  let m := m.raise F.FAB_QR_CTRL_ACTIVE q
  { m with cpe := { m.cpe with qrSet := m.cpe.qrSet ++ [q] } }

/-- Release range `q`. -/
def releaseRange (m : Module) (q : Nat) : Module :=
  let m := ((m.lower F.FAB_QR_CTRL_ACTIVE q).wr F.FAB_QR_BASE_ADDR 0 q).wr F.FAB_QR_LEN_LEN 0 q
  let m := m.wr F.FAB_QR_CTRL_OWNER 0 q
  { m with cpe := { m.cpe with qrSet := m.cpe.qrSet.erase q } }

/-- A destination overlaps an active range (R653). -/
def overlapsRange (m : Module) (a n : Nat) : Bool :=
  n != 0 && (List.range 8).any (fun q => m.flag F.FAB_QR_CTRL_ACTIVE q
    && decide (a < (m.rd F.FAB_QR_BASE_ADDR q + m.rd F.FAB_QR_LEN_LEN q) * 256) && decide (m.rd F.FAB_QR_BASE_ADDR q * 256 < a + n))

/-! ### The work of a job -/

/-- The first bytes of `n` from `a`, in 16-byte blocks, up to a read that fails (R657): what was read, and the failure. -/
def readBlocks (m : Module) (j : CpeJob) (a n : Nat) : Module × List Byte × Option Nat :=
  (List.range ((n + 15) / 16)).foldl (fun (s : Module × List Byte × Option Nat) k =>
    if s.2.2.isSome then s else
    let (m, r) := s.1.busRead (jobAccess j) (a + 16 * k) (min 16 (n - 16 * k)) (some j.inst)
    match r with
    | some l => (m, s.2.1 ++ l, none)
    | none => (m, s.2.1, some m.resp.status)) (m, [], none)

/-- Write `data` from `a` in 16-byte blocks up to a write that fails: the bytes written, and the failure. -/
def writeBlocks (m : Module) (j : CpeJob) (a : Nat) (data : List Byte) : Module × Nat × Option Nat :=
  (List.range ((data.length + 15) / 16)).foldl (fun (s : Module × Nat × Option Nat) k =>
    if s.2.2.isSome then s else
    let d := (data.drop (16 * k)).take 16
    let (m, ok) := s.1.busWrite (jobAccess j) (a + 16 * k) d (some j.inst)
    if ok then (m, s.2.1 + d.length, none) else (m, s.2.1, some m.resp.status)) (m, 0, none)

/-- A byte string of exactly `n` bytes. -/
def exactly (n : Nat) (l : List Byte) : List Byte := l.take n ++ List.replicate (n - l.length) 0

/-- What a job computes on. -/
def jobInput (j : CpeJob) (aad data : List Byte) : Config.CipherInput :=
  { mode := j.mode, dir := j.dir, key := j.key, key2 := j.key2, iv := j.iv, aad := aad, data := data
    unit := if j.mode = 2 then j.du else 0 }

/-- The output of a job on the data read (R647). -/
def jobOut (j : CpeJob) (aad data : List Byte) (n : Nat) : List Byte := exactly n (Config.cipher (jobInput j aad data))

/-- The output class's handling of a job that ends with `st` other than OK (R657, R660, R662): a held job leaves nothing, a
streamed one is zeroed first. `n` is what a direct job wrote. -/
def jobFails (m : Module) (j : CpeJob) (st n : Nat) : Module :=
  match j.qr with
  | some q => { m with cpe := { m.cpe with zero := m.cpe.zero ++ [CpeZero.mk q (some (j, st))] } }
  | none => m.jobPost j st (if j.cls = 0 then n else 0)

/-- A tag is written (DIR 0) or verified (DIR 1): the status. -/
def jobTag (m : Module) (j : CpeJob) (aad data : List Byte) : Module × Nat :=
  let t := exactly j.tagLen (Config.tag (jobInput j aad data))
  if j.dir = 0 then
    let (m, ok) := m.busWrite (jobAccess j) j.tagAddr t (some j.inst)
    (m, if ok then 0 else m.resp.status)
  else
    let (m, r) := m.busRead (jobAccess j) j.tagAddr j.tagLen (some j.inst)
    match r with
    | none => (m, m.resp.status)
    | some l => (m, if l = t then 0 else 8)

/-- The associated data of a job. -/
def readAad (m : Module) (j : CpeJob) : Module × List Byte × Option Nat :=
  if j.usesAad then m.readBlocks j j.aad j.aadLen else (m, [], none)

/-- What a direct job that an event ends early has written: a number of blocks that nothing states, where its mode writes block
by block (log entry 40). -/
def directPart (m : Module) (j : CpeJob) (aad data : List Byte) : Module × Nat :=
  let (m, k) := m.draw (data.length / 16 + 1)
  let byBlocks := j.mode == 0 || j.mode == 2 || j.mode == 3
  let (m, n, _) := m.writeBlocks j j.dst (if byBlocks then (jobOut j aad data data.length).take (16 * k) else [])
  (m, n)

/-- A direct job that runs becomes stale, or ends without a completion (R663, R675): the blocks written by then stay. -/
def cutDirect (m : Module) (j : CpeJob) : Module :=
  if j.stale || j.cls != 0 || 0xC ≤ j.mode then m else
  let (m, aad, e1) := m.readAad j
  if e1.isSome then m else
  let (m, data, _) := m.readBlocks j j.src j.len
  (m.directPart j aad data).1

/-- A direct job: each block is written as it is produced (R662). `stop` is the status of an event that ends it early
(log entry 40). -/
def runDirect (m : Module) (j : CpeJob) (stop : Option Nat) : Module :=
  let (m, aad, e1) := m.readAad j
  let (m, data, e2) := if e1.isSome then (m, [], e1) else m.readBlocks j j.src j.len
  let fail := if e2.isSome then e2 else stop
  match fail with
  | some st =>
    let (m, n) := if e1.isSome then (m, 0) else m.directPart j aad data
    m.jobFails j st n
  | none =>
    if j.mode = 0xC then m.jobPost j (if Config.ecdsaVerifies data then 0 else 8) 0
    else if j.mode = 0xD then m.jobPost j (hssStatus data) 0
    else
      let (m, n, e) := if j.outLen = 0 then (m, 0, none) else m.writeBlocks j j.dst (jobOut j aad data j.outLen)
      match e with
      | some st => m.jobFails j st n
      | none =>
        let (m, st) := if j.tagged then m.jobTag j aad data else (m, 0)
        if st = 0 then m.jobPost j 0 n else m.jobFails j st n

/-- A held job (R658; log entry 40). -/
def runHeld (m : Module) (j : CpeJob) : Module :=
  let (m, aad, e1) := m.readAad j
  let (m, data, e2) := if e1.isSome then (m, [], e1) else m.readBlocks j j.src j.len
  match e2 with
  | some st => m.jobFails j st 0
  | none =>
    let (m, r) : Module × Except Nat (List Byte) :=
      if j.mode = 0 then
        let (m, st) := m.jobTag j aad data
        (m, if st = 0 then .ok (jobOut j aad data j.len) else .error st)
      else (m, match Config.unwrap j.mode j.key data with
        | some l => .ok (l.take (j.len - 8))
        | none => .error 8)
    match r with
    | .error st => m.jobFails j st 0
    | .ok out =>
      let (m, n, e) := m.writeBlocks j j.dst out
      match e with
      | some st => m.jobFails j st 0
      | none => m.jobPost j 0 n

/-- A streamed job (R659, R660; log entry 40). -/
def runStreamed (m : Module) (j : CpeJob) : Module :=
  let (m, aad, e1) := m.readAad j
  let (m, data, e2) := if e1.isSome then (m, [], e1) else m.readBlocks j j.src j.len
  let (m, n, e3) := m.writeBlocks j j.dst (jobOut j aad data data.length)
  match (if e2.isSome then e2 else e3) with
  | some st => m.jobFails j st 0
  | none =>
    let (m, st) := m.jobTag j aad data
    if st = 0 then
      match j.qr with
      | some q => (m.releaseRange q).jobPost j 0 n
      | none => m.jobPost j 0 n
    else m.jobFails j st 0

/-- A stale job ends (R443, R444, R663): it writes nothing and posts nothing. -/
def endStale (m : Module) (j : CpeJob) : Module :=
  match j.qr with
  | some q => { m with cpe := { m.cpe with zero := m.cpe.zero ++ [CpeZero.mk q (some (j, 0))] } }
  | none => m.staleJob j.inst

/-- A job that has begun ends: its processing is over, or an event ends it with `stop` (R655–R660, R668, R672). -/
def jobDone (m : Module) (j : CpeJob) (stop : Option Nat) : Module :=
  if j.stale then m.endStale j
  else if j.cls = 0 then m.runDirect j stop
  else match stop with
    | some st => m.jobFails j st 0
    | none => if j.cls = 1 then m.runHeld j else m.runStreamed j

/-- The first free core takes the job that was to be dispatched again (R650; log entry 40). -/
def redispatch (m : Module) : Module :=
  match m.cpe.redo with
  | j :: r =>
    match (List.range 4).find? m.unitFree with
    | some c => ({ m with cpe := { m.cpe with redo := r, runs := m.cpe.runs ++ [CpeRun.mk [c] j] } }).showUnits
    | none => m
  | [] => m

/-- The job on unit `u` ends (log entry 40). -/
def endUnit (m : Module) (u : Nat) (stop : Option Nat) : Module :=
  match m.cpe.runs.find? (fun r => r.units.contains u) with
  | none => m
  | some r =>
    let m := { m with cpe := { m.cpe with runs := m.cpe.runs.filter (fun x => ! x.units.contains u) } }
    ((m.jobDone r.job stop).redispatch).showUnits

/-- Every job that has begun and satisfies `p` ends with `st`: how many there were. -/
def abortJobs (m : Module) (p : CpeJob → Bool) (st : Nat) : Module × Nat :=
  let gone := (m.cpe.runs.map CpeRun.job ++ m.cpe.redo).filter p
  let m := { m with cpe := { m.cpe with
    runs := m.cpe.runs.filter (fun r => ! p r.job)
    redo := m.cpe.redo.filter (fun j => ! p j) } }
  ((gone.foldl (fun (m : Module) j => m.jobDone j (some st)) m).showUnits, gone.length)

/-! ### Dispatch (R654, R655, R659, R668) -/

/-- A slot admits a use (R655, order 6). -/
def slotAdmits (m : Module) (s : Nat) (j : CpeJob) : Bool :=
  let own := if j.inst < 32 then bit (m.rd F.KST_SLOT_OWN_LO_MASK s) j.inst else bit (m.rd F.KST_SLOT_OWN_HI_MASK s) (j.inst - 32)
  let use := (if j.mode = 1 ∨ j.mode = 4 then 2 else 0) + j.dir
  (m.flag F.KST_SLOT_ATTR_WORLD s == j.world) && own && bit (m.rd F.KST_SLOT_ATTR_MODES s) j.mode
    && bit (m.rd F.KST_SLOT_ATTR_USAGE s) use

/-- The slots a job names (R652). -/
def CpeJob.slots (j : CpeJob) : List (Nat × Nat) :=
  if ! j.keyed then [] else if j.mode = 2 then [(j.slot, j.gen), (j.slot2, j.gen2)] else [(j.slot, j.gen)]

/-- The addresses that a job reads and writes lie where they may (R653). -/
def placesHold (m : Module) (j : CpeJob) : Bool :=
  inGuarded j.src j.len && inGuarded j.dst j.outLen && (! j.usesAad || inGuarded j.aad j.aadLen)
    && (! j.tagged || inGuarded j.tagAddr j.tagLen) && ! m.overlapsRange j.dst j.outLen

/-- The status of the first check of R655, orders 2–7, that fails; 0 where none does (log entry 40). With all four cipher cores
failed in the start-up self-test no unit serves any job (R136). -/
def dispatchStatus (m : Module) (j : CpeJob) : Nat :=
  if j.reservedSet || ! j.limitsHold || decide (67108864 < j.len) || ! m.placesHold j then 0x10
  else if j.kind = 5 ∧ ! j.world then 2
  else if (CpeJob.slots j).any (fun s => m.rd F.KST_SLOT_GEN_GEN s.1 != s.2) then 6
  else if (CpeJob.slots j).any (fun s => ! m.flag F.KST_SLOT_ATTR_VALID s.1) then 7
  else if (CpeJob.slots j).any (fun s => ! m.slotAdmits s.1 j)
    || (j.mode == 2 && m.rd F.KST_SLOT_ATTR_KSIZE j.slot != m.rd F.KST_SLOT_ATTR_KSIZE j.slot2) then 2
  else if m.rd F.SYSCTL_SELFTEST_CORE_FAIL = 15 then 0x0F
  else if (if j.kind = 0 then (List.range 4).all m.unitFailed else m.unitFailed j.kind) then 0x0F
  else 0

/-! ### The scheduler (R654, R455) -/

/-- The first job of CPIi with its descriptor, as the scheduler sees it in memory. -/
def nextJob (m : Module) (i : Nat) : Option CpeJob :=
  ((m.cpi i).queue.head?).map (fun j =>
    let j := { j with w := words (m.mem.bytes j.addr 64) }
    { j with cls := j.outClass })

/-- The instances that have a job waiting. -/
def cpeBacklog (m : Module) : List Nat := (List.range 64).filter (fun i => (m.cpi i).queue != [])

/-- Where the set of instances with a job waiting has changed, service is counted afresh (R455; log entry 40). -/
def cpeSync (m : Module) : Module :=
  if m.cpeBacklog = m.cpe.backlog then m else { m with cpe := { m.cpe with backlog := m.cpeBacklog, served := [] } }

/-- A completion entry is free and unreserved for a job of CPIi (R654). -/
def cpiRoom (m : Module) (i : Nat) : Bool := decide ((m.cpi i).fifo.length + m.cpiReserved i < 32)

/-- A range can be granted to CPIi now: those that began to wait before it come first (R659). -/
def rangeFor (m : Module) (i : Nat) : Option Nat :=
  if m.cpe.qrWait.head?.getD i = i then m.freeRange else none

/-- The first job of CPIi waits for a unit of kind `kind`, with nothing else to wait for: the 16-byte blocks of its LEN and
AAD_LEN (R648, R654). -/
def waitsFor (m : Module) (kind i : Nat) : Option (Nat × Nat) :=
  match m.nextJob i with
  | some j =>
    if j.kind = kind ∧ m.cpiRoom i ∧ (j.cls ≠ 2 ∨ (m.rangeFor i).isSome) then
      some (i, (j.len + (if j.usesAad then j.aadLen else 0) + 15) / 16)
    else none
  | none => none

/-- The instance whose job takes the next free unit of kind `kind` (R654, R455; log entry 40). -/
def cpeTurn (m : Module) (kind : Nat) : Option Nat :=
  fairTurn ((List.range 64).filterMap (m.waitsFor kind)) (fun i => tget 0 m.cpe.served i)
    (fun i => max 1 (m.rd F.IMG_INST_SHARE_WEIGHT i))

/-- The units that a job takes: `core` and, for XTS of two data units or more, the other free cores named (log entry 40). -/
def jobUnits (m : Module) (j : CpeJob) (core : Nat) (more : List Nat) : List Nat :=
  if j.kind ≠ 0 then [j.kind]
  else if j.mode = 2 ∧ 2 * j.du ≤ j.len then core :: (List.range 4).filter (fun c => c != core && more.contains c && m.unitFree c)
  else [core]

/-- The job leaves its instance's queue. -/
def unqueue (m : Module) (i : Nat) : Module :=
  let m := m.setCpi i (fun x => { x with queue := x.queue.drop 1 })
  { m with cpe := { m.cpe with qrWait := m.cpe.qrWait.erase i } }

/-- The job begins on `units`. -/
def beginJob (m : Module) (j : CpeJob) (units : List Nat) (q : Option Nat) : Module :=
  let k := fun s => tget [] m.kst.keys s
  let j := { j with key := if j.keyed then k j.slot else [], key2 := if j.mode = 2 then k j.slot2 else [], qr := q }
  let n := (j.len + (if j.usesAad then j.aadLen else 0) + 15) / 16
  let m := m.unqueue j.inst
  { m with cpe := { m.cpe with runs := m.cpe.runs ++ [CpeRun.mk units j], served := tmod 0 m.cpe.served j.inst (· + n) } }

/-- A streamed job finds no range: it waits, with its instance's later jobs behind it (R659). -/
def waitRange (m : Module) (i : Nat) : Module :=
  if m.cpe.qrWait.contains i then m
  else ({ m with cpe := { m.cpe with qrWait := m.cpe.qrWait ++ [i] } }).raise F.CPE_EVT_QR_WAIT

/-- The first job of CPIi is dispatched. A job whose unit is not free, or whose turn it is not, stays where it is
(log entry 40). -/
def dispatch (m : Module) (i core : Nat) (more : List Nat) : Module :=
  match (m.cpi i).queue with
  | [] => m
  | j :: _ =>
    if m.cpe.hold || ! m.cpiRoom i then m
    else
      let (m1, d) := m.busRead (jobAccess j) j.addr 64 (some i)
      match d with
      | none =>
        let (m1, mode) := m1.draw 16
        let (m1, dir) := m1.draw 2
        let (m1, cls) := m1.draw 3
        (m1.unqueue i).cpiPost i { tag := j.tag, status := m1.resp.status, mode := mode, dir := dir, cls := cls } 0
      | some l =>
        let j := { j with w := words l }
        let j := { j with cls := j.outClass }
        let st := m1.dispatchStatus j
        let units := m1.jobUnits j core more
        if st ≠ 0 then (m1.unqueue i).jobPost j st 0
        else if ! units.all m1.unitFree then m
        else if j.cls = 2 ∧ m1.rangeFor i = none then m1.waitRange i
        else if m1.cpeSync.cpeTurn j.kind ≠ some i then m
        else
          match j.cls, m1.rangeFor i with
          | 2, some q => (m1.cpeSync.setRange q j).beginJob j units (some q)
          | _, _ => m1.cpeSync.beginJob j units none

/-! ### Fencing, zeroing, reads -/

/-- A second check failure on unit `u` (R650). -/
def fenceUnit (m : Module) (u : Nat) : Module :=
  match m.cpe.runs.find? (fun r => r.units.contains u) with
  | none => m
  | some r =>
    let m := m.raise F.CPE_EVT_RECOMPUTE
    if u = 4 then (m.raise F.CPE_STAT_HASH_FAIL).endUnit 4 (some 0x0F)
    else
      let m := ((m.addW F.CPE_CORE_STAT_RECOMPUTES 1 u).setMap F.CPE_STAT_FENCED u).raise F.CPE_EVT_FENCE
      let m := m.logBlk 0x0C 0x2C01 0 u r.job.inst
      if (List.range 4).all m.unitFailed then
        let m := m.endUnit u (some 0x0F)
        let again := m.cpe.redo
        let m := { m with cpe := { m.cpe with redo := [] } }
        (again.foldl (fun (m : Module) j => m.jobDone j (some 0x0F)) m).showUnits
      else
        let m := { m with cpe := { m.cpe with
          runs := m.cpe.runs.filter (fun x => ! x.units.contains u), redo := m.cpe.redo ++ [r.job] } }
        m.redispatch.showUnits

/-- A range has been overwritten with zeros (R660, R675): it is released, and the job that ended completes. The ranges that a
block reset left are zeroed in the order in which they were set (log entry 40). -/
def zeroDone (m : Module) (q : Nat) : Module :=
  match m.cpe.zero.find? (fun z => z.q == q) with
  | none => m
  | some z =>
    if z.ended.isNone && ((m.cpe.zero.filter (fun z => z.ended.isNone)).head? != some z) then m else
    let base := m.rd F.FAB_QR_BASE_ADDR q * 256
    let lines := m.rd F.FAB_QR_LEN_LEN q
    let m := if lines = 0 then m else m.semWrite base (lines * 256)
    let m := { m with mem := m.mem.wipe base (base + lines * 256), cpe := { m.cpe with zero := m.cpe.zero.erase z } }
    let m := m.releaseRange q
    match z.ended with
    | none => m
    | some (j, st) => if j.stale then m.staleJob j.inst else m.jobPost j st 0

/-- CPI_CPL as one value. -/
def cpiWord (e : CpeCpl) : Nat := e.tag + e.status * 2 ^ 16 + e.mode * 2 ^ 24 + e.dir * 2 ^ 28 + 2 ^ 31

/-- The pop of CPIi (R656; log entry 40). -/
def cpiPop (m : Module) (i : Nat) : Module :=
  match (m.cpi i).fifo with
  | [] => m
  | e :: r =>
    let m := m.setCpi i (fun x => { x with fifo := r })
    (m.wr F.CPI_CPL_X_DONE_LEN e.len i).wr F.CPI_CPL_X_CLASS e.cls i

/-- What a read of CPI_CPL does (R656). -/
def cpiPlan (m : Module) (i : Nat) : RePlan :=
  let top := (m.cpi i).fifo.head?
  { value := (top.map cpiWord).getD 0
    what := top.map (fun e => .cpi i e (m.rd F.CPI_CPL_X_DONE_LEN i) (m.rd F.CPI_CPL_X_CLASS i))
    effect := (·.cpiPop i) }

/-- A read of CPI_CPL. -/
def cpiRead (m : Module) (a : Access) (i : Nat) : Module := m.rePlanned a (0x40000010 + i * 0x1000) (m.cpiPlan i)

/-- A write of CPE_CNT_SEL (R680). -/
def cpeCntSel (m : Module) (v : Nat) : Module :=
  let m := (m.wr F.CPE_CNT_SEL_INST (bits v 5 0)).wr F.CPE_CNT_SEL_KIND (bits v 10 8)
  m.wr F.CPE_CNT_VAL_VALUE (tget 0 (m.cpi (bits v 5 0)).cnt (bits v 10 8))

/-! ### Resets -/

/-- The part of an instance reset that CPE performs (R442, R663): admitted jobs are discarded, begun ones become stale, and
the page's registers return to their reset values. -/
def cpeInstReset (m : Module) (i : Nat) : Module :=
  let n := (m.cpi i).queue.length
  let m := (m.cpe.runs.filter (fun r => r.job.inst == i)).foldl (fun (m : Module) r => m.cutDirect r.job) m
  let old := fun (j : CpeJob) => if j.inst = i then { j with stale := true } else j
  let m := (m.staleCount i n).cpiCount i 6 n
  let m := m.setCpi i (fun x => { x with queue := [], fifo := [] })
  let m := { m with cpe := { m.cpe with
    runs := m.cpe.runs.map (fun (r : CpeRun) => { r with job := old r.job })
    redo := m.cpe.redo.map old
    qrWait := m.cpe.qrWait.erase i
    zero := m.cpe.zero.map (fun (z : CpeZero) => { z with ended := z.ended.map (fun (e : CpeJob × Nat) => (old e.1, e.2)) }) } }
  (m.clrRange (0x40000000 + i * 0x1000) (0x40000700 + i * 0x1000)).showUnits

/-- CPE abandons the work in flight of CPIi (R446): the jobs abandoned. -/
def cpeAbandon (m : Module) (i : Nat) : Module × Nat := m.abortJobs (fun j => j.inst == i && j.stale) 0

/-- What a block reset of CPE does beside its registers (R675). -/
def cpeBlockReset (m : Module) : Module :=
  let m := m.cpe.runs.foldl (fun (m : Module) r => m.cutDirect r.job) m
  { m with cpe := { qrSet := m.cpe.qrSet, zero := m.cpe.qrSet.map (fun q => CpeZero.mk q none), hold := m.cpe.hold
                    glitchUs := m.cpe.glitchUs } }

end Module

/-! ### Commands -/

/-- CPI_SUBMIT (R445, R452, R651, R678). -/
def execCpiSubmit (a : Access) (i : Fin 64) (v : Word) (s : State) : Host.Outcome State Fault Refusal :=
  s.runBy a 1 (fun a m => m.access a (0x40000004 + i.val * 0x1000) 1 (·.cpiSubmit i.val v.toNat))

/-- JOB_DISPATCH (R387, R435, R653–R655, R659, R668, R676, R678): the scheduler of R654 and R455 names the instance, the core,
and for XTS the other cores. -/
def execJobDispatch (i : Fin 64) (core : Fin 4) (more : List (Fin 4)) (s : State) : Host.Outcome State Fault Refusal :=
  s.runIn 0x0C (fun m => (m.dispatch i.val core.val (more.map Fin.val)).showUnits)

/-- JOB_END (R443, R444, R649, R656–R658, R660, R662, R663, R676, R678): the job on a unit has been processed; `recomputes`
blocks were computed a second time. -/
def execJobEnd (unit : Fin 6) (recomputes : Nat) (s : State) : Host.Outcome State Fault Refusal :=
  s.runIn 0x0C (fun m =>
    if ! m.unitBusy unit.val then m else
    let m := m.when (recomputes != 0) (fun m =>
      let m := m.raise F.CPE_EVT_RECOMPUTE
      if unit.val < 4 then m.addW F.CPE_CORE_STAT_RECOMPUTES recomputes unit.val else m)
    m.endUnit unit.val none)

/-- QUARANTINE_ZEROING_DONE (R387, R660, R675). -/
def execQuarantineZeroingDone (q : Fin 8) (s : State) : Host.Outcome State Fault Refusal := s.runIn 0x0C (fun m => m.zeroDone q.val)

/-- CORE_FENCED (R650, R678): unit 4 is the hash unit. -/
def execCoreFenced (unit : Fin 5) (s : State) : Host.Outcome State Fault Refusal := s.runIn 0x0C (fun m => m.fenceUnit unit.val)

/-- CPI_CPL_READ (R376, R377, R656). -/
def execCpiCplRead (a : Access) (i : Fin 64) (s : State) : Host.Outcome State Fault Refusal :=
  s.runBy a 0 (fun a m => m.cpiRead a i.val)

/-- CPE_CNT_SEL_WRITE (R680). -/
def execCpeCntSelWrite (a : Access) (v : Word) (s : State) : Host.Outcome State Fault Refusal :=
  s.runBy a 1 (fun a m => m.access a 0x20A00020 1 (·.cpeCntSel v.toNat))

end Sys2Proof.Machine
end

