-- ==== Sys2Proof/Machine/Image.lean ====
section
/-!
DEFINITION. What a Pedibel image holds (R140–R143): its header, its directory and its records.
-/
namespace Sys2Proof.Machine

/-! ### Images -/

/-- Where an image is read from: `n` bytes at an image offset. -/
abbrev Source := Nat → Nat → List Byte

namespace Source

/-- The 32-bit word at offset `o`. -/
def word (r : Source) (o : Nat) : Nat := ofBytes (r o 4)

/-- Fields of the header (R140). -/
def imageLen (r : Source) : Nat := word r 0x1C
def sigOffset (r : Source) : Nat := word r 0x24
def recCount (r : Source) : Nat := bits (word r 0x28) 15 0
def seq (r : Source) : Nat := word r 0x18
def secver (r : Source) : Nat := bits (word r 0x14) 7 0

end Source

/-- A directory entry (R142). -/
structure DirEntry where
  type : Nat
  crit : Bool
  rver : Nat
  offset : Nat
  length : Nat
  crc : Nat
deriving DecidableEq, Repr

/-- Entry `k` of the directory (R142). -/
def dirEntry (r : Source) (k : Nat) : DirEntry :=
  let w := Source.word r (0x100 + 16 * k)
  { type := bits w 14 0, crit := bit w 15, rver := bits w 31 16, offset := Source.word r (0x104 + 16 * k)
    length := Source.word r (0x108 + 16 * k), crc := Source.word r (0x10C + 16 * k) }

/-- The directory. -/
def directory (r : Source) : List DirEntry := (List.range (Source.recCount r)).map (dirEntry r)

/-- The bytes of the record of entry `e`. -/
def recBytes (r : Source) (e : DirEntry) : List Byte := r e.offset e.length

/-- The bytes of the records of type `t`, in directory order. -/
def recordsOf (r : Source) (t : Nat) : List (List Byte) :=
  ((directory r).filter (fun e => e.type == t)).map (recBytes r)

/-- The words of the one record of type `t`; none where there is none. -/
def recordWords (r : Source) (t : Nat) : Option (List Nat) := ((recordsOf r t).head?).map Module.words

namespace Module

/-- The boot region at the base of DRAM as a source (R130). -/
def bootRegion (m : Module) : Source := fun o n => m.mem.bytes (0x800000000 + o) n

end Module

end Sys2Proof.Machine
end

