-- ==== Sys2Proof/Machine/Chan.lean ====
section
/-!
DEFINITION. The output channels (chapters 4 and 5): classes, profiles, thresholds, turn-on and turn-off, the protections'
common turn-off, and the readback words.
-/
namespace Sys2Proof.Machine

/-! ### Constants of the channels -/

/-- The channel classes (R169). -/
inductive ChanClass where
  | h | m | l
deriving DecidableEq, Repr

/-- The class of channel `n` (R169). -/
def classOf (n : Nat) : ChanClass := if n % 32 < 4 then .h else if n % 32 < 16 then .m else .l

/-- The class LSB in units of 0.625 mA (R184). -/
def lsbOf : ChanClass → Nat
  | .h => 64 | .m => 20 | .l => 5

/-- The class continuous current in units of 10 mA (R171). -/
def contOf : ChanClass → Nat
  | .h => 2500 | .m => 800 | .l => 200

/-- The class maximum on-resistance in mΩ (R171). -/
def ronOf : ChanClass → Nat
  | .h => 3 | .m => 10 | .l => 60

/-- The class active-clamp energy in nJ (R171). -/
def clampNj : ChanClass → Nat
  | .h => 150000000 | .m => 60000000 | .l => 20000000

/-- The built-in profiles (R230): breakpoints in 10 µs and 1/16. -/
def builtin : Nat → Profile
  | 0 => ⟨false, 1, [(0, 32), (100, 32), (200, 28), (300, 24), (400, 24), (500, 24), (600, 24), (1000, 24)]⟩
  | 1 => ⟨false, 1, [(0, 192), (200, 192), (500, 128), (1000, 80), (2000, 48), (5000, 32), (10000, 24), (20000, 24)]⟩
  | 2 => ⟨false, 2, [(0, 96), (5000, 96), (20000, 96), (50000, 80), (100000, 48), (200000, 32), (300000, 24),
      (500000, 24)]⟩
  | 3 => ⟨false, 1, [(0, 64), (10000, 64), (50000, 56), (100000, 48), (200000, 32), (400000, 24), (600000, 20),
      (1000000, 20)]⟩
  | 4 => ⟨true, 1, [(0, 32), (20, 32), (50, 32), (100, 24), (200, 24), (300, 24), (400, 24), (500, 24)]⟩
  -- 1.3 and 1.2 are not multiples of 1/16: R230 gives the built-in multiples exactly, so SOLENOID is held in 1/160
  | _ => ⟨false, 2, [(0, 240), (500, 240), (2000, 240), (5000, 240), (10000, 208), (20000, 192), (30000, 192),
      (50000, 192)]⟩

/-- The unit of a profile's multiples: 1/160 for SOLENOID, 1/16 elsewhere (R230, R231). -/
def multUnit (number : Nat) : Nat := if number = 5 then 160 else 16

/-- The longest transition of a slew step in µs (R237). -/
def slewMaxUs : Nat → Nat
  | 0 => 4 | 1 => 15 | 2 => 50 | _ => 200

/-- The shortest PWM period of a slew step in µs (R237, R240). -/
def slewMinPeriod : Nat → Nat
  | 0 => 500 | 1 => 500 | 2 => 2000 | _ => 10000

namespace Chan

/-- Fields of the blocks (R220, R224, R268). -/
def wireXs (c : Chan) : Nat := bits c.prot0 3 0
def insLimit (c : Chan) : Nat := bits c.prot0 11 4
def margin (c : Chan) : Nat := bits c.prot0 16 12
def ambUi (c : Chan) : Bool := bit c.prot0 17
def ambInput (c : Chan) : Nat := bits c.prot0 23 18
def ambFixed (c : Chan) : Int := signed 8 (bits c.prot0 31 24)
def iOc (c : Chan) : Nat := bits c.prot1 11 0
def startRise (c : Chan) : Nat := bits c.prot1 15 12
def olDiag (c : Chan) : Bool := bit c.prot1 16
def shedPrio (c : Chan) : Nat := bits c.prot1 19 17
def iUc (c : Chan) : Nat := bits c.prot1 30 20
def profileNo (c : Chan) : Nat := bits c.load 3 0
def iNom (c : Chan) : Nat := bits c.load 15 4
def profileUsed (c : Chan) : Nat := bits c.inForce 3 0
def owner (c : Chan) : Nat := bits c.ctrl 3 0
def owned (c : Chan) : Bool := bit c.ctrl 4
def safety (c : Chan) : Bool := bit c.ctrl 5 && bit c.ctrl 4
def failState (c : Chan) : Nat := bits c.ctrl 7 6
def init (c : Chan) : Nat := bits c.ctrl 9 8

/-- Retries allowed (R224, R252). -/
def retryMax (c : Chan) : Nat := if bit c.load 16 then bits c.load 19 17 else 4

/-- The backoff base in µs (R224). -/
def backoffBase (c : Chan) : Nat :=
  if ! bit c.load 16 then 10000 else match bits c.load 21 20 with | 0 => 10000 | 1 => 20000 | 2 => 50000 | _ => 100000

/-- The forward switch is on and no turn-off has begun (R289). -/
def conducting (c : Chan) : Bool := c.phase == .on || c.phase == .turningOn

/-- The thermal latch or the wire latch is set (R190). -/
def latched (c : Chan) : Bool := c.thermLatch || c.wireLatch

/-- The condition flags (R222). -/
def flags (c : Chan) : Nat :=
  b2n c.openLoad + b2n c.shortToSupply * 2 + b2n c.peerDriven * 4 + b2n c.undercurrent * 8 + b2n c.swFail * 16
    + b2n c.wireWarn * 32 + b2n c.clusterWarn * 64 + b2n c.ambFallback * 128 + b2n c.reverse * 256
    + b2n c.latched * 512 + b2n c.configBad * 1024 + b2n c.sat * 2048 + b2n c.grpOver * 4096 + b2n c.grpLoss * 8192

/-- The EVT bits that the change from `c` to `d` latches (R289): rising flags, EXHAUSTED, FW_MISSING, LIMIT_END. -/
def rises (c d : Chan) : Nat :=
  let r := (bitsSet 16 d.flags).foldl (fun v b => if bit c.flags b then v else v + 2 ^ b) 0
  r + b2n (! c.exhausted && d.exhausted) * 2 ^ 18 + b2n (! c.fwMissing && d.fwMissing) * 2 ^ 19
    + b2n (! c.limitEnd && d.limitEnd) * 2 ^ 20

end Chan

namespace Module

/-- Channel `n`. -/
def chan (m : Module) (n : Nat) : Chan := tget {} m.chc.chans n

/-- Group `g`. -/
def grp (m : Module) (g : Nat) : Group := tget {} m.chc.groups g

/-- Command instance `i`. -/
def chi (m : Module) (i : Nat) : Chi := tget {} m.chc.insts i

/-- Store group `g`. -/
def setGrp (m : Module) (g : Nat) (x : Group) : Module := { m with chc := { m.chc with groups := tset {} m.chc.groups g x } }

/-- Store command instance `i`. -/
def setChi (m : Module) (i : Nat) (x : Chi) : Module := { m with chc := { m.chc with insts := tset {} m.chc.insts i x } }

/-- Store channel `n` without latching an event. -/
def putChan (m : Module) (n : Nat) (x : Chan) : Module := { m with chc := { m.chc with chans := tset {} m.chc.chans n x } }

/-- Latch EVT bits of channel `n` in the block's copy and in its owner's page, and the page's EVT interrupt where the
page's word was zero (R289, R291, R292). -/
def latchEvt (m : Module) (n bitsToSet : Nat) : Module :=
  if bitsToSet = 0 then m else
  let m := m.wr F.CHC_CH_EVT_EVT (m.rd F.CHC_CH_EVT_EVT n ||| bitsToSet) n
  let c := m.chan n
  if ! c.owned then m else
  let old := m.rd F.CHI_CH_EVT_EVT c.owner n
  let m := m.wr F.CHI_CH_EVT_EVT (old ||| bitsToSet) c.owner n
  m.when (old == 0) (·.raise F.CHI_IRQ_STAT_EVT c.owner)

/-- Change channel `n` by `f`, latching what rises. -/
def setChan (m : Module) (n : Nat) (f : Chan → Chan) : Module :=
  let old := m.chan n
  let new := f old
  (m.putChan n new).latchEvt n (old.rises new)

/-- Profile `k` (R230, R231). -/
def profileAt (m : Module) (k : Nat) : Profile := if k ≤ 5 then builtin k else tget {} m.chc.profiles k

/-- The profile that a channel's load block names (R224), and the one in force since its last turn-on (R226). -/
def profileOf (m : Module) (c : Chan) : Profile := m.profileAt c.profileNo
def profileNow (m : Module) (c : Chan) : Profile := m.profileAt c.profileUsed

/-- VS of the group of channel `n` is in undervoltage (R89). -/
def vsUv (m : Module) (n : Nat) : Bool := bit (m.rd F.HST_SUP_STAT_VS_UV) (n / 32)

/-- The VAUX state lets channel `n` turn on: normal; in a dip only class L; in hold-up none (R92, R96). -/
def vauxAllows (m : Module) (n : Nat) : Bool :=
  m.rd F.HST_SUP_STAT_VAUX_STATE == 0 || (m.rd F.HST_SUP_STAT_VAUX_STATE == 1 && classOf n == .l)

/-- The unit may drive outputs (R691). -/
def drives (m : Module) : Bool := m.flag F.DPX_STATE_DRIVE

/-- The conditions of R254 but the commanded state and the VAUX state, with R221, R271 and the shed wait of R194. -/
def freeToTurnOn (m : Module) (n : Nat) : Bool :=
  let c := m.chan n
  c.owned && ! c.configBad && ! c.exhausted && ! c.fwMissing && ! c.backoff && ! c.latched && ! c.shed && ! m.vsUv n

/-- The conditions of R254 but the commanded state, and that of R691. -/
def mayTurnOn (m : Module) (n : Nat) : Bool := m.drives && m.freeToTurnOn n && m.vauxAllows n

/-- A class H or M channel held off by a dip may engage where the peer holds its output energised (R115, R703). -/
def mayEngage (m : Module) (n : Nat) : Bool :=
  m.freeToTurnOn n && (m.vauxAllows n || (m.rd F.HST_SUP_STAT_VAUX_STATE == 1 && (m.chan n).energised))

/-! ### Envelopes -/

/-- The envelope time of an open window `ns` after the present sweep began, with the clock of R264: it stands for the
part before the classification at 6.8 µs where it stood, and after it where it stands now. -/
def envTime (w : InrushWindow) (ns : Nat) : Int :=
  let a := min ns 6800
  w.base + (if w.standPrev then 0 else (a : Int)) + (if w.stand then 0 else ((ns - a : Nat) : Int))

/-- The envelope at `tau` ns in 1/256 of I_NOM, rounded down (R228); none past the last breakpoint (R229). `unit` is the
unit of the multiples. -/
def envelope (unit : Nat) (pts : List (Nat × Nat)) (tau : Nat) : Option Nat :=
  match pts with
  | (t0, m0) :: (t1, m1) :: r =>
    let a := t0 * 10000
    let b := t1 * 10000
    if tau < b then
      let v : Int := (m0 : Int) * ((b - a : Nat) : Int) + ((m1 : Int) - (m0 : Int)) * ((tau - a : Nat) : Int)
      some ((256 * v / ((unit * (b - a) : Nat) : Int)).toNat)
    else envelope unit ((t1, m1) :: r) tau
  | _ => none

/-- The envelope of a window at `tau` ns. -/
def windowEnv (w : InrushWindow) (tau : Int) : Option Nat := envelope (multUnit w.number) w.profile.pts tau.toNat

/-- The end of a profile's envelope, t_7, in ns (R227). -/
def envEnd (p : Profile) : Nat := (p.pts.getLast?.map (fun x => x.1 * 10000)).getD 0

/-- The set-point of the limit loop of channel `n` at `tau`, in 0.625 mA / 256 (R234): the smaller of the envelope and 1.5
times the class continuous current. -/
def limitPoint (n : Nat) (w : InrushWindow) (tau : Int) : Nat :=
  let top := contOf (classOf n) * 24 * 256
  match windowEnv w tau with | some e => min (w.inom * 16 * e) top | none => w.setPoint

/-- A new inrush window of channel `n` that starts `ns` into the present sweep (R226, R227): it begins at 0 where the clock
stands (R264). -/
def newWindow (m : Module) (n : Nat) (ns : Nat) : InrushWindow :=
  let c := m.chan n
  let d := (m.grp (n / 32)).droop
  let w : InrushWindow :=
    { base := if d then 0 else - (ns : Int), profile := m.profileOf c, number := c.profileNo, inom := c.iNom, stand := d
      standPrev := d }
  { w with setPoint := limitPoint n w 0 }

/-! ### Turn-on and turn-off -/

/-- The turn-on of channel `n`, `ns` into the sweep, with a new inrush window where `win`, after a protection turn-off, and
at the first on-edge of a PWM (R227, R244): SET_PROFILE's values come into force (R226), a diagnostic cycle ends (R213), a
restart after a protection turn-off is latched and counted (R256, R289). `slew0` is the engagement's slew step (R703). -/
def turnOn (m : Module) (n : Nat) (win : Bool) (ns : Nat := 0) (slew0 : Bool := false) : Module :=
  let c := m.chan n
  let opens := win || c.protOff || c.firstEdge
  let w := if opens then some (m.newWindow n ns) else c.window
  let slew := if slew0 then 0 else (m.profileOf c).slew
  let t := m.now
  let m := m.setChan n (fun c =>
    { c with
      phase := .turningOn, window := w, limiting := false, diag := .none, fwWatch := false
      ocCount := if c.pwm.isSome then c.ocCount else 0
      inForce := c.load % 2 ^ 16, slew := slew, onNs := - (ns : Int), edgeAt := t, firstEdge := false, engage := false
      steadyAt := if opens then none else c.steadyAt
      thermCycles := if c.thermOff then min 255 (c.thermCycles + 1) else c.thermCycles
      protOff := false, thermOff := false })
  m.when c.protOff (·.latchEvt n (2 ^ 17))

/-- The inrush window of a channel ends at `t` (R227, R252). -/
def closeWindow (c : Chan) (t : Nat) : Chan :=
  { c with window := none, limiting := false, steadyAt := if c.window.isSome then some t else c.steadyAt }

/-- The turn-off of a conducting channel begins at `t`: the window closes but in a PWM's off-phase, which keeps the sampled
count as well (R227, R243, R244), a reverse-switch test is abandoned (R223), UNDERCURRENT clears (R212), and the free-wheel
comparator is watched but after a fast short (R247). -/
def beginOff (c : Chan) (t : Nat) (hard keepWindow watch : Bool) : Chan :=
  let c := if keepWindow then { c with limiting := false } else { closeWindow c t with ocCount := 0 }
  { c with
    phase := .turningOff hard, offFrom := t
    swTest := false, reverse := false, undercurrent := false, ucRun := 0, fwWatch := watch }

/-- The place of a cause in the order of R193. -/
def causeRank : Nat → Nat
  | 1 => 0 | 3 => 1 | 4 => 2 | 2 => 3 | 6 => 4 | _ => 5

/-- Bits EXHAUSTED, LIMIT_END and SHED of EVT of channel `n` that the record `t` did not find set are taken back (R193). -/
def unlatch (m : Module) (n : Nat) (t : TripFrom) : Module :=
  let back := fun (now before : Nat) => [18, 20, 21].foldl (fun v b => if bit before b then v else setBit v b false) now
  let m := m.wr F.CHC_CH_EVT_EVT (back (m.rd F.CHC_CH_EVT_EVT n) t.evtBlock) n
  let c := m.chan n
  m.when c.owned (fun m => m.wr F.CHI_CH_EVT_EVT (back (m.rd F.CHI_CH_EVT_EVT c.owner n) t.evtPage) c.owner n)

/-- What channel `n` records of a protection turn-off with `cause` (R192, R250, R251, R253): cause and, for SHORT and
OVERCURRENT, the retry counter with the length of its wait. -/
def tripRecord (m : Module) (n cause : Nat) (limitEnd : Bool) : Module :=
  let counted := cause == 1 || cause == 2
  m.setChan n (fun c =>
    let exh := counted && c.retryLeft == 0
    let left := if counted then c.retryLeft - 1 else c.retryLeft
    let waits := counted && ! exh
    { c with
      protOff := true, cause := cause, limitEnd := c.limitEnd || limitEnd, retryLeft := left
      thermOff := c.thermOff || cause == 3 || cause == 4
      backoff := c.backoff || waits
      backoffUs := if waits then c.backoffBase * 4 ^ (c.retryMax - left - 1) else c.backoffUs
      backoffFrom := if waits then none else c.backoffFrom
      exhausted := c.exhausted || exh
      cmd := if exh then .off else c.cmd })

/-- The record of channel `n` as it stood before its last protection turn-off. -/
def tripUndo (m : Module) (n : Nat) (t : TripFrom) : Module :=
  (m.putChan n { m.chan n with
    retryLeft := t.retryLeft, backoff := t.backoff, exhausted := t.exhausted, limitEnd := t.limitEnd, cmd := t.cmd
    shed := false, thermOff := false }).unlatch n t

/-- A protection acts on channel `n` after another turned it off: a fast short makes the turn-off hard (R171, R187); the first
in the order of R193 is recorded where both act in the same µs, that is before the turn-off has begun (log entry 22). -/
def tripAgain (m : Module) (n cause : Nat) (limitEnd : Bool) : Module :=
  let c := m.chan n
  let m := m.when (cause == 1) (fun m => m.putChan n { c with
    phase := match c.phase with | .turningOff _ => .turningOff true | p => p })
  match c.tripFrom with
  | some t =>
    if c.protOff && t.us == m.now && decide (causeRank cause < causeRank c.cause) then
      ((m.tripUndo n t).tripRecord n cause limitEnd).setChan n (fun c => { c with fwWatch := c.fwWatch && cause != 1 })
    else m
  | none => m

/-- A protection turn-off of channel `n` with `cause` (R187, R192, R193, R250, R253, R245). It acts on a channel that
conducts, on one whose PWM is in an off-phase for the causes 3, 4 and 6, where it completes at once, and for cause 6 it is
recorded by every channel commanded on that is not in a protection turn-off (R109; log entry 19). -/
def trip (m : Module) (n cause : Nat) (hard : Bool) (limitEnd : Bool := false) : Module :=
  let c := m.chan n
  let offPhase := c.pwm.isSome && ! c.conducting && (cause == 3 || cause == 4 || cause == 6)
  let turning := match c.phase with | .turningOff _ => c.protOff | _ => false
  let acts := c.conducting || offPhase
  if ! acts && ! (cause == 6 && c.cmd != .off && ! turning) then m.tripAgain n cause limitEnd else
  let t := m.now
  let old : TripFrom :=
    { us := t, retryLeft := c.retryLeft, backoff := c.backoff, exhausted := c.exhausted, limitEnd := c.limitEnd, cmd := c.cmd
      evtBlock := m.rd F.CHC_CH_EVT_EVT n, evtPage := if c.owned then m.rd F.CHI_CH_EVT_EVT c.owner n else 0 }
  let m := m.setChan n (fun c =>
    let c := if c.conducting then beginOff c t hard false (cause != 1) else { c with window := none }
    { c with pwm := none, firstEdge := false, ocCount := 0, steadyAt := none, tripFrom := if acts then some old else c.tripFrom })
  let m := m.tripRecord n cause limitEnd
  m.when acts (fun m => (m.latchEvt n (2 ^ 16)).latch (fun h => { h with trips := setBit h.trips n true }))

/-- A commanded turn-off of a channel at `t`: slewed (R238); a channel that is off stays off, and its PWM ends. -/
def slewedOff (c : Chan) (t : Nat) : Chan :=
  { (if c.conducting then beginOff c t false false true else closeWindow c t) with pwm := none, firstEdge := false, engage := false }

/-- A commanded turn-off of channel `n` (R238). -/
def commandedOff (m : Module) (n : Nat) : Module :=
  let t := m.now
  m.setChan n (fun c => slewedOff c t)

/-- Every channel turns off hard within 10 µs, whatever it is doing (R98, R303, R825). -/
def allOffHard (m : Module) : Module :=
  let t := m.now
  forEach (List.range 128) (fun n m => m.setChan n (fun c =>
    let c := { slewedOff c t with pulse := false }
    { c with phase := match c.phase with | .turningOff _ => .turningOff true | p => p })) m

/-! ### Thresholds -/

/-- A sample `x` of channel `n`, in class LSB, exceeds `t256` × I_NOM / 256 or, where that is less, I_OC (R229). Currents
compare in units of 0.625 mA. -/
def exceeds (n : Nat) (c : Chan) (x : Int) (env : Option Nat) (inom : Nat) : Bool :=
  let i := x * (lsbOf (classOf n) : Int)
  decide ((c.iOc * 16 : Nat) < i) &&
    (match env with
     | some e => decide (((inom * 16 * e : Nat) : Int) < i * 256)
     | none => true)

/-- The window is one of limit mode on a class that has the loop (R234, R236). -/
def limitWindow (n : Nat) (w : InrushWindow) : Bool := w.profile.limit && classOf n != .l

/-- The sample of channel `n` counts as over the active threshold (R185, R189, R229). -/
def overThreshold (m : Module) (n : Nat) (x : Int) (sat : Bool) : Bool :=
  let c := m.chan n
  if sat then true else
  match c.window with
  | none => exceeds n c x none 0
  | some w => exceeds n c x (windowEnv w (envTime w ((n % 16 + 1) * 500))) w.inom

/-! ### Readback words -/

/-- The COND word of channel `n` (R289). -/
def condWord (m : Module) (n : Nat) : Nat :=
  let c := m.chan n
  let cmd := if ! c.owned then 3 else match c.cmd with | .off => 0 | .on => 1 | .pwm _ _ => 2
  c.flags + cmd * 2 ^ 16 + b2n c.conducting * 2 ^ 18 + b2n c.failPending * 2 ^ 19 + c.profileUsed * 2 ^ 20

/-- A restart of channel `n` is held back by something: it is commanded on, off, and not shed. -/
def waiting (c : Chan) : Bool := c.cmd != .off && c.phase == .off && ! c.shed && c.pwm.isNone

/-- The recovery status word of channel `n` (R260): an extension that is no multiple of 40 µs is rounded down in DROOP_EXT
(DESIGN CHOICE, log entry 22). -/
def recovWord (m : Module) (n : Nat) : Nat :=
  let c := m.chan n
  let wait := waiting c
  c.cause + c.retryLeft * 2 ^ 4 + b2n c.exhausted * 2 ^ 7 + b2n c.fwMissing * 2 ^ 8 + b2n c.backoff * 2 ^ 9
    + b2n (wait && c.latched) * 2 ^ 10
    + b2n (wait && classOf n != .l && m.rd F.HST_SUP_STAT_VAUX_STATE != 0) * 2 ^ 11
    + b2n c.window.isSome * 2 ^ 12 + b2n c.limiting * 2 ^ 13 + b2n c.limitEnd * 2 ^ 14
    + b2n (wait && m.vsUv n) * 2 ^ 15 + c.thermCycles * 2 ^ 16
    + (match c.window with | some w => w.ext / 5 | none => 0) * 2 ^ 24

/-- The MEAS word of channel `n` (R289). -/
def measWord (m : Module) (n : Nat) : Nat :=
  let c := m.chan n
  unsigned 16 c.sample + c.vout % 4096 * 2 ^ 16 + b2n c.energised * 2 ^ 28 + b2n c.low * 2 ^ 29

end Module

end Sys2Proof.Machine
end

