-- ==== Sys2Proof/Machine/Power.lean ====
section
/-!
DEFINITION. The power stage and fault recovery (chapters 4 and 5): what each sample, comparator and timer does.
-/
namespace Sys2Proof.Machine

/-- The integer square root, by bits from `k` down. -/
def isqrtFrom (v : Nat) : Nat → Nat → Nat
  | 0, acc => acc
  | k + 1, acc => let t := acc + 2 ^ k; isqrtFrom v k (if t * t ≤ v then t else acc)

/-- The integer square root of `v` below 2^64 (log entry 22). -/
def isqrt (v : Nat) : Nat := isqrtFrom v 32 0

/-- The mean of the last `n` entries of `l`, entries not yet made counting as 0 (log entry 22). -/
def meanOf (n : Nat) (l : List Nat) : Nat := (l.take n).foldl (· + ·) 0 / n

/-- One millidegree-free unit of the wire model: 2^24 per °C (log entry 23). -/
def degree : Int := 16777216

/-- Wire constants (R195): r20 in µΩ/m, k_th in K·m/W, τ_w in s; a reserved code takes the last row (DESIGN CHOICE, log
entry 23). -/
def wireTable : Nat → Nat × Nat × Nat
  | 0 => (51030, 14, 12) | 1 => (35720, 13, 16) | 2 => (23810, 12, 22) | 3 => (17860, 11, 28) | 4 => (11910, 10, 38)
  | 5 => (7144, 9, 55) | 6 => (4465, 8, 80) | 7 => (2977, 7, 110) | 8 => (1786, 6, 170) | _ => (1116, 5, 250)

/-- One step of the wire model (R196): `theta` and `amb` in 2^−24 °C, `sumsq` the sum of 125 squared samples in class
LSB (log entry 23). -/
def wireStep (xs : Nat) (theta amb : Int) (sumsq lsb : Nat) : Int :=
  let (r20, kth, tau) := wireTable xs
  let fact : Int := 100000 * degree + 393 * (theta - 20 * degree)
  let heat : Int := ((sumsq * (lsb * lsb) * r20 * kth : Nat) : Int) * fact / 32000000000000000000
  theta + (amb + heat - theta) / ((1000 * tau : Nat) : Int)

namespace Module

/-! ### Samples -/

/-- The bounds of limit mode (R235) are reached by the open window of channel `n`. -/
def limitReached (n : Nat) (w : InrushWindow) : Bool :=
  limitWindow n w && (decide (1000 ≤ w.limitUs) || decide (clampNj (classOf n) ≤ w.limitNj))

/-- R235: limiting ends with a turn-off when a bound is reached. -/
def limitCheck (m : Module) (n : Nat) : Module :=
  match (m.chan n).window with
  | some w => if limitReached n w then m.trip n 2 false true else m
  | none => m

/-- The slot of channel `n` begins one maximum transition or more after the last on-edge (R243). -/
def settled (n : Nat) (c : Chan) : Bool := decide ((slewMaxUs c.slew * 1000 : Nat) ≤ c.onNs + (n % 16 * 500 : Nat))

/-- The hem ADC converts channel `n` in the present sweep (R205). -/
def hemTurn (m : Module) (n : Nat) : Bool := n % 32 / 16 == m.rd F.CHC_SWEEP_NUM % 2

/-- A sample below I_UC, or not, counts on an on channel outside PWM (R212): 12 500 samples in a row are 100 ms. -/
def countLow (c : Chan) (low : Bool) : Chan :=
  { c with
    ucLow := low
    ucRun := if ! c.conducting || c.pwm.isSome then 0 else if c.ucLow == low then min 12500 (c.ucRun + 1) else 1 }

/-- The sample of channel `n` is evaluated (R183–R189, R228, R233, R243): the sampled overcurrent check is suspended in a
limit-mode window (R235; log entry 22). `vout` is the conversion of the hem ADC, where it has one (R205). -/
def sampleChannel (m : Module) (n : Nat) (x : Int) (energised low : Bool) (vout : Nat) : Module :=
  let sat := decide (4095 ≤ x) || decide (x ≤ -512)
  let c := m.chan n
  let above := m.overThreshold n x sat
  let suspended := match c.window with | some w => limitWindow n w | none => false
  let counts := c.conducting && ! suspended && (c.pwm.isNone || settled n c)
  let used : Int := if c.phase == .off then 0 else x
  let turn := m.hemTurn n
  let m := m.setChan n (fun c =>
    { countLow c (decide (x * (lsbOf (classOf n) : Int) < (c.iUc * 16 : Nat))) with
      sample := x, sat := sat
      carried := c.carried || (c.pulse && decide ((contOf (classOf n) * 16 : Nat) ≤ x * (lsbOf (classOf n) : Int) * 100))
      energised := energised, low := low, used := used
      vout := if turn then vout else c.vout
      sq := c.sq + (used.natAbs * used.natAbs : Nat)
      sqOwn := c.sqOwn + used.natAbs * used.natAbs
      ocCount := if ! counts then c.ocCount else if above then c.ocCount + 1 else 0
      diag := match c.diag with | .supply e k => if k < 25 then .supply (e && energised) (k + 1) else .supply e k | d => d })
  if counts && decide (3 ≤ (m.chan n).ocCount) then m.trip n 2 false else m

/-- The mean of the conversions in VS_ref is above `vs` / 0.8 (R262). -/
def isDroop (convs : List Nat) (vs : Nat) : Bool :=
  decide (convs ≠ []) && decide (vs * 10 * convs.length < 8 * convs.foldl (· + ·) 0)

/-- The slot 16 conversion of group `g` (R205, R262, R264) and the sums of limit mode, which use it (R235): time limiting
counts in whole sweeps by the loop's state at this conversion, and the channels of slots 13 to 15 give the sample of the sweep
before (DESIGN CHOICE, log entry 22). -/
def sampleSupply (m : Module) (g vs : Nat) : Module :=
  let x := m.grp g
  let d := isDroop x.vsConv vs
  let m := m.setGrp g { x with
    vs := vs, droop := d
    droopRun := if d then x.droopRun + 1 else 0
    vsConv := if d then x.vsConv else (vs :: x.vsConv).take 16 }
  forEach (List.range 32) (fun p m =>
    let n := 32 * g + p
    let c := m.chan n
    match c.window with
    | none => m
    | some w =>
      let ext := d && decide (w.ext < 1250)
      let i := (c.sample * (lsbOf (classOf n) : Int)).toNat
      let w := { w with
        stand := ext, ext := if ext then w.ext + 1 else w.ext
        limitUs := if c.limiting then w.limitUs + 8 else w.limitUs
        limitNj := if c.limiting then w.limitNj + (vs - c.vout) * i / 20 else w.limitNj }
      (m.setChan n (fun c => { c with window := some w })).limitCheck n) m

/-- What a channel carries over a sweep boundary (R203, R227, R234, R243, R264): the envelope clock and the limit loop's
set-point, the time since the on-edge, and the sample of the sweep that ends. -/
def advanceChan (n : Nat) (c : Chan) : Chan :=
  let w := c.window.map (fun w =>
    let w := { w with base := envTime w 8000, standPrev := w.stand }
    { w with setPoint := limitPoint n w w.base })
  { c with window := w, last := c.used, used := 0, onNs := if c.conducting then c.onNs + 8000 else c.onNs }

/-- Every channel goes on to the next sweep. -/
def advanceWindows (m : Module) : Module :=
  forEach (List.range 128) (fun n m => m.putChan n (advanceChan n (m.chan n))) m

/-! ### The wire model -/

/-- The ambient of channel `c` in 2^−24 °C, and whether the fallback applies (R199, R317; log entry 23). -/
def ambient (m : Module) (c : Chan) : Int × Bool :=
  let fixed := c.ambFixed * degree
  if ! c.ambUi then (fixed, false) else
  let u := c.ambInput
  let mode := m.rd F.UIN_CFG_MODE u
  if (mode == 3 || mode == 4) && m.flag F.UIN_VAL_VALID u && ! m.flag F.UIN_VAL_FAULT u && ! m.flag F.UIN_VAL_CFG_BAD u
  then (signed 24 (m.rd F.UIN_VAL_VALUE u) * (degree / 16), false) else (fixed, true)

/-- The trip point of channel `c` (R198). -/
def tripPoint (c : Chan) : Int := ((c.insLimit : Int) - (c.margin : Int)) * degree

/-- One model step of channel `n` (R196–R199, R203), whatever its owner and its configuration (R198, R271): the sum of squares
of the step already holds the peer's samples, and `tj` is its junction temperature (R171, R293; log entry 23). -/
def wireChannel (m : Module) (n : Nat) (tj : Int) : Module :=
  let c := m.chan n
  let (amb, fb) := m.ambient c
  let th := wireStep c.wireXs c.theta amb c.sq.toNat (lsbOf (classOf n))
  let tp := tripPoint c
  let hit := decide (tp ≤ th)
  let m := m.setChan n (fun c =>
    { c with
      theta := th, amb := amb, ambFallback := fb, tj := tj
      wireWarn := decide (tp - 10 * degree ≤ th)
      wireLatch := hit || (c.wireLatch && ! decide (th ≤ tp - 20 * degree))
      sqMs := (c.sqOwn :: c.sqMs).take 1000
      sq := min c.sq 0, sqOwn := 0 })
  if hit then m.trip n 4 false else m

/-- A step of the wire models, which run from step 8 on (R201), and the DIAG registers' update (R293). -/
def wireStepAll (m : Module) (tj : List Int) : Module :=
  if ! m.flag F.CHC_STAT_RUN then m else forEach (List.range 128) (fun n m => m.wireChannel n (tj.getD n 0)) m

/-- The RMS current of channel `n` over the last second, in class LSB (R219): 125 sweeps a step (log entry 22). -/
def irms (c : Chan) : Nat := isqrt (meanOf 1000 c.sqMs / 125)

/-- The DIAG registers of one page, or of the block window (R293). -/
def diagOf (m : Module) (n : Nat) (shown : Bool) : Nat × Nat × Nat × Nat :=
  let c := m.chan n
  if shown then (unsigned 16 c.tj, unsigned 16 (c.theta / (degree / 16)), unsigned 16 (c.amb / (degree / 16)), irms c)
  else (0, 0, 0, 0)

/-- The DIAG registers are updated every 1 ms (R293). -/
def diagUpdate (m : Module) : Module :=
  let m := forEach (List.range 16) (fun i m =>
    let n := m.rd F.CHI_DIAG_SEL_CHANNEL i
    let d := m.diagOf n ((m.chan n).owned && (m.chan n).owner == i)
    (((m.wr F.CHI_DIAG_TJ_DEG d.1 i).wr F.CHI_DIAG_WIRE_THETA_W d.2.1 i).wr F.CHI_DIAG_WIRE_AMB d.2.2.1 i).wr
      F.CHI_DIAG_IRMS_IRMS d.2.2.2 i) m
  let d := m.diagOf (m.rd F.CHC_DIAG_SEL_CHANNEL) true
  (((m.wr F.CHC_DIAG_TJ_DEG d.1).wr F.CHC_DIAG_WIRE_THETA_W d.2.1).wr F.CHC_DIAG_WIRE_AMB d.2.2.1).wr
    F.CHC_DIAG_IRMS_IRMS d.2.2.2

/-! ### Groups -/

/-- A channel turned off by its own protection in the present µs (R223; log entry 22). -/
def ownTripNow (m : Module) (c : Chan) : Bool :=
  c.protOff && decide (1 ≤ c.cause) && decide (c.cause ≤ 4) && c.tripFrom.any (fun t => t.us == m.now)

/-- A channel that the group limit may choose (R216, R217), one that has just tripped on its own protection included
(R223). -/
def sheddable (m : Module) (c : Chan) : Bool := (c.conducting || m.ownTripNow c) && c.shedPrio != 0 && ! c.safety

/-- The channel to shed: highest SHED_PRIO, then highest number (R216). -/
def shedChoice (m : Module) (g : Nat) : Option Nat :=
  (List.range 32).foldl (fun best p =>
    let n := 32 * g + p
    let c := m.chan n
    if ! m.sheddable c then best else
    match best with
    | none => some n
    | some b => if (m.chan b).shedPrio ≤ c.shedPrio then some n else some b) none

/-- GROUP_OVER of group `g` (R217). -/
def setOver (m : Module) (g : Nat) (b : Bool) : Module :=
  let m := m.setGrp g { m.grp g with overLimit := b }
  forEach (List.range 32) (fun p m => m.setChan (32 * g + p) (fun c => { c with grpOver := b })) m

/-- The group evaluation of R215–R217 and R223: sums in units of 0.625 mA, 100 A is 160 000, 300 A is 480 000 (log entry 22). -/
def evalGroup (m : Module) (g : Nat) : Module :=
  let x := m.grp g
  let sqMs := (x.sq :: x.sqMs).take 1000
  let a := meanOf 1000 sqMs / 125
  let b := meanOf 10 sqMs / 125
  let m := m.setGrp g { x with sq := 0, sqMs := sqMs, shedWait := x.shedWait - 1 }
  let m := (m.wr F.CHC_GRP_RMS_RMS_1S (sat 16 (isqrt a / 160)) g).wr F.CHC_GRP_RMS_RMS_10MS (sat 16 (isqrt b / 160)) g
  let overloaded := (decide (25600000000 < a) && decide (25600000000 < b)) || decide (230400000000 < b)
  if ! overloaded then (if x.overLimit then m.setOver g false else m)
  else if 1 < x.shedWait then m
  else
    match m.shedChoice g with
    | none => if x.overLimit then m else m.setOver g true
    | some n =>
      let m := if m.ownTripNow (m.chan n) then m else
        ((m.trip n 5 false).setChan n (fun c => { c with shed := true })).latchEvt n (2 ^ 21)
      m.setGrp g { m.grp g with shedWait := 10 }

/-- The conduction loss of group `g` in mW (R219; log entry 22). -/
def groupLossMw (m : Module) (g : Nat) : Nat :=
  ((List.range 32).map (fun p =>
    let n := 32 * g + p
    let l := lsbOf (classOf n)
    meanOf 1000 (m.chan n).sqMs * (l * l) * ronOf (classOf n) / 125)).foldl (· + ·) 0 / 2560000

/-- The estimate of R219 for group `g` (log entry 22). -/
def estimateLoss (m : Module) (g : Nat) : Module :=
  let mw := m.groupLossMw g
  let b := decide (7500 < mw)
  let m := m.wr F.CHC_GRP_LOSS_MW (sat 16 mw) g
  let m := m.setGrp g { m.grp g with loss := b }
  forEach (List.range 32) (fun p m => m.setChan (32 * g + p) (fun c => { c with grpLoss := b })) m

/-! ### Diagnostics -/

/-- Three readings in a row against a flag change it (R210): the flag and the run after reading `r`. -/
def count3 (flag : Bool) (run : Nat) (r : Bool) : Bool × Nat :=
  if r == flag then (flag, 0) else if 2 ≤ run then (r, 0) else (flag, run + 1)

/-- The module is part of a duplex (R687). -/
def inDuplex (m : Module) : Bool := m.flag F.DPX_CFG_EN

/-- The channel reading of R210, R211: `peerOff` where the mirror shows the channel off on the peer, or no duplex. -/
def supplyReading (c : Chan) (energised peerOff : Bool) : Chan :=
  if ! energised then
    let s := count3 c.shortToSupply c.stsRun false
    let p := count3 c.peerDriven c.peerRun false
    { c with shortToSupply := s.1, stsRun := s.2, peerDriven := p.1, peerRun := p.2 }
  else if peerOff then
    let s := count3 c.shortToSupply c.stsRun true
    { c with shortToSupply := s.1, stsRun := s.2 }
  else
    let p := count3 c.peerDriven c.peerRun true
    { c with peerDriven := p.1, peerRun := p.2 }

/-- A class current of 10 % of continuous is reached by the last sample (R177). -/
def tenPercent (n : Nat) (c : Chan) : Bool :=
  decide (((contOf (classOf n) * 16 : Nat) : Int) ≤ 10 * (c.sample * (lsbOf (classOf n) : Int)))

/-! ### PWM -/

/-- The duty in force under R241: an on-phase or off-phase shorter than twice the maximum transition counts as none. -/
def effDuty (slew period duty : Nat) : Nat :=
  let floor := 2 * slewMaxUs slew * 1000
  if duty = 0 ∨ period * duty < floor then 0
  else if duty = 1000 ∨ period * (1000 - duty) < floor then 1000 else duty

/-- The counter stands at an on-edge of channel `n` for period `p` (R242). -/
def onGrid (m : Module) (n p : Nat) : Bool :=
  ((m.grp (n / 32)).pwmUs - (n % 32 * p / 32 : Nat) : Int) % (p : Int) == 0

/-- The period of the grid in force of channel `n` (R242): that of the running PWM, else that of the command. -/
def gridPeriod (c : Chan) : Nat :=
  match c.pwm, c.cmd with
  | some (p, _), _ => p
  | none, .pwm p _ => p
  | none, _ => 0

/-- The output of channel `n` has been in its off-phase for 10 ms or more (R244). -/
def offPhase10 (m : Module) (c : Chan) : Bool := c.phase == .off && decide (c.offFrom + 10000 ≤ m.now)

/-- The first on-edge of channel `n` may turn it on (R115, R254). -/
def firstOn (m : Module) (n : Nat) : Bool := m.mayTurnOn n || ((m.chan n).engage && m.drives && m.freeToTurnOn n)

/-- An on-edge of channel `n`, which is commanded PWM with period `p` and duty `d`, `ns` into the sweep: the output goes on,
starts, or stays off (R92, R115, R213, R227, R241–R245). -/
def pwmOnEdge (m : Module) (n p d ns : Nat) : Module :=
  let c := m.chan n
  let t := m.now
  let duty := effDuty (if c.conducting then m.profileNow c else m.profileOf c).slew p d
  let put := fun (m : Module) => m.setChan n (fun c => { c with pwm := some (p, d) })
  if c.conducting then
    if duty = 0 then put (m.setChan n (fun c => beginOff c t false true true))
    else put (m.setChan n (fun c =>
      if duty = 1000 then { c with undercurrent := false } else { c with undercurrent := false, onNs := - (ns : Int), edgeAt := t }))
  else if c.phase != .off then m
  else if c.pwm.isSome then
    if duty = 0 then put m
    else if m.drives && ! c.exhausted && ! c.fwMissing && ! c.latched && ! m.vsUv n then put (m.turnOn n (m.offPhase10 c) ns)
    else m
  else if ! m.firstOn n then m
  else if duty = 0 then m.setChan n (fun c => { c with pwm := some (p, d), firstEdge := true, diag := .none })
  else put (m.turnOn n true ns)

/-- A staggered on-edge of channel `n` (R92, R213, R227, R241, R242, R244, R245), `ns` into the sweep, where the grid has one.
A channel already in PWM keeps its on-edges in a dip and in hold-up. -/
def pwmEdge (m : Module) (n : Nat) (ns : Nat) : Module :=
  let c := m.chan n
  if ! m.onGrid n (gridPeriod c) then m else
  match c.cmd with
  | .off => m
  | .on =>
    if c.pwm.isNone then m
    else if c.conducting then m.setChan n (fun c => { c with pwm := none })
    else if m.drives && ! c.latched && ! m.vsUv n && c.phase == .off then
      (m.turnOn n (m.offPhase10 c) ns).setChan n (fun c => { c with pwm := none })
    else m
  | .pwm p d => m.pwmOnEdge n p d ns

/-- The on-phase of a channel in PWM ends at `t` (R241): its length is the duty's share of the period. -/
def pwmOffEdge (m : Module) (n : Nat) : Module :=
  let t := m.now
  let c := m.chan n
  match c.pwm with
  | some (p, d) =>
    m.when (c.conducting && decide (effDuty (m.profileNow c).slew p d < 1000) && decide (c.edgeAt + p * d / 1000 ≤ t))
      (fun m => m.setChan n (fun c => beginOff c t false true true))
  | none => m

/-- Channel `n`, commanded ON and off, turns on where R254 admits it; one commanded PWM waits for its on-edge. The event gives no
instant within the sweep, and the window begins at the sweep's start (R227; DESIGN CHOICE, log entry 22). -/
def restart (m : Module) (n : Nat) : Module :=
  let c := m.chan n
  m.when (c.cmd == .on && c.phase == .off && c.pwm.isNone && m.mayTurnOn n) (fun m => m.turnOn n true)

/-- Every diagnostic under way is abandoned (R92, R207). -/
def diagAbandon (m : Module) : Module :=
  forEach (List.range 128) (fun n m => m.setChan n (fun c => { c with diag := .none })) m

/-- A diagnostic cycle on channel `n` has ended (R716). -/
def covDiag (m : Module) (n : Nat) : Module :=
  let now := m.covNow
  m.setCov (fun c => { c with diagAt := tset 0 c.diagAt n now })

end Module

/-! ### Commands -/

/-- SWEEP_SLOT_SAMPLE (R181–R189, R193, R204, R205, R214, R228, R229, R233, R235, R243, R250, R253, R261–R265, R289). -/
def execSweepSlotSample (x : SlotSample) (s : State) : Host.Outcome State Fault Refusal :=
  s.run (fun m =>
    match x with
    | .current c x e l v => m.sampleChannel c.val x e l v
    | .supply g vs => m.sampleSupply g.val vs)

/-- VS_REF_REFILL (R262). -/
def execVsRefRefill (g : Fin 4) (s : State) : Host.Outcome State Fault Refusal :=
  s.run (fun m => m.when (decide (1250 ≤ (m.grp g.val).droopRun)) (fun m =>
    m.setGrp g.val { m.grp g.val with vsConv := [], droopRun := 0, droop := false }))

/-- FAST_SHORT (R187, R193, R223, R250, R253, R261). -/
def execFastShort (c : Fin 128) (s : State) : Host.Outcome State Fault Refusal := s.run (fun m => m.trip c.val 1 true)

/-- THERMAL_SHUTDOWN (R187, R190, R193, R223). -/
def execThermalShutdown (c : Fin 128) (s : State) : Host.Outcome State Fault Refusal :=
  s.run (fun m => (m.setChan c.val (fun c => { c with thermLatch := true })).trip c.val 3 false)

/-- THERMAL_LATCH_CLEAR (R190). -/
def execThermalLatchClear (c : Fin 128) (s : State) : Host.Outcome State Fault Refusal :=
  s.run (fun m => m.setChan c.val (fun c => { c with thermLatch := false }))

/-- CLUSTER_WARN_SET (R191): the four channels of cluster `k` of group `g` (R170). -/
def execClusterWarnSet (g : Fin 4) (k : Fin 8) (s : State) : Host.Outcome State Fault Refusal :=
  s.run (fun m => forEach (List.range 4) (fun q m =>
    m.setChan (32 * g.val + 4 * k.val + q) (fun c => { c with clusterWarn := true })) m)

/-- CLUSTER_WARN_CLEAR (R191). -/
def execClusterWarnClear (g : Fin 4) (k : Fin 8) (s : State) : Host.Outcome State Fault Refusal :=
  s.run (fun m => forEach (List.range 4) (fun q m =>
    m.setChan (32 * g.val + 4 * k.val + q) (fun c => { c with clusterWarn := false })) m)

/-- WIRE_MODEL_STEP (R171, R187, R190, R193, R196–R199, R201, R203, R293): `tj` are the junction temperatures in 1/16 °C. -/
def execWireModelStep (tj : List Int) (s : State) : Host.Outcome State Fault Refusal :=
  s.run (fun m => (m.wireStepAll tj).diagUpdate)

/-- GROUP_EVALUATION (R187, R193, R215–R217, R223). -/
def execGroupEvaluation (s : State) : Host.Outcome State Fault Refusal :=
  s.run (fun m => forEach (List.range 4) (fun g m => m.evalGroup g) m)

/-- GROUP_LOSS_ESTIMATE (R219). -/
def execGroupLossEstimate (s : State) : Host.Outcome State Fault Refusal :=
  s.run (fun m => forEach (List.range 4) (fun g m => m.estimateLoss g) m)

/-- REVERSE_SWITCH_OFF (R175, R176, R819). -/
def execReverseSwitchOff (c : Fin 128) (s : State) : Host.Outcome State Fault Refusal :=
  s.run (fun m => m.setChan c.val (fun c => if c.conducting then { c with reverse := true, swTest := false } else c))

/-- REVERSE_SWITCH_ON (R175, R819). -/
def execReverseSwitchOn (c : Fin 128) (s : State) : Host.Outcome State Fault Refusal :=
  s.run (fun m => m.setChan c.val (fun c => { c with reverse := false }))

/-- REVERSE_SWITCH_TEST (R177, R178). -/
def execReverseSwitchTest (c : Fin 128) (s : State) : Host.Outcome State Fault Refusal :=
  s.run (fun m =>
    let ch := m.chan c.val
    let go := ch.phase == .on && decide (ch.onAt + 10000 ≤ m.now) && ch.pwm.isNone && ! ch.reverse && Module.tenPercent c.val ch
      && m.rd F.HST_SUP_STAT_VAUX_STATE != 1
    m.when go (fun m => m.setChan c.val (fun c => { c with swTest := true })))

/-- REVERSE_SWITCH_TEST_END (R177, R179): `mv` is the voltage across the reverse switch. -/
def execReverseSwitchTestEnd (c : Fin 128) (mv : Nat) (s : State) : Host.Outcome State Fault Refusal :=
  s.run (fun m => m.setChan c.val (fun c =>
    if c.swTest then { c with swTest := false, swFail := decide (mv < 300) } else c))

/-- TURN_OFF_COMPLETE (R212, R238, R247, R251): a backoff wait of the turn-off starts. -/
def execTurnOffComplete (c : Fin 128) (s : State) : Host.Outcome State Fault Refusal :=
  s.run (fun m =>
    let t := m.now
    m.setChan c.val (fun c =>
      match c.phase with
      | .turningOff _ => { c with phase := .off, offAt := t, backoffFrom := if c.backoff then some (c.backoffFrom.getD t) else none }
      | _ => c))

/-- UNDERCURRENT_TIMER (R212): the current has stayed below I_UC, or at or above it, for 100 ms. -/
def execUndercurrentTimer (c : Fin 128) (s : State) : Host.Outcome State Fault Refusal :=
  s.run (fun m => m.setChan c.val (fun c =>
    if c.conducting && c.pwm.isNone && c.iUc != 0 && decide (12500 ≤ c.ucRun) then { c with undercurrent := c.ucLow } else c))

/-- INRUSH_WINDOW_END (R227, R229, R235, R252): the envelope clock reaches t_7 in the present sweep. -/
def execInrushWindowEnd (c : Fin 128) (s : State) : Host.Outcome State Fault Refusal :=
  s.run (fun m =>
    let ends := (m.chan c.val).window.any (fun w => decide ((Module.envEnd w.profile : Int) ≤ Module.envTime w 8000))
    m.when ends (fun m =>
      let t := m.now
      (m.limitCheck c.val).setChan c.val (fun c => Module.closeWindow c t)))

/-- LIMIT_ENGAGE (R234, R236). -/
def execLimitEngage (c : Fin 128) (s : State) : Host.Outcome State Fault Refusal :=
  s.run (fun m => m.setChan c.val (fun ch =>
    match ch.window with
    | some w => if Module.limitWindow c.val w && ch.conducting then { ch with limiting := true } else ch
    | none => ch))

/-- LIMIT_RELEASE (R234). -/
def execLimitRelease (c : Fin 128) (s : State) : Host.Outcome State Fault Refusal :=
  s.run (fun m => m.setChan c.val (fun c => { c with limiting := false }))

/-- FW_MISSING (R227, R247, R248): the output has stayed below the threshold for 2 µs while watched, that is until 1 ms after
the turn-off completed. -/
def execFwMissing (c : Fin 128) (s : State) : Host.Outcome State Fault Refusal :=
  s.run (fun m =>
    let t := m.now
    m.setChan c.val (fun c =>
      let watched := match c.phase with | .turningOff _ => true | .off => decide (t ≤ c.offAt + 1000) | _ => false
      if c.fwWatch && watched then
        { c with fwMissing := true, cmd := .off, pwm := none, firstEdge := false, window := none, steadyAt := none }
      else c))

/-- BACKOFF_EXPIRY (R251, R255): the wait has run its length from the end of the turn-off. -/
def execBackoffExpiry (c : Fin 128) (s : State) : Host.Outcome State Fault Refusal :=
  s.run (fun m =>
    let t := m.now
    m.setChan c.val (fun c =>
      if c.backoffFrom.any (fun f => decide (f + c.backoffUs ≤ t)) then { c with backoff := false, backoffFrom := none } else c))

/-- RETRY_RELOAD (R252): 10 s after the end of the inrush window. -/
def execRetryReload (c : Fin 128) (s : State) : Host.Outcome State Fault Refusal :=
  s.run (fun m =>
    let t := m.now
    m.setChan c.val (fun c =>
      if c.cmd != .off && c.window.isNone && c.steadyAt.any (fun f => decide (f + 10000000 ≤ t))
      then { c with retryLeft := c.retryMax } else c))

/-- CHANNEL_RESTART (R227, R254–R256): a channel commanded ON turns on; one commanded PWM waits for its on-edge. -/
def execChannelRestart (c : Fin 128) (s : State) : Host.Outcome State Fault Refusal :=
  s.run (fun m => m.restart c.val)

/-- PWM_ON_EDGE (R92, R213, R227, R241, R242, R244). -/
def execPwmOnEdge (c : Fin 128) (ns : Nat) (s : State) : Host.Outcome State Fault Refusal :=
  s.run (fun m => m.pwmEdge c.val ns)

/-- PWM_OFF_EDGE (R241): the on-phase ends; the inrush window stays (R227). -/
def execPwmOffEdge (c : Fin 128) (s : State) : Host.Outcome State Fault Refusal :=
  s.run (fun m => m.pwmOffEdge c.val)

/-- SUPPLY_CHECK_END (R208, R210, R211), after 25 samples: the reading is classified by the peer's state in the last mirror, and
stands where the open-load phase of the same cycle is cut short (R213; DESIGN CHOICE, log entry 22). -/
def execSupplyCheckEnd (c : Fin 128) (s : State) : Host.Outcome State Fault Refusal :=
  s.run (fun m =>
    let peerOff := ! m.inDuplex || (m.dpx.mirrored && tget 0 m.dpx.peerCmd c.val == 0)
    let t := m.now
    match (m.chan c.val).diag with
    | .supply e k =>
      if k < 25 then m else
      let goesOn := ! e && (m.chan c.val).olDiag
      (m.when (! goesOn) (·.covDiag c.val)).setChan c.val (fun ch =>
        { Module.supplyReading ch e peerOff with diag := if goesOn then .openLoad t else .none })
    | _ => m)

/-- OPEN_LOAD_CHECK_END (R208–R210), 1 ms after the source was applied. -/
def execOpenLoadCheckEnd (c : Fin 128) (openReading : Bool) (s : State) : Host.Outcome State Fault Refusal :=
  s.run (fun m =>
    match (m.chan c.val).diag with
    | .openLoad t =>
      if m.now < t + 1000 then m else
      (m.covDiag c.val).setChan c.val (fun ch =>
        let r := Module.count3 ch.openLoad ch.olRun openReading
        { ch with openLoad := r.1, olRun := r.2, diag := .none })
    | _ => m)

end Sys2Proof.Machine
end

