-- ==== Sys2Proof/Machine/Slots.lean ====
section
/-!
DEFINITION. Handle slots and completion FIFOs of the mailbox (R797–R803).
-/
namespace Sys2Proof.Machine

namespace Module

/-- Slot `n`. -/
def slot (m : Module) (n : Nat) : Slot := tget {} m.mbx.slots n

/-- Store slot `n`. -/
def setSlot (m : Module) (n : Nat) (f : Slot → Slot) : Module :=
  { m with mbx := { m.mbx with slots := tmod {} m.mbx.slots n f } }

/-- The handle of slot `n` (R802). -/
def handleOf (m : Module) (n : Nat) : Nat := n + (m.slot n).gen * 2 ^ 8

/-- Lane of a long operation (R800): 0 U, 1 S, 2 M, 3 C, 4 L. -/
def laneOf (op : Nat) : Nat :=
  if op = 0x13 then 1 else if op = 0x14 then 2 else if op = 0x16 then 3 else if op = 0x17 then 4 else 0

/-- The slot that holds lane `l` (R803). -/
def laneSlot (m : Module) (l : Nat) : Option Nat :=
  (List.range 256).find? (fun n => (m.slot n).lane && laneOf (m.slot n).op == l && decide ((m.slot n).state ≤ 3))

/-- The slot that runs on lane `l`. -/
def laneRuns (m : Module) (l : Nat) : Option Nat := (m.laneSlot l).filter (fun n => (m.slot n).state == 1)

/-- The handle of lane `l` is SUSPENDED or CANCELLING: its work stands (R803). A lane whose handle a block reset of MBX freed
works on (R808). -/
def laneHeld (m : Module) (l : Nat) : Bool := (m.laneSlot l).any (fun n => (m.slot n).state != 1)

/-- A SUSPEND waits for the operation of lane `l` (R805). -/
def suspendWaits (m : Module) (l : Nat) : Bool := (m.laneRuns l).any (fun n => (m.slot n).suspends != [])

/-- The work on lane `l` has ended with status `st` and results `r0`, `r1`; LONG_OP_END makes the handle final (R807). -/
def opEnded (m : Module) (l st r0 r1 : Nat) : Module :=
  match m.laneSlot l with
  | some n => m.setSlot n (fun x => { x with ended := some st, r0 := r0, r1 := r1 })
  | none => m

/-- The commit step of the operation on lane `l` begins (R806). -/
def opCommits (m : Module) (l : Nat) : Module :=
  match m.laneSlot l with
  | some n => m.setSlot n (fun x => { x with committed := true })
  | none => m

end Module

end Sys2Proof.Machine
end

