-- ==== Sys2Proof/Machine/Chc.lean ====
section
/-!
DEFINITION. The channel controller (chapter 6): submission, execution at sweep boundaries, the command watchdog, readback,
the microcode banks and background calibration.
-/
namespace Sys2Proof.Machine

namespace Module

/-! ### Submission -/

/-- The aperture page of CHIi (R36). -/
def chiPage (i : Nat) : Nat := 96 + i

/-- Byte address of offset `o` in the page of CHIi. -/
def chiAddr (i o : Nat) : Nat := 0x40060000 + i * 0x1000 + o

/-- The instance is quiesced (R284, R448). -/
def chiQuiesced (m : Module) (i : Nat) : Bool := m.flag F.IMG_INST_STAT_QUIESCE (chiPage i)

/-- WDT_MS of CHIi in µs (R269). -/
def wdtUs (m : Module) (i : Nat) : Nat := m.rd F.CHI_WDT_TIMEOUT i * 1000

/-- Entry to ACTIVE with the full watchdog (R285). -/
def chiActive (m : Module) (i : Nat) : Module :=
  (m.wr F.CHI_STATE_STATE 0 i).setChi i { m.chi i with leftUs := m.wdtUs i }

/-- Commands admitted and not completed (R451). -/
def chiOcc (m : Module) (i : Nat) : Nat := (m.chi i).queue.length + (m.chi i).cal.length

/-- The refusal of a submission with sequence number `seq`, if any, in the order of R277. -/
def chiRefusal (m : Module) (i seq : Nat) : Option Nat :=
  if m.chiQuiesced i then some 4
  else if seq ≠ m.rd F.CHI_SEQ_NEXT_SEQ i then some 0x10
  else if m.rd F.IMG_INST_SHARE_SHARE (chiPage i) ≤ m.chiOcc i then some 5 else none

/-- A write of CHI_CMD that reached the page (R274, R277, R284, R285; log entry 24). -/
def chiSubmit (m : Module) (i op chan resv seq : Nat) : Module :=
  match m.chiRefusal i seq with
  | some st =>
    ((m.wr F.CHI_REFUSE_SEQ seq i).wr F.CHI_REFUSE_STATUS st i).addS F.CHI_REFUSE_COUNT 1 i
  | none =>
    let c := m.chi i
    let m := m.setChi i { c with queue := c.queue ++ [⟨op, chan, resv, seq, m.rd F.CHI_CMD_ARG_ARG i⟩] }
    let m := m.addW F.CHI_SEQ_NEXT_SEQ 1 i
    if m.rd F.CHI_STATE_STATE i = 1 then m else m.chiActive i

/-- A write of the command word to the page of CHIi: the access is checked first. -/
def chiCommand (m : Module) (a : Access) (i op chan resv seq : Nat) : Module :=
  m.access a (chiAddr i 4) 1 (fun m => m.chiSubmit i op chan resv seq)

/-! ### Completion -/

/-- Post a completion of a command executed in sweep `sweep` (R282, R292, R305). -/
def chiPostAt (m : Module) (i : Nat) (c : ChiCmd) (status detail sweep : Nat) : Module :=
  let x := m.chi i
  let e : ChiCpl := ⟨c.seq, status, c.op, c.chan, detail, sweep % 2 ^ 20⟩
  (m.setChi i { x with fifo := x.fifo ++ [e] }).raise F.CHI_IRQ_STAT_CPL i

/-- Post a completion of a command executed in the present sweep. -/
def chiPost (m : Module) (i : Nat) (c : ChiCmd) (status detail : Nat) : Module :=
  m.chiPostAt i c status detail (m.rd F.CHC_SWEEP_NUM)

/-- A free entry of the completion FIFO that no running CALIBRATE reserves (R282). -/
def chiFree (m : Module) (i : Nat) : Bool := decide ((m.chi i).fifo.length + (m.chi i).cal.length < 16)

/-! ### Execution -/

/-- The argument is within the command's range (R240, R275, R279, R286): SET_PROFILE's I_NOM is that of R224. -/
def argOk (op n arg : Nat) : Bool :=
  if op = 3 then decide (500 ≤ bits arg 16 0) && decide (bits arg 16 0 ≤ 100000) && decide (bits arg 26 17 ≤ 1000)
  else if op = 4 then decide (1 ≤ bits arg 15 4) && decide (bits arg 15 4 ≤ contOf (classOf n))
  else if op = 6 then decide (1 ≤ bits arg 9 0) && decide (bits arg 9 0 ≤ 1000)
  else true

/-- A custom profile is defined (R226, R232). -/
def profileKnown (m : Module) (p : Nat) : Bool := decide (p ≤ 5) || (tget {} m.chc.profiles p).pts != []

/-- The check of R279 that command `c` of CHIi fails first, as status and DETAIL. -/
def cmdFails (m : Module) (i : Nat) (c : ChiCmd) : Option (Nat × Nat) :=
  let ch := m.chan c.chan
  if c.op = 0 ∨ 7 < c.op ∨ c.resv ≠ 0 then some (0x10, 7)
  else if c.op ≠ 6 ∧ ¬ (ch.owned ∧ ch.owner = i) then some (2, 2)
  else if c.op ≠ 2 ∧ c.op ≠ 5 ∧ c.op ≠ 6 ∧ ch.configBad then some (2, 3)
  else if ! argOk c.op c.chan c.arg then some (0x10, 8)
  else if c.op = 1 ∨ c.op = 3 then
    if ch.exhausted then some (2, 4)
    else if ch.fwMissing then some (2, 5)
    else if m.rd F.HST_SUP_STAT_VAUX_STATE ≠ 0 ∧ classOf c.chan ≠ .l ∧ ¬ ch.conducting ∧ ch.pwm.isNone then some (1, 6)
    else if c.op = 3 ∧ bits c.arg 16 0 < slewMinPeriod (if ch.conducting || ch.pwm.isSome then m.profileNow ch else m.profileOf ch).slew then
      some (0x10, 8)
    else none
  else if c.op = 4 ∧ ! m.profileKnown (bits c.arg 3 0) then some (0x10, 8)
  else if c.op = 7 ∧ m.flag F.CHC_STAT_CAL_STOPPED then some (0x0F, 9)
  else none

/-- The commanded state of channel `n` becomes ON (R280, R287): an off channel turns on under R254 at once where it may; a
channel in PWM stays on, or turns on at its next on-edge. It ends a diagnostic cycle (R213) and a shed (R194). -/
def commandOn (m : Module) (n : Nat) : Module :=
  let c := m.chan n
  let m := m.setChan n (fun c => { c with cmd := .on, shed := false, diag := .none
                                          pwm := if c.conducting then none else c.pwm })
  m.when (c.phase == .off && c.pwm.isNone && m.mayTurnOn n) (fun m => m.turnOn n true)

/-- The commanded state becomes OFF (R280, R288). -/
def commandOff (m : Module) (n : Nat) : Module :=
  (m.commandedOff n).setChan n (fun c => { c with cmd := .off, failPending := false, steadyAt := none })

/-- CLEAR_FAULT (R194, R252, R258): a fail state ON held back becomes the commanded state, which ends a shed. -/
def clearFault (m : Module) (n : Nat) : Module :=
  let pend := (m.chan n).failPending
  let m := m.setChan n (fun c =>
    { c with exhausted := false, fwMissing := false, limitEnd := false, thermCycles := 0, retryLeft := c.retryMax
             backoff := false, backoffFrom := none, cause := 0, failPending := false, shed := c.shed && ! pend
             cmd := if pend then .on else c.cmd })
  let c := m.chan n
  m.when (c.cmd == .on && c.phase == .off && c.pwm.isNone && m.mayTurnOn n) (fun m => m.turnOn n true)

/-- ADC `k` is next in calibration; one running on another ADC is abandoned and resumed later (R301). -/
def calibrateNext (m : Module) (k : Nat) : Module :=
  let cur := m.rd F.CHC_CAL_STAT_CAL_ADC
  if cur = k then m else
  let m := m.wr F.CHC_CAL_STAT_CAL_ADC k
  { m with chc := { m.chc with calShadow := false, calNext := if cur < 8 then some cur else none } }

/-- The effect of a command that passed its checks (R280). -/
def cmdEffect (m : Module) (i : Nat) (c : ChiCmd) : Module :=
  match c.op with
  | 1 => m.commandOn c.chan
  | 2 => m.commandOff c.chan
  | 3 => m.setChan c.chan (fun ch =>
      { ch with cmd := .pwm (bits c.arg 16 0) (bits c.arg 26 17), shed := false, diag := .none
                undercurrent := false
                pwm := if ch.conducting && ch.pwm.isNone then some (bits c.arg 16 0, 1000) else ch.pwm })
  | 4 => m.setChan c.chan (fun ch => { ch with load := bits c.arg 15 0 + ch.load / 2 ^ 16 * 2 ^ 16 })
  | 5 => m.clearFault c.chan
  | 6 => (m.wr F.CHI_STATE_STATE 1 i).setChi i { m.chi i with leftUs := bits c.arg 9 0 * 1000 }
  | _ => (m.setChi i { m.chi i with cal := (m.chi i).cal ++ [(c, m.rd F.CHC_SWEEP_NUM)] }).calibrateNext (c.chan / 16)

/-- Execute the oldest command of CHIi (R279, R282, R286); false where nothing is executed. A unit that does not drive
completes it with UNAVAILABLE (R691; log entry 24). -/
def chiExecute (m : Module) (i : Nat) : Module × Bool :=
  match (m.chi i).queue with
  | [] => (m, false)
  | c :: r =>
    if ! m.chiFree i then (m, false) else
    let x := m.chi i
    let m := m.setChi i { x with queue := r, served := x.served + 1 }
    let m := m.when (m.rd F.CHI_STATE_STATE i == 1) (·.chiActive i)
    if ! m.drives then (m.chiPost i c 0x0F 0, true) else
    match m.cmdFails i c with
    | some (st, d) => (m.chiPost i c st d, true)
    | none =>
      let m := m.cmdEffect i c
      (if c.op = 7 then m else m.chiPost i c 0 0, true)

/-- A quiesced instance completes one queued command per sweep with QUIESCED, or drops it where the FIFO has no free
entry; QUIESCE_DONE follows when nothing is left (R448). -/
def chiDrain (m : Module) (i : Nat) : Module :=
  let x := m.chi i
  let p := chiPage i
  match x.queue with
  | c :: r =>
    let free := m.chiFree i
    let m := m.setChi i { x with queue := r }
    if free then m.chiPost i c 4 0 else (m.addS F.INST_STALE_COUNT 1 p).addS F.IMG_INST_STALE_COUNT 1 p
  | [] => m

/-- QUIESCE_DONE of CHIi becomes 1 when its queue is empty and no CALIBRATE runs; the request of IMG completes (R448,
R458). -/
def quiesceDone (m : Module) (i : Nat) : Module :=
  let p := chiPage i
  if m.chiQuiesced i && m.chiOcc i == 0 && ! m.flag F.IMG_INST_STAT_QUIESCE_DONE p then
    let m := ((m.raise F.IMG_INST_STAT_QUIESCE_DONE p).raise F.IMG_EVT_QUIESCE_DONE)
    m.when (m.flag F.IMG_CTRL_STAT_PEND && m.rd F.IMG_CTRL_STAT_PAGE == p) (fun m =>
      ((m.lower F.IMG_CTRL_STAT_PEND).wr F.IMG_CTRL_STAT_STATUS 0).raise F.IMG_EVT_DONE)
  else m

/-- Instance `i` has a command that can be executed (R278, R282). -/
def backlogged (m : Module) (i : Nat) : Bool := (m.chi i).queue != [] && ! m.chiQuiesced i && m.chiFree i

/-- Where the set of backlogged instances has changed, service is counted afresh (R455; log entry 24). -/
def backlogSync (m : Module) : Module :=
  let b := (List.range 16).foldl (fun v i => setBit v i (m.backlogged i)) 0
  if b = m.chc.backlog then m else
  let m := forEach (List.range 16) (fun i m => m.setChi i { m.chi i with served := 0 }) m
  { m with chc := { m.chc with backlog := b } }

/-- WEIGHT of CHIi. -/
def chiWeight (m : Module) (i : Nat) : Nat := max 1 (m.rd F.IMG_INST_SHARE_WEIGHT (chiPage i))

/-- The instance to serve next (R278, R455): among those backlogged that are not ahead of their share of the service so far, the
one whose next command ends its share first (log entry 24). -/
def nextByWeight (m : Module) : Option Nat :=
  fairTurn (((List.range 16).filter (fun i => m.backlogged i)).map (fun i => (i, 1))) (fun i => (m.chi i).served) m.chiWeight

/-- Up to `k` further commands by weight (R278; log entry 24). -/
def executeShared : Nat → Module → Module
  | 0, m => m
  | k + 1, m =>
    let m := m.backlogSync
    match m.nextByWeight with
    | some i => executeShared k (m.chiExecute i).1
    | none => m

/-- The commands of one sweep (R278): one of every instance that has one, then the rest of the 32 by weight
(log entry 24). -/
def executeSweep (m : Module) : Module :=
  let (m, n) := (List.range 16).foldl (fun (s : Module × Nat) i =>
    if s.1.chiQuiesced i then (s.1.chiDrain i, s.2) else
    let (m, did) := s.1.chiExecute i
    (m, if did then s.2 + 1 else s.2)) (m.backlogSync, 0)
  let m := executeShared (32 - n) m
  forEach (List.range 16) (fun i m => m.quiesceDone i) m

/-! ### Expiry -/

/-- FAIL_STATE of channel `n` is applied (R265, R287, R288). -/
def applyFail (m : Module) (n : Nat) : Module :=
  let c := m.chan n
  let m := if c.failState = 1 then m.commandOff n
    else if c.failState = 2 then
      if c.exhausted || c.fwMissing then m.setChan n (fun c => { c with failPending := true }) else m.commandOn n
    else m
  m.latchEvt n (2 ^ 22)

/-- The command watchdog or the HOLD time of CHIi has elapsed at a sweep boundary, and the instance expires (R285–R288, R292);
in QUIESCED, and on a unit that does not drive (R691), it stands still, and in EXPIRED it has no further effect
(log entry 24). -/
def chiExpire (m : Module) (i : Nat) : Module :=
  if m.chiQuiesced i || m.rd F.CHI_STATE_STATE i == 3 || ! m.drives || (m.chi i).leftUs != 0 || ! m.flag F.CHC_STAT_RUN then m
  else
  let m := m.wr F.CHI_STATE_STATE 3 i
  let m := m.setChi i { m.chi i with leftUs := 0 }
  let m := forEach (List.range 128) (fun n m =>
    if (m.chan n).owned && (m.chan n).owner == i then m.applyFail n else m) m
  m.raise F.CHI_IRQ_STAT_EXPIRED i

/-! ### The sweep -/

/-- The group sums of the sweep that ends (R214, R261): the samples of channels that conduct, a commanded turn-off
included, a protection turn-off not. -/
def groupSums (m : Module) : Module :=
  forEach (List.range 4) (fun g m =>
    let sum := (List.range 32).foldl (fun (acc : Int) p =>
      let c := m.chan (32 * g + p)
      if c.phase == .off || c.protOff then acc else acc + c.sample * (lsbOf (classOf (32 * g + p)) : Int)) 0
    m.setGrp g { m.grp g with sq := (m.grp g).sq + sum.natAbs * sum.natAbs }) m

/-- A pending swap, or the return of R298, takes effect: the other bank runs (R297). A swap and a return that fall due together
are one change of the bank, and the swap completes (log entry 25). -/
def ucSwitch (m : Module) : Module :=
  let swap := m.chc.ucJob == .swap
  let due := m.chc.revertDue
  let m := m.when (swap || due) (fun m => m.wr F.CHC_STAT_BANK (1 - m.rd F.CHC_STAT_BANK))
  let m := m.when swap (fun m => (m.wr F.CHC_UC_STAT_STATUS 0).lower F.CHC_UC_STAT_PEND)
  let m := m.when due (fun m => (m.raise F.CHC_EVT_UC_REVERTED).latch (fun h => { h with uc := setBit h.uc 0 true }))
  { m with chc := { m.chc with
      ucJob := if swap then .none else m.chc.ucJob, revertDue := false
      revertLeft := if due then 0 else if swap then 125000 else m.chc.revertLeft - 1 } }

/-- A sweep missed its evaluation bound (R298; log entry 25). -/
def sweepMissed (m : Module) : Module :=
  let m := ((m.addS F.CHC_MISS_CNT_COUNT 1).raise F.CHC_EVT_DEADLINE_MISS).latch
    (fun h => { h with uc := setBit h.uc 1 true })
  m.when (decide (0 < m.chc.revertLeft)) (fun m => { m with chc := { m.chc with revertDue := true } })

/-- Calibration runs continuously (R299): with none in progress and none stopped, it begins with ADC 0 (log entry 25). -/
def calStart (m : Module) : Module :=
  m.when (decide (8 ≤ m.rd F.CHC_CAL_STAT_CAL_ADC) && ! m.flag F.CHC_STAT_CAL_STOPPED) (fun m =>
    { m.wr F.CHC_CAL_STAT_CAL_ADC 0 with chc := { m.chc with calShadow := false } })

/-- What CHC does at a sweep boundary (R182, R214, R227, R264, R278, R297–R299; log entry 24). -/
def chcSweep (m : Module) (missed : Bool) : Module :=
  let m := m.groupSums
  let m := m.advanceWindows
  let m := m.addW F.CHC_SWEEP_NUM 1
  let m := m.when missed (·.sweepMissed)
  let m := m.ucSwitch
  let m := m.calStart
  m.executeSweep

/-! ### Completions read -/

/-- The word of a completion in CHI_CPL (R305). -/
def cplWord (e : ChiCpl) : Nat := e.seq + e.status * 2 ^ 16 + e.op % 16 * 2 ^ 24 + 2 ^ 31

/-- The pop of CHI_CPL (R283): the oldest completion goes, and its second word shows in CHI_CPL_X. -/
def cplPop (m : Module) (i : Nat) : Module :=
  let x := m.chi i
  match x.fifo with
  | [] => m
  | e :: r =>
    let m := m.setChi i { x with fifo := r }
    ((m.wr F.CHI_CPL_X_CHANNEL e.chan i).wr F.CHI_CPL_X_DETAIL e.detail i).wr F.CHI_CPL_X_SWEEP e.sweep i

/-- What a read of CHI_CPL does (R283). -/
def cplPlan (m : Module) (i : Nat) : RePlan :=
  let e := (m.chi i).fifo.head?
  { value := (e.map cplWord).getD 0
    what := e.map (fun e => .chi i e (m.rd F.CHI_CPL_X_CHANNEL i) (m.rd F.CHI_CPL_X_DETAIL i) (m.rd F.CHI_CPL_X_SWEEP i))
    effect := (·.cplPop i) }

/-- A read of CHI_CPL (R283, R376–R378). -/
def cplRead (m : Module) (a : Access) (i : Nat) : Module := m.rePlanned a (chiAddr i 0x10) (m.cplPlan i)

/-! ### Microcode -/

/-- The status of loading the record `h` (its eight header words) with code `code` (R294, R296). -/
def ucCheck (m : Module) (h : List Nat) (code : List Byte) : Nat :=
  let w := fun k => h.getD k 0
  let len := w 3
  if w 2 / 2 ^ 16 ≠ 0 ∨ w 5 ≠ 0 ∨ w 6 ≠ 0 ∨ w 7 ≠ 0 then 0x10
  else if len % 16 ≠ 0 ∨ len < 1024 ∨ 32768 < len then 0x10
  else if crc32 code ≠ w 4 then 0x10
  else if w 2 ≠ (if m.rd F.CHC_STAT_BANK = 0 then m.rd F.CHC_UC_SCHEMA_BANK0 else m.rd F.CHC_UC_SCHEMA_BANK1) then 0x11
  else 0

/-- The header of bank `b` shows the words of `h` (R306). -/
def ucHeader (m : Module) (b : Nat) (h : List Nat) : Module :=
  let w := fun k => h.getD k 0
  if b = 0 then ((m.wr F.CHC_UC_VER0_LO_VER (w 0)).wr F.CHC_UC_VER0_HI_VER (w 1)).wr F.CHC_UC_SCHEMA_BANK0 (w 2)
  else ((m.wr F.CHC_UC_VER1_LO_VER (w 0)).wr F.CHC_UC_VER1_HI_VER (w 1)).wr F.CHC_UC_SCHEMA_BANK1 (w 2)

/-- A write of CHC_UC_CTRL by the secure world (R296, R297; log entry 25). -/
def ucControl (m : Module) (load swap : Bool) (key : Nat) : Module :=
  if key ≠ 0x6D31 then m
  else if load && swap then m.wr F.CHC_UC_STAT_STATUS 0x10
  else if load || swap then
    if m.flag F.CHC_UC_STAT_PEND then m.wr F.CHC_UC_STAT_STATUS 1
    else if load then
      let m := (m.lower F.CHC_STAT_LOADED).raise F.CHC_UC_STAT_PEND
      { m with chc := { m.chc with ucJob := .load } }
    else if ! m.flag F.CHC_STAT_LOADED then m.wr F.CHC_UC_STAT_STATUS 0x10
    else
      let m := m.raise F.CHC_UC_STAT_PEND
      { m with chc := { m.chc with ucJob := .swap } }
  else m

/-- A load ends (R296): the record at CHC_UC_SRC is read into the inactive bank, whatever it holds, and judged
(log entry 25). -/
def ucLoadEnd (m : Module) : Module :=
  if m.chc.ucJob ≠ .load then m else
  let src := m.rd F.CHC_UC_SRC_ADDR
  let a := m.iattr 0x24
  let (m, hdr) := m.busRead a src 32
  let h := words (hdr.getD [])
  let (m, code) := m.busRead a (src + 32) (min (h.getD 3 0) 32768)
  let st := if hdr.isNone ∨ code.isNone then 0x10 else m.ucCheck h (code.getD [])
  let b := 1 - m.rd F.CHC_STAT_BANK
  let m := (m.ucHeader b h).when (st == 0) (·.raise F.CHC_STAT_LOADED)
  let c := code.getD []
  let m := { m with chc := if b = 0 then { m.chc with code0 := c } else { m.chc with code1 := c } }
  let m := ((m.wr F.CHC_UC_STAT_STATUS st).lower F.CHC_UC_STAT_PEND).raise F.CHC_EVT_LOAD_DONE
  { m with chc := { m.chc with ucJob := .none } }

/-! ### Calibration -/

/-- Every running CALIBRATE of ADC `k` completes with `st` and `d` (R301, R304); `all` takes every ADC (log entry 25). -/
def calComplete (m : Module) (k : Nat) (all : Bool) (st d : Nat) : Module :=
  forEach (List.range 16) (fun i m =>
    let x := m.chi i
    let mine := x.cal.filter (fun c => all || c.1.chan / 16 == k)
    let m := m.setChi i { x with cal := x.cal.filter (fun c => ! (all || c.1.chan / 16 == k)) }
    (mine.foldl (fun m c => m.chiPostAt i c.1 st d c.2) m).quiesceDone i) m

/-- CALIBRATE_CHANNELS goes on after ADC `k` has been corrected (R804, R806): its first correction is the commit point; a
SUSPEND that waits keeps the next ADC from starting (log entry 25). -/
def calOperation (m : Module) (k : Nat) : Module :=
  match m.mbx.adcs with
  | a :: r =>
    if a ≠ k ∨ m.laneHeld 3 then m else
    let m := { m with mbx := { m.mbx with adcs := r } }.opCommits 3
    match r with
    | [] => m.opEnded 3 0 (m.rd F.CHC_CAL_STAT_FAULT) 0
    | b :: _ => if m.suspendWaits 3 then m else m.calibrateNext b
  | [] => m

/-- CALIBRATE_CHANNELS ends where calibration stops at ADC `k` (R302, R804; log entry 25). -/
def calHalted (m : Module) (k : Nat) : Module :=
  match m.mbx.adcs with
  | a :: r =>
    if m.laneHeld 3 then m else
    let st := if a = k ∧ r = [] then 0 else 0x0F
    { m with mbx := { m.mbx with adcs := [] } }.opEnded 3 st (m.rd F.CHC_CAL_STAT_FAULT) 0
  | [] => m

/-- The end of the present phase (R299–R302): `gain` and `offset` are the corrections fitted, `span` the span of the shadow
samples in LSB (log entry 25). -/
def calPhaseEnd (m : Module) (gain offset : Int) (span : Nat) : Module :=
  let k := m.rd F.CHC_CAL_STAT_CAL_ADC
  if 8 ≤ k || m.flag F.CHC_STAT_CAL_STOPPED then m
  else if ! m.chc.calShadow then { m with chc := { m.chc with calShadow := true } }
  else
    let g0 := signed 16 (m.rd F.CHC_CAL_CORR_GAIN k)
    let o0 := signed 16 (m.rd F.CHC_CAL_CORR_OFFSET k)
    let g := if 4095 ≤ 4 * span then gain else g0
    let far := decide (5242 < (g - g0).natAbs) || decide (64 < (offset - o0).natAbs)
    if far then
      let m := (m.setMap F.CHC_CAL_STAT_FAULT k).raise F.CHC_EVT_CAL_FAULT
      let m := ((m.raise F.CHC_STAT_CAL_SPARE).raise F.CHC_STAT_CAL_STOPPED).wr F.CHC_STAT_SPARE_FOR k
      let m := (m.wr F.CHC_CAL_STAT_CAL_ADC 0xF)
      let m := { m with chc := { m.chc with calShadow := false, calNext := none } }
      ((m.calComplete k false 0 0).calComplete k true 0x0F 9).calHalted k
    else
      let m := (m.wr F.CHC_CAL_CORR_GAIN (unsigned 16 g) k).wr F.CHC_CAL_CORR_OFFSET (unsigned 16 offset) k
      let m := m.when (k == 7) (·.addW F.CHC_CAL_STAT_CYCLES 1)
      let next := m.chc.calNext.getD ((k + 1) % 8)
      let m := m.wr F.CHC_CAL_STAT_CAL_ADC next
      let m := { m with chc := { m.chc with calShadow := false, calNext := none } }
      (m.calComplete k false 0 0).calOperation k

end Module

/-! ### Commands -/

/-- ON (R274–R277, R284, R285, R452): the submission; the command acts at a sweep boundary, under SWEEP_BOUNDARY. -/
def execChOn (a : Access) (i : Fin 16) (chan : Fin 128) (resv : Fin 32) (seq : BitVec 16) (s : State) :
    Host.Outcome State Fault Refusal :=
  s.runBy a 1 (fun a m => m.chiCommand a i.val 1 chan.val resv.val seq.toNat)

/-- OFF (R274–R277, R284, R285, R452): the submission. -/
def execChOff (a : Access) (i : Fin 16) (chan : Fin 128) (resv : Fin 32) (seq : BitVec 16) (s : State) :
    Host.Outcome State Fault Refusal :=
  s.runBy a 1 (fun a m => m.chiCommand a i.val 2 chan.val resv.val seq.toNat)

/-- PWM (R240, R274–R277, R284, R285): the submission; the argument stands in CHI_CMD_ARG. -/
def execChPwm (a : Access) (i : Fin 16) (chan : Fin 128) (resv : Fin 32) (seq : BitVec 16) (s : State) :
    Host.Outcome State Fault Refusal :=
  s.runBy a 1 (fun a m => m.chiCommand a i.val 3 chan.val resv.val seq.toNat)

/-- SET_PROFILE (R226, R274–R277): the submission. -/
def execChSetProfile (a : Access) (i : Fin 16) (chan : Fin 128) (resv : Fin 32) (seq : BitVec 16) (s : State) :
    Host.Outcome State Fault Refusal :=
  s.runBy a 1 (fun a m => m.chiCommand a i.val 4 chan.val resv.val seq.toNat)

/-- CLEAR_FAULT (R258, R274–R277): the submission. -/
def execChClearFault (a : Access) (i : Fin 16) (chan : Fin 128) (resv : Fin 32) (seq : BitVec 16) (s : State) :
    Host.Outcome State Fault Refusal :=
  s.runBy a 1 (fun a m => m.chiCommand a i.val 5 chan.val resv.val seq.toNat)

/-- HOLD (R274–R277, R286): the submission. -/
def execChHold (a : Access) (i : Fin 16) (chan : Fin 128) (resv : Fin 32) (seq : BitVec 16) (s : State) :
    Host.Outcome State Fault Refusal :=
  s.runBy a 1 (fun a m => m.chiCommand a i.val 6 chan.val resv.val seq.toNat)

/-- CALIBRATE (R274–R277, R301): the submission. -/
def execChCalibrate (a : Access) (i : Fin 16) (chan : Fin 128) (resv : Fin 32) (seq : BitVec 16) (s : State) :
    Host.Outcome State Fault Refusal :=
  s.runBy a 1 (fun a m => m.chiCommand a i.val 7 chan.val resv.val seq.toNat)

/-- WATCHDOG_KICK (R285, R304): ignored in HOLD, and with another key; in QUIESCED the watchdog stands still, and in EXPIRED it
runs again without an effect of its own (log entry 24). -/
def execWatchdogKick (a : Access) (i : Fin 16) (v : Word) (s : State) : Host.Outcome State Fault Refusal :=
  s.runBy a 1 (fun a m => m.access a (Module.chiAddr i.val 0x1C) 1 (fun m =>
    let st := m.rd F.CHI_STATE_STATE i.val
    m.when (bits v.toNat 15 0 == 0x4B1C && st != 1 && ! m.chiQuiesced i.val) (fun m =>
      m.setChi i.val { m.chi i.val with leftUs := m.wdtUs i.val })))

/-- INSTANCE_EXPIRY (R138, R194, R284–R288, R292). -/
def execInstanceExpiry (i : Fin 16) (s : State) : Host.Outcome State Fault Refusal :=
  s.run (fun m => m.chiExpire i.val)

/-- CHI_CPL_READ (R282, R283, R376, R377): the read commits. -/
def execChiCplRead (a : Access) (i : Fin 16) (s : State) : Host.Outcome State Fault Refusal :=
  s.runBy a 0 (fun a m => m.cplRead a i.val)

/-- LOAD (R296, R297, R304): a write of CHC_UC_CTRL with LOAD set, from the secure world only (R306). -/
def execUcLoad (a : Access) (v : Word) (s : State) : Host.Outcome State Fault Refusal :=
  s.runBy a 1 (fun a m => m.accessIf a 0x20200030 a.world (fun m =>
    m.ucControl (bit v.toNat 0) (bit v.toNat 1) (bits v.toNat 31 16)))

/-- SWAP (R297, R304): a write of CHC_UC_CTRL with SWAP set, from the secure world only (R306). -/
def execUcSwap (a : Access) (v : Word) (s : State) : Host.Outcome State Fault Refusal :=
  s.runBy a 1 (fun a m => m.accessIf a 0x20200030 a.world (fun m =>
    m.ucControl (bit v.toNat 0) (bit v.toNat 1) (bits v.toNat 31 16)))

/-- LOAD_DONE (R296). -/
def execUcLoadDone (s : State) : Host.Outcome State Fault Refusal := s.run (fun m => m.ucLoadEnd)

/-- CALIBRATION_PHASE_END (R299–R302). -/
def execCalibrationPhaseEnd (gain : Int) (offset : Int) (span : Nat) (s : State) : Host.Outcome State Fault Refusal :=
  s.run (fun m => m.calPhaseEnd gain offset span)

end Sys2Proof.Machine
end

