-- ==== Sys2Proof/Machine/Can.lean ====
section
/-!
DEFINITION. The CAN controllers (chapter 14): modes and error states, message objects, transmission, and the XL rings.
-/
namespace Sys2Proof.Machine

/-- The data bytes `l` as 32-bit words, with the number of bytes in each (R620). -/
def packWords (l : List Byte) : List (Nat × Nat) :=
  (List.range ((l.length + 3) / 4)).map (fun i => (ofBytes ((l.drop (4 * i)).take 4), min 4 (l.length - 4 * i)))

/-- The data length that a DLC stands for: 9–15 lengthen only FD frames (ISO 11898-1, PRESUMED) (log entry 12). -/
def dlcLen (fd : Bool) (d : Nat) : Nat :=
  if d ≤ 8 then d else if ! fd then 8 else [12, 16, 20, 24, 32, 48, 64].getD (d - 9) 64

/-- Where a frame stands in arbitration: the lower number wins (R603). The bits are the arbitration field, then FDF and XLF
(log entry 12). -/
def arbRank (id : Nat) (ide rmt : Bool) (fmt : Nat) : Nat :=
  let f := if fmt = 0 then 0 else if fmt = 1 then 2 else 3
  if ide then id / 2 ^ 18 * 2 ^ 24 + 2 ^ 23 + 2 ^ 22 + id % 2 ^ 18 * 2 ^ 4 + b2n rmt * 2 ^ 3 + f
  else id / 2 ^ 18 * 2 ^ 24 + b2n rmt * 2 ^ 23 + f * 2 ^ 20

namespace Module

/-- Controller `c`. -/
def canSt (m : Module) (c : Nat) : CanSt := tget {} m.can c

/-- Change controller `c`. -/
def setCan (m : Module) (c : Nat) (f : CanSt → CanSt) : Module := { m with can := tmod {} m.can c f }

/-- The microsecond count U of the present time (R556). -/
def nowU (m : Module) : Nat := m.tai / 1000

/-- Byte address of offset `o` in the window of controller `c` (R34). -/
def canAddr (c o : Nat) : Nat := 0x20800000 + c * 0x10000 + o

/-! ### Error states -/

/-- CAN_STAT.STATE follows the counters (R595): error passive at 128 or more. -/
def canErrState (m : Module) (c : Nat) : Module :=
  let st := m.rd F.CAN_STAT_STATE c
  if 2 ≤ st then m else
  let passive := decide (128 ≤ m.rd F.CAN_ERR_TEC c) || decide (128 ≤ m.rd F.CAN_ERR_REC c)
  let m := m.when (passive && st == 0) (·.raise F.CAN_EVT_ERR_PASSIVE c)
  m.wrb F.CAN_STAT_STATE passive c

/-- An error of kind `lec` is recorded (R595). -/
def canErrKind (m : Module) (c lec : Nat) (dataPhase : Bool) : Module :=
  if dataPhase then m.wr F.CAN_ERR_DLEC lec c else m.wr F.CAN_ERR_LEC lec c

/-- Bus-off is entered (R596; log entry 38). -/
def canBusOff (m : Module) (c : Nat) : Module :=
  if ! (m.canSt c).busOffDue then m else
  let m := m.setCan c (fun x => { x with busOffDue := false, busOff := true, attempt := none })
  let m := ((m.wr F.CAN_STAT_STATE 2 c).raise F.CAN_EVT_BUS_OFF c).addS F.CAN_ERR_BUSOFF_CNT 1 c
  let m := m.wr F.CAN_STAT_RECOVERING (m.rd F.CAN_CTRL_AUTO_RECOV c) c
  m.logBlk 0x0A 0x2A01 0 (c + m.rd F.CAN_ERR_LEC c * 2 ^ 8 + m.rd F.CAN_ERR_DLEC c * 2 ^ 11)

/-- Recovery ends (R596). -/
def canRecovered (m : Module) (c : Nat) : Module :=
  if ! m.flag F.CAN_STAT_RECOVERING c then m else
  let m := m.setCan c (fun x => { x with busOff := false })
  let m := ((m.wr F.CAN_ERR_TEC 0 c).wr F.CAN_ERR_REC 0 c).lower F.CAN_STAT_RECOVERING c
  (m.wr F.CAN_STAT_STATE (if m.rd F.CAN_CTRL_MODE c = 0 then 3 else 0) c).raise F.CAN_EVT_RECOVERED c

/-! ### Modes -/

/-- A set of timing fields breaks R591; `least` is the fewest quanta, `hi` and `lo` the bounds of BRP × quanta. -/
def timingOk (brp seg1 seg2 sjw least lo hi : Nat) : Bool :=
  let q := 3 + seg1 + seg2
  let t := (brp + 1) * q
  decide (sjw ≤ seg2) && decide (least ≤ q) && decide (lo ≤ t) && decide (t ≤ hi)

/-- The timing of controller `c` keeps R591, with FAST as given (log entry 38). -/
def canTimingOk (m : Module) (c : Nat) (fast : Bool) : Bool :=
  let nb := (m.rd F.CAN_NBT_BRP c + 1) * (3 + m.rd F.CAN_NBT_SEG1 c + m.rd F.CAN_NBT_SEG2 c)
  timingOk (m.rd F.CAN_NBT_BRP c) (m.rd F.CAN_NBT_SEG1 c) (m.rd F.CAN_NBT_SEG2 c) (m.rd F.CAN_NBT_SJW c) 8 80 8000
    && timingOk (m.rd F.CAN_DBT_BRP c) (m.rd F.CAN_DBT_SEG1 c) (m.rd F.CAN_DBT_SEG2 c) (m.rd F.CAN_DBT_SJW c) 4 10 nb
    && timingOk (m.rd F.CAN_XBT_BRP c) (m.rd F.CAN_XBT_SEG1 c) (m.rd F.CAN_XBT_SEG2 c) (m.rd F.CAN_XBT_SJW c) 4
      (if fast then 4 else 10) nb

/-- INIT is entered (R594, R605). -/
def canInit (m : Module) (c : Nat) : Module :=
  let m := m.setCan c (fun x => { x with initDue := false, attempt := none })
  let m := ((m.wr F.CAN_CTRL_MODE 0 c).wr F.CAN_STAT_STATE 3 c).lower F.CAN_STAT_SYNCED c
  (m.lower F.CAN_STAT_ALONE c).wr F.CAN_STAT_ALONE_RUN 0 c

/-- The other fields of CAN_CTRL; DPX_EN, XCVR and FAST only in INIT (R619). AUTO_RECOV starts the recovery of a bus-off
controller at once (R596; log entry 38). -/
def canCtrlBits (m : Module) (c v : Nat) : Module :=
  let init := m.rd F.CAN_CTRL_MODE c == 0
  let m := m.when (bit v 2 && (m.canSt c).busOff) (·.raise F.CAN_STAT_RECOVERING c)
  let m := (((m.wr F.CAN_CTRL_AUTO_RECOV (bits v 2 2) c).wr F.CAN_CTRL_FD_EN (bits v 6 6) c).wr F.CAN_CTRL_XL_EN (bits v 7 7) c)
  m.when init (fun m => ((m.wr F.CAN_CTRL_DPX_EN (bits v 3 3) c).wr F.CAN_CTRL_XCVR (bits v 5 4) c).wr F.CAN_CTRL_FAST
    (bits v 8 8) c)

/-- A write of CAN_CTRL (R592, R594). -/
def canControl (m : Module) (c v : Nat) : Module :=
  let was := m.rd F.CAN_CTRL_MODE c
  let mode := bits v 1 0
  let xcvr := if was = 0 then bits v 5 4 else m.rd F.CAN_CTRL_XCVR c
  let fast := if was = 0 then bit v 8 else m.flag F.CAN_CTRL_FAST c
  if mode ≠ 0 && (! m.canTimingOk c fast || (fast && xcvr != 2)) then m.raise F.CAN_EVT_CFG_IGNORED c
  else
    let m := m.canCtrlBits c v
    if mode = 0 then
      if was = 0 then m
      else if (m.canSt c).attempt.isSome then m.setCan c (fun x => { x with initDue := true }) else m.canInit c
    else
      let m := (m.setCan c (fun x => { x with initDue := false })).wr F.CAN_CTRL_MODE mode c
      if was ≠ 0 then m
      else if (m.canSt c).busOff then m.wr F.CAN_STAT_STATE 2 c
      else (m.wr F.CAN_STAT_STATE 0 c).canErrState c

/-- The controller takes part in bus traffic. -/
def canOnBus (m : Module) (c : Nat) : Bool :=
  m.rd F.CAN_CTRL_MODE c != 0 && m.flag F.CAN_STAT_SYNCED c && ! m.flag F.CAN_STAT_XCVR_SLEEP c

/-! ### Objects -/

/-- RX_NEW of object `o` (R599, R600). -/
def rxNew (m : Module) (c o : Nat) : Module := (m.setMap F.CAN_RX_NEW_MAP (o % 32) true c (o / 32)).raise F.CAN_EVT_RX_NEW c

/-- The frame of `x` enters the visible buffer of object `o` (R599); bytes beyond its data keep what they held. -/
def canVisible (m : Module) (c o : Nat) (x : CanShadow) : Module :=
  let m := (m.wr F.CAN_OBJ_TS_US (x.u % 2 ^ 32) c o).wr F.CAN_OBJ_RXINFO_EPOCH (x.u / 2 ^ 32) c o
  let m := (m.wr F.CAN_OBJ_RXINFO_DLC x.f.dlc c o).wrb F.CAN_OBJ_RXINFO_FDF x.f.fdf c o
  let m := (m.wrb F.CAN_OBJ_RXINFO_BRS x.f.brs c o).wrb F.CAN_OBJ_RXINFO_ESI x.f.esi c o
  let m := (m.wrb F.CAN_OBJ_RXINFO_RMT x.f.rmt c o).wr F.CAN_OBJ_RXID_ID x.f.id c o
  let m := m.wrb F.CAN_OBJ_RXID_IDE x.f.ide c o
  (packWords x.f.data).zipIdx.foldl (fun m e =>
    let kept := 2 ^ (8 * e.1.2)
    m.wr F.CAN_OBJ_DATA_DATA (e.1.1 + m.rd F.CAN_OBJ_DATA_DATA c o e.2 / kept * kept) c o e.2) m

/-- Object `o` accepts frame `f` (R598). ACCEPT 0b11 is reserved and admits nothing (log entry 38). -/
def canAccepts (m : Module) (c o : Nat) (f : CanFrame) : Bool :=
  let fmt := m.rd F.CAN_OBJ_CFG_FMT c o
  let mask := m.rd F.CAN_OBJ_MASK_MASK c o
  let mask := if f.ide then mask else mask / 2 ^ 18 * 2 ^ 18
  m.flag F.CAN_OBJ_CFG_EN c o && ! m.flag F.CAN_OBJ_CFG_DIR c o
    && ((f.id ^^^ m.rd F.CAN_OBJ_ID_ID c o) &&& mask) == 0
    && (m.flag F.CAN_OBJ_CFG_IDE c o == f.ide || m.flag F.CAN_OBJ_CFG_IDE_ANY c o)
    && (fmt == 0 || (fmt == 1 && ! f.fdf) || (fmt == 2 && f.fdf)) && m.flag F.CAN_OBJ_CFG_RMT c o == f.rmt

/-- Storage of a valid frame (R598, R599). -/
def canStore (m : Module) (c : Nat) (x : CanShadow) : Module :=
  match (List.range 128).find? (fun o => m.canAccepts c o x.f) with
  | none => m.addS F.CAN_RX_NOMATCH_COUNT 1 c
  | some o =>
    let overrun := fun (m : Module) => (m.raise F.CAN_OBJ_STAT_OVERRUN c o).raise F.CAN_EVT_OVERRUN c
    if m.flag F.CAN_OBJ_STAT_OPEN c o then
      let m := m.when (m.flag F.CAN_OBJ_STAT_SHADOW_FULL c o) overrun
      (m.setCan c (fun s => { s with shadow := tset {} s.shadow o x })).raise F.CAN_OBJ_STAT_SHADOW_FULL c o
    else
      let m := m.when (m.flag F.CAN_OBJ_STAT_VALID c o) overrun
      ((m.canVisible c o x).raise F.CAN_OBJ_STAT_VALID c o).rxNew c o

/-- OPEN (R600). -/
def canOpen (m : Module) (c o : Nat) : Module := m.raise F.CAN_OBJ_STAT_OPEN c o

/-- CLOSE (R600): the shadow frame is promoted. -/
def canClose (m : Module) (c o : Nat) : Module :=
  let m := (m.lower F.CAN_OBJ_STAT_VALID c o).lower F.CAN_OBJ_STAT_OPEN c o
  if ! m.flag F.CAN_OBJ_STAT_SHADOW_FULL c o then m else
  let m := m.canVisible c o (tget {} (m.canSt c).shadow o)
  let m := m.setCan c (fun s => { s with shadow := tset {} s.shadow o {} })
  ((m.lower F.CAN_OBJ_STAT_SHADOW_FULL c o).raise F.CAN_OBJ_STAT_VALID c o).rxNew c o

/-! ### Transmission -/

/-- The request of object `o` ends (R604). -/
def canReqEnd (m : Module) (c o : Nat) (sent : Bool) (st : Nat) : Module :=
  let m := ((m.lower F.CAN_OBJ_STAT_TX_PENDING c o).lower F.CAN_OBJ_STAT_CANCEL_PEND c o).wrb F.CAN_OBJ_STAT_SENT sent c o
  let m := m.wr F.CAN_OBJ_STAT_STATUS st c o
  (m.setMap F.CAN_TX_END_MAP (o % 32) true c (o / 32)).raise F.CAN_EVT_TX_DONE c

/-- A transmit request of object `o` becomes pending (R602); ATTEMPTS counts from 0. -/
def canPend (m : Module) (c o : Nat) : Module :=
  (m.raise F.CAN_OBJ_STAT_TX_PENDING c o).wr F.CAN_OBJ_STAT_ATTEMPTS 0 c o

/-- CANCEL of a pending request (R604): latched within an attempt of that object, otherwise ended at once. -/
def canCancel (m : Module) (c o : Nat) : Module :=
  if (m.canSt c).attempt = some (some o) then
    (m.setCan c (fun s => { s with cancel := true })).raise F.CAN_OBJ_STAT_CANCEL_PEND c o
  else m.canReqEnd c o false 0x0A

/-- Address of descriptor `i` of the XL transmit or receive ring (R606). -/
def xlDesc (m : Module) (c : Nat) (tx : Bool) (i : Nat) : Nat :=
  (if tx then m.rd F.CAN_XTX_BASE_ADDR c else m.rd F.CAN_XRX_BASE_ADDR c) * 0x1000 + 32 * i

/-- Number of descriptors of a ring. -/
def xlSize (m : Module) (c : Nat) (tx : Bool) : Nat :=
  2 ^ (if tx then m.rd F.CAN_XTX_CFG_LOG2SZ c else m.rd F.CAN_XRX_CFG_LOG2SZ c)

/-- A ring access received an error response (R611). -/
def canDmaError (m : Module) (c : Nat) (tx : Bool) (addr st : Nat) : Module :=
  let m := if tx then (m.lower F.CAN_XTX_CFG_EN c).setCan c (fun s => if s.attempt = some none then s else { s with head := none })
    else (m.lower F.CAN_XRX_CFG_EN c).when ((m.canSt c).held != []) (fun m =>
      (m.setCan c (fun s => { s with held := s.held.drop 1 })).addS F.CAN_XL_DROP_COUNT 1 c)
  let m := ((m.wr F.CAN_XERR_STATUS st c).wrb F.CAN_XERR_TX tx c).wr F.CAN_XERR_ADDR_ADDR addr c
  (m.raise F.CAN_EVT_DMA_ERR c).logBlk 0x0A 0x2A03 addr (c + b2n tx * 2 ^ 8 + st * 2 ^ 16)

/-- The write-back of descriptor `i` of the transmit ring (R607). -/
def xtxBack (m : Module) (c i : Nat) (w : List Nat) (u att : Nat) (sent : Bool) (st : Nat) : Module :=
  let out := [u % 2 ^ 32, u / 2 ^ 32 % 16 + min att 255 * 2 ^ 8, w.getD 2 0, w.getD 3 0, w.getD 4 0, 0, w.getD 6 0,
    st + b2n sent * 2 ^ 8 + 2 ^ 31]
  let (m, ok) := m.busWrite (m.iattr 0x25) (m.xlDesc c true i) (out.flatMap (toBytes 4))
  if ok then m.raise F.CAN_EVT_XL_TX c else m.canDmaError c true (m.xlDesc c true i) m.resp.status

/-- HEAD of the transmit ring becomes `i`. -/
def xtxHead (m : Module) (c i : Nat) : Module := m.wr F.CAN_XTX_HEAD_IDX (i % m.xlSize c true) c

/-- The head frame of the XL ring ends (R604, R607, R608). -/
def xlHeadEnd (m : Module) (c : Nat) (sent : Bool) (st : Nat) : Module :=
  match (m.canSt c).head with
  | none => m
  | some h =>
    let m := m.xtxBack c h.idx h.words h.u h.attempts sent st
    let m := m.setCan c (fun s => { s with head := none, cancel := false })
    match (m.canSt c).xtxEnd with
    | some e => ((m.setCan c (fun s => { s with xtxEnd := none })).xtxHead c e).lower F.CAN_XTX_CFG_EN c
    | none => m.xtxHead c (h.idx + 1)

/-- Posted descriptors from `i`, in ring order, are written back CANCELLED (R608 step 2). -/
def xtxCancelFrom (m : Module) (c i : Nat) : Module :=
  let n := m.xlSize c true
  let left := (m.rd F.CAN_XTX_TAIL_IDX c + n - i % n) % n
  forEach (List.range left) (fun k m =>
    let j := (i + k) % n
    let (m, d) := m.busRead (m.iattr 0x25) (m.xlDesc c true j) 32
    match d with
    | some l => m.xtxBack c j (words l) 0 0 false 0x0A
    | none => m.canDmaError c true (m.xlDesc c true j) m.resp.status) m

/-- XTX_CANCEL (R608; log entry 38). -/
def xtxCancel (m : Module) (c : Nat) : Module :=
  let tail := m.rd F.CAN_XTX_TAIL_IDX c
  match (m.canSt c).head with
  | some h =>
    if h.attempts = 0 then
      let m := m.setCan c (fun s => { s with head := none })
      ((m.xtxCancelFrom c h.idx).xtxHead c tail).lower F.CAN_XTX_CFG_EN c
    else
      let m := m.setCan c (fun s => { s with xtxEnd := some tail, cancel := s.attempt == some none })
      let m := m.xtxCancelFrom c (h.idx + 1)
      if (m.canSt c).attempt = some none then m else m.xlHeadEnd c false 0x0A
  | none => ((m.xtxCancelFrom c (m.rd F.CAN_XTX_HEAD_IDX c)).xtxHead c tail).lower F.CAN_XTX_CFG_EN c

/-- The refusal of a command of CAN_CMD (R601), if any (log entry 38). -/
def canRefusal (m : Module) (c op o : Nat) : Option Nat :=
  let rxObj := m.flag F.CAN_OBJ_CFG_EN c o && ! m.flag F.CAN_OBJ_CFG_DIR c o
  let txObj := m.flag F.CAN_OBJ_CFG_EN c o && m.flag F.CAN_OBJ_CFG_DIR c o
  let fd := m.rd F.CAN_OBJ_CFG_FMT c o != 0
  if m.flag F.CAN_CTRL_DPX_EN c && decide (126 ≤ o) then some 2
  else if op = 1 then (if rxObj then none else some 0x10)
  else if op = 2 then (if m.flag F.CAN_OBJ_STAT_OPEN c o then none else some 0x10)
  else if op = 3 then
    if ! txObj || (fd && ! m.flag F.CAN_CTRL_FD_EN c) then some 0x10
    else if m.flag F.CAN_OBJ_STAT_TX_PENDING c o then some 1
    else if m.rd F.CAN_CTRL_MODE c = 2 then some 0x0F else none
  else if op = 4 then (if m.flag F.CAN_OBJ_STAT_TX_PENDING c o then none else some 0x10)
  else if op = 5 then (if m.flag F.CAN_XTX_CFG_EN c then none else some 0x10)
  else if op = 6 then (if (m.canSt c).busOff && ! m.flag F.CAN_CTRL_AUTO_RECOV c then none else some 0x10)
  else some 0x10

/-- The effect of a command of CAN_CMD that passed its checks (log entry 38). -/
def canEffect (m : Module) (c op o : Nat) : Module :=
  match op with
  | 1 => m.canOpen c o
  | 2 => m.canClose c o
  | 3 => m.canPend c o
  | 4 => m.canCancel c o
  | 5 => m.xtxCancel c
  | _ => m.raise F.CAN_STAT_RECOVERING c

/-- A write of CAN_CMD that reached the controller (R601; log entry 38). -/
def canCommandAt (m : Module) (c op o : Nat) : Module :=
  let st := m.canRefusal c op o
  let m := m.when st.isNone (·.canEffect c op o)
  ((m.wr F.CAN_CMD_STAT_STATUS (st.getD 0) c).wr F.CAN_CMD_STAT_OBJ o c).wr F.CAN_CMD_STAT_OP op c

/-- The arbitration rank of the transmit request of object `o`. -/
def objRank (m : Module) (c o : Nat) : Nat :=
  arbRank (m.rd F.CAN_OBJ_ID_ID c o) (m.flag F.CAN_OBJ_CFG_IDE c o) (m.flag F.CAN_OBJ_CFG_RMT c o)
    (if m.rd F.CAN_OBJ_CFG_FMT c o = 0 then 0 else 1)

/-- The candidate that would win arbitration (R603): an object, or none for the XL head. -/
def canWinner (m : Module) (c : Nat) : Option (Option Nat) :=
  let objs := (List.range 128).filter (fun o => m.flag F.CAN_OBJ_STAT_TX_PENDING c o)
  let best := objs.foldl (fun (b : Option (Nat × Option Nat)) o =>
    let r := m.objRank c o
    match b with
    | some (r', _) => if r < r' then some (r, some o) else b
    | none => some (r, some o)) none
  let xl := match (m.canSt c).head with
    | some h =>
      if m.flag F.CAN_XTX_CFG_EN c && m.flag F.CAN_CTRL_XL_EN c then
        some (arbRank (h.words.getD 2 0 % 2 ^ 11 * 2 ^ 18) false false 2) else none
    | none => none
  match best, xl with
  | some (r, o), some x => some (if x < r then none else o)
  | some (_, o), none => some o
  | none, some _ => some none
  | none, none => none

/-- ALONE allows an attempt (R605): 10 ms since the last SOF. -/
def aloneOk (m : Module) (c : Nat) : Bool :=
  ! m.flag F.CAN_STAT_ALONE c || match (m.canSt c).lastSof with
    | some t => decide (t + 10000 ≤ m.rd F.LSS_MTIME_US)
    | none => true

/-- An attempt begins (R602–R605, R612): the SOF is stamped; an FD or XL frame measures the loop delay (R593;
log entry 38). -/
def canAttempt (m : Module) (c delay : Nat) : Module :=
  let mode := m.rd F.CAN_CTRL_MODE c
  let x := m.canSt c
  if ! ((mode == 1 || mode == 3) && m.canOnBus c && ! x.busOff && ! x.busOffDue && x.attempt.isNone && m.aloneOk c) then m
  else
    match m.canWinner c with
    | none => m
    | some w =>
      let u := m.nowU
      let m := m.setCan c (fun s => { s with attempt := some w, cancel := false, lastSof := some (m.rd F.LSS_MTIME_US) })
      let m := m.lower F.CAN_STAT_DOM_TIMEOUT c
      match w with
      | some o =>
        let m := ((m.wr F.CAN_OBJ_TS_US (u % 2 ^ 32) c o).wr F.CAN_OBJ_RXINFO_EPOCH (u / 2 ^ 32) c o).addS
          F.CAN_OBJ_STAT_ATTEMPTS 1 c o
        m.when (m.rd F.CAN_OBJ_CFG_FMT c o != 0 && m.flag F.CAN_DBT_TDC_EN c) (·.wr F.CAN_TDC_STAT_DELAY delay c)
      | none =>
        let m := m.setCan c (fun s => { s with head := s.head.map (fun h => { h with attempts := h.attempts + 1, u := u }) })
        m.when (m.flag F.CAN_XBT_TDC_EN c) (·.wr F.CAN_TDC_STAT_DELAY delay c)

/-- The frame that object `o` sends (R597, R620). -/
def objFrame (m : Module) (c o : Nat) : CanFrame :=
  let fmt := m.rd F.CAN_OBJ_CFG_FMT c o
  let dlc := m.rd F.CAN_OBJ_CTRL_DLC c o
  let rmt := m.flag F.CAN_OBJ_CFG_RMT c o
  let n := if rmt then 0 else dlcLen (fmt != 0) dlc
  { id := m.rd F.CAN_OBJ_ID_ID c o, ide := m.flag F.CAN_OBJ_CFG_IDE c o, rmt := rmt, fdf := fmt != 0, brs := 2 ≤ fmt
    esi := fmt != 0 && m.rd F.CAN_STAT_STATE c == 1, dlc := dlc
    data := (((List.range 16).map (fun d => m.rd F.CAN_OBJ_DATA_DATA c o d)).flatMap (toBytes 4)).take n }

/-- The XL frame in the transmit buffer. -/
def headFrame (h : XlHead) : XlFrame :=
  let w := h.words.getD 2 0
  { prio := w % 2 ^ 11, sec := bit w 11, sdt := bits w 23 16, vcid := bits w 31 24, af := h.words.getD 3 0, data := h.data }

/-- The request that the attempt belonged to ends. -/
def canAttemptDone (m : Module) (c : Nat) (w : Option Nat) (sent : Bool) (st : Nat) : Module :=
  match w with
  | some o => m.canReqEnd c o sent st
  | none => m.xlHeadEnd c sent st

/-- The count of ACK errors in a row (R605). -/
def aloneRun (m : Module) (c : Nat) (w : Option Nat) (how : CanEnd) : Module :=
  match how with
  | .sent => (m.wr F.CAN_STAT_ALONE_RUN 0 c).lower F.CAN_STAT_ALONE c
  | .lost => m.wr F.CAN_STAT_ALONE_RUN 0 c
  | .error lec _ acked =>
    if acked then (m.wr F.CAN_STAT_ALONE_RUN 0 c).lower F.CAN_STAT_ALONE c
    else if lec ≠ 3 then m
    else
      let m := m.wr F.CAN_STAT_ALONE_RUN (min 16 (m.rd F.CAN_STAT_ALONE_RUN c + 1)) c
      if m.rd F.CAN_STAT_ALONE_RUN c = 16 && ! m.flag F.CAN_STAT_ALONE c then
        ((m.raise F.CAN_STAT_ALONE c).raise F.CAN_EVT_ALONE c).logBlk 0x0A 0x2A02 0 (c + w.getD 0x7F * 2 ^ 8)
      else m

/-- TEC after an attempt (R595, R605; ISO 11898-1): −1 for a frame sent, +8 for an error, but an ACK error of an error-passive
node counts nothing (log entry 12). -/
def canTec (m : Module) (c : Nat) (how : CanEnd) : Module :=
  let t := m.rd F.CAN_ERR_TEC c
  match how with
  | .sent => (m.wr F.CAN_ERR_TEC (t - 1) c).canErrState c
  | .lost => m
  | .error lec dp acked =>
    let m := m.canErrKind c lec dp
    if lec = 3 && ! acked && m.rd F.CAN_STAT_STATE c == 1 then m
    else if 255 < t + 8 then (m.wr F.CAN_ERR_TEC 255 c).setCan c (fun s => { s with busOffDue := true })
    else (m.wr F.CAN_ERR_TEC (t + 8) c).canErrState c

/-- An attempt ends (R595, R604, R605). -/
def canAttemptEnd (m : Module) (c : Nat) (how : CanEnd) : Module :=
  match (m.canSt c).attempt with
  | none => m
  | some w =>
    let cancel := (m.canSt c).cancel
    let e := match w with
      | some o => Emission.can c (m.objFrame c o)
      | none => match (m.canSt c).head with
        | some h => Emission.canXl c (headFrame h)
        | none => Emission.canXl c { prio := 0 }
    let m := m.setCan c (fun s => { s with attempt := none })
    let m := (m.aloneRun c w how).canTec c how
    let m := match how with
      | .sent =>
        let m := { m with out := e :: m.out }
        (m.addW F.CAN_TX_FRAMES_COUNT 1 c).canAttemptDone c w true (if cancel then 0x0C else 0)
      | _ => m.when cancel (·.canAttemptDone c w false 0x0A)
    let m := m.setCan c (fun s => { s with cancel := false })
    m.when (m.canSt c).initDue (·.canInit c)

/-! ### Reception -/

/-- REC after a frame received (ISO 11898-1): one less; from above 127 to a value of 119 to 127 that the standard leaves
open (log entry 12). -/
def canRecDown (m : Module) (c : Nat) : Module :=
  let r := m.rd F.CAN_ERR_REC c
  if m.rd F.CAN_CTRL_MODE c = 2 then m
  else if r ≤ 127 then (m.wr F.CAN_ERR_REC (r - 1) c).canErrState c
  else
    let (m, v) := m.draw 9
    (m.wr F.CAN_ERR_REC (119 + v) c).canErrState c

/-- A Classical or FD frame of the bus is received by controller `c` (R588, R594, R598, R599). -/
def canReceives (m : Module) (c : Nat) (f : CanFrame) (own : Bool) : Bool :=
  m.canOnBus c && (! f.fdf || m.flag F.CAN_CTRL_FD_EN c) && (! own || m.rd F.CAN_CTRL_MODE c == 3)
    && ! (m.canSt c).busOff

/-- A frame becomes valid, `age` µs after its SOF (R598, R599, R612). -/
def canFrame (m : Module) (c : Nat) (f : CanFrame) (own : Bool) (age : Nat) : Module :=
  if ! m.canReceives c f own then m else
  let m := (m.addW F.CAN_RX_FRAMES_COUNT 1 c).canRecDown c
  m.canStore c ⟨f, (m.nowU - age) % 2 ^ 36⟩

/-- A protocol error of a received frame (R594, R595; ISO 11898-1): REC + 1, or + 8 for a dominant bit after its own error
flag; in LISTEN the counters stand still. -/
def canRxErr (m : Module) (c lec : Nat) (dp primary : Bool) : Module :=
  if ! (m.canOnBus c && ! (m.canSt c).busOff) then m else
  let m := m.canErrKind c lec dp
  if m.rd F.CAN_CTRL_MODE c = 2 then m else
  (m.addS F.CAN_ERR_REC (if primary then 8 else 1) c).canErrState c

/-! ### XL rings -/

/-- The transmit descriptor keeps R607: its buffer lies in SRAM or DRAM. -/
def xtxOk (w : List Nat) : Bool :=
  let g := fun i => w.getD i 0
  let buf := g 0 + g 1 * 2 ^ 32
  (memOf buf).isSome && (memOf (buf + g 4 - 1)).isSome && g 1 < 2 ^ 8 && bits (g 2) 15 12 == 0 && 1 ≤ g 4 && g 4 ≤ 2048 && g 5 == 0 && g 7 == 0

/-- The head XL descriptor and its buffer are read (R606–R608, R611). -/
def xlFetch (m : Module) (c : Nat) : Module :=
  let i := m.rd F.CAN_XTX_HEAD_IDX c
  if ! m.flag F.CAN_XTX_CFG_EN c || (m.canSt c).head.isSome || i == m.rd F.CAN_XTX_TAIL_IDX c % m.xlSize c true then m else
  let at_ := m.xlDesc c true i
  let (m, d) := m.busRead (m.iattr 0x25) at_ 32
  match d with
  | none => m.canDmaError c true at_ m.resp.status
  | some l =>
    let w := words l
    if ! xtxOk w then (m.xtxBack c i w 0 0 false 0x10).xtxHead c (i + 1)
    else
      let buf := w.getD 0 0 + w.getD 1 0 % 2 ^ 8 * 2 ^ 32
      let (m, d) := m.busRead (m.iattr 0x25) buf (w.getD 4 0)
      match d with
      | none => m.canDmaError c true buf m.resp.status
      | some data => m.setCan c (fun s => { s with head := some { idx := i, words := w, data := data } })

/-- The filter of CAN_XFLT that a frame matches (R610). -/
def xlFilter (m : Module) (c : Nat) (f : XlFrame) : Option Nat :=
  (List.range 16).find? (fun k => m.flag F.CAN_XFLT_A_EN c k
    && ((f.prio ^^^ m.rd F.CAN_XFLT_A_PRIO c k) &&& m.rd F.CAN_XFLT_A_PRIO_MASK c k) == 0
    && ((f.vcid ^^^ m.rd F.CAN_XFLT_B_VCID c k) &&& m.rd F.CAN_XFLT_B_VCID_MASK c k) == 0
    && (f.sdt == m.rd F.CAN_XFLT_B_SDT c k || ! m.flag F.CAN_XFLT_B_SDT_CMP c k))

/-- A matching XL frame is lost (R610). -/
def xlDrop (m : Module) (c : Nat) : Module := (m.addS F.CAN_XL_DROP_COUNT 1 c).raise F.CAN_EVT_XL_DROP c

/-- Controller `c` receives XL frames. -/
def xlReceives (m : Module) (c : Nat) : Bool := m.canOnBus c && m.flag F.CAN_CTRL_XL_EN c && ! (m.canSt c).busOff

/-- An XL frame becomes valid (R610). -/
def xlFrame (m : Module) (c : Nat) (f : XlFrame) (age : Nat) : Module :=
  if ! m.xlReceives c then m else
  let m := (m.addW F.CAN_RX_FRAMES_COUNT 1 c).canRecDown c
  match m.xlFilter c f with
  | none => m.addS F.CAN_RX_NOMATCH_COUNT 1 c
  | some k =>
    let held := (m.canSt c).held
    let n := m.xlSize c false
    let posted := (m.rd F.CAN_XRX_TAIL_IDX c + n - m.rd F.CAN_XRX_HEAD_IDX c % n) % n
    if 2 ≤ held.length || ! m.flag F.CAN_XRX_CFG_EN c || posted ≤ held.length then m.xlDrop c
    else m.setCan c (fun s => { s with held := s.held ++ [⟨f, k, (m.nowU - age) % 2 ^ 36⟩] })

/-- The oldest XL frame held is written out (R606, R609–R611). -/
def xlWriteback (m : Module) (c : Nat) : Module :=
  match (m.canSt c).held with
  | [] => m
  | h :: r =>
    if ! m.flag F.CAN_XRX_CFG_EN c then (m.setCan c (fun s => { s with held := r })).addS F.CAN_XL_DROP_COUNT 1 c else
    let i := m.rd F.CAN_XRX_HEAD_IDX c
    let at_ := m.xlDesc c false i
    let (m, d) := m.busRead (m.iattr 0x25) at_ 32
    match d with
    | none => m.canDmaError c false at_ m.resp.status
    | some l =>
      let w := words l
      let buf := w.getD 0 0 + w.getD 1 0 % 2 ^ 8 * 2 ^ 32
      let n := min h.f.data.length (w.getD 2 0 % 2 ^ 12)
      let (m, ok) := if n = 0 then (m, true) else m.busWrite (m.iattr 0x25) buf (h.f.data.take n)
      if ! ok then m.canDmaError c false buf m.resp.status else
      let out := [h.u % 2 ^ 32, h.u / 2 ^ 32 % 16 + h.flt * 2 ^ 4,
        h.f.prio % 2 ^ 11 + b2n h.f.sec * 2 ^ 11 + h.f.sdt % 2 ^ 8 * 2 ^ 16 + h.f.vcid % 2 ^ 8 * 2 ^ 24, h.f.af, n, 0, w.getD 6 0,
        (if n < h.f.data.length then 0x12 else 0) + 2 ^ 31]
      let (m, ok) := m.busWrite (m.iattr 0x25) at_ (out.flatMap (toBytes 4))
      if ! ok then m.canDmaError c false at_ m.resp.status else
      let m := m.setCan c (fun s => { s with held := r })
      (m.wr F.CAN_XRX_HEAD_IDX ((i + 1) % m.xlSize c false) c).raise F.CAN_EVT_XL_RX c

end Module

/-! ### Commands -/

/-- OPEN (R600, R601, R617): a write of CAN_CMD. -/
def execCanOpen (a : Access) (c : Fin 12) (obj : Fin 128) (s : State) : Host.Outcome State Fault Refusal :=
  s.runBy a 1 (fun a m => m.access a (Module.canAddr c.val 0x14) 1 (·.canCommandAt c.val 1 obj.val))

/-- CLOSE (R600, R601, R617). -/
def execCanClose (a : Access) (c : Fin 12) (obj : Fin 128) (s : State) : Host.Outcome State Fault Refusal :=
  s.runBy a 1 (fun a m => m.access a (Module.canAddr c.val 0x14) 1 (·.canCommandAt c.val 2 obj.val))

/-- CAN_CANCEL (R601, R604, R614, R617). -/
def execCanCancel (a : Access) (c : Fin 12) (obj : Fin 128) (s : State) : Host.Outcome State Fault Refusal :=
  s.runBy a 1 (fun a m => m.access a (Module.canAddr c.val 0x14) 1 (·.canCommandAt c.val 4 obj.val))

/-- XTX_CANCEL (R601, R608, R617). -/
def execXtxCancel (a : Access) (c : Fin 12) (obj : Fin 128) (s : State) : Host.Outcome State Fault Refusal :=
  s.runBy a 1 (fun a m => m.access a (Module.canAddr c.val 0x14) 1 (·.canCommandAt c.val 5 obj.val))

/-- RECOVER (R596, R601). -/
def execCanRecover (a : Access) (c : Fin 12) (obj : Fin 128) (s : State) : Host.Outcome State Fault Refusal :=
  s.runBy a 1 (fun a m => m.access a (Module.canAddr c.val 0x14) 1 (·.canCommandAt c.val 6 obj.val))

/-- CAN_MODE_WRITE (R592, R594, R605, R617): a write of CAN_CTRL. -/
def execCanModeWrite (a : Access) (c : Fin 12) (v : Word) (s : State) : Host.Outcome State Fault Refusal :=
  s.runBy a 1 (fun a m => m.access a (Module.canAddr c.val 0) 1 (·.canControl c.val v.toNat))

/-- SYNCED (R594): 11 recessive bits after INIT. -/
def execCanSynced (c : Fin 12) (s : State) : Host.Outcome State Fault Refusal :=
  s.runIn 0x0A (fun m => m.when (m.rd F.CAN_CTRL_MODE c.val != 0) (·.raise F.CAN_STAT_SYNCED c.val))

/-- CAN_TX_ATTEMPT (R593, R602–R605, R612, R614). -/
def execCanTxAttempt (c : Fin 12) (delay : Nat) (s : State) : Host.Outcome State Fault Refusal :=
  s.runIn 0x0A (fun m => m.canAttempt c.val delay)

/-- CAN_TX_END (R595, R604, R605, R608). -/
def execCanTxEnd (c : Fin 12) (how : CanEnd) (s : State) : Host.Outcome State Fault Refusal :=
  s.runIn 0x0A (fun m => m.canAttemptEnd c.val how)

/-- BUS_OFF (R596): the transmit error counter has passed 255. -/
def execCanBusOff (c : Fin 12) (s : State) : Host.Outcome State Fault Refusal := s.runIn 0x0A (fun m => m.canBusOff c.val)

/-- RECOVERED (R596). -/
def execCanRecovered (c : Fin 12) (s : State) : Host.Outcome State Fault Refusal := s.runIn 0x0A (fun m => m.canRecovered c.val)

/-- DOM_TIMEOUT (R590): the flag is set, and the state counts as a bit error of the attempt. -/
def execCanDomTimeout (c : Fin 12) (s : State) : Host.Outcome State Fault Refusal :=
  s.runIn 0x0A (fun m => (m.canAttemptEnd c.val (.error 5 false false)).raise F.CAN_STAT_DOM_TIMEOUT c.val)

/-- XL_TX_FETCH (R606–R608, R611). -/
def execXlTxFetch (c : Fin 12) (s : State) : Host.Outcome State Fault Refusal := s.runIn 0x0A (fun m => m.xlFetch c.val)

/-- XL_RX_WRITEBACK (R606, R609–R611). -/
def execXlRxWriteback (c : Fin 12) (s : State) : Host.Outcome State Fault Refusal := s.runIn 0x0A (fun m => m.xlWriteback c.val)

/-- CAN_DMA_ERROR (R611). -/
def execCanDmaError (c : Fin 12) (tx : Bool) (addr status : Nat) (s : State) : Host.Outcome State Fault Refusal :=
  s.runIn 0x0A (fun m => m.canDmaError c.val tx addr status)

/-- CAN_RX_ERROR (R595). -/
def execCanRxError (c : Fin 12) (lec : Nat) (dataPhase primary : Bool) (s : State) : Host.Outcome State Fault Refusal :=
  s.runIn 0x0A (fun m => m.canRxErr c.val lec dataPhase primary)

end Sys2Proof.Machine
end

