-- ==== Sys2Proof/Machine/Pair.lean ====
section
/-!
DEFINITION. What passes between the two modules of a duplex: DPX's frames on the pair link and the uplinks (R696–R700), and
the channel of the pair bridge (R726–R735, R742–R744).
-/
namespace Sys2Proof.Machine

/-- The message kinds that carry a sequence number (R732). -/
def sequenced (kind : Nat) : Bool := decide (0x11 ≤ kind) && decide (kind ≤ 0x19)

/-- The message kinds that use a request credit (R732). -/
def isRequest (kind : Nat) : Bool := kind == 0x11 || kind == 0x13 || kind == 0x15

/-- The message kinds that answer a request (R732). -/
def isResponse (kind : Nat) : Bool := kind == 0x12 || kind == 0x14 || kind == 0x16

namespace Module

/-! ### DPX frames -/

/-- The unit number (R85, R721). -/
def unitNo (m : Module) : Nat := m.rd F.SYSCTL_ID_UNIT

/-- ROLE (R687): 0 OFF, 1 LISTEN, 2 ACTIVE, 3 RELEASED, 4 STANDBY_SYNC, 5 STANDBY_READY, 6 HANDOVER, 7 INCOMPATIBLE. -/
def role (m : Module) : Nat := m.rd F.DPX_STATE_ROLE

/-- VAUX is in the hold-up state (R91). -/
def inHoldup (m : Module) : Bool := m.rd F.HST_SUP_STAT_VAUX_STATE == 2

/-- The role sends frames (R696); in hold-up none does (R96, R720). -/
def talks (m : Module) : Bool := (m.role == 2 || m.role == 4 || m.role == 5 || m.role == 6) && ! m.inHoldup

/-- The link of a port (R491); P15 has none and is always up. -/
def linkUp (m : Module) (p : Nat) : Bool := p == 15 || m.flag F.SWC_PORT_STAT_LINK p

/-- Frames can pass on path `k`: the link of P02 is up, or that of a port in UPLINKS; the CAN path has no port (R684, R696,
R823). -/
def pathOpen (m : Module) (k : Nat) : Bool :=
  if k = 0 then m.linkUp 2 else if k = 1 then (bitsSet 2 (m.rd F.DPX_CFG_UPLINKS)).any (m.linkUp ·) else true

/-- Path `k` is lost (R699). -/
def pathLost (m : Module) (k : Nat) : Bool := m.flag F.DPX_PATH_LOST k

/-- Byte 2 of a DPX frame (R697). -/
def headByte (m : Module) (path : Nat) : Nat :=
  m.unitNo % 2 + m.role * 2 + m.rd F.DPX_STATE_COLLAR_OUT * 16 + m.rd F.DPX_STATE_COLLAR_IN * 32 + path * 64

/-- The frame `l`, without FCS, enters the class 7 queue of port `p` from the pair agent, without parse or lookup (R462); none
does while the link of the port is down (R491). -/
def agentFrame (m : Module) (p : Nat) (l : List Byte) : Module :=
  let w := m.swc
  let f : SwFrame := { id := w.nextId, kind := .fromAgent, inPort := 16, bytes := withFcs l, cls := 7, ended := true
                       parsed := m.rd F.LSS_MTIME_US, held := (l.length + 259) / 256
                       copies := [{ port := p, cls := 7, pos := some w.nextPos }] }
  m.when (m.linkUp p) (fun m =>
    { m with swc := { w with frames := w.frames ++ [f], nextId := w.nextId + 1, nextPos := w.nextPos + 1 } })

/-- A payload leaves as a frame of EtherType 0x88B5 through port `p`: untagged on P02, tagged with VID and PCP 7 on an uplink
(R462, R696). -/
def pairFrame (m : Module) (p : Nat) (payload : List Byte) : Module :=
  let da := netBytes 2 (m.rd F.DPX_PEER_MAC_HI_ADDR) ++ netBytes 4 (m.rd F.DPX_PEER_MAC_LO_ADDR)
  let sa := netBytes 2 (m.rd F.MAC_ADDR_HI_ADDR p) ++ netBytes 4 (m.rd F.MAC_ADDR_LO_ADDR p)
  let tag := if p = 2 then [] else netBytes 2 0x8100 ++ netBytes 2 (7 * 2 ^ 13 + m.rd F.DPX_PEER_MAC_HI_VID)
  let body := payload ++ List.replicate (46 - payload.length) 0
  m.agentFrame p (da ++ sa ++ tag ++ netBytes 2 0x88B5 ++ body)

/-- A payload leaves on path `k`: P02, or every port in UPLINKS (R696). -/
def onPath (m : Module) (k : Nat) (payload : List Byte) : Module :=
  if k = 0 then m.pairFrame 2 payload
  else forEach (bitsSet 2 (m.rd F.DPX_CFG_UPLINKS)) (fun p m => m.pairFrame p payload) m

/-- A control frame (R700), on path 0, or on path 1 while path 0 is lost. -/
def dpxControl (m : Module) (op sweep cycle segs : Nat) : Module :=
  if ! m.talks then m else
  let k := b2n (m.pathLost 0)
  m.onPath k ([1, 3, BitVec.ofNat 8 (m.headByte k), BitVec.ofNat 8 op] ++ netBytes 4 sweep ++ netBytes 4 cycle
    ++ netBytes 4 segs ++ netBytes 4 (m.rd F.DPX_PAIR_ID_ID))

/-! ### The channel of the bridge -/

/-- Change what PBR holds. -/
def setPbr (m : Module) (f : PbrSt → PbrSt) : Module := { m with pbr := f m.pbr }

/-- The path that carries the bridge (R728). -/
def bridgePath (m : Module) : Nat := b2n (m.pathLost 0 && ! m.pathLost 1)

/-- A message leaves, with the fields of its sender (R731, R743; log entry 51); none leaves while no link of its path is up
(R491). -/
def emitMsg (m : Module) (x : BridgeMsg) : Module :=
  let x := { x with unit := m.unitNo, blocked := m.flag F.PBR_STAT_BLOCKED, path := m.bridgePath
                    ack := m.pbr.lastSeq, session := m.rd F.PBR_SESSION_OWN }
  if m.pathOpen m.bridgePath then { m with out := .bridge x :: m.out } else m

/-- HELLO (R727, R731). -/
def sendHello (m : Module) : Module :=
  m.emitMsg { kind := 0x10, len := 8
              data := netBytes 4 (m.rd F.DPX_PAIR_ID_ID) ++ netBytes 2 (m.rd F.PBR_SESSION_PEER) ++ [0, 0] }

/-- Requests outstanding: transmitted, and not answered (R735). -/
def outstanding (m : Module) : Nat := (m.pbr.reqs.filter (·.sent)).length

/-- PBR_STAT shows the outstanding and inbound requests and the holding buffer (R756). -/
def showPbr (m : Module) : Module :=
  ((m.wr F.PBR_STAT_OUT_OCC m.outstanding).wr F.PBR_STAT_IN_OCC (m.pbr.inq.filter (fun x => isRequest x.msg.kind)).length).wr
    F.PBR_STAT_HOLD_OCC m.pbr.holding.length

/-- The head of the channel cannot be sent: 64 messages are unacknowledged, or it is a request without credit (R734,
R735). -/
def headWaits (m : Module) (x : BridgeMsg) : Bool :=
  decide (64 ≤ m.pbr.unacked.length) || (isRequest x.kind && decide (32 ≤ m.outstanding))

/-- The head of the channel is sent: BLOCKED clears when it is a request, and a response is one the retry queue waits for no
more (R743, R744; log entry 13). -/
def sendHead (m : Module) (x : BridgeMsg) (r : List BridgeMsg) : Module :=
  let x := { x with seq := m.pbr.nextSeq }
  let m := m.when (isRequest x.kind) (fun m =>
    (m.lower F.PBR_STAT_BLOCKED).setPbr (fun p =>
      { p with reqs := p.reqs.map (fun q => if q.tag = x.tag then { q with sent := true } else q) }))
  let t := m.now
  let m := m.setPbr (fun p =>
    { p with queue := r, nextSeq := (p.nextSeq + 1) % 2 ^ 16, unacked := p.unacked ++ [{ msg := x, sentUs := t }]
             retryTags := if isResponse x.kind then p.retryTags.erase x.tag else p.retryTags })
  m.emitMsg x

/-- Send from the head of the channel while it can be sent (R734, R735), at most `n` messages. -/
def pumpN : Nat → Module → Module
  | 0, m => m
  | n + 1, m =>
    match m.pbr.queue with
    | [] => m
    | x :: r => if m.headWaits x then m else pumpN n (m.sendHead x r)

/-- The head of the channel is a request without credit (R735, R743). -/
def headStalled (m : Module) : Bool :=
  m.bridgeUp && (match m.pbr.queue with | x :: _ => isRequest x.kind && decide (32 ≤ m.outstanding) | [] => false)

/-- The time for which the head has waited for credit runs, or ends (R743). -/
def headTime (m : Module) : Module :=
  let t := m.now + 1
  m.setPbr (fun p => { p with headUs := if ! m.headStalled then 0 else if p.headUs = 0 then t else p.headUs })

/-- Send what can be sent (log entry 13). -/
def pump (m : Module) : Module := (if m.bridgeUp then pumpN m.pbr.queue.length m else m).headTime.showPbr

/-- A message joins the channel: behind the retry queue while one is held, where it is a request or a doorbell (R744,
R754; log entry 13). -/
def enqueue (m : Module) (x : BridgeMsg) : Module :=
  if m.flag F.PBR_STAT_RETRACTED && (isRequest x.kind || x.kind == 0x17) then m.setPbr (fun p => { p with retry := p.retry ++ [x] })
  else (m.setPbr (fun p => { p with queue := p.queue ++ [x] })).pump

/-- A tag that no request uses (log entry 13). -/
def freeTag (m : Module) : Nat :=
  ((List.range 256).find? (fun t => m.pbr.reqs.all (fun q => q.tag != t))).getD 0

/-- A request joins the channel under a free tag. -/
def request (m : Module) (q : BridgeReq) (x : BridgeMsg) : Module :=
  let t := m.freeTag
  (m.setPbr (fun p => { p with reqs := p.reqs ++ [{ q with tag := t }] })).enqueue { x with tag := t }

/-! ### Deferred reads -/

/-- LSS tells that the read with CID `c` committed or was discarded (R749; log entry 14). -/
def bridgeVerdict (m : Module) (c : Nat) (commit : Bool) : Module :=
  match m.pbr.defers.find? (fun d => d.cid == c && ! d.committed) with
  | none => m
  | some d =>
    let gone := m.setPbr (fun p => { p with defers := p.defers.filter (fun e => e.cid != c || e.committed) })
    if d.lost then gone.when commit (·.logBlk 0x0F 0x2F05 d.addr (c + d.part * 2 ^ 8))
    else if commit then
      (m.setPbr (fun p => { p with defers := p.defers.map (fun e => if e.cid = c then { e with committed := true } else e) })).enqueue
        { kind := 0x18, cid := c }
    else gone.enqueue { kind := 0x19, cid := c }

/-! ### The link goes UP -/

/-- The conditions of R726 but the session. -/
def mayLink (m : Module) : Bool := m.flag F.PBR_CTRL_EN && m.talks

/-- The link goes UP when both HELLOs have arrived (R726, R727). -/
def linkEstablish (m : Module) : Module :=
  if m.bridgeUp || ! m.mayLink || ! m.pbr.paired || ! m.pbr.named then m
  else (m.raise F.PBR_STAT_LINK).raise F.PBR_EVT_LINK_UP

/-! ### The link goes DOWN -/

/-- A new nonzero session value is drawn (R727; log entry 13). -/
def newSession (m : Module) : Module :=
  let (m, v) := m.draw 65535
  m.wr F.PBR_SESSION_OWN (v + 1)

/-- A word leaves the holding buffer unread (R751): `byLink` says why. -/
def holdingLoss (m : Module) (addr : Nat) (byLink : Bool) : Module :=
  let m := (m.addS F.PBR_CNT_LOSS_COUNT 1).raise F.PBR_EVT_PREFETCH_LOSS
  (m.wr F.PBR_LAST_LOSS_ADDR addr).logBlk 0x0F 0x2F03 addr (b2n byLink)

/-- The kind of access of a waiting request: 0 a read, 1 a write. -/
def reqKind (q : BridgeReq) : Nat := if q.kind = 0x11 then 0 else 1

/-- The link goes DOWN (R729): `cause` in the order of its list (log entry 14). -/
def linkDown (m : Module) (cause : Nat) : Module :=
  if ! m.bridgeUp then m else
  let ended := m.pbr.reqs.filter (·.waits)
  let lost := m.pbr.defers.filter (·.committed)
  let effects := m.pbr.effects
  let held := m.pbr.holding
  let m := m.lower F.PBR_STAT_LINK
  let m := ended.foldl (fun m q => m.refuse q.acc q.addr (reqKind q) { status := 0x0F, code := 9, block := 0x0F }) m
  let m := m.setPbr (fun p =>
    { p with queue := [], unacked := [], retry := [], retryTags := [], reqs := [], inq := [], sems := [], effects := []
             prefetch := [], holding := [], paired := false, named := false, nextSeq := 1, lastSeq := 0
             defers := (p.defers.filter (fun d => ! d.committed)).map (fun d => { d with lost := true }) })
  let m := effects.reverse.foldl (fun (m : Module) e => m.giveBack e.effect) m
  let m := lost.foldl (fun m d => m.logBlk 0x0F 0x2F05 d.addr (d.cid + d.part * 2 ^ 8)) m
  let m := held.foldl (fun m h => m.holdingLoss h.addr true) m
  let m := ((m.lower F.PBR_STAT_BLOCKED).lower F.PBR_STAT_RETRACTED).lower F.PBR_STAT_PEER_BLOCKED
  let m := (m.raise F.PBR_EVT_LINK_DOWN).addW F.PBR_CNT_CROSS_DOWNS 1
  let m := m.logBlk 0x0F 0x2F01 0 (cause + min 255 ended.length * 2 ^ 8)
  m.newSession.showSems.showPbr

end Module

end Sys2Proof.Machine
end

