-- ==== Sys2Proof/Machine/Tmu.lean ====
section
/-!
DEFINITION. The time unit (chapter 13): the time counter, its servo, the time pins and the monotonic timers.
-/
namespace Sys2Proof.Machine

/-- The bound of RATE and of the integrator (R554, R562): ±500 ppm. -/
def rateMax : Int := 5368709

/-- Kept within ±`rateMax` (log entry 37). -/
def clampRate (x : Int) : Int := clampInt (-rateMax) rateMax x

/-- The full value of 32-bit seconds `sec` that lies within 2^31 s of the present time `now`, in ns: not below it by more, and
above it by less (R577, R581). -/
def nearSeconds (now sec : Nat) : Nat :=
  let half := 2 ^ 31 * 1000000000
  let base := now / 1000000000 / 2 ^ 32 * 2 ^ 32 + sec
  if base * 1000000000 + half < now then base + 2 ^ 32
  else if now + half ≤ base * 1000000000 ∧ 2 ^ 32 ≤ base then base - 2 ^ 32 else base

namespace Module

/-- The signed value of a 32-bit field. -/
def rdS (m : Module) (f : Fam) : Int := signed f.width (m.rd f)

/-- Store a signed value. -/
def wrS (m : Module) (f : Fam) (x : Int) : Module := m.wr f (unsigned f.width x)

/-- Seconds of the time counter. -/
def taiSec (m : Module) : Nat := m.tai / 1000000000

/-- The counter one µs later (R554): 400 ticks of CLK_FAB, each of 2.5 ns + RATE × 2^−32 ns; seconds wrap at 48 bits. A pulse
of PPS_OUT is due where it crosses a whole second less ADV_NS (R575; log entry 37). -/
def tmuTick (m : Module) : Module :=
  let t := ((m.tmu.t : Int) + 1000 * 4294967296 + 400 * m.rdS F.TMU_RATE_RATE).toNat
  let sec := fun (ns : Nat) => (ns + m.rd F.TMU_PPS_OUT_ADV_ADV_NS) / 1000000000
  let due := m.flag F.TMU_PPS_OUT_EN && sec (t / 2 ^ 32) != sec m.tai
  { m with tmu := { m.tmu with t := t % (2 ^ 48 * 1000000000 * 2 ^ 32), ppsDue := m.tmu.ppsDue || due } }

/-! ### Scheduled outputs -/

/-- Output `k`. -/
def evo (m : Module) (k : Nat) : EvoSt := tget {} m.tmu.evo k

/-- Store output `k`. -/
def setEvo (m : Module) (k : Nat) (x : EvoSt) : Module := { m with tmu := { m.tmu with evo := tset {} m.tmu.evo k x } }

/-- The first START + n × PERIOD after `now` (R577). -/
def nextPeriod (start period now : Nat) : Nat :=
  if now < start then start else if period = 0 then now + 1 else start + ((now - start) / period + 1) * period

/-- An edge of output `k` comes (R577): a rising edge for its mode, or the fall that ends a pulse. -/
def evoEdgeNow (m : Module) (k : Nat) : Module :=
  let x := m.evo k
  let mode := m.rd F.TMU_EVO_CTRL_MODE k
  let period := m.rd F.TMU_EVO_PERIOD_NS k
  if x.falls then
    let m := m.setEvo k { x with pin := false, falls := false }
    m.when (mode == 1) (·.lower F.TMU_EVO_STAT_ARMED k)
  else if mode = 3 then
    (m.setEvo k { x with pin := m.flag F.TMU_EVO_CTRL_LEVEL k, fired := true }).lower F.TMU_EVO_STAT_ARMED k
  else
    m.setEvo k
      { x with pin := true, falls := true, fired := true, roseUs := m.boot.us
               next := nextPeriod x.start period (max m.tai x.next) }

/-- The next edge of output `k` comes within the present µs of the counter: the fall that ends its pulse, or the rise at START
or at START + n × PERIOD_NS (R577; log entry 37). -/
def evoDue (m : Module) (k : Nat) : Bool :=
  let x := m.evo k
  if x.falls then decide (m.rd F.TMU_EVO_WIDTH_NS k < (m.boot.us + 1 - x.roseUs) * 1000)
  else m.flag F.TMU_EVO_STAT_ARMED k && decide (x.next < m.tai + 1000)

/-- The first edge of output `k` comes late, at once (R577). -/
def evoLate (m : Module) (k : Nat) : Module :=
  (((m.evoEdgeNow k).raise F.TMU_EVO_STAT_OUT_LATE k).raise F.TMU_EVT_OUT_LATE)

/-- After a step (R577, R583): an armed output whose START was passed comes late; a periodic one goes on at the first edge
ahead. -/
def evoStepped (m : Module) : Module :=
  forEach (List.range 4) (fun k m =>
    let x := m.evo k
    let mode := m.rd F.TMU_EVO_CTRL_MODE k
    if ! m.flag F.TMU_EVO_STAT_ARMED k || mode == 0 then m
    else if ! x.fired then (if x.start ≤ m.tai then m.evoLate k else m)
    else if mode = 2 then m.setEvo k { x with next := nextPeriod x.start (m.rd F.TMU_EVO_PERIOD_NS k) m.tai }
    else m) m

/-- A write of TMU_EVO_CTRL (R577; log entry 37). -/
def evoControl (m : Module) (k v : Nat) : Module :=
  let m := (m.wr F.TMU_EVO_CTRL_MODE (bits v 1 0) k).wr F.TMU_EVO_CTRL_LEVEL (bits v 2 2) k
  if bits v 1 0 = 0 then (m.setEvo k {}).lower F.TMU_EVO_STAT_ARMED k
  else
    let start := nearSeconds m.tai (m.rd F.TMU_EVO_START_SEC_SEC k) * 1000000000 + m.rd F.TMU_EVO_START_NS_NS k
    let m := (m.setEvo k { start := start, next := start, pin := (m.evo k).pin }).raise F.TMU_EVO_STAT_ARMED k
    if start ≤ m.tai then m.evoLate k else m

/-! ### Steps and the servo -/

/-- The counter steps by `d` ns (R559, R560, R584, R585); none where it would fall below 0 (log entry 37). -/
def tmuStep (m : Module) (d : Int) : Option Module :=
  let t := (m.tmu.t : Int) + d * 4294967296
  if t < 0 then none
  else
    let m := { m with tmu := { m.tmu with t := t.toNat % (2 ^ 48 * 1000000000 * 2 ^ 32) } }
    let m := m.raise F.TMU_EVT_STEPPED
    let w := unsigned 64 d
    some ((m.logBlk 9 0x2901 0 (w % 2 ^ 32) (w / 2 ^ 32)).evoStepped)

/-- SERVO state `st` is entered (R561). -/
def servoEnter (m : Module) (st : Nat) : Module :=
  let m := m.wr F.TMU_STAT_STATE st
  let m := { m with tmu := { m.tmu with miss := 0 } }
  if st = 2 then m.raise F.TMU_EVT_LOCKED
  else
    let m := m.wr F.TMU_STAT_LOCK_RUN 0
    if st = 3 then (m.wrS F.TMU_RATE_RATE (- m.rdS F.TMU_SRV_INTEG_I)).raise F.TMU_EVT_HOLDOVER else m

/-- HOLDOVER is entered for `cause` and logged (R561, R564, R584). -/
def enterHoldover (m : Module) (cause : Nat) : Module :=
  (m.servoEnter 3).logBlk 9 0x2902 0 cause (unsigned 32 (- m.rdS F.TMU_SRV_INTEG_I))

/-- A step by software takes a LOCKED servo to ACQUIRE (R561). -/
def unlock (m : Module) : Module := if m.rd F.TMU_STAT_STATE = 2 then m.servoEnter 1 else m

/-- TMU_SET_STAT of a SET or ADJ that ended (R559). -/
def setDone (m : Module) (st : Nat) : Module := (m.wr F.TMU_SET_STAT_STATUS st).raise F.TMU_EVT_SET_DONE

/-- A write of TMU_SET_CMD (R559, R561). -/
def setCommand (m : Module) (v : Nat) : Module :=
  if bits v 31 16 ≠ 0x544D then m
  else if bits v 1 0 = 1 then
    let ns := m.rd F.TMU_SET_NS_NS
    if 1000000000 ≤ ns then m.setDone 0x10
    else
      let sec := m.rd F.TMU_SET_SEC_LO_SEC + m.rd F.TMU_SET_SEC_HI_SEC * 2 ^ 32
      let d : Int := ((sec * 1000000000 + ns : Nat) : Int) - (m.tai : Int)
      let m := { m with tmu := { m.tmu with t := m.tai * 2 ^ 32 } }
      match m.tmuStep d with
      | some m => (m.setDone 0).unlock
      | none => m.setDone 0x10
  else if bits v 1 0 = 2 then
    match m.tmuStep (signed 64 (m.rd F.TMU_ADJ_NS_NS)) with
    | some m => (m.setDone 0).unlock
    | none => m.setDone 0x10
  else m

/-- The lock count and the state after a sample of magnitude `a` (R561; log entry 37). -/
def servoLock (m : Module) (a : Nat) : Module :=
  let m := if m.rd F.TMU_STAT_STATE = 3 then m.servoEnter 1 else m
  if a ≤ m.rd F.TMU_SRV_CFG2_LOCK_NS then
    let run := min 8 (m.rd F.TMU_STAT_LOCK_RUN + 1)
    let m := m.wr F.TMU_STAT_LOCK_RUN run
    let m := { m with tmu := { m.tmu with miss := 0 } }
    if run = 8 ∧ m.rd F.TMU_STAT_STATE = 1 then m.servoEnter 2 else m
  else
    let m := m.wr F.TMU_STAT_LOCK_RUN 0
    let n := m.tmu.miss + 1
    let m := { m with tmu := { m.tmu with miss := n } }
    if 4 ≤ n ∧ m.rd F.TMU_STAT_STATE = 2 then m.servoEnter 1 else m

/-- The servo handles the sample `o` (R562, R564; log entry 37). -/
def servoSample (m : Module) (o : Int) : Module :=
  let m := { m.wrS F.TMU_SRV_LAST_NS o with tmu := { m.tmu with sampleUs := m.boot.us } }
  if m.flag F.TMU_CTRL_STEP_EN && decide (1000000 < o.natAbs) then
    match m.tmuStep (-o) with
    | some m => m.addW F.TMU_STEP_CNT_COUNT 1
    | none => m
  else
    let i := clampRate (m.rdS F.TMU_SRV_INTEG_I + (m.rd F.TMU_SRV_CFG_KI : Int) * o / 256)
    let r := clampRate (- ((m.rd F.TMU_SRV_CFG_KP : Int) * o / 256) - i)
    ((m.wrS F.TMU_SRV_INTEG_I i).wrS F.TMU_RATE_RATE r).servoLock o.natAbs

/-- A sample that software writes (R562). -/
def softSample (m : Module) (v : Nat) : Module :=
  if ! m.flag F.TMU_CTRL_SERVO_EN || m.flag F.TMU_CTRL_SRC then m
  else if v = 0x80000000 then m.addS F.TMU_STEP_CNT_SRV_BAD 1
  else m.servoSample (signed 32 v)

/-- A rising edge of PPS_IN (R567, R568). -/
def ppsIn (m : Module) : Module :=
  let c := m.tai
  let m := { m.wr F.TMU_PPS_IN_CAP_T c with tmu := { m.tmu with ppsUs := m.boot.us } }
  if ! m.flag F.TMU_CTRL_SERVO_EN || ! m.flag F.TMU_CTRL_SRC then m else
  let s := (c + 500000000) / 1000000000
  let o : Int := (c : Int) - ((s * 1000000000 : Nat) : Int)
  if m.flag F.TMU_TOD_VALID then
    let tod : Nat := m.rd F.TMU_TOD_SEC_LO_SEC + m.rd F.TMU_TOD_SEC_HI * 2 ^ 32
    (m.lower F.TMU_TOD_VALID).servoSample (((s : Int) - (tod : Int)) * 1000000000 + o)
  else m.servoSample o

/-- A write of TMU_CTRL (R561). -/
def tmuControl (m : Module) (v : Nat) : Module :=
  let was := m.flag F.TMU_CTRL_SERVO_EN
  let src := m.flag F.TMU_CTRL_SRC
  let m := ((m.wr F.TMU_CTRL_SERVO_EN (bits v 0 0)).wr F.TMU_CTRL_SRC (bits v 1 1)).wr F.TMU_CTRL_STEP_EN (bits v 2 2)
  let m := m.when (bit v 1 && ! src) (fun m => { m with tmu := { m.tmu with ppsUs := m.boot.us } })
  if bit v 0 && ! was then { m.servoEnter 1 with tmu := { (m.servoEnter 1).tmu with sampleUs := m.boot.us } }
  else if ! bit v 0 && was then m.servoEnter 0 else m

/-- No sample has come for 3 sync intervals (R563), of 2^LOG_INT s, or of 1 s with SRC = 1. -/
def samplesMissed (m : Module) : Bool :=
  let log : Int := if m.flag F.TMU_CTRL_SRC then 0 else signed 4 (m.rd F.TMU_SRV_CFG2_LOG_INT)
  decide (3000000 * 2 ^ (log + 8).toNat ≤ (m.boot.us - m.tmu.sampleUs) * 2 ^ 8)

/-- A write of TMU_SRV_CTRL (R564): SRV_RESET, then RESELECT. -/
def srvControl (m : Module) (v : Nat) : Module :=
  let m := m.when (bit v 1) (·.wr F.TMU_SRV_INTEG_I 0)
  let st := m.rd F.TMU_STAT_STATE
  if bit v 0 && (st == 1 || st == 2) then m.enterHoldover 1 else m

/-! ### Event inputs -/

/-- The FIFO of EVT_INk. -/
def evi (m : Module) (k : Nat) : List EviEntry := tget [] m.tmu.evi k

/-- Store the FIFO of EVT_INk. -/
def setEvi (m : Module) (k : Nat) (l : List EviEntry) : Module := { m with tmu := { m.tmu with evi := tset [] m.tmu.evi k l } }

/-- An edge of EVT_INk (R576): captured where EDGE selects it; a full FIFO loses it. -/
def evtIn (m : Module) (k : Nat) (falling : Bool) : Module :=
  let e := m.rd F.TMU_EVI_CTRL_EDGE k
  if ! bit e (b2n falling) then m
  else if 16 ≤ (m.evi k).length then
    ((m.addS F.TMU_EVI_CTRL_OVF_CNT 1 k).raise F.TMU_EVT_EVI_OVF).logBlk 9 0x2903 0 k
  else (m.setEvi k (m.evi k ++ [⟨m.tai, falling⟩])).raise F.TMU_EVT_EVI

/-- TMU_EVI_NS as a word: the head entry, or 0. -/
def eviWord (m : Module) (k : Nat) : Nat :=
  match (m.evi k).head? with
  | some e => e.t % 1000000000 + b2n e.fall * 2 ^ 30 + 2 ^ 31
  | none => 0

/-- What a read of TMU_EVI_NS does (R576): it pops the head entry. -/
def eviPlan (m : Module) (k : Nat) : RePlan :=
  { value := m.eviWord k, what := (m.evi k).head?.map (.evi k), effect := fun m => m.setEvi k ((m.evi k).drop 1) }

/-- A read of TMU_EVI_NS (R376, R377, R576). -/
def eviRead (m : Module) (a : Access) (k : Nat) : Module := m.rePlanned a (0x20700108 + 16 * k) (m.eviPlan k)

/-! ### Timers -/

/-- Timer `n` starts from `us` (R578). -/
def timerStart (m : Module) (n us : Nat) : Module :=
  let m := m.wr F.TMU_TMR_REMAIN_US us n
  { m with tmu := { m.tmu with timers := setBit m.tmu.timers n true } }

/-- Timer `n` stops. -/
def timerStop (m : Module) (n : Nat) : Module :=
  let m := m.wr F.TMU_TMR_REMAIN_US 0 n
  { m with tmu := { m.tmu with timers := setBit m.tmu.timers n false } }

/-- Timer `n` reaches 0 (R578): it reloads or stops. -/
def timerExpire (m : Module) (n : Nat) : Module :=
  let m := m.setMap F.TMU_TMR_EVT_EXPIRED n
  let m := m.when (decide (8 ≤ n)) (·.raise F.TMU_EVT_TMR)
  if m.flag F.TMU_TMR_CTRL_PERIODIC n then m.timerStart n (m.rd F.TMU_TMR_LOAD_US n) else m.timerStop n

end Module

/-! ### Commands -/

/-- SET (R559–R561): a write of TMU_SET_CMD. -/
def execTmuSet (a : Access) (v : Word) (s : State) : Host.Outcome State Fault Refusal :=
  s.runBy a 1 (fun a m => m.access a 0x2070004C 1 (·.setCommand v.toNat))

/-- ADJ (R559–R561): a write of TMU_SET_CMD. -/
def execTmuAdj (a : Access) (v : Word) (s : State) : Host.Outcome State Fault Refusal :=
  s.runBy a 1 (fun a m => m.access a 0x2070004C 1 (·.setCommand v.toNat))

/-- SERVO_EN_WRITE (R561): a write of TMU_CTRL. -/
def execServoEnWrite (a : Access) (v : Word) (s : State) : Host.Outcome State Fault Refusal :=
  s.runBy a 1 (fun a m => m.access a 0x20700000 1 (·.tmuControl v.toNat))

/-- OFFSET_SAMPLE (R560–R562, R564): a write of TMU_SRV_OFS. -/
def execOffsetSample (a : Access) (v : Word) (s : State) : Host.Outcome State Fault Refusal :=
  s.runBy a 1 (fun a m => m.access a 0x20700060 1 (·.softSample v.toNat))

/-- PPS_IN_EDGE (R561, R562, R567, R568). -/
def execPpsInEdge (s : State) : Host.Outcome State Fault Refusal := s.runIn 9 (fun m => m.ppsIn)

/-- PPS_MISS (R568): no pulse has come for 3 s. -/
def execPpsMiss (s : State) : Host.Outcome State Fault Refusal :=
  s.runIn 9 (fun m => m.when (m.flag F.TMU_CTRL_SRC && decide (m.tmu.ppsUs + 3000000 ≤ m.boot.us)) (·.raise F.TMU_EVT_PPS_MISS))

/-- HOLDOVER (R561, R563, R564): no sample for 3 sync intervals. -/
def execTmuHoldover (s : State) : Host.Outcome State Fault Refusal :=
  s.runIn 9 (fun m => m.when ((m.rd F.TMU_STAT_STATE == 1 || m.rd F.TMU_STAT_STATE == 2) && m.samplesMissed) (·.enterHoldover 0))

/-- RESELECT (R561, R564): a write of TMU_SRV_CTRL. -/
def execReselect (a : Access) (v : Word) (s : State) : Host.Outcome State Fault Refusal :=
  s.runBy a 1 (fun a m => m.access a 0x20700074 1 (·.srvControl v.toNat))

/-- SRV_RESET (R564): a write of TMU_SRV_CTRL. -/
def execSrvReset (a : Access) (v : Word) (s : State) : Host.Outcome State Fault Refusal :=
  s.runBy a 1 (fun a m => m.access a 0x20700074 1 (·.srvControl v.toNat))

/-- PPS_OUT_RISE (R575): the counter has crossed a whole second less ADV_NS by ticking. -/
def execPpsOutRise (s : State) : Host.Outcome State Fault Refusal :=
  s.runIn 9 (fun m => m.when (m.flag F.TMU_PPS_OUT_EN && m.tmu.ppsDue) (fun m =>
    { m with tmu := { m.tmu with ppsOut := true, ppsDue := false, riseUs := m.boot.us } }))

/-- PPS_OUT_FALL (R575): WIDTH_US after the rise. -/
def execPpsOutFall (s : State) : Host.Outcome State Fault Refusal :=
  s.runIn 9 (fun m => m.when (decide (m.tmu.riseUs + m.rd F.TMU_PPS_OUT_WIDTH_US ≤ m.boot.us)) (fun m =>
    { m with tmu := { m.tmu with ppsOut := false } }))

/-- EVT_IN_EDGE (R576). -/
def execEvtInEdge (k : Fin 4) (falling : Bool) (s : State) : Host.Outcome State Fault Refusal :=
  s.runIn 9 (fun m => m.evtIn k.val falling)

/-- EVI_NS_READ (R376, R377, R576). -/
def execEviNsRead (a : Access) (k : Fin 4) (s : State) : Host.Outcome State Fault Refusal := s.runBy a 0 (fun a m => m.eviRead a k.val)

/-- EVO_ARM (R577): a write of TMU_EVO_CTRL. -/
def execEvoArm (a : Access) (k : Fin 4) (v : Word) (s : State) : Host.Outcome State Fault Refusal :=
  s.runBy a 1 (fun a m => m.access a (0x20700140 + 32 * k.val) 1 (·.evoControl k.val v.toNat))

/-- EVO_EDGE (R577, R583): the counter reaches the next edge of an armed output. -/
def execEvoEdge (k : Fin 4) (s : State) : Host.Outcome State Fault Refusal :=
  s.runIn 9 (fun m => m.when (m.evoDue k.val) (·.evoEdgeNow k.val))

/-- TMR_LOAD (R578): a write of TMU_TMR_LOAD; timers 0–7 ignore software. -/
def execTmrLoad (a : Access) (n : Fin 16) (v : Word) (s : State) : Host.Outcome State Fault Refusal :=
  s.runBy a 1 (fun a m => m.access a (0x20700204 + 16 * n.val) 1 (fun m =>
    if n.val < 8 then m
    else
      let m := m.wr F.TMU_TMR_LOAD_US v.toNat n.val
      m.when (m.flag F.TMU_TMR_CTRL_EN n.val) (·.timerStart n.val v.toNat)))

end Sys2Proof.Machine
end

