-- ==== Sys2Proof/Machine/Npm.lean ====
section
/-!
DEFINITION. Network rest and wake (chapter 15): the rest rounds, sleep and wake of 24 segments, and the timers of TMU that
NPM runs.
-/
namespace Sys2Proof.Machine

/-- The switch port of an Ethernet segment (R621). -/
def segPort (s : Nat) : Nat := if s < 16 then s - 1 else s - 13

/-- The Ethernet segment of a switch port (R621). -/
def portSeg (p : Nat) : Option Nat :=
  if 11 ≤ p ∧ p ≤ 14 then some (p + 1) else if 3 ≤ p ∧ p ≤ 10 then some (p + 13) else none

/-- Kinds of rest frame (R639). -/
def restProposalKind : Nat := 1
def restVoteKind : Nat := 2
def restCommitKind : Nat := 3
def wakeKind : Nat := 4

namespace Module

/-- Segment `s`. -/
def seg (m : Module) (s : Nat) : SegSt := tget {} m.npm.segs s

/-- Change segment `s`. -/
def setSeg (m : Module) (s : Nat) (f : SegSt → SegSt) : Module :=
  { m with npm := { m.npm with segs := tmod {} m.npm.segs s f } }

/-- STATE of segment `s` (R624): 0 AWAKE, 1 REST_PENDING, 2 ASLEEP, 3 WAKE_CHECK. -/
def segState (m : Module) (s : Nat) : Nat := m.rd F.NPM_SEG_STAT_STATE s

/-- The segment is in REST_PENDING, phase WAIT. -/
def inWait (m : Module) (s : Nat) : Bool := m.segState s == 1 && ! m.flag F.NPM_SEG_STAT_PHASE s

/-- The segment is in REST_PENDING, phase GRACE. -/
def inGrace (m : Module) (s : Nat) : Bool := m.segState s == 1 && m.flag F.NPM_SEG_STAT_PHASE s

/-- The segment carries a duplex heartbeat path (R623). -/
def carriesDpx (m : Module) (s : Nat) : Bool := decide (s < 12) && m.flag F.CAN_CTRL_DPX_EN s

/-- The unit may drive outputs, or is not in a duplex (R623). -/
def mayDrive (m : Module) : Bool := ! m.flag F.DPX_CFG_EN || m.flag F.DPX_STATE_DRIVE

/-- A condition under which the segment refuses to rest (R629). -/
def restVeto (m : Module) (s : Nat) : Bool :=
  bit (m.rd F.NPM_HOLD_SEGS) s || ! m.flag F.NPM_SEG_CFG_EN s || m.carriesDpx s || m.flag F.NPM_SEG_STAT_STORM s

/-! ### Rest frames -/

/-- An Ethernet rest frame of port `p` (R639). -/
def ethRest (m : Module) (p kind sq : Nat) : Module :=
  let da := m.rd F.NPM_ETH_DA_LO_ADDR + m.rd F.NPM_ETH_DA_HI_ADDR * 2 ^ 32
  let sa := m.rd F.MAC_ADDR_LO_ADDR p + m.rd F.MAC_ADDR_HI_ADDR p * 2 ^ 32
  let l := netBytes 6 da ++ netBytes 6 sa ++ netBytes 2 0x88B6 ++ netBytes 1 1 ++ netBytes 1 kind
    ++ netBytes 1 (m.rd F.NPM_NODE_NODE_ID) ++ netBytes 1 sq ++ List.replicate 42 0
  { m with out := .frame p (withFcs l) :: m.out }

/-- Port `p` can send a rest frame: its link is up and its MAC transmits (R640). -/
def restPort (m : Module) (p : Nat) : Bool := m.flag F.MAC_STAT_LINK p && m.flag F.MAC_CTRL_TX_EN p && m.works 7

/-- A CAN rest frame through object TX_OBJ (R639, R640); the object keeps the configuration that software gave it. -/
def canRest (m : Module) (s kind sq : Nat) : Module :=
  let o := m.rd F.NPM_SEG_CFG_TX_OBJ s
  if ! (m.flag F.CAN_OBJ_CFG_EN s o && m.flag F.CAN_OBJ_CFG_DIR s o) then m else
  let m := m.wr F.CAN_OBJ_DATA_DATA (kind + m.rd F.NPM_NODE_NODE_ID * 2 ^ 8 + sq * 2 ^ 16) s o 0
  (m.wr F.CAN_OBJ_CTRL_DLC 4 s o).canPend s o

/-- The rest frame of segment `s` is handed on. -/
def segFramed (m : Module) (s : Nat) (b : Bool) : Module := m.setSeg s (fun x => { x with framed := b })

/-- NPM sends a rest frame of `kind` with `sq` on segment `s`. On an Ethernet segment it leaves at once; while the link is down a
WAKE frame waits for it, and another is not sent (R639–R641; log entry 39). -/
def sendRest (m : Module) (s kind sq : Nat) : Module :=
  if s < 12 then
    (m.canRest s kind sq).segFramed s (m.flag F.CAN_OBJ_CFG_EN s (m.rd F.NPM_SEG_CFG_TX_OBJ s)
      && m.flag F.CAN_OBJ_CFG_DIR s (m.rd F.NPM_SEG_CFG_TX_OBJ s))
  else if m.restPort (segPort s) then (m.ethRest (segPort s) kind sq).segFramed s true
  else if kind = wakeKind then m.setSeg s (fun x => { x with wakeDue := true })
  else m.segFramed s false

/-- The frame of the round has left segment `s`: on CAN its object's request has ended with SENT = 1 (R604, R628). -/
def restLeft (m : Module) (s : Nat) : Bool :=
  let o := m.rd F.NPM_SEG_CFG_TX_OBJ s
  (m.seg s).framed && (decide (12 ≤ s) || (! m.flag F.CAN_OBJ_STAT_TX_PENDING s o && m.flag F.CAN_OBJ_STAT_SENT s o))

/-- SEQ of the segment. -/
def segSeq (m : Module) (s : Nat) : Nat := m.rd F.NPM_SEG_STAT_SEQ s

/-- Send WAKE (R625, R639). -/
def sendWake (m : Module) (s : Nat) : Module := m.sendRest s wakeKind (m.segSeq s)

/-! ### Transitions -/

/-- The transceiver of segment `s` sleeps or is active (R614, R624). -/
def segSleep (m : Module) (s : Nat) (b : Bool) : Module :=
  (m.setMap F.NPM_ASLEEP_SEGS s b).when (decide (s < 12)) (·.wrb F.CAN_STAT_XCVR_SLEEP b s)

/-- The round of the segment ends with `outcome` and the segment is AWAKE (R625). -/
def roundEnd (m : Module) (s outcome : Nat) : Module :=
  let m := ((m.wr F.NPM_SEG_STAT_STATE 0 s).lower F.NPM_SEG_STAT_PHASE s).wr F.NPM_SEG_STAT_OUTCOME outcome s
  (m.setSeg s (fun x => { x with ms := 0, sent := false, idle := 0 })).raise F.NPM_EVT_ROUND_END

/-- The round is aborted in GRACE (R625). -/
def roundAbort (m : Module) (s : Nat) : Module := (m.roundEnd s 3).sendWake s

/-- Entry to AWAKE from ASLEEP or WAKE_CHECK (R638; log entry 39). -/
def segWoke (m : Module) (s src detail : Nat) : Module :=
  let m := ((m.wr F.NPM_SEG_STAT_STATE 0 s).lower F.NPM_SEG_STAT_PHASE s).segSleep s false
  let m := ((m.wr F.NPM_SEG_STAT_SRC src s).wr F.NPM_SEG_STAT_DETAIL detail s).wr F.NPM_SEG_WTIME_US m.nowU s
  ((m.addW F.NPM_SEG_CNT_WAKES 1 s).raise F.NPM_EVT_WOKE).setSeg s (fun x =>
    { x with ms := 0, sent := false, idle := 0, wokeUs := some m.boot.us })

/-- ASLEEP is entered (R625). -/
def segAsleep (m : Module) (s : Nat) : Module :=
  let m := ((m.wr F.NPM_SEG_STAT_STATE 2 s).lower F.NPM_SEG_STAT_PHASE s).segSleep s true
  (m.raise F.NPM_EVT_SLEPT).setSeg s (fun x => { x with ms := 0, sent := false })

/-- Where a wake source stands among several of one µs (R638): LOCAL_REQUEST, TIMER, PEER_MODULE, PATTERN, BUS_ACTIVITY. -/
def wakeRank (src : Nat) : Nat := if src = 2 then 0 else if src = 4 then 1 else if src = 5 then 2 else if src = 3 then 3 else 4

/-- A wake by `src` while NPM's clock is gated is latched; of several the first in the order of R638 (R644; log entry 39). -/
def segLatch (m : Module) (s src detail : Nat) : Module :=
  m.setSeg s (fun x => { x with latched := match x.latched with
    | some y => if wakeRank src < wakeRank y.1 then some (src, detail) else some y
    | none => some (src, detail) })

/-- Another source acts in the µs in which the segment woke: the first in the order of R638 is recorded. -/
def segAlso (m : Module) (s src detail : Nat) : Module :=
  m.when ((m.seg s).wokeUs == some m.boot.us && decide (wakeRank src < wakeRank (m.rd F.NPM_SEG_STAT_SRC s)))
    (fun m => (m.wr F.NPM_SEG_STAT_SRC src s).wr F.NPM_SEG_STAT_DETAIL detail s)

/-- A wake by source `src`: LOCAL_REQUEST, TIMER or PEER_MODULE (R625). While NPM's clock is gated it is latched (R644;
log entry 39). -/
def segWakeBy (m : Module) (s src detail : Nat) : Module :=
  if m.segState s = 1 then m
  else if m.segState s = 0 then m.segAlso s src detail
  else if ! m.running 0x0B then m.segLatch s src detail
  else (m.segWoke s src detail).sendWake s

/-- A wake event that reaches an AWAKE segment restarts its idle time (R631). -/
def segBusy (m : Module) (s : Nat) : Module :=
  m.when (m.segState s == 0) (·.setSeg s (fun x => { x with idle := 0 }))

/-- DPX forwards a local request (R701). -/
def forwardWake (m : Module) (s : Nat) : Module :=
  m.when (m.flag F.DPX_CFG_EN && bit (m.rd F.DPX_WAKE_FWD_SEGS) s) (·.dpxControl 5 0 0 (2 ^ s))

/-- A local request for segment `s` (R625, R634). While NPM's clock is gated it is latched (R644). -/
def localRequest (m : Module) (s detail : Nat) : Module :=
  if ! m.running 0x0B then m.segLatch s 2 detail else
  let m := m.forwardWake s
  if m.inWait s then m.roundEnd s 5
  else if m.inGrace s then m.roundAbort s
  else (m.segWakeBy s 2 detail).segBusy s

/-- A request of the peer module (R625, R637). -/
def peerRequest (m : Module) (s : Nat) : Module :=
  if m.inGrace s then m.roundAbort s else (m.segWakeBy s 5 0).segBusy s

/-- NPM_HOLD of segment `s` is 1 (R625). -/
def segHeld (m : Module) (s : Nat) : Module :=
  if ! bit (m.rd F.NPM_HOLD_SEGS) s then m
  else if m.inWait s then m.roundEnd s 5 else if m.inGrace s then m.roundAbort s else m

/-- A frame qualifies in WAKE_CHECK (R633); `pat` is the wake pattern that it matches. -/
def segQualify (m : Module) (s : Nat) (pat : Option Nat) : Module :=
  if m.segState s ≠ 3 then m
  else if 12 ≤ s && m.flag F.NPM_SEG_CFG_PATTERN_REQ s then
    match pat with
    | some k => m.segWoke s 3 k
    | none => m
  else m.segWoke s 1 0

/-- A valid frame of another node on segment `s` (R625, R633); `rest` says that it is a REST_PROPOSAL, REST_VOTE or
REST_COMMIT (log entry 39). -/
def segFrame (m : Module) (s : Nat) (rest : Bool) (pat : Option Nat) : Module :=
  let m := m.segQualify s pat
  if rest then m else if m.inGrace s then m.roundAbort s else m.segBusy s

/-! ### Rounds -/

/-- The refusal of REST (R628), if any. -/
def restRefusal (m : Module) (s : Nat) : Option Nat :=
  if 24 ≤ s || ! m.flag F.NPM_SEG_CFG_EN s then some 0x10
  else if m.carriesDpx s || ! m.mayDrive || bit (m.rd F.NPM_HOLD_SEGS) s then some 2
  else if m.segState s ≠ 0 || m.flag F.NPM_SEG_STAT_STORM s then some 1 else none

/-- A round begins (R625, R628). -/
def roundBegin (m : Module) (s : Nat) : Module :=
  let m := ((m.wr F.NPM_SEG_STAT_STATE 1 s).lower F.NPM_SEG_STAT_PHASE s).addW F.NPM_SEG_STAT_SEQ 1 s
  let m := m.setSeg s (fun x => { x with ms := 0, sent := false })
  m.sendRest s restProposalKind (m.segSeq s)

/-- GRACE is entered; `sent` says that the commit's end has passed (R625, R628, R630). -/
def graceBegin (m : Module) (s : Nat) (sent : Bool) : Module :=
  ((m.wr F.NPM_SEG_STAT_STATE 1 s).raise F.NPM_SEG_STAT_PHASE s).setSeg s (fun x => { x with ms := 0, sent := sent })

/-- The proposal's transmission ends (R628). -/
def proposalSent (m : Module) (s : Nat) : Module :=
  m.when (m.inWait s && ! (m.seg s).sent && m.restLeft s) (·.setSeg s (fun x => { x with sent := true, ms := 0 }))

/-- The commit's transmission ends (R628). -/
def commitSent (m : Module) (s : Nat) : Module :=
  m.when (m.inGrace s && ! (m.seg s).sent && m.restLeft s) (·.setSeg s (fun x => { x with sent := true, ms := 0 }))

/-- REST_WAIT has elapsed since the proposal was sent (R625, R626). -/
def waitExpiry (m : Module) (s : Nat) : Module :=
  if m.inWait s && (m.seg s).sent && decide (m.rd F.NPM_TIMING0_REST_WAIT ≤ (m.seg s).ms) then
    (m.graceBegin s false).sendRest s restCommitKind (m.segSeq s)
  else m

/-- REST_GRACE has elapsed since the commit (R625, R626). -/
def graceExpiry (m : Module) (s : Nat) : Module :=
  if m.inGrace s && (m.seg s).sent && decide (m.rd F.NPM_TIMING0_REST_GRACE ≤ (m.seg s).ms) then
    (m.segAsleep s).wr F.NPM_SEG_STAT_OUTCOME 1 s
  else m

/-- 1 s has passed and the proposal or the own commit is not sent (R625, R628). -/
def roundTimeout (m : Module) (s : Nat) : Module :=
  if m.segState s = 1 && ! (m.seg s).sent && decide (1000 ≤ (m.seg s).ms) then m.roundEnd s 4 else m

/-- Another node's REST_PROPOSAL (R629). -/
def proposalIn (m : Module) (s sq : Nat) : Module :=
  let m := m.segQualify s none
  if m.segState s ≠ 0 then m
  else if m.restVeto s then m.sendRest s restVoteKind sq else m.raise F.NPM_EVT_PROPOSAL_RX

/-- A REST_VOTE (R625). -/
def voteIn (m : Module) (s sq : Nat) : Module :=
  let m := m.segQualify s none
  m.when (m.inWait s && sq == m.segSeq s) (·.roundEnd s 2)

/-- Another node's REST_COMMIT (R622, R630; log entry 39). -/
def commitIn (m : Module) (s : Nat) : Module :=
  let m := m.segQualify s none
  if m.segState s = 0 || m.inWait s then (if m.restVeto s then m.sendWake s else m.graceBegin s true) else m

/-- WAKE_TIMEOUT has elapsed in WAKE_CHECK (R625, R626, R635). -/
def falseWake (m : Module) (s : Nat) : Module :=
  if ! (m.segState s == 3 && decide (m.rd F.NPM_TIMING1_WAKE_TIMEOUT ≤ (m.seg s).ms)) then m else
  let now := m.npm.ms
  let ends := now :: (m.seg s).falseAt.filter (fun t => decide (now < t + 60000))
  let m := m.setSeg s (fun x => { x with falseAt := ends })
  let m := (m.addW F.NPM_SEG_CNT_FALSE 1 s).raise F.NPM_EVT_FALSE_WAKE
  let m := m.wr F.NPM_SEG_STAT_FALSE_RUN (min 8 ends.length) s
  if 8 ≤ ends.length then
    let m := (m.segWoke s 1 0).raise F.NPM_SEG_STAT_STORM s
    ((m.setMap F.NPM_STORM_SEGS s).raise F.NPM_EVT_STORM).logBlk 0x0B 0x2B01 0 s
  else m.segAsleep s

/-- Activity on a sleeping segment (R632); latched while NPM's clock is gated (R644; log entry 39). -/
def activity (m : Module) (s : Nat) : Module :=
  let m := m.when (decide (12 ≤ s)) (·.raise F.MAC_PHY_STAT_ENERGY (segPort s))
  if m.segState s ≠ 2 then m
  else if ! m.running 0x0B then
    m.segLatch s 1 0
  else
    ((m.wr F.NPM_SEG_STAT_STATE 3 s).segSleep s false).setSeg s (fun x => { x with ms := 0 })

/-- IDLE_S seconds without a wake event while AWAKE (R631). -/
def idleExpiry (m : Module) (s : Nat) : Module :=
  if ! (m.flag F.NPM_SEG_CFG_AUTO s && m.segState s == 0 && decide (m.rd F.NPM_SEG_CFG_IDLE_S s * 1000 ≤ (m.seg s).idle)) then m
  else
    let m := m.setSeg s (fun x => { x with idle := 0 })
    m.when (m.restRefusal s).isNone (·.roundBegin s)

/-! ### Commands of NPM_CMD -/

/-- OP CLEAR_STORM (R635). -/
def stormClear (m : Module) (s : Nat) : Module :=
  let m := (m.lower F.NPM_SEG_STAT_STORM s).setMap F.NPM_STORM_SEGS s false
  (m.wr F.NPM_SEG_STAT_FALSE_RUN 0 s).setSeg s (fun x => { x with falseAt := [] })

/-- A write of NPM_CMD (R628, R634, R635, R646). -/
def npmCommand (m : Module) (op s key : Nat) : Module :=
  if key ≠ 0x4E50 then m
  else if op = 1 then
    match m.restRefusal s with
    | some st => m.wr F.NPM_CMD_STAT_STATUS st
    | none => (m.wr F.NPM_CMD_STAT_STATUS 0).roundBegin s
  else if op = 2 ∧ s < 24 then (m.wr F.NPM_CMD_STAT_STATUS 0).localRequest s 0
  else if op = 3 ∧ s < 24 then (m.wr F.NPM_CMD_STAT_STATUS 0).stormClear s
  else m.wr F.NPM_CMD_STAT_STATUS 0x10

/-! ### The tick and the wake timers -/

/-- NPM starts its 1 ms tick on TMR0 (R626, R627; log entry 39). -/
def npmTickStart (m : Module) : Module :=
  let m := ((m.wr F.TMU_TMR_LOAD_US 1000 0).raise F.TMU_TMR_CTRL_EN 0).raise F.TMU_TMR_CTRL_PERIODIC 0
  m.timerStart 0 1000

/-- NPM loads wake timer `n`, 1–7 (R636). -/
def wakeTimerLoad (m : Module) (n : Nat) : Module :=
  let us := m.rd F.NPM_WT_LOAD_US (n - 1)
  let m := ((m.wr F.TMU_TMR_LOAD_US us n).raise F.TMU_TMR_CTRL_EN n).wr F.TMU_TMR_CTRL_PERIODIC (m.rd F.NPM_WT_CFG_PERIODIC (n - 1)) n
  m.timerStart n us

/-- A write of NPM_WT_CFGn (R636; log entry 39). -/
def wakeTimerCfg (m : Module) (n v : Nat) : Module :=
  let m := ((m.wr F.NPM_WT_CFG_SEGS (bits v 23 0) (n - 1)).wr F.NPM_WT_CFG_EN (bits v 24 24) (n - 1)).wr F.NPM_WT_CFG_PERIODIC
    (bits v 25 25) (n - 1)
  if bit v 24 then m.wakeTimerLoad n else (m.lower F.TMU_TMR_CTRL_EN n).timerStop n

/-- A latched request is acted on after ungating (R644). -/
def segUnlatch (m : Module) (s : Nat) : Module :=
  match (m.seg s).latched with
  | none => m
  | some (src, d) =>
    let m := m.setSeg s (fun x => { x with latched := none })
    if src = 1 then m.activity s else if src = 2 then m.localRequest s d else m.segWakeBy s src d

/-- The 1 ms tick of NPM for one segment (R626): the interval that runs, the idle time, and the 60 s of R635
(log entry 39). -/
def segTick (m : Module) (s : Nat) : Module :=
  let m := m.segUnlatch s
  let x := m.seg s
  let now := m.npm.ms
  let keep := x.falseAt.filter (fun t => decide (now < t + 60000))
  let st := m.segState s
  let m := m.setSeg s (fun x => { x with ms := if st == 1 || st == 3 then x.ms + 1 else x.ms
                                         idle := if st == 0 then x.idle + 1 else x.idle
                                         falseAt := keep })
  m.when (x.falseAt != []) (·.wr F.NPM_SEG_STAT_FALSE_RUN (min 8 keep.length) s)

/-- NPM's 1 ms tick (R626; log entries 3 and 39). -/
def npmTick (m : Module) : Module :=
  if ! m.running 0x0B then m else
  forEach (List.range 24) (fun s m => m.segTick s) { m with npm := { m.npm with ms := m.npm.ms + 1 } }

/-- A timer of TMU reaches 0 (R578, R626, R636). -/
def timerReached (m : Module) (n : Nat) : Module :=
  if ! bit m.tmu.timers n || m.rd F.TMU_TMR_REMAIN_US n != 0 then m else
  let m := m.timerExpire n
  if n = 0 then m.npmTick
  else if n < 8 then
    forEach (bitsSet 24 (m.rd F.NPM_WT_CFG_SEGS (n - 1))) (fun s m => m.segWakeBy s 4 n) m
  else m

/-! ### CAN commands that NPM sees -/

/-- A TX_REQ is a local request where the transceiver sleeps (R614, R634) or the segment is in GRACE (R644). -/
def npmTxReq (m : Module) (c : Nat) : Module :=
  if m.flag F.CAN_STAT_XCVR_SLEEP c || m.inGrace c then m.localRequest c 5 else m

/-- The frame is a rest frame of KIND 1–3 on CAN segment `c` (R625, R639). -/
def isCanRest (m : Module) (c : Nat) (f : CanFrame) : Bool :=
  ! f.fdf && ! f.ide && ! f.rmt && f.id / 2 ^ 18 == m.rd F.NPM_SEG_CFG_REST_ID c && f.dlc == 4
    && match f.data with
      | k :: _ => decide (1 ≤ k.toNat) && decide (k.toNat ≤ 3)
      | [] => false

end Module

/-! ### Commands -/

/-- Byte address of NPM_CMD. -/
def npmCmdAddr : Nat := 0x20900000

/-- REST (R623, R625, R628, R646): OP REST written to NPM_CMD. -/
def execNpmRest (a : Access) (seg : Fin 32) (key : BitVec 16) (s : State) : Host.Outcome State Fault Refusal :=
  s.runBy a 1 (fun a m => m.access a npmCmdAddr 1 (·.npmCommand 1 seg.val key.toNat))

/-- NPM_WAKE (R625, R634, R638, R646, R701): OP WAKE. -/
def execNpmWake (a : Access) (seg : Fin 32) (key : BitVec 16) (s : State) : Host.Outcome State Fault Refusal :=
  s.runBy a 1 (fun a m => m.access a npmCmdAddr 1 (·.npmCommand 2 seg.val key.toNat))

/-- CLEAR_STORM (R635, R646): OP CLEAR_STORM. -/
def execClearStorm (a : Access) (seg : Fin 32) (key : BitVec 16) (s : State) : Host.Outcome State Fault Refusal :=
  s.runBy a 1 (fun a m => m.access a npmCmdAddr 1 (·.npmCommand 3 seg.val key.toNat))

/-- REST_PROPOSAL_SENT (R625, R628). -/
def execRestProposalSent (seg : Fin 24) (s : State) : Host.Outcome State Fault Refusal := s.runIn 0x0B (fun m => m.proposalSent seg.val)

/-- REST_PROPOSAL (R623, R629, R640, R644). -/
def execRestProposal (seg : Fin 24) (seq : Fin 256) (s : State) : Host.Outcome State Fault Refusal :=
  s.runIn 0x0B (fun m => m.proposalIn seg.val seq.val)

/-- REST_VOTE (R625, R644). -/
def execRestVote (seg : Fin 24) (seq : Fin 256) (s : State) : Host.Outcome State Fault Refusal :=
  s.runIn 0x0B (fun m => m.voteIn seg.val seq.val)

/-- REST_COMMIT (R622, R625, R628, R630, R644). -/
def execRestCommit (seg : Fin 24) (s : State) : Host.Outcome State Fault Refusal := s.runIn 0x0B (fun m => m.commitIn seg.val)

/-- REST_COMMIT_SENT (R625, R628). -/
def execRestCommitSent (seg : Fin 24) (s : State) : Host.Outcome State Fault Refusal := s.runIn 0x0B (fun m => m.commitSent seg.val)

/-- REST_WAIT_EXPIRY (R625, R626, R628). -/
def execRestWaitExpiry (seg : Fin 24) (s : State) : Host.Outcome State Fault Refusal := s.runIn 0x0B (fun m => m.waitExpiry seg.val)

/-- REST_ROUND_TIMEOUT (R625, R628, R644). -/
def execRestRoundTimeout (seg : Fin 24) (s : State) : Host.Outcome State Fault Refusal := s.runIn 0x0B (fun m => m.roundTimeout seg.val)

/-- BUS_ACTIVITY (R527, R614, R625, R632, R644). -/
def execBusActivity (seg : Fin 24) (s : State) : Host.Outcome State Fault Refusal := s.runUp (fun m => m.activity seg.val)

/-- IDLE_TIMEOUT (R631). -/
def execIdleTimeout (seg : Fin 24) (s : State) : Host.Outcome State Fault Refusal := s.runIn 0x0B (fun m => m.idleExpiry seg.val)

/-- WAKE_IN_PULSE (R625, R634, R638, R701). -/
def execWakeInPulse (k : Fin 4) (s : State) : Host.Outcome State Fault Refusal :=
  s.runUp (fun m => m.when (m.flag F.NPM_WAKE_IN_EN k.val) (fun m =>
    forEach (bitsSet 24 (m.rd F.NPM_WAKE_IN_SEGS k.val)) (fun sg m => m.localRequest sg (1 + k.val)) m))

/-- PEER_WAKE (R625, R637, R638, R701): a PEER_WAKE of the peer module arrives. -/
def execPeerWake (segs : Fin 16777216) (s : State) : Host.Outcome State Fault Refusal :=
  s.runUp (fun m => forEach (bitsSet 24 segs.val) (fun sg m => m.peerRequest sg) m)

/-- WAKE_TIMER_CONFIG (R636): a write of NPM_WT_CFG1–7. -/
def execWakeTimerConfig (a : Access) (n : Fin 7) (v : Word) (s : State) : Host.Outcome State Fault Refusal :=
  s.runBy a 1 (fun a m => m.access a (0x20900068 + 8 * n.val) 1 (·.wakeTimerCfg (n.val + 1) v.toNat))

/-- TMR_EXPIRY (R578, R625, R626, R636). -/
def execTmrExpiry (n : Fin 16) (s : State) : Host.Outcome State Fault Refusal := s.runIn 9 (fun m => m.timerReached n.val)

/-- TX_REQ (R601, R602, R613, R614, R617, R634, R644, R701): a write of CAN_CMD. -/
def execTxReq (a : Access) (c : Fin 12) (obj : Fin 128) (s : State) : Host.Outcome State Fault Refusal :=
  s.runBy a 1 (fun a m => m.access a (Module.canAddr c.val 0x14) 1 (fun m =>
    let ok := (m.canRefusal c.val 3 obj.val).isNone
    (m.canCommandAt c.val 3 obj.val).when ok (·.npmTxReq c.val)))

/-- CAN_FRAME_VALID (R588, R595, R598, R599, R612, R617, R625, R633, R638, R644). -/
def execCanFrameValid (c : Fin 12) (f : CanFrame) (own : Bool) (age : Nat) (s : State) : Host.Outcome State Fault Refusal :=
  s.runIn 0x0A (fun m =>
    let got := m.canReceives c.val f own
    (m.canFrame c.val f own age).when (got && ! own && m.works 0x0B) (fun m => m.segFrame c.val (m.isCanRest c.val f) none))

/-- XL_RX_FRAME (R610, R617, R625, R633). -/
def execXlRxFrame (c : Fin 12) (f : XlFrame) (age : Nat) (s : State) : Host.Outcome State Fault Refusal :=
  s.runIn 0x0A (fun m =>
    let got := m.xlReceives c.val
    (m.xlFrame c.val f age).when (got && m.works 0x0B) (·.segFrame c.val false none))

end Sys2Proof.Machine
end

