-- ==== Sys2Proof/Machine/Ring.lean ====
section
/-!
DEFINITION. The descriptor rings of HDMA (chapter 12): fetch, transmit write-back, and ring errors.
-/
namespace Sys2Proof.Machine

namespace Module

/-- Queue pair `q`. -/
def hq (m : Module) (q : Nat) : HqSt := tget {} m.hdma.hqs q

/-- Change queue pair `q`. -/
def setHq (m : Module) (q : Nat) (f : HqSt → HqSt) : Module := { m with hdma := { m.hdma with hqs := tmod {} m.hdma.hqs q f } }

/-- The aperture page of HQq (R36). -/
def hqPage (q : Nat) : Nat := 64 + q

/-- Byte address of offset `o` in the page of HQq. -/
def hqAddr (q o : Nat) : Nat := 0x40040000 + q * 0x1000 + o

/-- Count `n` under `kind` for HQq (R551). -/
def hqCount (m : Module) (q kind n : Nat) : Module :=
  { m with hdma := { m.hdma with cnt := tmod 0 m.hdma.cnt (q * 16 + kind) (fun v => (v + n) % 2 ^ 64) } }

/-- The attributes of a transaction on behalf of HQq (R39, R41, R435). -/
def hqAccess (m : Module) (q : Nat) (spec : Bool) : Access :=
  { ini := 0x20, world := m.pageWorld (hqPage q), part := m.rd F.IMG_INST_CFG_PART (hqPage q), spec := spec }

/-- EN of a ring. -/
def ringEn (m : Module) (q : Nat) (tx : Bool) : Bool := if tx then m.flag F.HQ_TX_CFG_EN q else m.flag F.HQ_RX_CFG_EN q

/-- Number of descriptors of a ring (R529). -/
def ringSize (m : Module) (q : Nat) (tx : Bool) : Nat :=
  2 ^ (if tx then m.rd F.HQ_TX_CFG_LOG2SZ q else m.rd F.HQ_RX_CFG_LOG2SZ q)

/-- Address of descriptor `i` of a ring. -/
def ringDesc (m : Module) (q : Nat) (tx : Bool) (i : Nat) : Nat :=
  (if tx then m.rd F.HQ_TX_BASE_ADDR q else m.rd F.HQ_RX_BASE_ADDR q) * 0x1000 + 32 * i

/-- TAIL and HEAD of a ring. -/
def ringTail (m : Module) (q : Nat) (tx : Bool) : Nat := if tx then m.rd F.HQ_TX_TAIL_IDX q else m.rd F.HQ_RX_TAIL_IDX q
def ringHead (m : Module) (q : Nat) (tx : Bool) : Nat := if tx then m.rd F.HQ_TX_HEAD_IDX q else m.rd F.HQ_RX_HEAD_IDX q

/-- HEAD of a ring becomes `i`. -/
def setHead (m : Module) (q : Nat) (tx : Bool) (i : Nat) : Module :=
  if tx then m.wr F.HQ_TX_HEAD_IDX (i % m.ringSize q tx) q else m.wr F.HQ_RX_HEAD_IDX (i % m.ringSize q tx) q

/-- Descriptors fetched and not written back, over both directions (R451). -/
def hqOcc (m : Module) (q : Nat) : Nat :=
  let x := m.hq q
  x.tx.length + (x.frames.map (fun f => f.descs.length)).sum + x.rx.length
    + (match x.park with | some p => p.filled.length | none => 0)

/-- A ring stops on an access that received an error response (R547): what is recorded, before its frame ends. -/
def ringStop (m : Module) (q : Nat) (tx : Bool) (addr st : Nat) : Module :=
  let m := if tx then m.lower F.HQ_TX_CFG_EN q else m.lower F.HQ_RX_CFG_EN q
  let m := ((m.wr F.HQ_ERR_STATUS st q).wrb F.HQ_ERR_TX tx q).wr F.HQ_ERR_ADDR_ADDR addr q
  let m := (m.raise F.HQ_IRQ_STAT_ERR q).raise F.HDMA_EVT_DMA_ERR
  m.logBlk 8 0x2801 addr (q + b2n tx * 2 ^ 8 + st * 2 ^ 16)

/-- The descriptors and the frames not passed to P15 are given up (R546, R547; log entry 36). -/
def txAbandon (m : Module) (q : Nat) : Module :=
  m.setHq q (fun x => { x with tx := [], frames := x.frames.filter (·.passed) })

/-- A transmit ring error (R547): the frame in progress is given up. -/
def txError (m : Module) (q addr st : Nat) : Module := (m.ringStop q true addr st).txAbandon q

/-- The write-back words of descriptor `e` of transmit frame `f` (R532). -/
def txWords (f : TxFrame) (st : Nat) (e : List Nat) (last : Bool) : List Nat :=
  let t := if last then f.ts.getD 0 else 0
  let flags := if last then b2n f.ts.isSome + b2n f.lost * 2 + b2n f.late * 4 + f.lostCnt * 2 ^ 8 else 0
  [if last then f.len else 0, 0, flags, 0, t % 1000000000, t / 1000000000 % 2 ^ 32, e.getD 6 0, st + 2 ^ 31]

/-- The entry that a frame held in the time-stamp queue of a port is free (R536; log entry 36). -/
def tsFree (m : Module) (port : Option Nat) : Module :=
  match port with
  | some p => m.wr F.MAC_TXTS_STAT_OCC (m.rd F.MAC_TXTS_STAT_OCC p - 1) p
  | none => m

/-- The write-back of transmit frame `f` with status `st` (R530, R532, R536). -/
def txBack (m : Module) (q : Nat) (f : TxFrame) (st : Nat) : Module :=
  let m := f.descs.zipIdx.foldl (fun m e =>
    if ! m.flag F.HQ_TX_CFG_EN q then m else
    let last := e.2 + 1 == f.descs.length
    let at_ := m.ringDesc q true e.1.1
    let (m, ok) := m.busWrite (m.hqAccess q false) at_ ((txWords f st e.1.2 last).flatMap (toBytes 4))
    if ! ok then m.txError q at_ m.resp.status
    else (m.setHead q true (e.1.1 + 1)).when last (·.raise F.HQ_IRQ_STAT_TX q)) m
  m.tsFree f.tsPort

/-- Transmit frames that have ended are written back in ring order (R530); `fuel` bounds their number. -/
def txFlush (m : Module) (q : Nat) : Nat → Module
  | 0 => m
  | fuel + 1 =>
    match (m.hq q).frames with
    | f :: r =>
      match f.status with
      | some st => txFlush ((m.setHq q (fun x => { x with frames := r })).txBack q f st) q fuel
      | none => m
    | [] => m

/-- Transmit frame `no` of HQq ends with `st`. -/
def txEnd (m : Module) (q no st : Nat) (g : TxFrame → TxFrame := id) : Module :=
  let m := m.setHq q (fun x => { x with frames := x.frames.map (fun f => if f.no = no then g { f with status := some st } else f) })
  m.txFlush q (m.hq q).frames.length

/-- The status that a drop reason gives a TS_REQ frame (R538). -/
def dropStatus (r : Nat) : Nat :=
  if r = 1 ∨ r = 2 then 5 else if r = 0x0A then 0x0E else if r = 0x0B ∨ r = 0x0C then 0x0F else 0x12

/-- The instance may fetch (R448, R452): assigned, not quiesced, not fenced, and its occupancy below SHARE. -/
def mayFetch (m : Module) (q : Nat) : Bool :=
  m.flag F.IMG_INST_CFG_ASSIGNED (hqPage q) && ! m.flag F.IMG_INST_STAT_QUIESCE (hqPage q)
    && ! (tget {} m.inst (hqPage q)).fence && decide (m.hqOcc q < m.rd F.IMG_INST_SHARE_SHARE (hqPage q))

/-- One descriptor is fetched, if one is posted and the instance may (R530): the module, and whether it was. The read is
speculative (R41). -/
def fetchOne (m : Module) (q : Nat) (tx : Bool) : Module × Bool :=
  let x := m.hq q
  let i := if tx then x.txNext else x.rxNext
  let full := if tx then decide (80 ≤ x.tx.length) else decide (16 ≤ x.rx.length)
  if ! m.ringEn q tx || i == m.ringTail q tx % m.ringSize q tx || ! m.mayFetch q || full then (m, false)
  else
    let at_ := m.ringDesc q tx i
    let (m, d) := m.busRead (m.hqAccess q true) at_ 32
    match d with
    | none => (if tx then m.txError q at_ m.resp.status else m.ringStop q false at_ m.resp.status, false)
    | some l =>
      let nxt := (i + 1) % m.ringSize q tx
      (m.setHq q (fun x => if tx then { x with tx := x.tx ++ [(i, words l)], txNext := nxt }
        else { x with rx := x.rx ++ [(i, words l)], rxNext := nxt }), true)

end Module

end Sys2Proof.Machine
end

