-- ==== Sys2Proof/Machine/Swc.lean ====
section
/-!
DEFINITION. The switch core (chapter 11): the decision at parse, the shared buffer, egress, tables and epochs, stream
recovery, and the spore ring.
-/
namespace Sys2Proof.Machine

/-- Rate of a port in bit/s (R459, R520). -/
def portRate (p : Nat) : Nat :=
  if p < 3 then 10000000000 else if p < 11 then 1000000000 else if p < 15 then 10000000 else 20000000000

/-- The `n`-byte field at offset `i`, most significant byte first; 0 where it lies wholly or partly beyond byte 64 (R463). -/
def hdrField (l : List Byte) (i n : Nat) : Nat :=
  if 64 < i + n then 0 else ((l.drop i).take n).foldl (fun v b => v * 256 + b.toNat) 0

/-- What a frame's first bytes say before any lookup (R463). `off` is where the payload of `etype` begins. -/
structure Hdr where
  da : Nat
  sa : Nat
  tagged : Bool
  pcp : Nat
  tagVid : Nat
  etype : Nat
  off : Nat
deriving DecidableEq, Repr

/-- The header of a frame (R463). -/
def hdrOf (l : List Byte) : Hdr :=
  let t := hdrField l 12 2
  let c := hdrField l 14 2
  if t = 0x8100 then ⟨hdrField l 0 6, hdrField l 6 6, true, c / 2 ^ 13, c % 2 ^ 12, hdrField l 16 2, 18⟩
  else ⟨hdrField l 0 6, hdrField l 6 6, false, 0, 0, t, 14⟩

/-- The classification key (R463, R476). -/
def classKey (l : List Byte) (h : Hdr) (vid port : Nat) : Nat :=
  let v4 := h.etype == 0x0800
  let v6 := h.etype == 0x86DD
  let l4 := if v4 then h.off + 4 * (hdrField l h.off 1 % 16) else h.off + 40
  let proto := if v4 then hdrField l (h.off + 9) 1 else if v6 then hdrField l (h.off + 6) 1 else 0
  let dscp := if v4 then hdrField l (h.off + 1) 1 / 4 else if v6 then hdrField l h.off 2 / 64 % 64 else 0
  let l4ok := (v4 || v6) && (proto == 6 || proto == 17)
  let sport := if l4ok then hdrField l l4 2 else 0
  let dport := if l4ok then hdrField l (l4 + 2) 2 else 0
  h.da + h.sa * 2 ^ 48 + h.etype * 2 ^ 96 + vid * 2 ^ 112 + h.pcp * 2 ^ 124 + b2n h.tagged * 2 ^ 127 + port * 2 ^ 128
    + dscp * 2 ^ 132 + proto * 2 ^ 138 + dport * 2 ^ 146 + sport * 2 ^ 162
    + (if v4 then 1 else if v6 then 2 else 0) * 2 ^ 178

/-- Words of a table entry, as DATA0–DATA15 hold it. -/
def wordAt (l : List Nat) (k : Nat) : Nat := l.getD k 0

/-- A number of `n` words of a table entry, from word `k`. -/
def wordsAt (l : List Nat) (k n : Nat) : Nat := (List.range n).foldr (fun i v => wordAt l (k + i) + v * 2 ^ 32) 0

/-- The address of a forwarding or stream entry (R471, R496). -/
def entryMac (l : List Nat) : Nat := wordAt l 0 + wordAt l 1 % 2 ^ 16 * 2 ^ 32

/-- The VID of a forwarding or stream entry. -/
def entryVid (l : List Nat) : Nat := bits (wordAt l 1) 27 16

/-- Fields of a forwarding entry (R471). -/
def fwdValid (l : List Nat) : Bool := bit (wordAt l 2) 6
def fwdStatic (l : List Nat) : Bool := bit (wordAt l 2) 4
def fwdAge (l : List Nat) : Nat := bits (wordAt l 2) 10 8
def fwdPort (l : List Nat) : Nat := bits (wordAt l 2) 3 0

/-- A forwarding entry with AGE `n`. -/
def withAge (l : List Nat) (n : Nat) : List Nat :=
  [wordAt l 0, wordAt l 1, wordAt l 2 - fwdAge l * 2 ^ 8 + n * 2 ^ 8]

/-- The bucket of a key (R471). -/
def fwdBucket (mac vid : Nat) : Nat := crc32 (netBytes 2 (vid % 2 ^ 12) ++ netBytes 6 mac) % 2048

/-- The R-TAG of a frame (R497, R498): its sequence number, if the frame carries one. -/
def rtagOf (l : List Byte) (h : Hdr) : Option Nat := if h.etype = 0xF1C1 then some (hdrField l (h.off + 2) 2) else none

/-- Cells of a frame (R478). -/
def cellCount (n : Nat) : Nat := (n + 255) / 256

namespace SwFrame

/-- Cells that the frame holds now, none once no copy is left (R478, R492). -/
def cells (f : SwFrame) : Nat := if f.copies = [] then 0 else f.held

/-- Cells of them that come from the headroom of its ingress port (R483). -/
def fromHeadroom (f : SwFrame) : Nat := if f.copies = [] then 0 else f.hdrm

/-- The frame as it leaves by `c` (R469, R497), without FCS; `untag` is the mask of its VLAN. -/
def out (f : SwFrame) (c : Copy) (untag : Nat) : List Byte :=
  let body := f.bytes.take (f.bytes.length - 4)
  if f.kind == .fromAgent || (match f.tx with | some t => t.direct | none => false) then body else
  let h := hdrOf f.bytes
  let rest := body.drop (h.off - 2)
  let rest := if f.strip && h.etype == 0xF1C1 then rest.drop 6 else rest
  let rest := match f.genSeq with
    | some q => netBytes 2 0xF1C1 ++ netBytes 2 0 ++ netBytes 2 q ++ rest
    | none => rest
  let dei := if f.tagged then hdrField f.bytes 14 1 / 16 % 2 else 0
  let tag := if bit untag c.port then [] else netBytes 2 0x8100 ++ netBytes 2 (f.pcp * 2 ^ 13 + dei * 2 ^ 12 + f.vid)
  body.take 12 ++ tag ++ rest

/-- Why a frame is captured (R500, R503), if it is: its rule, its sample and its VLAN, and, where drops are captured, that it
or a copy of it was dropped. -/
def causes (f : SwFrame) (drops : Bool) : Nat := if drops && (f.reason != 0 || f.drops != []) then f.cause ||| 4 else f.cause

end SwFrame

namespace Module

/-! ### Counters, events and small reads -/

/-- Count `n` under `kind` at port `p` (R510). -/
def swcCount (m : Module) (p kind n : Nat) : Module :=
  { m with swc := { m.swc with cnt := tmod 0 m.swc.cnt (p * 64 + kind) (fun v => (v + n) % 2 ^ 64) } }

/-- A drop of reason `r` counted at port `p` (R504). -/
def swcDropCount (m : Module) (p r : Nat) : Module :=
  (m.swcCount p (0x10 + r) 1).latch (fun h => { h with drops := sat 32 (h.drops + 1) })

/-- Change frame `id`. -/
def setFrame (m : Module) (id : Nat) (f : SwFrame → SwFrame) : Module :=
  { m with swc := { m.swc with frames := m.swc.frames.map (fun x => if x.id = id then f x else x) } }

/-- Frame `id`, if the switch holds it. -/
def swFrame (m : Module) (id : Nat) : Option SwFrame := m.swc.frames.find? (fun f => f.id == id)

/-- The VLAN entry of `vid`. -/
def vlanOf (m : Module) (vid : Nat) : List Nat := tget [] m.swc.vlan vid

/-- MEMBER and UNTAG of a VLAN. -/
def vlanMembers (m : Module) (vid : Nat) : Nat := wordAt (m.vlanOf vid) 0 % 2 ^ 16
def vlanUntag (m : Module) (vid : Nat) : Nat := wordAt (m.vlanOf vid) 0 / 2 ^ 16
def vlanBit (m : Module) (vid n : Nat) : Bool := bit (wordAt (m.vlanOf vid) 1) n

/-- Entry `i` of the forwarding table. -/
def fwdEntry (m : Module) (i : Nat) : List Nat := tget [] m.swc.fwd i

/-- Store entry `i` of the forwarding table, whole again (R505). -/
def setFwd (m : Module) (i : Nat) (l : List Nat) : Module :=
  { m with swc := { m.swc with fwd := tset [] m.swc.fwd i l, bad := m.swc.bad.filter (· != i) } }

/-- The index of the valid forwarding entry of a key (R471). -/
def fwdFind (m : Module) (mac vid : Nat) : Option Nat :=
  ((List.range 4).map (fun w => 4 * fwdBucket mac vid + w)).find? (fun i =>
    let e := m.fwdEntry i
    fwdValid e && entryMac e == mac && entryVid e == vid)

/-- A hit of a dynamic entry's address sets AGE to 0 (R475). -/
def fwdHit (m : Module) (mac vid : Nat) : Module :=
  match m.fwdFind mac vid with
  | some i => if fwdStatic (m.fwdEntry i) then m else m.setFwd i (withAge (m.fwdEntry i) 0)
  | none => m

/-- Parity of entry `i` of `table` is bad (R505). -/
def tableBad (m : Module) (table i : Nat) : Bool := m.swc.bad.contains (table * 8192 + i)

/-- The error of a table entry read at parse (R505). -/
def tableError (m : Module) (table i : Nat) : Module :=
  let m := ((m.wr F.SWC_TBL_ERR_TABLE table).wr F.SWC_TBL_ERR_INDEX i).raise F.SWC_TBL_ERR_VALID
  let m := (m.swcEvent F.SWC_EVT_TABLE_ERR).logBlk 6 0x2603 0 (table + i * 2 ^ 16)
  m.when (table == 0) (·.setFwd i [])

/-! ### The shared buffer -/

/-- Live copies of queue `q` with their frames. -/
def queueCopies (m : Module) (p c : Nat) : List (SwFrame × Copy) :=
  m.swc.frames.flatMap (fun f => (f.copies.filter (fun x => x.port == p && x.cls == c && ! x.parked)).map (fun x => (f, x)))

/-- CELLS(q) (R482): every copy charges every cell of its frame. -/
def qCells (m : Module) (q : Nat) : Nat := ((m.queueCopies (q / 8) (q % 8)).map (fun e => e.1.cells)).sum

/-- Cells not in use (R481). -/
def cellsFree (m : Module) : Nat := 8192 - (m.swc.frames.map (·.cells)).sum

/-- Cells drawn from the PFC headroom (R484). -/
def pfcUsed (m : Module) : Nat := (m.swc.frames.map (fun f => (f.copies.filter (·.pfc)).length * f.cells)).sum

/-- The headroom cells that frames of port `p` hold (R481, R483). -/
def hdrmUsed (m : Module) (p : Nat) : Nat := ((m.swc.frames.filter (fun f => f.inPort == p)).map (·.fromHeadroom)).sum

/-- FREE_SHARED (R481). -/
def freeShared (m : Module) : Nat :=
  let mins := ((List.range 128).map (fun q => m.rd F.SWC_QCFG_MIN_CELLS q - m.qCells q)).sum
  let hdrm := ((List.range 16).map (fun p => 40 - m.hdrmUsed p)).sum
  m.cellsFree - mins - hdrm - (m.rd F.SWC_PFC_HDRM_CELLS - m.pfcUsed)

/-- A copy is admitted under R482. -/
def queueAdmits (m : Module) (q free : Nat) : Bool :=
  let cells := m.qCells q
  let least := m.rd F.SWC_QCFG_MIN_CELLS q
  decide (cells < least) || decide ((cells - least) * 8 < 2 ^ m.rd F.SWC_QCFG_ALPHA q * free)

/-- Frame `id` takes one more cell (R483): from the minimum of a queue that it joins, or from the shared pool while R482 holds
for one, or from the PFC headroom where a copy draws on it, else from the headroom of its ingress port (log entry 33). -/
def takeCell (m : Module) (id : Nat) : Module :=
  let free := m.freeShared
  m.setFrame id (fun f =>
    let own := f.copies.any (fun c => c.pfc || m.queueAdmits (8 * c.port + c.cls) free)
    { f with held := f.held + 1, hdrm := f.hdrm + b2n (! own) })

/-- Class `c` is lossless on ingress port `p` (R484). -/
def lossless (m : Module) (p c : Nat) : Bool := bit (m.rd F.SWC_PORT_B_LOSSLESS p) c

/-- ING(p, c) (R484). -/
def ingCells (m : Module) (p c : Nat) : Nat :=
  ((m.swc.frames.filter (fun f => f.inPort == p && f.cls == c)).map (·.cells)).sum

/-- XOFF and XON of the lossless pairs (R484). -/
def swcXoff (m : Module) : Module :=
  forEach ((List.range 16).filter (fun p => m.rd F.SWC_PORT_B_LOSSLESS p != 0)) (fun p m =>
    forEach (bitsSet 8 (m.rd F.SWC_PORT_B_LOSSLESS p)) (fun c m =>
      let n := m.ingCells p c
      if m.rd F.SWC_QPFC_XOFF_TH (8 * p + c) < n then m.setMap F.SWC_PORT_STAT_XOFF c true p
      else if n < m.rd F.SWC_QPFC_XON_TH (8 * p + c) then m.setMap F.SWC_PORT_STAT_XOFF c false p
      else m) m) m

/-- The class in which a frame queues at port `p` (R462, R468). -/
def queueClass (p cls : Nat) : Nat := if p = 2 ∧ cls = 7 then 6 else cls

/-! ### Egress -/

/-- A copy of port `p` is in transmission. -/
def portBusy (m : Module) (p : Nat) : Bool := m.swc.frames.any (fun f => f.copies.any (fun c => c.port == p && c.sending))

/-- The head of a queue: the copy queued first that is not in transmission. -/
def queueHead (m : Module) (p c : Nat) : Option (SwFrame × Copy) :=
  (m.queueCopies p c).foldl (fun b e =>
    if e.2.sending || e.2.pos.isNone then b
    else match b with
      | some x => if e.2.pos.getD 0 < x.2.pos.getD 0 then some e else b
      | none => some e) none

/-- Class `c` of port `p` is held by received pause (R517). -/
def classHeld (m : Module) (p c : Nat) : Bool := p != 15 && ! (p < 3 && c == 7) && bit (m.rd F.MAC_STAT_HELD p) c

/-- The signed credit of a shaped queue (R520; log entry 32). -/
def cbsCredit (m : Module) (p c : Nat) : Int := signed 32 (m.rd F.MAC_CBS_CREDIT_BITS p c)

/-- A queue may send: it is not held, and its credit is 0 or more (R487, R517, R520). -/
def classFree (m : Module) (p c : Nat) : Bool :=
  ! m.classHeld p c && (m.rd F.MAC_CBS_IDLE_SLOPE p c == 0 || decide (0 ≤ m.cbsCredit p c))

/-- A queue is eligible (R487; log entry 32). -/
def eligible (m : Module) (p c : Nat) : Bool := (m.queueHead p c).isSome && m.classFree p c

/-- A port may transmit. -/
def portSends (m : Module) (p : Nat) : Bool := m.linkUp p && (p == 15 || (m.works 7 && m.flag F.MAC_CTRL_TX_EN p))

/-- Port `p` sends nothing now: the holds that waited for the end of its frame begin (R517). -/
def holdsBegin (m : Module) (p : Nat) : Module :=
  m.when (! m.portBusy p) (fun m =>
    { m with mac := tmod {} m.mac p (fun x =>
        { x with hold := x.hold.map (fun e => (e.1, { e.2 with start := some (e.2.start.getD m.boot.us) })) }) })

/-- A copy goes cut-through (R488). -/
def cutThrough (m : Module) (inPort p c : Nat) : Bool :=
  m.flag F.SWC_PORT_A_CT_EN p && (m.queueCopies p c == []) && ! m.portBusy p
    && ! (List.range 8).any (fun k => k != c && m.eligible p k)
    && decide (portRate p ≤ portRate inPort) && inPort != 15 && p != 15 && m.portSends p && m.classFree p c

/-- The egress time-stamp of a frame that port `p` begins to send now (R569; log entry 35). -/
def egressTs (m : Module) (p : Nat) : Nat := shiftNs m.tai (signed 16 (m.rd F.TMU_PORT_LAT_TX_NS p))

/-! ### Spore records -/

/-- The ring of spore records is full (R499). -/
def sporeFull (m : Module) : Bool :=
  (m.rd F.SWC_SPORE_WR_IDX + 1) % 2 ^ m.rd F.SWC_SPORE_SIZE_LOG2 == m.rd F.SWC_SPORE_RD_IDX

/-- A captured frame is lost (R501). -/
def sporeLost (m : Module) : Module := (m.addS F.SWC_SPORE_LOST_COUNT 1).swcEvent F.SWC_EVT_SPORE_LOST

/-- The record of a frame, with SEQ 0 (R503). -/
def sporeWords (f : SwFrame) : List Byte :=
  let low := f.drops.foldl (fun (b : Option (Nat × Nat)) e => match b with
    | some x => if e.1 < x.1 then some e else b
    | none => some e) none
  let drop := if f.reason ≠ 0 then f.reason else match low with | some e => e.2 | none => 0
  let ws := [f.ts % 2 ^ 32, f.ts / 2 ^ 32 % 2 ^ 32,
    f.inPort + f.cause * 2 ^ 4 + drop * 2 ^ 8 + f.bytes.length % 2 ^ 14 * 2 ^ 16 + b2n f.trunc * 2 ^ 30 + b2n f.ct * 2 ^ 31,
    f.intended + f.delivered * 2 ^ 16,
    f.cls + f.vid * 2 ^ 4 + f.rule.getD 0 * 2 ^ 16 + b2n f.rule.isSome * 2 ^ 25, f.epoch,
    f.stream.getD 0 * 2 ^ 16 + b2n f.stream.isSome * 2 ^ 24, 0]
  let d := f.bytes.take 96
  ws.flatMap (toBytes 4) ++ d ++ List.replicate (96 - d.length) 0

/-- The capture of a frame whose last copy has gone (R500, R501). -/
def sporeCapture (m : Module) (f : SwFrame) : Module :=
  if ! (m.flag F.SWC_CTRL_SPORE_EN && f.kind == .forwarded && f.causes (m.flag F.SWC_CTRL_SPORE_DROPS) != 0) then m
  else if 64 ≤ m.swc.stage.length || m.sporeFull then m.sporeLost
  else { m with swc := { m.swc with
    stage := m.swc.stage ++ [sporeWords { f with cause := f.causes (m.flag F.SWC_CTRL_SPORE_DROPS) }] } }

/-- The response to a record write was an error (R502). -/
def sporeFailed (m : Module) (st : Nat) : Module :=
  let m := (m.lower F.SWC_CTRL_SPORE_EN).swcEvent F.SWC_EVT_SPORE_FAIL
  let at_ := m.rd F.SWC_SPORE_BASE_ADDR * 0x1000 + m.rd F.SWC_SPORE_WR_IDX * 128
  { m.logBlk 6 0x2602 at_ st with swc := { m.swc with stage := [] } }

/-- The oldest staged record is written (R499, R501–R503). -/
def sporeWrite (m : Module) : Module :=
  match m.swc.stage with
  | [] => m
  | r :: rest =>
    if ! m.flag F.SWC_CTRL_SPORE_EN then m else
    let m := { m with swc := { m.swc with stage := rest } }
    if m.sporeFull then m.sporeLost else
    let i := m.rd F.SWC_SPORE_WR_IDX
    let data := r.take 0x18 ++ toBytes 2 (m.rd F.SWC_SPORE_WR_SEQ) ++ r.drop 0x1A
    let (m, ok) := m.busWrite (m.iattr 0x22) (m.rd F.SWC_SPORE_BASE_ADDR * 0x1000 + i * 128) data
    if ! ok then m.sporeFailed m.resp.status
    else (m.wr F.SWC_SPORE_WR_IDX ((i + 1) % 2 ^ m.rd F.SWC_SPORE_SIZE_LOG2)).addW F.SWC_SPORE_WR_SEQ 1

/-! ### The end of copies and frames -/

/-- A frame that has ended and has no copy left is captured and gone (R492, R501; log entry 33). -/
def frameGone (m : Module) (id : Nat) : Module :=
  match m.swFrame id with
  | none => m
  | some f =>
    if f.copies ≠ [] || ! f.ended then m else
    let m := m.sporeCapture f
    { m with swc := { m.swc with frames := m.swc.frames.filter (fun x => x.id != id) } }

/-- A TS_REQ frame's copy was dropped (R538). -/
def txDropped (m : Module) (f : SwFrame) (r : Nat) : Module :=
  match f.tx with
  | some t => if t.tsReq then m.txEnd t.hq t.no (dropStatus r) else m
  | none => m

/-- The copy of frame `id` for port `p` is dropped with reason `r` (R504), counted at its egress port, or at the ingress port
for HEADROOM. -/
def copyDrop (m : Module) (id p r : Nat) : Module :=
  match m.swFrame id with
  | none => m
  | some f =>
    let m := m.setFrame id (fun f => { f with copies := f.copies.filter (fun c => c.port != p), drops := f.drops ++ [(p, r)] })
    let m := m.swcDropCount (if r = 3 then f.inPort else p) r
    (((m.txDropped f r).frameGone id).holdsBegin p).swcXoff

/-! ### The decision at parse -/

/-- What the decision of R465 took. -/
structure Verdict where
  kind : FrameKind := .forwarded
  reason : Nat := 0
  vid : Nat := 0
  pcp : Nat := 0
  tagged : Bool := false
  cls : Nat := 0
  rule : Option Nat := none
  stream : Option Nat := none
  genSeq : Option Nat := none
  strip : Bool := false
  hq : Option Nat := none
  mask : Nat := 0
  cause : Nat := 0
deriving DecidableEq, Repr

/-- The first matching classification rule (R476). -/
def ruleFind (m : Module) (key : Nat) : Option (Nat × List Nat) :=
  m.swc.rules.find? (fun e => bit (wordAt e.2 12) 0 && ((key ^^^ wordsAt e.2 0 6) &&& wordsAt e.2 6 6) == 0)

/-- The stream of a frame (R496). -/
def streamFind (m : Module) (h : Hdr) (vid port : Nat) : Option (Nat × List Nat) :=
  m.swc.streams.find? (fun e => bit (wordAt e.2 1) 29 && bit (wordAt e.2 2) port && entryVid e.2 == vid
    && entryMac e.2 == (if bit (wordAt e.2 1) 28 then h.sa else h.da))

/-- Word `k` of stream entry `i` gains one in the field at `lo`, `w` bits wide; it wraps, or saturates. -/
def streamAdd (m : Module) (i k lo w : Nat) (saturate : Bool) : Module :=
  let e := tget [] m.swc.streams i
  let v := bits (wordAt e k) (lo + w - 1) lo
  let v' := if saturate then sat w (v + 1) else (v + 1) % 2 ^ w
  let e' := (List.range 9).map (fun j => if j = k then wordAt e k - v * 2 ^ lo + v' * 2 ^ lo else wordAt e j)
  { m with swc := { m.swc with streams := tset [] m.swc.streams i e' } }

/-- Store the recovery state of stream `i`. -/
def setRecov (m : Module) (i : Nat) (x : StreamSt) : Module := { m with swc := { m.swc with recov := tset {} m.swc.recov i x } }

/-- Sequence recovery of a frame with sequence `q` on stream `i` (R498): the module, and whether the frame passes
(log entry 33). -/
def recover (m : Module) (i : Nat) (q : Option Nat) : Module × Bool :=
  let x := { tget {} m.swc.recov i with last := m.boot.us }
  match q with
  | none => (((m.setRecov i x).streamAdd i 8 16 16 true).streamAdd i 5 0 32 false, true)
  | some s =>
    let d := signed 16 (unsigned 16 ((s : Int) - x.recov))
    if x.inReset then ((m.setRecov i { x with inReset := false, recov := s, hist := 1 }).streamAdd i 5 0 32 false, true)
    else if 64 ≤ d ∨ d ≤ -64 then (m.streamAdd i 7 16 16 true, false)
    else if 0 < d then ((m.setRecov i { x with recov := s, hist := (x.hist * 2 ^ d.toNat + 1) % 2 ^ 64 }).streamAdd i 5 0 32 false, true)
    else if bit x.hist (-d).toNat then (m.streamAdd i 6 0 32 false, false)
    else (((m.setRecov i { x with hist := setBit x.hist (-d).toNat true }).streamAdd i 7 0 16 true).streamAdd i 5 0 32 false, true)

/-- GEN_SEQ of stream `i` is taken (R497; log entry 33). -/
def takeSeq (m : Module) (i : Nat) : Module × Nat :=
  let q := wordAt (tget [] m.swc.streams i) 4 % 2 ^ 16
  (m.streamAdd i 4 0 16 false, q)

/-- The destination mask before rules (R472, R473): a bad forwarding entry answers its index. -/
def destMask (m : Module) (h : Hdr) (vid : Nat) : Nat ⊕ Nat :=
  let members := m.vlanMembers vid
  if h.da / 16 = 0x0180C200000 then .inr 0x8000
  else if h.da = 0xFFFFFFFFFFFF then .inr members
  else if bit h.da 40 then .inr (if m.vlanBit vid 3 then members else 0)
  else
    match m.fwdFind h.da vid with
    | some i =>
      if m.tableBad 0 i then .inl i
      else if bit (wordAt (m.fwdEntry i) 2) 5 then .inr 0 else .inr (2 ^ fwdPort (m.fwdEntry i) &&& members)
    | none => .inr (if m.vlanBit vid 2 then members else 0)

/-- The mask after the rule, the stream and the ingress port (R465). -/
def finalMask (mask : Nat) (rule stream : Option (Nat × List Nat)) (port : Nat) : Nat :=
  let act := match rule with | some e => wordAt e.2 12 | none => 0
  let mask := if bit act 6 then act / 2 ^ 16 else mask
  let mask := if bit act 8 then setBit mask 15 true else mask
  let mask := match stream with
    | some e => if bit (wordAt e.2 2) 16 then mask ||| wordAt e.2 3 % 2 ^ 16 else mask
    | none => mask
  setBit mask port false

/-- The decision from the stream on (R465). -/
def decideStream (m : Module) (port : Nat) (l : List Byte) (h : Hdr) (rule : Option (Nat × List Nat)) (v : Verdict) :
    Module × Verdict :=
  let stream := m.streamFind h v.vid port
  let v := { v with stream := stream.map Prod.fst }
  match stream with
  | some (i, e) =>
    if m.tableBad 3 i then (m.tableError 3 i, { v with reason := 0x0D })
    else
      let (m, pass) := if bit (wordAt e 2) 17 then m.recover i (rtagOf l h) else (m, true)
      if ! pass then (m, { v with reason := 9 }) else
      let (m, q) := if bit (wordAt e 2) 16 then ((m.takeSeq i).1, some (m.takeSeq i).2) else (m, none)
      let v := { v with genSeq := q, strip := bit (wordAt e 2) 18 }
      match m.destMask h v.vid with
      | .inl i => (m.tableError 0 i, { v with reason := 0x0D })
      | .inr mask =>
        let mask := finalMask mask rule stream port
        (m.fwdHit h.da v.vid, { v with mask := mask, reason := if mask = 0 then 6 else 0 })
  | none =>
    match m.destMask h v.vid with
    | .inl i => (m.tableError 0 i, { v with reason := 0x0D })
    | .inr mask =>
      let mask := finalMask mask rule none port
      (m.fwdHit h.da v.vid, { v with mask := mask, reason := if mask = 0 then 6 else 0 })

/-- The decision from the rule on (R465, R477). -/
def decideRule (m : Module) (port : Nat) (l : List Byte) (h : Hdr) (v : Verdict) : Module × Verdict :=
  let rule := m.ruleFind (classKey l h v.vid port)
  match rule with
  | some (i, e) =>
    if m.tableBad 2 i then (m.tableError 2 i, { v with reason := 0x0D })
    else
      let act := wordAt e 12
      let v := { v with rule := some i, cls := if bit act 2 then bits act 5 3 else v.cls
                        hq := if bit act 9 then some (bits act 14 10) else none
                        cause := if bit act 7 then v.cause ||| 1 else v.cause }
      if bit act 1 then (m, { v with reason := 4 }) else m.decideStream port l h rule v
  | none => m.decideStream port l h none v

/-- VID and class (R467, R468). -/
def resolve (m : Module) (port : Nat) (h : Hdr) : Verdict :=
  let vid := if h.tagged && h.tagVid != 0 then h.tagVid else m.rd F.SWC_PORT_A_PVID port
  { vid := vid, pcp := h.pcp, tagged := h.tagged
    cls := if h.tagged then bits (m.rd F.SWC_PORT_B_PCP_MAP port) (3 * h.pcp + 2) (3 * h.pcp)
           else m.rd F.SWC_PORT_A_DEF_CLASS port }

/-- R467 drops the frame. -/
def vlanRefuses (m : Module) (port : Nat) (v : Verdict) : Bool :=
  let acc := m.rd F.SWC_PORT_A_ACCEPT port
  (acc == 1 && ! v.tagged) || (acc == 2 && v.tagged) || ! m.vlanBit v.vid 0
    || (m.flag F.SWC_PORT_A_ING_FILTER port && ! bit (m.vlanMembers v.vid) port)

/-- The decision at parse (R465) of a frame of port `port` that begins with `l` (log entry 33). -/
def decideFrame (m : Module) (port : Nat) (l : List Byte) (tx : Option TxTag) (mask cls : Nat) : Module × Verdict :=
  let h := hdrOf l
  if ! m.flag F.SWC_CTRL_FWD_EN || ! m.flag F.SWC_PORT_A_EN port then (m, { reason := 0x0C })
  else if (match tx with | some t => t.direct | none => false) then
    (m, { m.resolve port h with mask := mask, cls := cls, reason := if mask = 0 then 6 else 0 })
  else if h.etype = 0x88B5 ∧ port < 3 ∧ bit (m.rd F.SWC_AGENT_CFG_TRAP) port then (m, { kind := .agent })
  else
    let v := m.resolve port h
    if m.tableBad 1 v.vid then (m.tableError 1 v.vid, { v with reason := 0x0D })
    else
      let v := { v with cause := if m.vlanBit v.vid 0 && m.vlanBit v.vid 4 then 8 else 0 }
      if m.vlanRefuses port v then (m, { v with reason := 5 }) else m.decideRule port l h v

/-! ### Admission -/

/-- One copy of frame `id` for port `p` is admitted or dropped (R462, R482, R484, R488, R491); `free` is FREE_SHARED at the
parse. A copy for a sleeping Ethernet segment wakes it (R634; log entry 33). -/
def admitCopy (m : Module) (id inPort cls free p : Nat) : Module :=
  let c := queueClass p cls
  let q := 8 * p + c
  let add := fun (m : Module) (x : Copy) => m.setFrame id (fun f => { f with copies := f.copies ++ [x], ct := f.ct || x.ct })
  if ! m.linkUp p then
    let m := m.copyDrop id p 0x0B
    match portSeg p with
    | some s => m.when (m.flag F.NPM_SEG_CFG_WAKE_ON_TX s && m.segState s == 2) (·.localRequest s 5)
    | none => m
  else if m.queueAdmits q free then
    if m.cutThrough inPort p c then
      (add m { port := p, cls := c, sending := true, ct := true, startT := m.egressTs p }).swcCount p 4 1
    else add m { port := p, cls := c }
  else if m.lossless inPort cls then
    if m.pfcUsed < m.rd F.SWC_PFC_HDRM_CELLS then add m { port := p, cls := c, pfc := true } else m.copyDrop id p 3
  else m.copyDrop id p 1

/-- Frame descriptors in use (R480). -/
def descsUsed (m : Module) : Nat := (m.swc.frames.filter (fun f => f.copies != [])).length

/-- Copy entries in use (R480). -/
def copiesUsed (m : Module) : Nat := (m.swc.frames.map (fun f => f.copies.length)).sum

/-- The whole frame `id` is dropped with reason `r` (R504; log entry 33). -/
def frameDrop (m : Module) (id r : Nat) : Module :=
  match m.swFrame id with
  | none => m
  | some f => ((m.setFrame id (fun f => { f with reason := r })).swcDropCount f.inPort r).txDropped f r

/-- A frame of port `port` that begins with `l` is parsed (R464, R465): its number in the switch (log entry 33). -/
def swcParse (m : Module) (port : Nat) (l : List Byte) (ts : Nat) (tx : Option TxTag := none) (mask cls : Nat := 0) :
    Module × Nat :=
  let id := m.swc.nextId
  let (m, v) := m.decideFrame port l tx mask cls
  let f : SwFrame := { id := id, kind := v.kind, inPort := port, bytes := l, ts := ts, vid := v.vid, pcp := v.pcp
                       tagged := v.tagged, cls := v.cls, rule := v.rule, stream := v.stream, genSeq := v.genSeq
                       strip := v.strip, hq := v.hq, tx := tx, epoch := m.rd F.SWC_EPOCH_EPOCH
                       intended := if v.reason = 0 then v.mask else 0, cause := v.cause, parsed := m.rd F.LSS_MTIME_US, held := 1 }
  let m := { m with swc := { m.swc with nextId := id + 1, frames := m.swc.frames ++ [f] } }
  if v.kind ≠ .forwarded then (m, id)
  else if v.reason ≠ 0 then (m.frameDrop id v.reason, id)
  else
    let up := (bitsSet 16 v.mask).filter (fun p => m.linkUp p)
    if 6144 ≤ m.descsUsed || 12288 < m.copiesUsed + up.length then (m.frameDrop id 2, id)
    else
      let free := m.freeShared
      let m := forEach (bitsSet 16 v.mask) (fun p m => m.admitCopy id port v.cls free p) m
      (m.swcXoff, id)

/-! ### The end of reception -/

/-- Learning (R474). -/
def learn (m : Module) (port vid sa : Nat) : Module :=
  match m.fwdFind sa vid with
  | some i =>
    let e := m.fwdEntry i
    if ! fwdStatic e then m.setFwd i [wordAt e 0, wordAt e 1, port + wordAt e 2 % 2 ^ 7 / 16 * 16]
    else if fwdPort e ≠ port then m.swcCount port 5 1 else m
  | none =>
    match ((List.range 4).map (fun w => 4 * fwdBucket sa vid + w)).find? (fun i => ! fwdValid (m.fwdEntry i)) with
    | some i => m.setFwd i [sa % 2 ^ 32, sa / 2 ^ 32 + vid * 2 ^ 16, port + 2 ^ 6]
    | none => (m.addS F.SWC_LEARN_FULL_COUNT 1).swcEvent F.SWC_EVT_LEARN_FULL

/-- The frame may be learned from (R474). -/
def mayLearn (m : Module) (f : SwFrame) (good : Bool) : Bool :=
  good && f.kind == .forwarded && m.flag F.SWC_PORT_A_LEARN f.inPort && m.vlanBit f.vid 0 && m.vlanBit f.vid 1
    && ! bit (hdrOf f.bytes).sa 40 && f.reason != 0x0C && f.reason != 5 && f.reason != 7 && f.reason != 8
    && ! (match f.tx with | some t => t.direct | none => false)

/-- The SAMPLE_N count of a port (R500): true for the N-th, 2N-th frame (log entry 34). -/
def sampleHit (m : Module) (p : Nat) : Module × Bool :=
  let n := m.rd F.SWC_PORT_C_SAMPLE_N p
  if n = 0 then ({ m with swc := { m.swc with samples := tset 0 m.swc.samples p 0 } }, false)
  else
    let k := tget 0 m.swc.samples p + 1
    if n ≤ k then ({ m with swc := { m.swc with samples := tset 0 m.swc.samples p 0 } }, true)
    else ({ m with swc := { m.swc with samples := tset 0 m.swc.samples p k } }, false)

/-- A cut-through copy of a bad frame ends with a stomped FCS (R489): the CRC of what was sent, inverted. -/
def stompCopy (m : Module) (f : SwFrame) (c : Copy) : Module :=
  let l := f.out c (m.vlanUntag f.vid)
  let m := { m with out := .frame c.port (l ++ toBytes 4 (crc32 l ^^^ 0xFFFFFFFF)) :: m.out }
  let m := { m with mac := tmod {} m.mac c.port (fun x => { x with cnt := tmod 0 x.cnt 8 (fun v => (v + 1) % 2 ^ 64) }) }
  (m.setFrame f.id (fun f => { f with trunc := true })).copyDrop f.id c.port 0x0F

/-- The copies that are not in transmission join their queues (R488, R490); one that its R-TAG makes too long is dropped
(R497). -/
def queueCopy (m : Module) (f : SwFrame) (c : Copy) : Module :=
  if c.sending then m
  else if f.genSeq.isSome && decide (9212 < (f.out c (m.vlanUntag f.vid)).length) then m.copyDrop f.id c.port 8
  else
    let n := m.swc.nextPos
    let m := m.setFrame f.id (fun f => { f with copies := f.copies.map (fun x => if x.port = c.port then { x with pos := some n } else x) })
    { m with swc := { m.swc with nextPos := n + 1 } }

/-- Frame `id` has been received whole as `l`; `bad` is 0, or the reason FCS_ERROR or LENGTH (R474, R488, R489, R500;
log entry 33). -/
def swcEnd (m : Module) (id : Nat) (l : List Byte) (bad : Nat) : Module :=
  match m.swFrame id with
  | none => m
  | some f =>
    let (m, hit) := m.sampleHit f.inPort
    let m := (m.swcCount f.inPort 0 1).swcCount f.inPort 1 l.length
    let m := m.setFrame id (fun f => { f with bytes := l, ended := true, cause := if hit then f.cause ||| 2 else f.cause })
    let f := (m.swFrame id).getD f
    if bad ≠ 0 then
      let m := forEach (List.range 16) (fun p m => match f.copies.find? (fun c => c.port == p && c.sending) with
        | some c => m.stompCopy f c
        | none => m) m
      let rest := f.copies.filter (fun c => ! c.sending)
      if f.reason = 0 && (rest != [] || f.copies == []) && f.kind != .control then
        let whole := rest.length == f.copies.length && f.drops == []
        let m := m.setFrame id (fun f => { f with copies := [], drops := if whole then f.drops else f.drops ++ rest.map (fun c => (c.port, bad)) })
        let m := (m.swcDropCount f.inPort bad).txDropped f bad
        ((m.setFrame id (fun f => { f with reason := if whole then bad else f.reason })).frameGone id).swcXoff
      else (m.frameGone id).swcXoff
    else
      let m := forEach (List.range (cellCount l.length - 1)) (fun _ m => m.takeCell id) m
      let m := m.when (m.mayLearn f true) (·.learn f.inPort f.vid (hdrOf f.bytes).sa)
      let m := f.copies.foldl (fun m c => m.queueCopy f c) m
      (m.frameGone id).swcXoff

/-! ### Egress scheduling -/

/-- A class is served by strict priority (R462, R487). -/
def strictClass (m : Module) (p c : Nat) : Bool := decide (m.rd F.SWC_PORT_C_SP_FLOOR p ≤ c) || (decide (p < 3) && c == 7)

/-- Length on the wire of the head copy of a queue. -/
def headLen (m : Module) (p c : Nat) : Nat :=
  match m.queueHead p c with
  | some (f, x) => (f.out x (m.vlanUntag f.vid)).length + 4
  | none => 0

/-- Deficit round robin among the classes below SP_FLOOR (R487): a class that sends pays with its deficit; a class whose turn
comes receives WEIGHT × 256 bytes. `fuel` bounds the rounds (log entry 32). -/
def drrPick (m : Module) (p : Nat) (cand : List Nat) : Nat → Module × Option Nat
  | 0 => (m, cand.head?)
  | fuel + 1 =>
    if cand = [] then (m, none) else
    let c := tget 0 m.swc.turn p
    let q := 8 * p + c
    let d := tget 0 m.swc.deficit q
    if cand.contains c && decide (m.headLen p c ≤ d) then
      ({ m with swc := { m.swc with deficit := tset 0 m.swc.deficit q (d - m.headLen p c) } }, some c)
    else
      let m := m.when (! cand.contains c) (fun m => { m with swc := { m.swc with deficit := tset 0 m.swc.deficit q 0 } })
      let n := (c + 1) % 8
      let m := { m with swc := { m.swc with turn := tset 0 m.swc.turn p n } }
      let qn := 8 * p + n
      let m := m.when (cand.contains n) (fun m =>
        { m with swc := { m.swc with deficit := tmod 0 m.swc.deficit qn (fun v => v + m.rd F.SWC_QCFG_WEIGHT qn * 256) } })
      drrPick m p cand fuel

/-- The queue that a port serves next (R487; log entry 32). -/
def pickClass (m : Module) (p : Nat) : Module × Option Nat :=
  match ((List.range 8).reverse.filter (fun c => m.strictClass p c && m.eligible p c)).head? with
  | some c => (m, some c)
  | none => m.drrPick p ((List.range 8).filter (fun c => ! m.strictClass p c && m.eligible p c)) 512

/-- A parity error of the buffer at port `p`, cell `n` (R486). -/
def bufParity (m : Module) (p n : Nat) : Module := (m.swcEvent F.SWC_EVT_BUF_PARITY).logBlk 6 0x2604 0 p n

/-- A port begins to send a copy (R486, R487, R569; log entry 32). -/
def transmitStart (m : Module) (p : Nat) (parity : Option Nat) : Module :=
  if ! m.portSends p || m.portBusy p then m else
  let (m, c) := m.pickClass p
  match c.bind (fun c => m.queueHead p c) with
  | none => m
  | some (f, x) =>
    match parity with
    | some n => (m.bufParity p n).copyDrop f.id p 0x0E
    | none => m.setFrame f.id (fun f => { f with copies := f.copies.map (fun y =>
        if y.port = x.port then { y with sending := true, startT := m.egressTs p } else y) })

/-! ### The residence time -/

/-- Replace the bytes from offset `i`. -/
def splice (l : List Byte) (i : Nat) (d : List Byte) : List Byte := l.take i ++ d ++ l.drop (i + d.length)

/-- Where the PTP message of a frame begins, and where its UDP checksum stands (R574; log entry 12). -/
def ptpAt (l : List Byte) : Option (Nat × Option Nat) :=
  let h := hdrOf l
  let l4 := h.off + 4 * (hdrField l h.off 1 % 16)
  if h.etype = 0x88F7 then some (h.off, none)
  else if h.etype = 0x0800 ∧ hdrField l (h.off + 9) 1 = 17 ∧ hdrField l (l4 + 2) 2 = 319 then some (l4 + 8, some (l4 + 6))
  else none

/-- The residence time is added to correctionField (R573, R574; the message header is that of IEEE 1588, PRESUMED). -/
def residence (m : Module) (f : SwFrame) (c : Copy) (l : List Byte) : List Byte :=
  let mode := fun p => if 15 ≤ p then 0 else m.rd F.TMU_PORT_TC_TC_MODE p
  let out := mode c.port
  let inp := mode f.inPort
  if out = 0 ∨ out = 3 ∨ inp = 0 ∨ inp = 3 then l else
  match ptpAt l with
  | none => l
  | some (o, ck) =>
    let msg := hdrField l o 1 % 16
    let twoStep := bit (hdrField l (o + 6) 1) 1
    if ! ((msg == 0 && ! twoStep) || (msg == 1 && out == 1)) then l else
    let link : Nat := if out = 2 then m.rd F.TMU_PORT_LINK_LINK_DELAY_NS f.inPort else 0
    let ns : Int := (c.startT : Int) - (f.ts : Int) + (link : Int)
    let old : Nat := ((l.drop (o + 8)).take 8).foldl (fun v b => v * 256 + b.toNat) 0
    let l := splice l (o + 8) (netBytes 8 (unsigned 64 ((old : Int) + ns * 65536)))
    match ck with
    | some k => splice l k [0, 0]
    | none => l

/-! ### Credit-based shaping -/

/-- The bound of the credit (R521). -/
def creditMax (m : Module) (p c : Nat) : Int :=
  ((m.rd F.MAC_CTRL_MAX_LEN p * 8 * (m.rd F.MAC_CBS_IDLE_SLOPE p c * 100000) / portRate p + 9216 * 8 : Nat) : Int)

/-- The credits of a port after a frame of class `c` and `n` bytes has been sent (R520, R521); `n` counts the 20 bytes of
preamble and gap (log entry 32). -/
def cbsAfter (m : Module) (p c n : Nat) : Module :=
  forEach (List.range 8) (fun k m =>
    let slope : Int := m.rd F.MAC_CBS_IDLE_SLOPE p k * 100000
    if slope = 0 then m else
    let rate : Int := portRate p
    let nbits : Int := (n * 8 : Nat)
    let old := m.cbsCredit p k
    let queued := m.queueCopies p k != []
    let new := if k = c then old + (slope - rate) * nbits / rate
      else if queued then old + slope * nbits / rate else old
    let new := if ! queued && decide (0 < new) then 0 else new
    m.wr F.MAC_CBS_CREDIT_BITS (unsigned 32 (clampInt (-(m.creditMax p k)) (m.creditMax p k) new)) p k) m

/-! ### The end of a transmission -/

/-- The copy that port `p` sends. -/
def sendingCopy (m : Module) (p : Nat) : Option (SwFrame × Copy) :=
  m.swc.frames.findSome? (fun f => (f.copies.find? (fun c => c.port == p && c.sending)).map (fun c => (f, c)))

/-- The copy of frame `id` for port `p` has left (R492, R503). -/
def copyGone (m : Module) (id p : Nat) : Module :=
  let m := m.setFrame id (fun f => { f with copies := f.copies.filter (fun c => c.port != p), delivered := setBit f.delivered p true })
  ((m.frameGone id).holdsBegin p).swcXoff

/-- A copy finishes sending on port `p`, 0–14 (R486, R492, R511, R520, R536, R573). -/
def transmitEnd (m : Module) (p : Nat) (parity : Option Nat) : Module :=
  match m.sendingCopy p with
  | none => m
  | some (f, c) =>
    if ! f.ended then m else
    let l := m.residence f c (f.out c (m.vlanUntag f.vid))
    match parity with
    | some n => ((m.bufParity p n).setFrame f.id (fun f => { f with trunc := true })).stompCopy f c
    | none =>
      let m := { m with out := .frame p (withFcs l) :: m.out }
      let m := (m.swcCount p 2 1).swcCount p 3 (l.length + 4)
      let m := { m with mac := tmod {} m.mac p (fun x => { x with cnt := tmod 0 x.cnt 6 (fun v => (v + 1) % 2 ^ 64) }) }
      let m := match f.tx with
        | some t => if t.tsReq then { m with swc := { m.swc with tsDue := m.swc.tsDue ++ [(p, t.hq, t.no, c.startT)] } } else m
        | none => m
      (m.copyGone f.id p).cbsAfter p c.cls (l.length + 24)

/-! ### Ageing, links -/

/-- The head of a queue is over age (R485). -/
def headAged (m : Module) (p c : Nat) : Option Nat :=
  match m.queueHead p c with
  | some (f, _) => if f.parsed + m.rd F.SWC_AGE_LIMIT_MS * 1000 < m.rd F.LSS_MTIME_US then some f.id else none
  | none => none

/-- Over-age heads of one queue are dropped, until the head is younger (R485). -/
def ageQueue (m : Module) (p c : Nat) : Nat → Module
  | 0 => m
  | fuel + 1 =>
    match m.headAged p c with
    | some id => ageQueue (m.copyDrop id p 0x0A) p c fuel
    | none => m

/-- The age check of every queue, once every 1 ms (R485; log entry 33). -/
def ageCheck (m : Module) : Module :=
  if m.boot.us < m.swc.ageUs + 1000 then m else
  let m := { m with swc := { m.swc with ageUs := m.boot.us } }
  forEach (List.range 128) (fun q m => m.ageQueue (q / 8) (q % 8) m.swc.frames.length) m

/-- The aging scan, every AGE_TIME / 4 (R475). -/
def agingScan (m : Module) : Module :=
  if ! m.flag F.SWC_AGING_EN || m.boot.us < m.swc.scanUs + m.rd F.SWC_AGING_SECONDS * 250000 then m else
  let step := fun (e : Nat × List Nat) =>
    if ! fwdValid e.2 || fwdStatic e.2 then some e
    else if 4 ≤ fwdAge e.2 then none else some (e.1, withAge e.2 (fwdAge e.2 + 1))
  { m with swc := { m.swc with fwd := m.swc.fwd.filterMap step, scanUs := m.boot.us } }

/-- The copies of port `p` are dropped with LINK_DOWN (R491). -/
def dropPort (m : Module) (p : Nat) : Module :=
  forEach ((m.swc.frames.filter (fun f => f.copies.any (fun c => c.port == p))).map (·.id)) (fun id m => m.copyDrop id p 0x0B) m

/-- The frame being received on port `p`. -/
def receiving (m : Module) (p : Nat) : Option SwFrame := m.swc.frames.find? (fun f => f.inPort == p && ! f.ended)

/-- The switch core's side of a lost link (R489, R491; log entry 33). -/
def swcLinkDown (m : Module) (p : Nat) : Module :=
  let m := (m.lower F.SWC_PORT_STAT_LINK p).dropPort p
  match m.receiving p with
  | some f => m.swcEnd f.id f.bytes 7
  | none => m

/-! ### Tables -/

/-- Number of entries of a table (R470, R471, R476, R496). -/
def tableSize (t : Nat) : Nat := if t = 0 then 8192 else if t = 1 then 4096 else if t = 2 then 512 else 256

/-- Number of words of an entry. -/
def tableWords (t : Nat) : Nat := if t = 0 then 3 else if t = 1 then 2 else if t = 2 then 13 else 9

/-- The reserved bits of an entry's words (R470, R471, R476, R477, R496). -/
def tableReserved (t k : Nat) : Nat :=
  if t = 0 then (if k = 1 then 0xF0000000 else if k = 2 then 0xFFFFF880 else 0)
  else if t = 1 then (if k = 1 then 0xFFFFFFE0 else 0)
  else if t = 2 then (if k = 5 ∨ k = 11 then 0xFFF00000 else if k = 12 then 0x8000 else 0)
  else if k = 1 then 0xC0000000 else if k = 2 then 0xFFF80000 else if k = 4 then 0xFFFF0000 else 0

/-- The staging words. -/
def staging (m : Module) : List Nat := (List.range 16).map (fun k => m.rd F.SWC_TBL_DATA_DATA k)

/-- The staging words become `l`. -/
def setStaging (m : Module) (l : List Nat) : Module :=
  forEach (List.range 16) (fun k m => m.wr F.SWC_TBL_DATA_DATA (wordAt l k) k) m

/-- Entry `i` of table `t`. -/
def tableEntry (m : Module) (t i : Nat) : List Nat :=
  if t = 0 then m.fwdEntry i else if t = 1 then m.vlanOf i else if t = 2 then tget [] m.swc.rules i else tget [] m.swc.streams i

/-- Entry `i` of table `t` becomes `l`; words of zeros alone are no entry. It is whole again (R505). -/
def setTable (m : Module) (t i : Nat) (l : List Nat) : Module :=
  let l := if l.all (· == 0) then [] else l
  let w := m.swc
  let w := if t = 0 then { w with fwd := tset [] w.fwd i l } else if t = 1 then { w with vlan := tset [] w.vlan i l }
    else if t = 2 then { w with rules := tset [] w.rules i l } else { w with streams := tset [] w.streams i l, recov := tset {} w.recov i {} }
  { m with swc := { w with bad := w.bad.filter (· != t * 8192 + i) } }

/-- A commit (R494; log entry 34). -/
def commit (m : Module) : Module :=
  let m := m.addW F.SWC_EPOCH_EPOCH 1
  m.wr F.SWC_TBL_EPOCH_EPOCH (m.rd F.SWC_EPOCH_EPOCH)

/-- A table command ends with `st` (R493). -/
def tblDone (m : Module) (st : Nat) : Module := (m.wr F.SWC_TBL_STAT_STATUS st).swcEvent F.SWC_EVT_TBL_DONE

/-- What WRITE stores: read-only parts of the staging words are ignored (R471, R496). -/
def writable (t : Nat) (l : List Nat) : List Nat :=
  if t = 0 then [wordAt l 0, wordAt l 1 % 2 ^ 28, wordAt l 2 % 2 ^ 7]
  else if t = 3 then [wordAt l 0, wordAt l 1, wordAt l 2, wordAt l 3] else l.take (tableWords t)

/-- Reserved bits are set in the staging words. -/
def reservedSet (t : Nat) (l : List Nat) : Bool :=
  (List.range (tableWords t)).any (fun k => (wordAt l k &&& tableReserved t k) != 0)

/-- WRITE of `l` to entry `i` of table `t` is refused (R493). -/
def writeRefused (t i : Nat) (l : List Nat) : Bool :=
  decide (tableSize t ≤ i) || (t == 1 && (i == 0 || i == 4095)) || reservedSet t l

/-- WRITE (R493, R494, R496; log entry 34). -/
def tblWrite (m : Module) (t i : Nat) : Module :=
  if writeRefused t i m.staging then m.tblDone 0x10 else ((m.setTable t i (writable t m.staging)).commit).tblDone 0

/-- READ (R493; log entry 34). -/
def tblRead (m : Module) (t i : Nat) : Module :=
  if tableSize t ≤ i then m.tblDone 0x10 else (m.setStaging (m.tableEntry t i)).tblDone 0

/-- The word and bit of VALID in an entry. -/
def validAt (t : Nat) : Nat × Nat := if t = 0 then (2, 6) else if t = 1 then (1, 0) else if t = 2 then (12, 0) else (1, 29)

/-- VALID of entry `i` of table `t` becomes 0, and the change is committed (R493, R494). -/
def entryOff (m : Module) (t i : Nat) : Module :=
  let e := m.tableEntry t i
  let (k, b) := validAt t
  let e' := (List.range (tableWords t)).map (fun j => if j = k then setBit (wordAt e j) b false else wordAt e j)
  let bad := m.swc.bad
  let rec_ := m.swc.recov
  let m := m.setTable t i e'
  ({ m with swc := { m.swc with bad := bad, recov := rec_ } }).commit

/-- DELETE (R493, R494). -/
def tblDelete (m : Module) (t i : Nat) : Module :=
  if tableSize t ≤ i then m.tblDone 0x10 else (m.entryOff t i).tblDone 0

/-- The way that INSERT of a new key takes in a full bucket (R493): its dynamic entry of highest AGE (log entry 34). -/
def insertVictim (m : Module) (b : Nat) : Option Nat :=
  ((List.range 4).map (4 * b + ·)).foldl (fun (best : Option Nat) i =>
    if fwdStatic (m.fwdEntry i) then best
    else match best with
      | some j => if fwdAge (m.fwdEntry j) < fwdAge (m.fwdEntry i) then some i else best
      | none => some i) none

/-- The entry that INSERT places at index `i`. -/
def insertAt (m : Module) (i : Nat) : Module :=
  (((m.setTable 0 i (writable 0 m.staging)).commit).wr F.SWC_TBL_STAT_INDEX i).tblDone 0

/-- INSERT (R493). Whether a dynamic insert into a full bucket with a dynamic way replaces it is not stated: a free value
decides (log entry 34). -/
def tblInsert (m : Module) : Module :=
  let l := m.staging
  let mac := entryMac l
  let vid := entryVid l
  let b := fwdBucket mac vid
  match m.fwdFind mac vid with
  | some i => m.insertAt i
  | none =>
    match ((List.range 4).map (4 * b + ·)).find? (fun i => ! fwdValid (m.fwdEntry i)) with
    | some i => m.insertAt i
    | none =>
      match m.insertVictim b with
      | none => m.tblDone 1
      | some i =>
        if bit (wordAt l 2) 4 then m.insertAt i
        else
          let (m, r) := m.draw 2
          if r = 0 then m.tblDone 1 else m.insertAt i

/-- LOOKUP (R493; log entry 34). -/
def tblLookup (m : Module) : Module :=
  let l := m.staging
  match m.fwdFind (entryMac l) (entryVid l) with
  | some i => ((m.setStaging (m.fwdEntry i)).wr F.SWC_TBL_STAT_INDEX i).tblDone 0
  | none => (m.wr F.SWC_TBL_DATA_DATA (setBit (wordAt l 2) 6 false) 2).tblDone 0

/-- FLUSH (R493, R494): each removal is a commit of its own (log entry 34). -/
def tblFlush (m : Module) : Module :=
  let l := m.staging
  let w2 := wordAt l 2
  let gone := fun (e : Nat × List Nat) => fwdValid e.2 && ! fwdStatic e.2
    && (! bit w2 12 || fwdPort e.2 == w2 % 16) && (! bit w2 13 || entryVid e.2 == entryVid l)
  let n := (m.swc.fwd.filter gone).length
  let m := { m with swc := { m.swc with fwd := m.swc.fwd.filter (fun e => ! gone e) } }
  let m := m.addW F.SWC_EPOCH_EPOCH n
  let m := m.when (n != 0) (fun m => m.wr F.SWC_TBL_EPOCH_EPOCH (m.rd F.SWC_EPOCH_EPOCH))
  (m.wr F.SWC_TBL_COUNT_REMOVED n).tblDone 0

/-- A write of SWC_TBL_CMD that reached it (R493). -/
def tblCommand (m : Module) (op t i : Nat) : Module :=
  if op = 1 then m.tblWrite t i
  else if op = 2 then m.tblRead t i
  else if op = 3 then m.tblDelete t i
  else if op = 4 ∧ t = 0 then m.tblInsert
  else if op = 5 ∧ t = 0 then m.tblLookup
  else if op = 6 ∧ t = 0 then m.tblFlush
  else m.tblDone 0x10

/-! ### Epochs -/

/-- Epoch `e` is not behind `d` (R495, serial-number arithmetic). -/
def epochReached (e d : Nat) : Bool := decide (unsigned 32 ((e : Int) - d) < 2 ^ 31)

/-- SWC_EPOCH_OLDEST (R495). -/
def epochOldest (m : Module) : Nat :=
  (m.swc.frames.filter (fun f => f.copies != [] && f.kind == .forwarded)).foldl (fun e f => if epochReached f.epoch e then e else f.epoch)
    (m.rd F.SWC_EPOCH_EPOCH)

/-- A write of SWC_DRAIN_REQ (R495). -/
def drainRequest (m : Module) (e : Nat) : Module := (m.wr F.SWC_DRAIN_REQ_EPOCH e).lower F.SWC_DRAIN_STAT_DRAINED

/-- SWC_EPOCH_OLDEST has reached the epoch asked for (R495). -/
def drained (m : Module) : Module :=
  if ! m.flag F.SWC_DRAIN_STAT_DRAINED && epochReached m.epochOldest (m.rd F.SWC_DRAIN_REQ_EPOCH) then
    (m.raise F.SWC_DRAIN_STAT_DRAINED).swcEvent F.SWC_EVT_DRAINED
  else m

/-- RESET_MS of stream `i` has elapsed with no frame passed (R498). -/
def recovReset (m : Module) (i : Nat) : Module :=
  let e := tget [] m.swc.streams i
  let x := tget {} m.swc.recov i
  if bit (wordAt e 1) 29 && bit (wordAt e 2) 17 && ! x.inReset && decide (x.last + wordAt e 3 / 2 ^ 16 * 1000 ≤ m.boot.us) then
    (m.setRecov i {}).streamAdd i 8 0 16 true
  else m

/-- A write of SWC_CNT_SEL (R510). -/
def swcCntSel (m : Module) (v : Nat) : Module :=
  let m := (m.wr F.SWC_CNT_SEL_PORT (bits v 3 0)).wr F.SWC_CNT_SEL_KIND (bits v 12 8)
  m.wr F.SWC_CNT_VAL_VALUE (tget 0 m.swc.cnt (bits v 3 0 * 64 + bits v 12 8))

end Module

/-! ### Commands -/

/-- COPY_TRANSMIT_START (R486, R487, R520, R569). -/
def execCopyTransmitStart (port : Fin 16) (parity : Option (Fin 8192)) (s : State) : Host.Outcome State Fault Refusal :=
  s.runIn 6 (fun m => m.transmitStart port.val (parity.map (·.val)))

/-- COPY_TRANSMIT_END (R484, R486, R492, R501, R511, R520, R573, R574). -/
def execCopyTransmitEnd (port : Fin 15) (parity : Option (Fin 8192)) (s : State) : Host.Outcome State Fault Refusal :=
  s.runIn 6 (fun m => m.transmitEnd port.val (parity.map (·.val)))

/-- QUEUE_AGE_CHECK (R485, R508, R538, R548). -/
def execQueueAgeCheck (s : State) : Host.Outcome State Fault Refusal := s.runIn 6 (fun m => m.ageCheck)

/-- AGING_SCAN (R475, R508). -/
def execAgingScan (s : State) : Host.Outcome State Fault Refusal := s.runIn 6 (fun m => m.agingScan)

/-- Byte address of SWC_TBL_CMD. -/
def tblCmdAddr : Nat := 0x20400040

/-- TBL_READ (R493). -/
def execTblRead (a : Access) (table : Fin 4) (index : Fin 8192) (s : State) : Host.Outcome State Fault Refusal :=
  s.runBy a 1 (fun a m => m.access a tblCmdAddr 1 (·.tblCommand 2 table.val index.val))

/-- TBL_DELETE (R493, R494, R508). -/
def execTblDelete (a : Access) (table : Fin 4) (index : Fin 8192) (s : State) : Host.Outcome State Fault Refusal :=
  s.runBy a 1 (fun a m => m.access a tblCmdAddr 1 (·.tblCommand 3 table.val index.val))

/-- TBL_INSERT (R493, R494, R508). -/
def execTblInsert (a : Access) (table : Fin 4) (s : State) : Host.Outcome State Fault Refusal :=
  s.runBy a 1 (fun a m => m.access a tblCmdAddr 1 (·.tblCommand 4 table.val 0))

/-- TBL_LOOKUP (R493). -/
def execTblLookup (a : Access) (table : Fin 4) (s : State) : Host.Outcome State Fault Refusal :=
  s.runBy a 1 (fun a m => m.access a tblCmdAddr 1 (·.tblCommand 5 table.val 0))

/-- TBL_FLUSH (R493, R494). -/
def execTblFlush (a : Access) (table : Fin 4) (s : State) : Host.Outcome State Fault Refusal :=
  s.runBy a 1 (fun a m => m.access a tblCmdAddr 1 (·.tblCommand 6 table.val 0))

/-- DRAIN_REQUEST (R495, R508). -/
def execDrainRequest (a : Access) (v : Word) (s : State) : Host.Outcome State Fault Refusal :=
  s.runBy a 1 (fun a m => m.access a 0x20400038 1 (·.drainRequest v.toNat))

/-- DRAINED (R495). -/
def execSwcDrained (s : State) : Host.Outcome State Fault Refusal := s.runIn 6 (fun m => m.drained)

/-- SWC_CNT_SEL_WRITE (R510). -/
def execSwcCntSelWrite (a : Access) (v : Word) (s : State) : Host.Outcome State Fault Refusal :=
  s.runBy a 1 (fun a m => m.access a 0x20400070 1 (·.swcCntSel v.toNat))

/-- SPORE_RECORD_WRITE (R499, R501–R503, R508). -/
def execSporeRecordWrite (s : State) : Host.Outcome State Fault Refusal := s.runIn 6 (fun m => m.sporeWrite)

/-- SPORE_FAIL (R502, R508): the write of a staged record received error response `status`. -/
def execSporeFail (status : Nat) (s : State) : Host.Outcome State Fault Refusal :=
  s.runIn 6 (fun m => m.when (m.flag F.SWC_CTRL_SPORE_EN && m.swc.stage != []) (·.sporeFailed status))

/-- STREAM_RECOVERY_RESET (R498). -/
def execStreamRecoveryReset (i : Fin 256) (s : State) : Host.Outcome State Fault Refusal := s.runIn 6 (fun m => m.recovReset i.val)

end Sys2Proof.Machine
end

