-- ==== Sys2Proof/Machine/Mac.lean ====
section
/-!
DEFINITION. The port MACs and PHYs (chapter 12): reception, flow control, wake patterns and links.
-/
namespace Sys2Proof.Machine

/-- One byte of the CRC-16 of R523. -/
def crc16Byte (crc : Nat) (b : Byte) : Nat :=
  (List.range 8).foldl (fun c _ => if 2 ^ 15 ≤ c then (c * 2 % 2 ^ 16) ^^^ 0x1021 else c * 2) (crc ^^^ (b.toNat * 256))

/-- The CRC-16 of R523. -/
def crc16 (l : List Byte) : Nat := l.foldl crc16Byte 0xFFFF

/-- The FCS of a frame is good (R511). -/
def fcsGood (l : List Byte) : Bool :=
  decide (4 ≤ l.length) && ofBytes (l.drop (l.length - 4)) == crc32 (l.take (l.length - 4))

namespace Module

/-- Count one under `kind` at the MAC of port `p` (R550). -/
def macCount (m : Module) (p kind : Nat) : Module :=
  { m with mac := tmod {} m.mac p (fun x => { x with cnt := tmod 0 x.cnt kind (fun v => (v + 1) % 2 ^ 64) }) }

/-- Base of the window of port `p` (R33). -/
def macAddr (p o : Nat) : Nat := 0x20500000 + p * 0x10000 + o

/-! ### Links -/

/-- The link of port `p` is up or down, as MAC, SWC and PHY show it (R491, R525, R526; log entry 35). -/
def setLink (m : Module) (p : Nat) (up : Bool) : Module :=
  let m := m.when (m.flag F.MAC_STAT_LINK p != up) (·.raise F.MAC_EVT_LINK_CHG p)
  let m := (m.wrb F.MAC_STAT_LINK up p).wrb F.SWC_PORT_STAT_LINK up p
  m.when (decide (3 ≤ p ∧ p ≤ 14)) (fun m => (m.wrb F.MAC_PHY_STAT_LINK up p).wrb F.MAC_PHY_STAT_ENERGY up p)

/-- A link goes down (R489, R491, R514; log entry 35). -/
def linkLost (m : Module) (p : Nat) (lf rf : Bool) : Module :=
  let m := (m.setLink p false).swcLinkDown p
  m.when (decide (p < 3)) (fun m => (m.wrb F.MAC_STAT_LOCAL_FAULT lf p).wrb F.MAC_STAT_REMOTE_FAULT rf p)

/-- A segment that a change from `old` has put to sleep (R624): the PHY of an Ethernet segment is in its low-power state, and
its link is down. -/
def phySleeps (m old : Module) (s : Nat) : Module :=
  m.when (decide (12 ≤ s) && m.segState s == 2 && old.segState s != 2) (·.linkLost (segPort s) false false)

/-- The entries of the PHY_FW record of the image in the boot region, and the record (R528). -/
def phyEntries (m : Module) : List (List Nat) × List Byte :=
  match (recordsOf m.bootRegion 0x11).head? with
  | none => ([], [])
  | some l => ((List.range (min 2 ((words l).getD 0 0))).map (fun j => ((words l).drop (4 + 8 * j)).take 8), l)

/-- KIND of the PHY of port `p` (R528). -/
def phyKind (p : Nat) : Nat := if p ≤ 10 then 1 else 2

/-- Firmware for the PHYs of `kind` is being loaded in step 7, which keeps them down (R528). -/
def phyLoading (m : Module) (kind : Nat) : Bool :=
  m.boot.region && ! bit m.boot.phyDone kind && m.phyEntries.1.any (fun w => w.getD 0 0 % 256 == kind)

/-- The link of P11–P14 reads up while the PHY is enabled with PLCA off (R526). -/
def phyAlways (m : Module) (p : Nat) : Bool :=
  decide (11 ≤ p ∧ p ≤ 14) && m.flag F.MAC_PHY_CTRL_EN p && ! m.flag F.MAC_PHY_CTRL_PLCA_EN p

/-- A PHY's link comes up while SERPLL is locked (R48, R525, R526, R823); a WAKE frame that waited for it is sent (R641). -/
def phyUp (m : Module) (p : Nat) : Module :=
  let asleep := match portSeg p with | some s => m.segState s == 2 | none => false
  if ! m.sys.serLock || ! m.flag F.MAC_PHY_CTRL_EN p || asleep || m.phyLoading (phyKind p) then m else
  let m := m.setLink p true
  match portSeg p with
  | some s => m.when (m.seg s).wakeDue (fun m => (m.setSeg s (fun x => { x with wakeDue := false })).sendWake s)
  | none => m

/-- A 10GBASE-R port reaches block lock (R514, R823): SERPLL must be locked. -/
def blockLock (m : Module) (p : Nat) : Module :=
  if ! m.sys.serLock then m else
  ((m.setLink p true).lower F.MAC_STAT_LOCAL_FAULT p).lower F.MAC_STAT_REMOTE_FAULT p

/-- SQI has been `q` for 1 s (R525). -/
def sqiLow (m : Module) (p q : Nat) : Module :=
  (m.wr F.MAC_PHY_STAT_SQI q p).when (decide (q ≤ m.rd F.MAC_PHY_CTRL_SQI_WARN p)) (·.raise F.MAC_EVT_SQI_LOW p)

/-- The PHYs of a kind (R528). -/
def physOf (kind : Nat) : List Nat :=
  (List.range 12).map (· + 3) |>.filter (fun p => phyKind p == kind)

/-- The entry for `kind` of the PHY_FW record has been loaded in step 7, or has a range or CRC fault (R528; log entry 35). -/
def phyFw (m : Module) (kind : Nat) : Module :=
  if ! m.phyLoading kind then m else
  let (es, l) := m.phyEntries
  let w := (es.find? (fun w => w.getD 0 0 % 256 == kind)).getD []
  let len := w.getD 3 0
  let off := w.getD 4 0
  let ok := decide (1024 ≤ len) && decide (len ≤ 65536) && len % 16 == 0 && off % 16 == 0 && decide (off + len ≤ l.length)
    && crc32 ((l.drop off).take len) == w.getD 5 0
  let m := { m with boot := { m.boot with phyDone := setBit m.boot.phyDone kind true } }
  forEach (physOf kind) (fun p m =>
    if ok then (m.lower F.MAC_PHY_STAT_ROM_FW p).wr F.MAC_PHY_STAT_FW_VER (w.getD 1 0) p else m.raise F.MAC_EVT_PHY_FW_BAD p) m

/-- Step 7 begins (R528): the PHYs whose firmware is to be loaded are down until it is. -/
def physDown (m : Module) : Module :=
  let m := { m with boot := { m.boot with phyDone := 0 } }
  forEach ((List.range 12).map (· + 3)) (fun p m =>
    m.when (m.phyLoading (phyKind p) && m.flag F.MAC_STAT_LINK p) (·.linkLost p false false)) m

/-! ### Reception -/

/-- The bytes that pattern `k` selects, if the frame reaches them all and the mask is not zero (R522). -/
def wakeBytes (m : Module) (p k : Nat) (l : List Byte) : Option (List Byte) :=
  let sel := (List.range 128).filter (fun i => bit (m.rd F.MAC_WAKE_MASK_MASK p k (i / 32)) (i % 32))
  if sel = [] || sel.any (fun i => decide (l.length ≤ i)) then none else some (sel.map (fun i => l.getD i 0))

/-- The wake patterns that a frame with a good FCS matches (R522). -/
def wakeMatches (m : Module) (p : Nat) (l : List Byte) : List Nat :=
  (bitsSet 16 (m.rd F.MAC_WAKE_CTRL_EN p)).filter (fun k =>
    match m.wakeBytes p k l with
    | some d => crc16 d == m.rd F.MAC_WAKE_CRC_CHECK p k
    | none => false)

/-- A match is reported (R524). -/
def wakeHit (m : Module) (p : Nat) (ks : List Nat) : Module :=
  forEach ks (fun k m => ((m.setMap F.MAC_WAKE_HIT_HIT k true p).raise F.MAC_EVT_WAKE_MATCH p).macCount p 9) m

/-- The frame is an Ethernet rest frame of KIND 1–3 (R639). -/
def isEthRest (l : List Byte) : Bool :=
  let o := (hdrOf l).off
  (hdrOf l).etype == 0x88B6 && hdrField l o 1 == 1 && decide (1 ≤ hdrField l (o + 1) 1) && decide (hdrField l (o + 1) 1 ≤ 3)

/-- A MAC control frame (R513; log entry 35). -/
def isMacControl (l : List Byte) : Bool := hdrField l 0 6 == 0x0180C2000001 && hdrField l 12 2 == 0x8808

/-- Byte 64 of a frame arrives at port `p`, `age` ns after its first bit (R463–R465, R513, R569); `err` strikes a table
entry (R505). -/
def framePars (m : Module) (p : Nat) (l : List Byte) (age : Nat) (err : Option (Nat × Nat)) : Module :=
  let m := match err with
    | some (t, i) => { m with swc := { m.swc with bad := insertNat (t * 8192 + i) m.swc.bad } }
    | none => m
  if ! m.linkUp p || ! m.flag F.MAC_CTRL_RX_EN p || (m.receiving p).isSome || l.length != 64 then m
  else
    let ts := shiftNs (m.tai - age) (- signed 16 (m.rd F.TMU_PORT_LAT_RX_NS p))
    if isMacControl l then
      let f : SwFrame := { id := m.swc.nextId, kind := .control, inPort := p, bytes := l, ts := ts }
      { m with swc := { m.swc with nextId := m.swc.nextId + 1, frames := m.swc.frames ++ [f] } }
    else (m.swcParse p l ts).1

/-- A frame that was never parsed, or that ends with an error before it is (R474, R512, R546). -/
def frameUnparsed (m : Module) (p : Nat) (l : List Byte) (bad : Nat) : Module :=
  let id := m.swc.nextId
  let f : SwFrame := { id := id, inPort := p, bytes := l, ts := m.tai, epoch := m.rd F.SWC_EPOCH_EPOCH }
  let m := { m with swc := { m.swc with nextId := id + 1, frames := m.swc.frames ++ [f] } }
  m.swcEnd id l bad

/-- The MAC's judgement of a received frame (R512): its counter, and LENGTH, FCS_ERROR or 0 (log entry 35). -/
def macJudge (m : Module) (p : Nat) (l : List Byte) (err : Bool) : Nat × Nat :=
  if l.length < 64 then (2, 8) else if m.rd F.MAC_CTRL_MAX_LEN p < l.length then (3, 8)
  else if err || ! fcsGood l then (1, 7) else (0, 0)

/-- `q` pause quanta of 512 bit times of port `p`, in ns (R517). -/
def quantaNs (p q : Nat) : Nat := (q * 512000000000 + portRate p - 1) / portRate p

/-- The hold of class `c` of port `p`. -/
def classHold (m : Module) (p c : Nat) : ClassHold := tget {} (tget {} m.mac p).hold c

/-- Store the hold of class `c` of port `p`. -/
def setHold (m : Module) (p c : Nat) (h : ClassHold) : Module :=
  { m with mac := tmod {} m.mac p (fun x => { x with hold := tset {} x.hold c h }) }

/-- Class `c` of port `p` is released (R517, R518). -/
def endHold (m : Module) (p c : Nat) : Module := (m.setMap F.MAC_STAT_HELD c false p).setHold p c {}

/-- The classes that `quanta` names are held for that time, from the end of the frame in transmission, or released on port `p`
(R517). -/
def hold (m : Module) (p : Nat) (quanta : Nat → Option Nat) : Module :=
  forEach (List.range 8) (fun c m =>
    match quanta c with
    | none => m
    | some q =>
      if p < 3 ∧ c = 7 then m else if q = 0 then m.endHold p c else
      let was := bit (m.rd F.MAC_STAT_HELD p) c
      (m.setMap F.MAC_STAT_HELD c true p).setHold p c
        { ns := quantaNs p q, start := if m.portBusy p then none else some m.boot.us
          since := if was then (m.classHold p c).since else m.boot.us }) m

/-- The time for which class `c` of port `p` was held has passed (R517). -/
def holdEnds (m : Module) (p c : Nat) : Module :=
  let h := m.classHold p c
  match h.start with
  | some t => m.when (bit (m.rd F.MAC_STAT_HELD p) c && decide (t * 1000 + h.ns ≤ m.boot.us * 1000)) (·.endHold p c)
  | none => m

/-- Frames are received at port `p`: while its link is down they are lost (R823). -/
def receives (m : Module) (p : Nat) : Bool := m.flag F.MAC_CTRL_RX_EN p && m.linkUp p

/-- A pause frame is received (R515, R518): whether it is acted on. -/
def pauseActs (m : Module) (p mode : Nat) : Bool :=
  m.receives p && m.rd F.MAC_CTRL_FC_MODE p == mode && ! m.flag F.MAC_STAT_PAUSE_IGN p

/-- PAUSE with `q` quanta (R515, R517). -/
def pauseIn (m : Module) (p q : Nat) : Module :=
  let acts := m.pauseActs p 1
  (m.when (m.receives p) (·.macCount p 4)).when acts (·.hold p (fun _ => some q))

/-- PFC with an enable bit and quanta for each class (R515, R517). -/
def pfcIn (m : Module) (p en : Nat) (qs : List Nat) : Module :=
  let acts := m.pauseActs p 2
  (m.when (m.receives p) (·.macCount p 4)).when acts
    (·.hold p (fun c => if bit en c then some (qs.getD c 0) else none))

/-- A MAC control frame with a good FCS is consumed (R513): PAUSE and PFC are acted on, any other opcode is counted. -/
def macControlIn (m : Module) (p : Nat) (l : List Byte) : Module :=
  if hdrField l 14 2 = 1 then m.pauseIn p (hdrField l 16 2)
  else if hdrField l 14 2 = 0x0101 then
    m.pfcIn p (hdrField l 16 2 % 2 ^ 8) ((List.range 8).map (fun c => hdrField l (18 + 2 * c) 2))
  else m.macCount p 5

/-- The last byte of a frame arrives at port `p` (R474, R511–R513, R522, R524, R625, R633). `rest` is what follows byte 64, or
the whole of a frame shorter than that (log entry 35). -/
def frameEnds (m : Module) (p : Nat) (rest : List Byte) (err : Bool) : Module :=
  if ! m.receives p then m else
  match m.receiving p with
  | none =>
    if 64 ≤ rest.length then m else (m.macCount p 2).frameUnparsed p rest 8
  | some f =>
    let l := f.bytes ++ rest
    let (k, bad) := m.macJudge p l err
    let m := m.macCount p k
    if f.kind = .control then
      let m := { m with swc := { m.swc with frames := m.swc.frames.filter (fun x => x.id != f.id) } }
      m.when (bad == 0) (·.macControlIn p l)
    else
      let good := ! err && fcsGood l
      let ks := if good then m.wakeMatches p l else []
      let m := m.wakeHit p ks
      let m := match portSeg p with
        | some s => m.when (good && m.works 0x0B) (·.segFrame s (isEthRest l) ks.head?)
        | none => m
      m.swcEnd f.id l bad

/-! ### Flow control -/

/-- The pause frame of port `p` for the classes in XOFF, and those that `told` had announced (R515, R516; log entry 12). -/
def pauseFrame (m : Module) (p xoff told : Nat) : List Byte :=
  let q := m.rd F.MAC_PAUSE_CFG_QUANTA p
  let sa := m.rd F.MAC_ADDR_LO_ADDR p + m.rd F.MAC_ADDR_HI_ADDR p * 2 ^ 32
  let head := netBytes 6 0x0180C2000001 ++ netBytes 6 sa ++ netBytes 2 0x8808
  let body := if m.rd F.MAC_CTRL_FC_MODE p = 1 then netBytes 2 1 ++ netBytes 2 (if xoff = 0 then 0 else q)
    else netBytes 2 0x0101 ++ netBytes 2 (xoff ||| told)
      ++ (List.range 8).flatMap (fun c => netBytes 2 (if bit xoff c then q else 0))
  let l := head ++ body
  withFcs (l ++ List.replicate (60 - l.length) 0)

/-- The MAC of port `p` sends flow-control frames (R515). -/
def fcOn (m : Module) (p : Nat) : Bool :=
  (m.rd F.MAC_CTRL_FC_MODE p == 1 || m.rd F.MAC_CTRL_FC_MODE p == 2) && m.portSends p

/-- The pause frame leaves (R516). -/
def pauseOut (m : Module) (p : Nat) : Module :=
  let xoff := m.rd F.SWC_PORT_STAT_XOFF p
  let told := (tget {} m.mac p).told
  let m := { m with out := .frame p (m.pauseFrame p xoff told) :: m.out }
  { m.macCount p 7 with mac := tmod {} (m.macCount p 7).mac p (fun x => { x with told := xoff, sentUs := m.boot.us }) }

/-- XOFF or XON has changed since the last pause frame, and no frame is in transmission (R516). -/
def pauseSend (m : Module) (p : Nat) : Module :=
  m.when (m.fcOn p && ! m.portBusy p && m.rd F.SWC_PORT_STAT_XOFF p != (tget {} m.mac p).told) (·.pauseOut p)

/-- While XOFF holds, the frame is repeated every REFRESH × 512 bit times (R516). -/
def pauseAgain (m : Module) (p : Nat) : Module :=
  let due := quantaNs p (m.rd F.MAC_PAUSE_CFG_REFRESH p) ≤ (m.boot.us - (tget {} m.mac p).sentUs) * 1000
  m.when (m.fcOn p && ! m.portBusy p && m.rd F.SWC_PORT_STAT_XOFF p != 0 && decide due) (·.pauseOut p)

/-- A class has been held for MS (R518). -/
def pauseWatch (m : Module) (p c : Nat) : Module :=
  let held := m.rd F.MAC_STAT_HELD p
  let ms := m.rd F.MAC_PAUSE_WDT_MS p
  if ms = 0 || ! bit held c || m.boot.us < (m.classHold p c).since + ms * 1000 then m else
  let m := { m with mac := tmod {} m.mac p (fun x => { x with hold := [] }) }
  let m := ((m.wr F.MAC_STAT_HELD 0 p).raise F.MAC_STAT_PAUSE_IGN p).wr F.MAC_PAUSE_IGN_REMAIN_MS 1000 p
  (m.raise F.MAC_EVT_PAUSE_WDT p).logBlk 7 0x2701 0 (p + held * 2 ^ 8)

/-- A write of MAC_CNT_SEL (R550). -/
def macCntSel (m : Module) (p v : Nat) : Module :=
  let m := m.wr F.MAC_CNT_SEL_KIND (bits v 4 0) p
  m.wr F.MAC_CNT_VAL_VALUE (tget 0 (tget {} m.mac p).cnt (bits v 4 0)) p

end Module

/-! ### Commands -/

/-- FRAME_PARSE (R462–R465, R467, R468, R472, R473, R475, R476, R480, R482–R484, R488, R491, R492, R496–R498, R500, R505,
R513, R569, R634). -/
def execFrameParse (port : Fin 15) (head : List Byte) (age : Nat) (err : Option (Fin 4 × Fin 8192)) (s : State) :
    Host.Outcome State Fault Refusal :=
  s.runIn 7 (fun m => m.framePars port.val head age (err.map (fun e => (e.1.val, e.2.val))))

/-- FRAME_END (R474, R488, R489, R511–R513, R522, R524, R625, R633, R638). -/
def execFrameEnd (port : Fin 15) (rest : List Byte) (err : Bool) (s : State) : Host.Outcome State Fault Refusal :=
  s.runIn 7 (fun m => m.frameEnds port.val rest err)

/-- LINK_DOWN (R489, R491, R508, R538). -/
def execLinkDown (port : Fin 15) (localFault remoteFault : Bool) (s : State) : Host.Outcome State Fault Refusal :=
  s.runIn 7 (fun m => m.when (! m.phyAlways port.val) (·.linkLost port.val localFault remoteFault))

/-- PAUSE_RECEIVE (R513, R515, R517, R518). -/
def execPauseReceive (port : Fin 15) (quanta : Fin 65536) (s : State) : Host.Outcome State Fault Refusal :=
  s.runIn 7 (fun m => m.pauseIn port.val quanta.val)

/-- PFC_RECEIVE (R513, R515, R517, R518). -/
def execPfcReceive (port : Fin 15) (enable : Fin 256) (quanta : List (Fin 65536)) (s : State) : Host.Outcome State Fault Refusal :=
  s.runIn 7 (fun m => m.pfcIn port.val enable.val (quanta.map (·.val)))

/-- PAUSE_HOLD_EXPIRY (R517). -/
def execPauseHoldExpiry (port : Fin 15) (cls : Fin 8) (s : State) : Host.Outcome State Fault Refusal :=
  s.runIn 7 (fun m => m.holdEnds port.val cls.val)

/-- PAUSE_FRAME_SEND (R515, R516, R519). -/
def execPauseFrameSend (port : Fin 15) (s : State) : Host.Outcome State Fault Refusal := s.runIn 7 (fun m => m.pauseSend port.val)

/-- PAUSE_REFRESH (R516). -/
def execPauseRefresh (port : Fin 15) (s : State) : Host.Outcome State Fault Refusal := s.runIn 7 (fun m => m.pauseAgain port.val)

/-- PAUSE_WDT (R518). -/
def execPauseWdt (port : Fin 15) (cls : Fin 8) (s : State) : Host.Outcome State Fault Refusal :=
  s.runIn 7 (fun m => m.pauseWatch port.val cls.val)

/-- PAUSE_IGNORE_END (R518): the second has passed. -/
def execPauseIgnoreEnd (port : Fin 15) (s : State) : Host.Outcome State Fault Refusal :=
  s.runIn 7 (fun m => m.when (m.rd F.MAC_PAUSE_IGN_REMAIN_MS port.val == 0) (·.lower F.MAC_STAT_PAUSE_IGN port.val))

/-- PHY_LINK_UP (R525, R526, R641) on P03–P14. -/
def execPhyLinkUp (port : Fin 12) (s : State) : Host.Outcome State Fault Refusal := s.runIn 7 (fun m => m.phyUp (port.val + 3))

/-- BLOCK_LOCK (R514, R823). -/
def execBlockLock (port : Fin 3) (s : State) : Host.Outcome State Fault Refusal := s.runIn 7 (fun m => m.blockLock port.val)

/-- SQI_LOW (R525) on P03–P10. -/
def execSqiLow (port : Fin 8) (sqi : Fin 8) (s : State) : Host.Outcome State Fault Refusal :=
  s.runIn 7 (fun m => m.sqiLow (port.val + 3) sqi.val)

/-- PHY_FW_LOAD_DONE (R528). -/
def execPhyFwLoadDone (kind : Fin 256) (s : State) : Host.Outcome State Fault Refusal := s.runIn 7 (fun m => m.phyFw kind.val)

/-- REST_GRACE_EXPIRY (R614, R624–R626): the segment sleeps. -/
def execRestGraceExpiry (seg : Fin 24) (s : State) : Host.Outcome State Fault Refusal :=
  s.runIn 0x0B (fun m => (m.graceExpiry seg.val).phySleeps m seg.val)

/-- WAKE_TIMEOUT_EXPIRY (R624, R625, R635, R644). -/
def execWakeTimeoutExpiry (seg : Fin 24) (s : State) : Host.Outcome State Fault Refusal :=
  s.runIn 0x0B (fun m => (m.falseWake seg.val).phySleeps m seg.val)

/-- MAC_CNT_SEL_WRITE (R550). -/
def execMacCntSelWrite (a : Access) (port : Fin 16) (v : Word) (s : State) : Host.Outcome State Fault Refusal :=
  s.runBy a 1 (fun a m => m.access a (Module.macAddr port.val 0x70) 1 (·.macCntSel port.val v.toNat))

end Sys2Proof.Machine
end

