-- ==== Sys2Proof/Machine/Hdma.lean ====
section
/-!
DEFINITION. Host DMA (chapter 12): posting, transmit frames, receive frames, parking and ring errors.
-/
namespace Sys2Proof.Machine

/-- A posted transmit descriptor with reserved bits set, or a length out of range (R532, R533). -/
def txDescBad (w : List Nat) : Bool :=
  let g := fun i => w.getD i 0
  256 ≤ g 1 || g 2 % 2 ^ 14 == 0 || 2 ^ 22 ≤ g 2 || 2 ^ 16 ≤ g 3 || g 7 != 0

/-- LEN of a transmit descriptor. -/
def txDescLen (w : List Nat) : Nat := w.getD 2 0 % 2 ^ 14

/-- The buffer address of a descriptor. -/
def descAddr (w : List Nat) : Nat := w.getD 0 0 + w.getD 1 0 % 2 ^ 8 * 2 ^ 32

/-- Bits of the SOF descriptor of a frame (R532). -/
def sofWord (ds : List (Nat × List Nat)) (k : Nat) : Nat := match ds with | d :: _ => d.2.getD k 0 | [] => 0

/-- The launch time of a frame in ns, if LAUNCH is set (R581). -/
def launchNs (now : Nat) (ds : List (Nat × List Nat)) : Option Nat :=
  if bit (sofWord ds 2) 17 then some (nearSeconds now (sofWord ds 5) * 1000000000 + sofWord ds 4) else none

/-- The descriptors of the first frame among those fetched (R532, R533): those up to EOF, or 64 without one
(log entry 36). -/
def takeFrame (ds : List (Nat × List Nat)) : Option (List (Nat × List Nat)) :=
  match (ds.take 64).findIdx? (fun d => bit (d.2.getD 2 0) 15) with
  | some k => some (ds.take (k + 1))
  | none => if 64 ≤ ds.length then some (ds.take 64) else none

namespace Module

/-- The status with which a transmit frame is refused (R533), if it is. -/
def txRefusal (m : Module) (q : Nat) (ds : List (Nat × List Nat)) : Option Nat :=
  let w2 := sofWord ds 2
  let egress := sofWord ds 3 % 2 ^ 16
  let lens := ds.map (fun d => txDescLen d.2)
  if ! bit w2 14 || ! ds.any (fun d => bit (d.2.getD 2 0) 15) || ds.any (fun d => txDescBad d.2)
    || decide (9212 < lens.sum) || (lens.dropLast).any (fun n => decide (n < 256)) then some 0x10
  else if bit w2 16 && (! bit w2 18 || decide (1 < popCount 16 egress)) then some 0x10
  else if bit w2 18 && (! m.flag F.HDMA_HQ_PERM_DIRECT_OK q
      || (egress % 2 ^ 15 &&& m.rd F.HDMA_HQ_PERM_PORTS q) != egress % 2 ^ 15) then some 2
  else match launchNs m.tai ds with
    | some t => if m.tai + 1000000000 < t then some 0x10 else none
    | none => none

/-- Frames are formed from the fetched descriptors; a refused one ends at once (R533). `fuel` bounds their number. -/
def formFrames (m : Module) (q : Nat) : Nat → Module
  | 0 => m
  | fuel + 1 =>
    match takeFrame (m.hq q).tx with
    | none => m
    | some ds =>
      let st := m.txRefusal q ds
      let no := (m.hq q).txNo
      let f : TxFrame := { no := no, descs := ds, len := (ds.map (fun d => txDescLen d.2)).sum }
      let m := m.setHq q (fun x => { x with tx := x.tx.drop ds.length, txNo := no + 1, frames := x.frames ++ [f] })
      match st with
      | some st => formFrames ((m.hqCount q 6 1).txEnd q no st (fun f => { f with len := 0 })) q fuel
      | none => formFrames m q fuel

/-- Up to 16 descriptors are fetched (R530). -/
def fetchSome (m : Module) (q : Nat) (tx : Bool) : Nat → Module
  | 0 => m
  | fuel + 1 =>
    let r := m.fetchOne q tx
    if r.2 then fetchSome r.1 q tx fuel else r.1

/-- DESCRIPTOR_FETCH of one ring. -/
def fetchRing (m : Module) (q : Nat) (tx : Bool) : Module :=
  let m := m.fetchSome q tx 16
  if tx then m.formFrames q 80 else m

/-! ### Transmit -/

/-- The data of a frame's buffers (R533): what was read, and the access that failed, if one did. -/
def readBuffers (m : Module) (q : Nat) : List (Nat × List Nat) → Module × List Byte × Option (Nat × Nat)
  | [] => (m, [], none)
  | d :: r =>
    let at_ := descAddr d.2
    let (m, b) := m.busRead (m.hqAccess q false) at_ (txDescLen d.2)
    match b with
    | none => (m, [], some (at_, m.resp.status))
    | some l =>
      let (m, rest, e) := readBuffers m q r
      (m, l ++ rest, e)

/-- The frame that HDMA passes next: the first that is neither ended nor passed. -/
def txNextFrame (m : Module) (q : Nat) : Option TxFrame := (m.hq q).frames.find? (fun f => f.status.isNone && ! f.passed)

/-! ### Whose turn it is (R455, R531) -/

/-- The queue pairs whose transmit rings hold posted descriptors (R531). -/
def txBacklog (m : Module) : Nat :=
  (List.range 32).foldl (fun v q =>
    setBit v q (m.ringEn q true && m.ringHead q true != m.ringTail q true % m.ringSize q true)) 0

/-- Where the set of backlogged queue pairs has changed, service is counted afresh (R455; log entry 36). -/
def txSync (m : Module) : Module :=
  if m.txBacklog = m.hdma.backlog then m else { m with hdma := { m.hdma with backlog := m.txBacklog, served := [] } }

/-- The frame without LAUNCH that HQq can pass now. -/
def txReady (m : Module) (q : Nat) : Option TxFrame :=
  match m.txNextFrame q with
  | some f => if (launchNs m.tai f.descs).isNone && m.flag F.HQ_TX_CFG_EN q then some f else none
  | none => none

/-- WEIGHT of HQq. -/
def hqWeight (m : Module) (q : Nat) : Nat := max 1 (m.rd F.IMG_INST_SHARE_WEIGHT (hqPage q))

/-- The queue pair whose frame is passed next (R455, R531): among those that can pass one and are not ahead of their share of
the bytes so far, the one whose frame ends its share first (log entry 36). -/
def txTurn (m : Module) : Option Nat :=
  fairTurn ((List.range 32).filterMap (fun q => (m.txReady q).map (fun f => (q, f.len)))) (fun q => tget 0 m.hdma.served q)
    m.hqWeight

/-- A transmit frame is passed to P15 (R533–R536): padded to 60 bytes and, with its FCS, parsed and ended there
(log entry 36). -/
def passFrame (m : Module) (q : Nat) (f : TxFrame) (late : Bool) : Module :=
  let (m, d, e) := m.readBuffers q f.descs
  match e with
  | some (at_, st) => (m.frameUnparsed 15 d 7).txError q at_ st
  | none =>
    let w2 := sofWord f.descs 2
    let l := withFcs (d ++ List.replicate (60 - d.length) 0)
    let tag : TxTag := { hq := q, no := f.no, direct := bit w2 18, tsReq := bit w2 16 }
    let m := m.setHq q (fun x => { x with frames := x.frames.map (fun g =>
      if g.no = f.no then { g with passed := true, late := late } else g) })
    let m := (m.hqCount q 2 1).hqCount q 3 f.len
    let m := { m with hdma := { m.hdma with served := tmod 0 m.hdma.served q (· + f.len) } }
    let ts := shiftNs m.tai (- signed 16 (m.rd F.TMU_PORT_LAT_RX_NS 15))
    let (m, id) := m.swcParse 15 l ts (some tag) (sofWord f.descs 3 % 2 ^ 15) (bits w2 21 19)
    let m := m.swcEnd id l 0
    if tag.tsReq then m else m.txEnd q f.no 0

/-- A frame without LAUNCH is passed, when it is its queue pair's turn (R531, R534). -/
def handoff (m : Module) (q : Nat) : Module :=
  match m.txReady q with
  | some f => if m.txSync.txTurn = some q then m.txSync.passFrame q f false else m
  | none => m

/-- A frame with LAUNCH is passed in the µs in which the counter reaches its time, or late (R535, R581, R583; log entry 37). -/
def launch (m : Module) (q : Nat) : Module :=
  match m.txNextFrame q with
  | some f =>
    match launchNs m.tai f.descs with
    | some t => if decide (t < m.tai + 1000) && m.flag F.HQ_TX_CFG_EN q then m.passFrame q f (decide (t + 100 < m.tai)) else m
    | none => m
  | none => m

/-- A TS_REQ frame has left port `p`: its time-stamp is stored, or lost (R536, R537). -/
def tsStore (m : Module) (p : Nat) : Module :=
  match m.swc.tsDue.find? (fun e => e.1 == p) with
  | none => m
  | some e =>
    let m := { m with swc := { m.swc with tsDue := m.swc.tsDue.erase e } }
    let (_, q, no, t) := e
    if ! (m.hq q).frames.any (fun f => f.no == no) then m
    else if m.rd F.MAC_TXTS_STAT_OCC p < 64 then
      let n := m.rd F.MAC_TXTS_STAT_LOST_PEND p
      let m := (m.addS F.MAC_TXTS_STAT_OCC 1 p).wr F.MAC_TXTS_STAT_LOST_PEND 0 p
      m.txEnd q no 0 (fun f => { f with ts := some t, tsPort := some p, lostCnt := n })
    else
      let m := ((m.addS F.MAC_TXTS_STAT_LOST_PEND 1 p).addS F.MAC_TXTS_LOST_COUNT 1 p).raise F.MAC_EVT_TS_LOST p
      m.txEnd q no 0 (fun f => { f with lost := true })

/-! ### Receive -/

/-- The write-back words of one descriptor of a receive frame (R539, R540). -/
def rxWords (r : RxFrame) (st : Nat) (d : List Nat) (n : Nat) (first last : Bool) : List Nat :=
  [n + (if last then r.off * 2 ^ 16 else 0), r.w1, r.w2, 0, r.ts % 1000000000, r.ts / 1000000000 % 2 ^ 32, d.getD 6 0,
    st + b2n first * 2 ^ 8 + b2n last * 2 ^ 9 + 2 ^ 31]

/-- The filled descriptors of a receive frame are written back in ring order with `st` (R530, R540, R544). -/
def rxBack (m : Module) (q : Nat) (r : RxFrame) (st : Nat) : Module :=
  (r.filled.zipIdx.foldl (fun (m, going) e =>
    if ! going then (m, false) else
    let (i, d, n) := e.1
    let at_ := m.ringDesc q false i
    let last := e.2 + 1 == r.filled.length
    let (m, ok) := m.busWrite (m.hqAccess q false) at_ ((rxWords r st d n (e.2 == 0) last).flatMap (toBytes 4))
    (if ok then m.setHead q false (i + 1) else m.ringStop q false at_ m.resp.status, ok)) (m, true)).1

/-- The park slot of HQq empties or fills (R543). -/
def setPark (m : Module) (q : Nat) (r : Option RxFrame) : Module :=
  let m := (m.setHq q (fun x => { x with park := r })).wrb F.HQ_STAT_PARKED r.isSome q
  m.setMap F.HDMA_PARKED_MAP q r.isSome

/-- A receive frame that is not whole ends (R544, R547; log entry 36). -/
def rxPartial (m : Module) (q : Nat) (r : RxFrame) : Module :=
  let m := (m.setPark q none).wr F.HQ_STAT_STALL_US 0 q
  let m := m.rxBack q r 0x12
  let m := ((m.raise F.HQ_IRQ_STAT_RX_PARTIAL q).addS F.HQ_RX_PARTIAL_COUNT 1 q).raise F.HDMA_EVT_RX_PARTIAL
  let eof := match r.filled.getLast? with | some (i, _) => m.ringDesc q false i | none => 0
  let m := (m.hqCount q 5 1).logBlk 8 0x2802 eof (q + r.off * 2 ^ 16)
  m.copyGone r.id 15

/-- A receive frame is whole (R540). -/
def rxDone (m : Module) (q : Nat) (r : RxFrame) : Module :=
  let m := (m.setPark q none).wr F.HQ_STAT_STALL_US 0 q
  let m := (m.rxBack q r 0).raise F.HQ_IRQ_STAT_RX q
  let m := (m.hqCount q 0 1).hqCount q 1 r.data.length
  ((m.swcCount 15 2 1).swcCount 15 3 (r.data.length + 4)).copyGone r.id 15

/-- The frame is not written (R541, R545; log entry 36). -/
def rxDrop (m : Module) (q id : Nat) : Module :=
  let m := ((m.addS F.HQ_RX_DROP_COUNT 1 q).raise F.HDMA_EVT_RX_DROP).hqCount q 4 1
  m.copyDrop id 15 1

/-- The frame is parked (R543). -/
def rxPark (m : Module) (q : Nat) (r : RxFrame) : Module :=
  (m.setPark q (some r)).setFrame r.id (fun f =>
    { f with copies := f.copies.map (fun c => if c.port = 15 then { c with sending := false, parked := true } else c) })

/-- Write a receive frame into descriptors until it is whole, is parked, or fails (R540, R543, R547). `fuel` bounds the
descriptors. -/
def rxRun (m : Module) (q : Nat) (r : RxFrame) : Nat → Module
  | 0 => m.rxPark q r
  | fuel + 1 =>
    if r.data.length ≤ r.off then m.rxDone q r else
    let m := if (m.hq q).rx = [] then (m.fetchOne q false).1 else m
    match (m.hq q).rx with
    | [] => if r.filled = [] then m.rxDrop q r.id else if m.flag F.HQ_RX_CFG_EN q then m.rxPark q r else m.rxPartial q r
    | (i, w) :: rest =>
      let m := m.setHq q (fun x => { x with rx := rest })
      let d := (r.data.drop r.off).take (w.getD 2 0 % 2 ^ 15)
      let at_ := descAddr w
      let (m, ok) := if d = [] then (m, true) else m.busWrite (m.hqAccess q false) at_ d
      if ! ok then
        (m.ringStop q false at_ m.resp.status).rxPartial q r
      else rxRun m q { r with off := r.off + d.length, filled := r.filled ++ [(i, w, d.length)] } fuel

/-- The queue pair of a frame (R541). -/
def rxQueue (m : Module) (f : SwFrame) : Nat := f.hq.getD (m.rd F.HDMA_RX_MAP_HQ f.inPort)

/-- The frame that P15 sends is delivered (R540, R541, R543, R545; log entry 36). -/
def deliver (m : Module) : Module :=
  match m.sendingCopy 15 with
  | none => m
  | some (f, c) =>
    if ! f.ended then m else
    let q := m.rxQueue f
    let x := m.hq q
    let posted := x.rx != [] || x.rxNext != m.rd F.HQ_RX_TAIL_IDX q % m.ringSize q false
    if ! m.flag F.IMG_INST_CFG_ASSIGNED (hqPage q) || ! m.flag F.HQ_RX_CFG_EN q || ! posted || x.park.isSome then m.rxDrop q f.id
    else
      let untag := m.vlanUntag f.vid
      let r : RxFrame :=
        { id := f.id, data := f.out c untag, ts := f.ts
          w1 := f.inPort + c.cls * 2 ^ 4 + b2n (! bit untag 15) * 2 ^ 7 + f.vid * 2 ^ 8 + f.pcp * 2 ^ 20 + b2n f.rule.isSome * 2 ^ 23
          w2 := f.rule.getD 0 + b2n f.stream.isSome * 2 ^ 16 + f.stream.getD 0 * 2 ^ 24 }
      m.rxRun q r 256

/-- A descriptor is available for the parked frame before the timer reaches 1 ms (R543, R544): the timer is not restarted. -/
def parkResume (m : Module) (q : Nat) : Module :=
  match (m.hq q).park with
  | some r => m.when (decide (m.rd F.HQ_STAT_STALL_US q < 1000)) (·.rxRun q r 256)
  | none => m

/-- The parked frame ends (R544). -/
def parkEnd (m : Module) (q : Nat) : Module :=
  match (m.hq q).park with
  | some r => m.rxPartial q r
  | none => m

/-! ### Registers of the page -/

/-- A write of the CFG of a ring (R529, R544). -/
def ringConfig (m : Module) (q : Nat) (tx : Bool) (v : Nat) : Module :=
  let size := bits v 3 0
  let on := bit v 16
  let was := m.ringEn q tx
  let set := fun (m : Module) (en : Bool) =>
    if tx then (m.wr F.HQ_TX_CFG_LOG2SZ size q).wrb F.HQ_TX_CFG_EN en q else (m.wr F.HQ_RX_CFG_LOG2SZ size q).wrb F.HQ_RX_CFG_EN en q
  if on && (decide (size < 4) || decide (12 < size)) then
    (((if was then m.when tx (·.txAbandon q) else m) |> fun m => set m false).wr F.HQ_ERR_STATUS 0x10 q).wrb F.HQ_ERR_TX tx q
  else if on && ! was then
    let m := set m true
    let h := m.ringHead q tx
    m.setHq q (fun x => if tx then { x with tx := [], txNext := (h + (x.frames.map (fun f => f.descs.length)).sum) % 2 ^ size }
      else { x with rx := [], rxNext := h })
  else if ! on && was then
    let m := if tx then m.txAbandon q else m.parkEnd q
    set (m.when (! tx) (·.setHq q (fun x => { x with rx := [] }))) false
  else set m on

/-- The tail of a ring is written (R529; log entry 36). -/
def tailWrite (m : Module) (q : Nat) (tx : Bool) (v : Nat) : Module :=
  if tx then m.wr F.HQ_TX_TAIL_IDX v q else m.wr F.HQ_RX_TAIL_IDX v q

/-- An access of HQq received error response `st` (R547; log entry 36). -/
def hqError (m : Module) (q : Nat) (tx : Bool) (addr st : Nat) : Module :=
  if tx then m.txError q addr st else (m.ringStop q false addr st).parkEnd q

/-- A write of HDMA_CNT_SEL (R551). -/
def hdmaCntSel (m : Module) (v : Nat) : Module :=
  let m := (m.wr F.HDMA_CNT_SEL_HQ (bits v 4 0)).wr F.HDMA_CNT_SEL_KIND (bits v 11 8)
  m.wr F.HDMA_CNT_VAL_VALUE (tget 0 m.hdma.cnt (bits v 4 0 * 16 + bits v 11 8))

end Module

/-! ### Commands -/

/-- HQ_TX_TAIL_WRITE (R529). -/
def execHqTxTailWrite (a : Access) (q : Fin 32) (v : Word) (s : State) : Host.Outcome State Fault Refusal :=
  s.runBy a 1 (fun a m => m.access a (Module.hqAddr q.val 0x24) 1 (·.tailWrite q.val true v.toNat))

/-- HQ_RX_TAIL_WRITE (R529, R544): a parked frame resumes with PARK_RESUME. -/
def execHqRxTailWrite (a : Access) (q : Fin 32) (v : Word) (s : State) : Host.Outcome State Fault Refusal :=
  s.runBy a 1 (fun a m => m.access a (Module.hqAddr q.val 0x0C) 1 (·.tailWrite q.val false v.toNat))

/-- RING_ENABLE_WRITE (R529, R544): a write of HQ_RX_CFG or HQ_TX_CFG. -/
def execRingEnableWrite (a : Access) (q : Fin 32) (tx : Bool) (v : Word) (s : State) : Host.Outcome State Fault Refusal :=
  s.runBy a 1 (fun a m => m.access a (Module.hqAddr q.val (if tx then 0x20 else 0x08)) 1 (·.ringConfig q.val tx v.toNat))

/-- DESCRIPTOR_FETCH (R435, R452, R530, R531, R533, R535, R581). -/
def execDescriptorFetch (q : Fin 32) (tx : Bool) (s : State) : Host.Outcome State Fault Refusal :=
  s.runIn 8 (fun m => m.fetchRing q.val tx)

/-- TX_FRAME_HANDOFF (R529, R530, R534, R536). -/
def execTxFrameHandoff (q : Fin 32) (s : State) : Host.Outcome State Fault Refusal := s.runIn 8 (fun m => m.handoff q.val)

/-- LAUNCH_TIME (R535, R548, R581, R583). -/
def execLaunchTime (q : Fin 32) (s : State) : Host.Outcome State Fault Refusal := s.runIn 8 (fun m => m.launch q.val)

/-- TX_TIMESTAMP_STORE (R536, R537, R548). -/
def execTxTimestampStore (port : Fin 15) (s : State) : Host.Outcome State Fault Refusal := s.runIn 7 (fun m => m.tsStore port.val)

/-- RX_FRAME_DELIVER (R529, R530, R539–R543, R545, R548). -/
def execRxFrameDeliver (s : State) : Host.Outcome State Fault Refusal := s.runIn 8 (fun m => m.deliver)

/-- PARK_RESUME (R544, R548). -/
def execParkResume (q : Fin 32) (s : State) : Host.Outcome State Fault Refusal := s.runIn 8 (fun m => m.parkResume q.val)

/-- PARK_STALL_TIMEOUT (R544, R548): the timer has reached 1 ms. -/
def execParkStallTimeout (q : Fin 32) (s : State) : Host.Outcome State Fault Refusal :=
  s.runIn 8 (fun m => m.when (decide (1000 ≤ m.rd F.HQ_STAT_STALL_US q.val)) (·.parkEnd q.val))

/-- DMA_ERROR (R547, R548). -/
def execDmaError (q : Fin 32) (tx : Bool) (addr status : Nat) (s : State) : Host.Outcome State Fault Refusal :=
  s.runIn 8 (fun m => m.hqError q.val tx addr status)

/-- HDMA_CNT_SEL_WRITE (R551). -/
def execHdmaCntSelWrite (a : Access) (v : Word) (s : State) : Host.Outcome State Fault Refusal :=
  s.runBy a 1 (fun a m => m.access a 0x20600100 1 (·.hdmaCntSel v.toNat))

end Sys2Proof.Machine
end

