-- ==== Sys2Proof/Machine/Kst.lean ====
section
/-!
DEFINITION. The key store (chapter 16): the lock, the operations on slots, and the alarms.
-/
namespace Sys2Proof.Machine

namespace Module

/-- The key of slot `s`. -/
def slotKey (m : Module) (s : Nat) : List Byte := tget [] m.kst.keys s

/-- The generation after `g` (R666). -/
def nextGen (g : Nat) : Nat := if 65535 ≤ g then 1 else g + 1

/-- A job that has begun uses slot `s` (R668). -/
def usesSlot (s : Nat) (j : CpeJob) : Bool := (CpeJob.slots j).any (fun e => e.1 == s)

/-- Slot `s` is erased, and its generation advances (R666, R668, R669): the jobs that hold a copy end with KEY_ERASED. -/
def eraseSlot (m : Module) (s : Nat) : Module :=
  let m := { m with kst := { m.kst with keys := tdel m.kst.keys s } }
  let m := (((m.lower F.KST_SLOT_ATTR_VALID s).lower F.KST_SLOT_ATTR_KSIZE s).wr F.KST_SLOT_ATTR_USAGE 0 s).wr F.KST_SLOT_ATTR_MODES 0 s
  let m := (((m.lower F.KST_SLOT_ATTR_WORLD s).lower F.KST_SLOT_ATTR_SOURCE s).wr F.KST_SLOT_OWN_LO_MASK 0 s).wr F.KST_SLOT_OWN_HI_MASK 0 s
  let m := m.wr F.KST_SLOT_GEN_GEN (nextGen (m.rd F.KST_SLOT_GEN_GEN s)) s
  (m.abortJobs (usesSlot s) 7).1

/-- Slot `s` takes a key with the attributes of KST_ATTR and KST_OWNER (R664, R669; log entry 41). -/
def loadSlot (m : Module) (s : Nat) (key : List Byte) (imported : Bool) : Module :=
  let m := { m with kst := { m.kst with keys := tset [] m.kst.keys s key } }
  let m := ((m.raise F.KST_SLOT_ATTR_VALID s).wr F.KST_SLOT_ATTR_KSIZE (m.rd F.KST_ATTR_KSIZE) s).wr F.KST_SLOT_ATTR_USAGE
    (m.rd F.KST_ATTR_USAGE) s
  let m := ((m.wr F.KST_SLOT_ATTR_MODES (m.rd F.KST_ATTR_MODES) s).wr F.KST_SLOT_ATTR_WORLD (m.rd F.KST_ATTR_WORLD) s).wrb
    F.KST_SLOT_ATTR_SOURCE imported s
  let m := (m.wr F.KST_SLOT_OWN_LO_MASK (m.rd F.KST_OWNER_LO_MASK) s).wr F.KST_SLOT_OWN_HI_MASK (m.rd F.KST_OWNER_HI_MASK) s
  m.wr F.KST_SLOT_GEN_GEN (nextGen (m.rd F.KST_SLOT_GEN_GEN s)) s

/-- The bytes of KST_PARAM `lo` and up, `n` words. -/
def paramBytes (m : Module) (lo n : Nat) : List Byte := (List.range n).flatMap (fun k => toBytes 4 (m.rd F.KST_PARAM_DATA (lo + k)))

/-- Length of the new key in bytes. -/
def newKeyLen (m : Module) : Nat := if m.flag F.KST_ATTR_KSIZE then 32 else 16

/-- DERIVE_ROOT is allowed (R157; log entry 41). -/
def rootAllowed (m : Module) : Bool := decide (m.rd F.SYSCTL_LC_STATE_STATE ≤ 3)

/-- The key derived from `prf` with the parameters (R669, R670). -/
def derived (m : Module) (prf : List Byte) : List Byte :=
  exactly m.newKeyLen (Config.derive prf (m.paramBytes 0 8) (m.paramBytes 8 8) (m.newKeyLen * 8))

/-- The key that an operation gives its slot, or the status of the first check of R669 that fails. -/
def opKey (m : Module) (op slot src agent : Nat) : Except Nat (List Byte) :=
  let srcOk := fun use => m.flag F.KST_SLOT_ATTR_VALID src && m.flag F.KST_SLOT_ATTR_KSIZE src && bit (m.rd F.KST_SLOT_ATTR_USAGE src) use
  if m.rd F.KST_LOCK_STAT_HOLDER = 0 ∨ m.rd F.KST_LOCK_STAT_HOLDER ≠ agent then .error 2
  else if op = 0 ∨ 4 < op ∨ ((op = 1 ∨ op = 3) ∧ slot = src) then .error 0x10
  else if m.flag F.KST_STAT_GLITCH || m.flag F.KST_STAT_MESH_OPEN then .error 9
  else if op = 4 then .ok []
  else if op = 2 then
    if ! m.rootAllowed then .error 2
    else .ok (m.derived (if m.rd F.SYSCTL_LC_STATE_STATE = 0 then Config.manufactureKey else Config.rootKey))
  else if op = 3 then (if srcOk 5 then .ok (m.derived (m.slotKey src)) else .error 2)
  else if ! srcOk 4 then .error 2
  else
    let n := bits (m.rd F.KST_PARAM_DATA 0) 7 0
    if n ≠ m.newKeyLen + 8 then .error 8
    else match Config.unwrap 5 (m.slotKey src) ((m.paramBytes 2 14).take n) with
      | some k => if k.length = m.newKeyLen then .ok k else .error 8
      | none => .error 8

/-- The entry of the KEYS record at offset `off`: its operation, slot and source slot (R671). -/
def keysEntry (w : List Nat) (off : Nat) : Option (Nat × Nat × Nat) :=
  if 0x10 ≤ off ∧ off % 80 = 0x10 ∧ (off - 0x10) / 80 < w.getD 0 0 then
    let x := w.getD (off / 4) 0
    some (bits x 10 8, bits x 5 0, bits x 21 16)
  else none

/-- The boot region's KEYS record has, at offset `off`, the entry for this operation (R671). -/
def appliesEntry (m : Module) (op slot src off : Nat) : Bool :=
  ((recordWords m.bootRegion 6).bind (fun w => keysEntry w off)) == some (op, slot, src)

/-- A write of KST_OP (R669): `item` is the offset of the KEYS entry that secure firmware is applying, if it is (R671;
log entry 41). -/
def kstOp (m : Module) (op slot src agent : Nat) (item : Option Nat) : Module :=
  let (m, st) := match m.opKey op slot src agent with
    | .error st => (m, st)
    | .ok k => (if op = 4 then m.eraseSlot slot else m.loadSlot slot k (op == 1), 0)
  let m := (m.wr F.KST_OP_STAT_STATUS st).wr F.KST_OP_STAT_GEN (m.rd F.KST_SLOT_GEN_GEN slot)
  let m := m.raise F.KST_EVT_OP_DONE
  match item with
  | some off => if st = 0 ∨ ! m.appliesEntry op slot src off then m else m.logBlk 0x0D 0x2D03 off st
  | none => m

/-- The lock is taken (R667; log entry 41). -/
def lockTake (m : Module) (agent : Nat) : Module :=
  if m.rd F.KST_LOCK_STAT_HOLDER = 0 then (m.wr F.KST_LOCK_STAT_HOLDER agent).wr F.KST_LOCK_STAT_HELD_US 0 else m

/-- The lock is freed (log entry 41). -/
def lockFree (m : Module) : Module := (m.wr F.KST_LOCK_STAT_HOLDER 0).wr F.KST_LOCK_STAT_HELD_US 0

/-- A detector becomes active (R672; log entry 41). -/
def glitch (m : Module) (det : Nat) : Module :=
  let fresh := (List.range 3).any (fun b => bit det b && ! bit (m.rd F.CPE_STAT_GLITCH) b)
  let m := (m.wr F.CPE_STAT_GLITCH det).wr F.KST_STAT_GLITCH det
  let m := { m with cpe := { m.cpe with glitchUs := m.now } }
  if ! fresh then m else
  let m := { m with cpe := { m.cpe with hold := true } }
  let (m, n) := m.abortJobs (fun _ => true) 9
  (m.raise F.CPE_EVT_ALARM).logBlk 0x0C 0x2C02 0 (det + sat 8 n * 2 ^ 8)

/-- Every slot is erased (R673, R674): how many held keys. -/
def eraseAll (m : Module) : Module × Nat :=
  ((List.range 64).foldl (fun m s => m.eraseSlot s) m,
   ((List.range 64).filter (fun s => m.flag F.KST_SLOT_ATTR_VALID s)).length)

/-- The lid mesh, closed until now, opens (R156, R673). -/
def meshOpen (m : Module) : Module :=
  if m.flag F.HST_MESH_OPEN then m else
  let (m, n) := m.eraseAll
  let m := ((m.raise F.KST_STAT_MESH_OPEN).raise F.KST_EVT_MESH).logBlk 0x0D 0x2D02 0 n
  (((m.raise F.HST_MESH_OPEN).raise F.HST_MESH_LATCHED).raise F.HST_EVT_MESH).latch (fun h => { h with mesh := true })

/-- What a block reset of KST does beside its registers (R674): the generations stay, advanced (log entry 17). -/
def kstBlockReset (m : Module) : Module := m.eraseAll.1

end Module

/-! ### Commands -/

/-- KST_LOCK_TAKE (R667). -/
def execKstLockTake (a : Access) (agent : Fin 256) (s : State) : Host.Outcome State Fault Refusal :=
  s.runBy a 1 (fun a m => m.access a 0x20B00000 1 (·.lockTake agent.val))

/-- KST_LOCK_RELEASE (R667). -/
def execKstLockRelease (a : Access) (agent : Fin 256) (s : State) : Host.Outcome State Fault Refusal :=
  s.runBy a 1 (fun a m => m.access a 0x20B00000 1 (fun m =>
    if m.rd F.KST_LOCK_STAT_HOLDER = agent.val then m.lockFree else m))

/-- LOCK_REVOKED (R667, R678): the lock has been held for 1 ms. -/
def execLockRevoked (s : State) : Host.Outcome State Fault Refusal :=
  s.runIn 0x0D (fun m =>
    let h := m.rd F.KST_LOCK_STAT_HOLDER
    if h = 0 ∨ m.rd F.KST_LOCK_STAT_HELD_US < 1000 then m
    else ((m.lockFree.wr F.KST_LOCK_STAT_REVOKED h).raise F.KST_EVT_REVOKED).logBlk 0x0D 0x2D01 0 h)

/-- LOAD_UNWRAP (R666, R668, R669, R671, R678). -/
def execLoadUnwrap (a : Access) (slot src : Fin 64) (agent : Fin 256) (item : Option Nat) (s : State) :
    Host.Outcome State Fault Refusal :=
  s.runBy a 1 (fun a m => m.access a 0x20B00008 1 (·.kstOp 1 slot.val src.val agent.val item))

/-- DERIVE_ROOT (R666, R668–R671, R678). -/
def execDeriveRoot (a : Access) (slot src : Fin 64) (agent : Fin 256) (item : Option Nat) (s : State) :
    Host.Outcome State Fault Refusal :=
  s.runBy a 1 (fun a m => m.access a 0x20B00008 1 (·.kstOp 2 slot.val src.val agent.val item))

/-- DERIVE_SLOT (R666, R668–R671). -/
def execDeriveSlot (a : Access) (slot src : Fin 64) (agent : Fin 256) (item : Option Nat) (s : State) :
    Host.Outcome State Fault Refusal :=
  s.runBy a 1 (fun a m => m.access a 0x20B00008 1 (·.kstOp 3 slot.val src.val agent.val item))

/-- ERASE (R666, R668, R669, R678). -/
def execErase (a : Access) (slot src : Fin 64) (agent : Fin 256) (s : State) : Host.Outcome State Fault Refusal :=
  s.runBy a 1 (fun a m => m.access a 0x20B00008 1 (·.kstOp 4 slot.val src.val agent.val none))

/-- GLITCH_ALARM (R672, R678): `detectors` are those active: bit 0 voltage, 1 clock, 2 temperature (R679). -/
def execGlitchAlarm (detectors : Fin 8) (s : State) : Host.Outcome State Fault Refusal := s.runUp (fun m => m.glitch detectors.val)

/-- GLITCH_CLEAR (R672): 100 µs have passed since the last detector became inactive (log entry 41). -/
def execGlitchClear (s : State) : Host.Outcome State Fault Refusal :=
  s.runUp (fun m => if m.now < m.cpe.glitchUs + 100 then m else
    ({ m with cpe := { m.cpe with hold := false } }.wr F.CPE_STAT_GLITCH 0).wr F.KST_STAT_GLITCH 0)

/-- MESH_ERASE (R156, R668, R673, R678). -/
def execMeshErase (s : State) : Host.Outcome State Fault Refusal := s.run (fun m => m.meshOpen)

/-- MESH_CLOSE (R673): the mesh reads closed again. -/
def execMeshClose (s : State) : Host.Outcome State Fault Refusal :=
  s.run (fun m => (m.lower F.KST_STAT_MESH_OPEN).lower F.HST_MESH_OPEN)

end Sys2Proof.Machine
end

