-- ==== Sys2Proof/Machine/Gate.lean ====
section
/-!
DEFINITION. Clock and power gates (R57–R66, R417, R418, R420, R421).
-/
namespace Sys2Proof.Machine

namespace Module

/-- The blocks that require block `b` (R59). -/
def requirers : Nat → List Nat
  | 0x04 => [0x0E]
  | 0x05 => [0x04]
  | 0x06 => [0x07, 0x08, 0x0F, 0x0E]
  | 0x07 => [0x0B]
  | 0x09 => [0x06, 0x07, 0x0A, 0x0B, 0x0E]
  | 0x0A => [0x0B, 0x0E]
  | 0x0D => [0x0C]
  | 0x0F => [0x0E]
  | _ => []

/-- All 128 channels are OFF and no command is in progress (R59). -/
def chcQuiet (m : Module) : Bool :=
  (List.range 128).all (fun n => let c := m.chan n; c.cmd == .off && c.phase == .off && c.pwm.isNone)
    && (List.range 16).all (fun i => (m.chi i).queue == [] && (m.chi i).cal == [])

/-- No lock-step pair runs a partition (R59). -/
def noPairRuns (m : Module) : Bool :=
  (List.range 16).all (fun p => let st := m.rd F.LSS_PART_STATE p; st != 1 && st != 2 && st != 5)

/-- The further condition of R59 for gating block `b` off. -/
def furtherOk (m : Module) (b : Nat) : Bool :=
  if b = 0x04 then m.chcQuiet else if b = 0x0E then ! m.flag F.DPX_CFG_EN else if b = 0x11 then m.noPairRuns else true

/-- SYSCTL_GATE_STAT of world `sec` reflects a request: its status and its block (R64). -/
def gateShow (m : Module) (sec : Bool) (b st : Nat) : Module :=
  if sec then (m.wr F.SYSCTL_GATE_STAT_S_STATUS st).wr F.SYSCTL_GATE_STAT_S_BLOCK b
  else (m.wr F.SYSCTL_GATE_STAT_N_STATUS st).wr F.SYSCTL_GATE_STAT_N_BLOCK b

/-- The request of world `sec` for block `b` completes with `st`: only now is it reflected (R66; log entry 16). -/
def gateDone (m : Module) (sec : Bool) (b st : Nat) : Module :=
  let m := m.gateShow sec b st
  if sec then { m.lower F.SYSCTL_GATE_STAT_S_PEND with sys := { m.sys with gateS := none } }
  else { m.lower F.SYSCTL_GATE_STAT_N_PEND with sys := { m.sys with gateN := none } }

/-- The request of world `sec` that drains or powers up. -/
def gateJob (m : Module) (sec : Bool) : Option GateJob := if sec then m.sys.gateS else m.sys.gateN

/-- The status with which R60 completes the request at once, if it does (log entry 16). -/
def gateRefusal (m : Module) (b op : Nat) : Option Nat :=
  let off := op % 2 == 0
  if coreDomain b then some 0x10
  else if b = 0x0D ∧ 2 ≤ op then some 0x10
  else if off && (requirers b).any m.running then some 1
  else if off && ! m.furtherOk b then some 1
  else if m.sys.blkRst == some b then some 1 else none

/-- R60 after the world checks: BAD_PARAM, BUSY, a drain, or the ungating. What the other world's request does to the same
block plays no part: a clock-on completes at once although the block drains, and each power-up resets it (DESIGN CHOICE,
log entry 16). -/
def gateContinue (m : Module) (sec : Bool) (b op : Nat) : Module :=
  match m.gateRefusal b op with
  | some st => m.gateDone sec b st
  | none =>
    if op = 1 ∨ (op = 3 ∧ bit (m.rd F.SYSCTL_PWR_STATE_ON) b) then
      (m.when (bit (m.rd F.SYSCTL_PWR_STATE_ON) b) (·.setMap F.SYSCTL_CLK_STATE_RUN b)).gateDone sec b 0
    else { m with sys := if sec then { m.sys with gateS := some ⟨b, op⟩ } else { m.sys with gateN := some ⟨b, op⟩ } }

/-- Effective GATE of block `b` (R409, R411): 0 NORMAL, 1 SECURE, 2 SHARED, 3 none. -/
def gateOf (m : Module) (b : Nat) : Nat := if coreDomain b then 3 else m.rd F.WCT_BLK_GATE b

/-- A write of SYSCTL_GATE_REQ that reached it (R57, R417, R418, R420; log entry 16). -/
def gateRequest (m : Module) (a : Access) (b op : Nat) : Module :=
  let busy := if a.world then m.flag F.SYSCTL_GATE_STAT_S_PEND else m.flag F.SYSCTL_GATE_STAT_N_PEND
  if busy then m
  else if ! a.world && m.gateOf b == 1 then
    ({ m with resp := { status := 2 } }).log (Rec.ofAccess a 0x12 0x1201 0x20000040 1 2 (b + op * 2 ^ 8))
  else if a.world then (m.raise F.SYSCTL_GATE_STAT_S_PEND).gateContinue true b op
  else
    let m := m.raise F.SYSCTL_GATE_STAT_N_PEND
    if m.gateOf b == 2 && op % 2 == 0 && decide (0 < m.rd F.WCT_HOLD_COUNT b) then
      (((m.gateShow false b 0x13).wr F.WCT_DEFER_BLOCK b).wr F.WCT_DEFER_OP op).raise F.WCT_DEFER_PEND
    else m.gateContinue false b op

/-- The deferral ends (R420 steps 2–4). -/
def deferEnd (m : Module) : Module := (m.lower F.WCT_DEFER_PEND).raise F.WCT_EVT_DEFER_END

/-- A deferred request whose block's hold count has reached 0 continues with R60 (R420 step 2). -/
def deferLeave (m : Module) : Module :=
  if m.flag F.WCT_DEFER_PEND && m.rd F.WCT_HOLD_COUNT (m.rd F.WCT_DEFER_BLOCK) == 0 then
    m.deferEnd.gateContinue false (m.rd F.WCT_DEFER_BLOCK) (m.rd F.WCT_DEFER_OP)
  else m

/-- CPE still has an outstanding quarantine range (R661). -/
def drainHeld (m : Module) (b : Nat) : Bool := b == 0x0C && (List.range 8).any (fun q => m.flag F.FAB_QR_CTRL_ACTIVE q)

/-- The drain of world `sec`'s request ends in time: clock or power is removed (R61, R62), and a deferred request of the
same block completes with OK where the secure world's did (R420 step 3). -/
def gateDrained (m : Module) (sec : Bool) : Module :=
  match m.gateJob sec with
  | none => m
  | some j =>
    if j.op % 2 = 1 || m.drainHeld j.block then m else
    let m := m.setMap F.SYSCTL_CLK_STATE_RUN j.block false
    let m := m.when (j.op == 2) (·.setMap F.SYSCTL_PWR_STATE_ON j.block false)
    let m := m.gateDone sec j.block 0
    m.when (sec && m.flag F.WCT_DEFER_PEND && m.rd F.WCT_DEFER_BLOCK == j.block) (fun m =>
      m.deferEnd.gateDone false j.block 0)

/-- The drain did not finish within 10 µs: TIMEOUT, and the block stays running (R61 step 3). -/
def gateTimedOut (m : Module) (sec : Bool) : Module :=
  match m.gateJob sec with
  | some j => if j.op % 2 = 0 then m.gateDone sec j.block 0x0E else m
  | none => m

end Module

/-- GATE_CLOCK_OFF (R57–R61, R66, R417, R418, R420, R429). -/
def execGateClockOff (a : Access) (block : Fin 256) (s : State) : Host.Outcome State Fault Refusal :=
  s.runBy a 1 (fun a m => m.access a 0x20000040 1 (·.gateRequest a block.val 0))

/-- GATE_CLOCK_ON (R57, R58, R60, R62, R417, R418, R421). -/
def execGateClockOn (a : Access) (block : Fin 256) (s : State) : Host.Outcome State Fault Refusal :=
  s.runBy a 1 (fun a m => m.access a 0x20000040 1 (·.gateRequest a block.val 1))

/-- GATE_POWER_OFF (R57–R61, R66, R417, R418, R420, R429). -/
def execGatePowerOff (a : Access) (block : Fin 256) (s : State) : Host.Outcome State Fault Refusal :=
  s.runBy a 1 (fun a m => m.access a 0x20000040 1 (·.gateRequest a block.val 2))

/-- GATE_POWER_ON (R57–R60, R62, R417, R418, R421): the power-up itself ends with GATE_POWER_UP_DONE. -/
def execGatePowerOn (a : Access) (block : Fin 256) (s : State) : Host.Outcome State Fault Refusal :=
  s.runBy a 1 (fun a m => m.access a 0x20000040 1 (·.gateRequest a block.val 3))

/-- GATE_DRAIN_DONE (R61, R66, R420, R661). -/
def execGateDrainDone (secure : Bool) (s : State) : Host.Outcome State Fault Refusal :=
  s.run (fun m => m.gateDrained secure)

/-- GATE_DRAIN_TIMEOUT (R61, R66, R661). -/
def execGateDrainTimeout (secure : Bool) (s : State) : Host.Outcome State Fault Refusal :=
  s.run (fun m => m.gateTimedOut secure)

end Sys2Proof.Machine
end

