-- ==== Sys2Proof/Machine/Guard.lean ====
section
/-!
DEFINITION. The memory guard (chapter 8): guarded reads and writes, the L2 cache's lines, scrubbing, the firewall's
regions and the error log's place.
-/
namespace Sys2Proof.Machine

namespace Module

/-- Where guarded memory `k` stands inside the model, for address `addr`: physical for SRAM and DRAM, the L2's own copy,
or an offset in the pair-local memory (R20, R364). -/
def guardBase (k : Nat) : Nat := if k = 2 then MemSt.l2Base else if 3 ≤ k then MemSt.lpBase (k - 3) else 0

/-- Upsets named by physical address, moved to where memory `k` stands. -/
def Upset.shift (d : Nat) : Upset → Upset
  | .word a x p => .word (a + d) x p
  | .seam a x p => .seam (a + d) x p
  | .transient a n => .transient (a + d) n

/-- The upsets strike memory `k` (log entry 11). -/
def strikes (m : Module) (k : Nat) (ups : List Upset) : Module :=
  { m with mem := ups.foldl (fun st u => st.strike (Upset.shift (guardBase k) u)) m.mem }

/-- The L2 entry of line `l`. -/
def l2Line (m : Module) (l : Nat) : L2Line := tget {} m.mem.l2 l

/-- Store the L2 entry of line `l`. -/
def setL2 (m : Module) (l : Nat) (e : L2Line) : Module := { m with mem := { m.mem with l2 := tset {} m.mem.l2 l e } }

/-- Every DMA or cache write-back of a whole line: the poison bit goes with it (R372). -/
def evictLine (m : Module) (l : Nat) : Module :=
  let e := m.l2Line l
  if ! e.held then m else
  let c := (MemSt.l2Base + l * 256) / 256
  let m := if ! e.dirty then m
    else if m.mem.poisoned c then
      let m := if m.mem.poisoned l then m else m.addS F.FAB_MG_CNT_UNCORR 1 1
      { m with mem := m.mem.setPoison l }
    else { m with mem := (m.mem.clearLine l).putBytes (l * 256) (m.mem.bytes (MemSt.l2Base + l * 256) 256) }
  let st := (m.mem.clearLine c).putBytes (MemSt.l2Base + l * 256) (List.replicate 256 MemSt.blank)
  { m with mem := { st with l2 := tset {} st.l2 l {} } }

/-- The ways in which an access of world `w` allocates (R406, R407); any, while the SYSTEM record has named none (log
entry 11). -/
def l2Ways (m : Module) (w : Bool) : List Nat :=
  let mask := m.rd F.WCT_L2_WAYS_SECURE
  (List.range 16).filter (fun k => mask == 0 || bit mask k == w)

/-- The line that stands in way `k` of the set of line `l`: the L2 has 512 sets of 16 ways of 256 bytes (R318). -/
def l2Holder (m : Module) (l k : Nat) : Option Nat :=
  (m.mem.l2.find? (fun e => e.2.held && e.2.way == k && e.1 % 512 == l % 512)).map (·.1)

/-- Line `l` gets a way of the world `w`: one that holds nothing, or that of a victim, which leaves. The manual does not say
which line replacement chooses: a free value does (R406; log entry 11). A line that is held keeps its way. -/
def l2Alloc (m : Module) (l : Nat) (w : Bool) : Module :=
  if (m.l2Line l).held then m else
  let ways := m.l2Ways w
  match ways.find? (fun k => (m.l2Holder l k).isNone) with
  | some k => m.setL2 l { held := true, secure := w, way := k }
  | none =>
    let (m, i) := m.draw ways.length
    let k := ways.getD i 0
    (((m.l2Holder l k).map m.evictLine).getD m).setL2 l { held := true, secure := w, way := k }

/-- Fill line `l` of the L2 from DRAM, through DRAM's own guard (R372); `secure` is the world of the access, which
decides the ways it is allocated in (R406). True where DRAM delivered the line. -/
def l2Fill (m : Module) (a : Access) (l : Nat) : Module × Bool :=
  let (st, cs) := m.mem.checkWords [] (MemSt.touched (l * 256) 256)
  let m := { m with mem := st }
  let m := m.logChecks 1 (Rec.ofAccess a 0 0 (l * 256) 0 0) (l * 256) cs
  if cs.any (·.failed) then (m, false)
  else
    let m := m.l2Alloc l a.world
    let st := m.mem.clearLine ((MemSt.l2Base + l * 256) / 256)
    ({ m with mem := st.putBytes (MemSt.l2Base + l * 256) (st.bytes (l * 256) 256) }, true)

/-- A parity error in a clean L2 line: the line is dropped, refetched from DRAM and logged as PARITY_TRANSIENT (R372). -/
def l2CleanError (m : Module) (a : Access) (l : Nat) : Module × Bool :=
  match (m.mem.badWords ((MemSt.l2Base + l * 256) / 256)).head? with
  | none => (m, true)
  | some ix =>
    let m := m.logChecks 2 (Rec.ofAccess a 0 0 (l * 256) 0 0) (l * 256) [{ code := 0x0101, d0 := ix }]
    l2Fill m a l

/-- Make the lines of the `n` bytes from `addr` present in the L2, but those that a write covers whole, refetching clean ones
with an error. -/
def l2Ready (m : Module) (a : Access) (addr n : Nat) (whole : List Nat := []) : Module × Bool :=
  (List.range ((addr + n - 1) / 256 - addr / 256 + 1)).foldl (fun (s : Module × Bool) i =>
    let l := addr / 256 + i
    if ! s.2 || whole.contains l then s else
    let e := s.1.l2Line l
    if ! e.held then l2Fill s.1 a l else if e.dirty then s else l2CleanError s.1 a l) (m, true)

/-- The guarded memory that an access to memory `k` at `addr` reaches, if the address is in it; the L2 caches DRAM. -/
def guardHit (k addr : Nat) : Bool :=
  if k = 0 then memOf addr == some 0 else if k ≤ 2 then memOf addr == some 1 else true

/-- Address `addr` of the pair map lies among the pair-local registers (R324, R330). -/
def isLocalReg (addr : Nat) : Bool := decide (0xFFFF0000 ≤ addr) && decide (addr < 0xFFFF0100)

/-- The checks of an access to a guarded memory: its view's and the fabric's. Pair-local memory only its pair reaches, and there
only the ranges of R324; a register there is read as a whole word (R9, R10; log entry 27). -/
def guardDeny (m : Module) (a : Access) (k addr n kind : Nat) : Option Deny :=
  if 3 ≤ k then
    if pairOf a ≠ some (k - 3) then some noView
    else if isLocalReg addr then (if n = 4 ∧ addr % 4 = 0 ∧ kind ≠ 2 then none else some noView)
    else if addr + n ≤ 0x20000 then none else some noView
  else
    match m.pairBars a addr n kind with
    | some d => some d
    | none => m.fabricDeny a addr n kind

/-! ### The commit buffer as loads see it (R326) -/

/-- The byte that the newest of the held stores `l` of kind `k` writes at `a`, if one does (R326). -/
def heldByte (l : List HeldStore) (k : StoreKind) (a : Nat) : Option Byte :=
  l.foldl (fun r x =>
    if x.kind = k ∧ x.addr ≤ a ∧ a < x.addr + 4 ∧ x.mask.getLsbD (a - x.addr) then
      some (BitVec.ofNat 8 (x.data.toNat / 2 ^ (8 * (a - x.addr))))
    else r) none

/-- The held stores that a load or fetch of `a` from guarded memory `k` at `addr` takes bytes from, and their kind: those of
its pair to memory views, where it is a load through a view with DEVICE = 0, and to pair-local memory (R326). -/
def forwards (m : Module) (a : Access) (k addr n kind : Nat) : List HeldStore × StoreKind :=
  match pairOf a with
  | none => ([], .memView)
  | some p =>
    let l := (tget {} m.lss.pairs p).held
    if kind ≠ 0 then ([], .memView)
    else if 3 ≤ k then (l, .pairLocal)
    else if (m.viewFor p addr n 0).any (·.device) then ([], .memView) else (l, .memView)

/-- The bytes of the `n` at `addr` that no store of `f` gives, as addresses. -/
def unforwarded (f : List HeldStore × StoreKind) (addr n : Nat) : List Nat :=
  ((List.range n).map (addr + ·)).filter (fun x => (heldByte f.1 f.2 x).isNone)

/-- Pair `n` reads its pair-local register at offset `off` (R330): the first access to LSS_LOC_MTIME holds its high half for the
second. What an offset without a register reads as is a free value (log entry 27). -/
def readLocal (m : Module) (n off : Nat) : Module :=
  match m.hosted n with
  | none => let (m, v) := m.draw (2 ^ 32); m.ok v
  | some p =>
    let t := m.rd F.LSS_MTIME_US
    if off = 0x00 then
      m.ok (m.rd F.LSS_LOC_INFO_PAIR p + m.rd F.LSS_LOC_INFO_PART p * 2 ^ 4 + m.rd F.LSS_LOC_INFO_WINDOW p * 2 ^ 8
        + m.rd F.LSS_LOC_INFO_SAFE_VALID p * 2 ^ 10)
    else if off = 0x08 then
      ({ m with lss := { m.lss with pairs := tmod {} m.lss.pairs n (fun x => { x with mtimeHi := t / 2 ^ 32 }) } } : Module).ok
        (t % 2 ^ 32)
    else if off = 0x0C then m.ok (tget {} m.lss.pairs n).mtimeHi
    else if off = 0x10 then m.ok (m.rd F.LSS_LOC_MTIMECMP_US p % 2 ^ 32)
    else if off = 0x14 then m.ok (m.rd F.LSS_LOC_MTIMECMP_US p / 2 ^ 32)
    else if off = 0x18 then
      m.ok (m.rd F.LSS_LOC_EVT_WERR p + m.rd F.LSS_LOC_EVT_MIGRATED p * 2 + m.rd F.LSS_LOC_EVT_REPLAYED p * 4)
    else if off = 0x20 then m.ok (m.rd F.LSS_LOC_MIGCNT_COUNT p)
    else let (m, v) := m.draw (2 ^ 32); m.ok v

/-- A read of `n` bytes of guarded memory `k` (R326, R368–R372, R388; log entry 11): bytes of the pair's held stores are taken
from the commit buffer, and the other bytes' words are read and checked. -/
def guardedReadAt (m : Module) (a : Access) (k addr n kind : Nat) (ups : List Upset) : Module :=
  let m := m.strikes k ups
  match m.guardDeny a k addr n kind with
  | some d => m.refuse a addr kind d
  | none =>
    if n = 0 || ! guardHit k addr then m
    else if 3 ≤ k && isLocalReg addr then m.readLocal (k - 3) (addr - 0xFFFF0000)
    else
    let (m, ready) := if k = 2 then m.l2Ready a addr n else (m, true)
    if ! ready then { m with resp := { status := 0x0D } } else
    let b := guardBase k
    let f := m.forwards a k addr n kind
    let need := (unforwarded f addr n).map (b + ·)
    let words := (MemSt.touched (b + addr) n).filter (fun w => need.any (fun x => x / 4 * 4 == w))
    let (st, cs) := m.mem.checkWords (ups.map (Upset.shift b)) words
    let m := { m with mem := st }
    let m := m.logChecks k (Rec.ofAccess a 0 0 addr kind 0) (addr / 256 * 256) cs
    if cs.any (·.failed) then { m with resp := { status := 0x0D } }
    else
      m.ok (ofBytes ((List.range n).map (fun i => (heldByte f.1 f.2 (addr + i)).getD (m.mem.byte (b + addr + i)))))

/-- A write of `data` to guarded memory `k` (R367, R370, R388; log entry 11). -/
def guardedWriteAt (m : Module) (a : Access) (k addr : Nat) (data : List Byte) (ups : List Upset) : Module :=
  let m := m.strikes k ups
  let n := data.length
  match m.guardDeny a k addr n 1 with
  | some d => m.refuse a addr 1 d
  | none =>
    if n = 0 || ! guardHit k addr || (decide (3 ≤ k) && isLocalReg addr) then m else
    let (m, ready) := if k = 2 then m.l2Ready a addr n (MemSt.wholeLines addr n) else (m, true)
    if ! ready then { m with resp := { status := 0x0D } } else
    let m := if k ≤ 1 then m.semWrite addr n else m
    let b := guardBase k
    let (st, cs) := m.mem.guardedPut (ups.map (Upset.shift b)) (b + addr) data
    let m := { m with mem := st }
    let m := m.logChecks k (Rec.ofAccess a 0 0 addr 1 0) (addr / 256 * 256) cs
    if cs.any (·.failed) then { m with resp := { status := 0x0D } } else
    let m := if k = 2 then
      (List.range ((addr + n - 1) / 256 - addr / 256 + 1)).foldl (fun m i =>
        let m := m.l2Alloc (addr / 256 + i) a.world
        m.setL2 (addr / 256 + i) { m.l2Line (addr / 256 + i) with dirty := true }) m
      else m
    m.ok

/-- The attributes of a scrub record: initiator 0x26 (R373). -/
def scrubAccess : Access := { ini := 0x26, world := false, part := 0 }

/-- One visit of the scrubber (R373, R374; log entry 11). -/
def scrubVisit (m : Module) (k line : Nat) (ups : List Upset) : Module :=
  let m := m.strikes k ups
  let (st, c) := m.mem.scrub (guardBase k / 256 + line)
  let m := { m with mem := st }
  m.logChecks k (Rec.ofAccess scrubAccess 0 0 (line * 256) 0 0) (line * 256) [c]

/-- Number of lines of guarded memory `k` (R31, R324); the L2 has no such order. -/
def memLines (k : Nat) : Nat := if k = 0 then 0x10000 else if k ≤ 2 then 0x1000000 else 0x200

/-- Line number within memory `k` of the line named by the scrubber. -/
def lineIndex (k line : Nat) : Nat := if k = 0 then line - 0x100000 else if k ≤ 2 then line - 0x8000000 else line

/-! ### Firewall regions -/

/-- A range of pages lies within one of the target's own address ranges (R381). -/
def rangeInTarget (t b l : Nat) : Bool :=
  let within := fun lo hi => decide (lo ≤ b) && decide (l ≤ hi)
  if t = 0 then within 0 0x3F else if t = 1 then within 0x10000 0x10FFF
  else if t = 0x16 then within 0x800000 0x8FFFFF
  else if t ≤ 0x15 then
    let w := winBase t / 4096
    within w (w + 0xFF) || (t == 0x0F && within 0x30000 0x3FFFF)
  else false

/-- The status of a commit of the staged region to region `r` of target `t` (R385). -/
def commitStatus (m : Module) (t r : Nat) : Nat :=
  if 0x16 < t then 0x10
  else if m.rd F.FAB_STG_LIMIT_LIMIT < m.rd F.FAB_STG_BASE_BASE then 0x10
  else if ! rangeInTarget t (m.rd F.FAB_STG_BASE_BASE) (m.rd F.FAB_STG_LIMIT_LIMIT) then 0x10
  else if bit (m.rd F.FAB_RGN_KEY_KEY t r) 22 then 2 else 0

/-- FAB_STG_KEY as one value. -/
def stagedKey (m : Module) : Nat :=
  m.rd F.FAB_STG_KEY_INIT + m.rd F.FAB_STG_KEY_INIT_MASK * 2 ^ 8 + m.rd F.FAB_STG_KEY_NORMAL * 2 ^ 16
    + m.rd F.FAB_STG_KEY_SECURE * 2 ^ 17 + m.rd F.FAB_STG_KEY_PERM * 2 ^ 18 + m.rd F.FAB_STG_KEY_EN * 2 ^ 21
    + m.rd F.FAB_STG_KEY_LOCK * 2 ^ 22

/-- A write of FAB_COMMIT (R385, R395). -/
def firewallCommit (m : Module) (a : Access) (v : Nat) (recOffset : Option Nat) : Module :=
  if bits v 31 16 ≠ 0x4657 || m.flag F.FAB_COMMIT_STAT_PEND then m else
  let t := bits v 7 0
  let r := bits v 11 8
  let st := m.commitStatus t r
  let m := m.wr F.FAB_COMMIT_STAT_STATUS st
  if st = 0 then
    (((m.wr F.FAB_RGN_BASE_BASE (m.rd F.FAB_STG_BASE_BASE) t r).wr F.FAB_RGN_LIMIT_LIMIT (m.rd F.FAB_STG_LIMIT_LIMIT) t r).wr
      F.FAB_RGN_KEY_KEY m.stagedKey t r).wr F.FAB_RGN_PART_MASK (m.rd F.FAB_STG_PART_MASK) t r
  else
    match recOffset with
    | some off => m.log (Rec.ofAccess a 3 0x000A off 1 st)
    | none => m

/-- The re-key of R386: every region whose INIT_MASK is 0xFF and whose INIT is `old` names `new`. -/
def firewallRekey (m : Module) (old new : Nat) : Module :=
  forEach (List.range 23) (fun t m => forEach (List.range 16) (fun r m =>
    let k := m.rd F.FAB_RGN_KEY_KEY t r
    if bits k 15 8 = 0xFF ∧ bits k 7 0 = old then m.wr F.FAB_RGN_KEY_KEY (k - old + new) t r else m) m) m

/-- A write of FAB_LOG_BASE (R395): writable only while ENFORCE is 0 (R821); ignored with CFG_REJECT where any part of
the ring would lie outside SRAM, with the status of the write (R391, R392). -/
def writeLogBase (m : Module) (a : Access) (v : Nat) : Module :=
  if m.flag F.FAB_CTRL_ENFORCE then m else
  let b := bits v 39 13
  if 0x10000000 ≤ b * 0x2000 ∧ b * 0x2000 + 0x2000 ≤ 0x11000000 then
    ((m.wr F.FAB_LOG_BASE_ADDR b).wr F.FAB_LOG_WR_IDX 0).wr F.FAB_LOG_RD_IDX 0
  else m.log (Rec.ofAccess a 3 0x000A 4 1 0)

end Module

/-! ### Commands -/

/-- The access type of a read of guarded memory (R388): 0 a load, 2 a fetch. -/
def readCode : ReadKind → Nat
  | .data => 0
  | .fetch => 2

/-- GUARDED_READ (R364, R368–R370, R372, R382, R387–R389, R396). -/
def execGuardedRead (a : Access) (kind : ReadKind) (mem : Fin 7) (addr count : Nat) (ups : List Upset) (s : State) :
    Host.Outcome State Fault Refusal :=
  s.runBy a (readCode kind) (fun a m => m.guardedReadAt a mem.val addr count (readCode kind) ups)

/-- GUARDED_WRITE (R29, R367–R370, R382, R387, R388, R396, R747). -/
def execGuardedWrite (a : Access) (mem : Fin 7) (addr : Nat) (data : List Byte) (ups : List Upset) (s : State) :
    Host.Outcome State Fault Refusal :=
  s.runBy a 1 (fun a m => m.guardedWriteAt a mem.val addr data ups)

/-- SCRUB_LINE_VISIT (R368, R369, R373, R374, R396): the last line of a memory ends a periodic pass over it. The lines that
the L2 holds stand in no order that the manual gives: there `last` says that the visit ends a pass, and PROGRESS is free. -/
def execScrubLineVisit (mem : Fin 7) (line : Nat) (ups : List Upset) (last : Bool) (s : State) :
    Host.Outcome State Fault Refusal :=
  s.run (fun m =>
    let k := Module.lineIndex mem.val line
    let (m, p) := if mem.val = 2 then m.draw 256 else (m, k * 256 / Module.memLines mem.val)
    let m := (m.scrubVisit mem.val line ups).wr F.FAB_SCRUB_STAT_PROGRESS p mem.val
    let ends := if mem.val = 2 then last else k + 1 == Module.memLines mem.val
    m.when (ends && ! m.flag F.FAB_SCRUB_STAT_REQ_BUSY mem.val) (·.scrubPassed mem.val))

/-- SCRUB_PASS_DONE (R375): the pass requested over the memory completes. -/
def execScrubPassDone (mem : Fin 7) (s : State) : Host.Outcome State Fault Refusal :=
  s.run (fun m => m.when (m.flag F.FAB_SCRUB_STAT_REQ_BUSY mem.val) (fun m =>
    ((m.lower F.FAB_SCRUB_STAT_REQ_BUSY mem.val).wr F.FAB_SCRUB_STAT_PROGRESS 255 mem.val).scrubPassed mem.val))

/-- L2_EVICTION (R372, R396). -/
def execL2Eviction (line : Nat) (s : State) : Host.Outcome State Fault Refusal := s.run (fun m => m.evictLine line)

/-- SCRUB_REQUEST (R375): a pass starts over each memory named; only the secure world may write (R397). -/
def execScrubRequest (a : Access) (v : Word) (s : State) : Host.Outcome State Fault Refusal :=
  s.runBy a 1 (fun a m => m.accessIf a 0x2010007C a.world (fun m =>
    forEach (bitsSet 7 v.toNat) (fun k m => (m.raise F.FAB_SCRUB_STAT_REQ_BUSY k).wr F.FAB_SCRUB_STAT_PROGRESS 0 k) m))

/-- FIREWALL_COMMIT (R381, R383, R385, R395): only the secure world may write (R397). `recOffset` is the offset of the
FIREWALL record's entry that secure firmware is applying, if it is. -/
def execFirewallCommit (a : Access) (v : Word) (recOffset : Option Nat) (s : State) :
    Host.Outcome State Fault Refusal :=
  s.runBy a 1 (fun a m => m.accessIf a 0x20100218 a.world (fun m => m.firewallCommit a v.toNat recOffset))

/-- ENFORCE_SET (R384, R397). -/
def execEnforceSet (a : Access) (v : Word) (s : State) : Host.Outcome State Fault Refusal :=
  s.runBy a 1 (fun a m => m.accessIf a 0x20100000 a.world (fun m => m.when (bit v.toNat 0) (·.raise F.FAB_CTRL_ENFORCE)))

/-- FAB_LOG_BASE_WRITE (R395, R397). -/
def execFabLogBaseWrite (a : Access) (v : DWord) (s : State) : Host.Outcome State Fault Refusal :=
  s.runBy a 1 (fun a m => m.accessIf a 0x20100008 a.world (fun m => m.writeLogBase a v.toNat))

end Sys2Proof.Machine
end

