-- ==== Sys2Proof/Machine/Lss.lean ====
section
/-!
DEFINITION. The lock-step pairs and their supervisor (chapter 7): signature windows, the commit buffer's drain, replay,
migration, partitions, comparator injection and the requests of LSS_CTRL.
-/
namespace Sys2Proof.Machine

/-- The checkpoint of a partition that starts at ENTRY (R339, R349): M mode, the timer compare at its reset value. -/
def startCheckpoint (entry : Nat) : List Nat :=
  ((((List.replicate 96 0).set 0 entry).set 78 3).set 80 0xFFFFFFFF).set 81 0xFFFFFFFF

/-! ### Signatures (R334) -/

/-- A checkpoint with a0, a1 and a2 as `l` gives them, if it does (R777, R790). -/
def withArgs (cp l : List Nat) : List Nat :=
  if l = [] then cp else ((cp.set 10 (l.getD 0 0)).set 11 (l.getD 1 0)).set 12 (l.getD 2 0)

/-- The address in the pair map of record `w` of physical address `a`; 0 where no view maps it. -/
def mapped (w : List Nat) (a : Nat) : Nat :=
  match (partViews w).find? (fun v => decide (v.pbase ≤ a) && decide (a < v.pbase + v.size)) with
  | some v => v.vbase + (a - v.pbase)
  | none => 0

/-- A 32-bit word as the low half of a signature's input. -/
def low32 (x : Word) : DWord := BitVec.ofNat 64 x.toNat

/-- Input word m of a request: its data, 0 for a load or LR, and its address (R334). -/
def reqWordM (q : PairReq) : DWord :=
  (match q.kind with | .load => 0 | .lr => 0 | _ => low32 q.data) ||| (low32 q.addr <<< 32)

/-- The code of a request's kind in word a (R334). -/
def reqCode : ReqKind → Nat
  | .load => 0
  | .store => 1
  | .amo => 2
  | .lr => 3
  | .sc => 3

/-- Input word a of a request: its byte mask, kind and DEVICE attribute (R334). -/
def reqWordA (q : PairReq) : DWord :=
  BitVec.ofNat 64 (q.mask.toNat + reqCode q.kind * 2 ^ 4 + b2n q.device * 2 ^ 6)

/-- The input words of one cycle together, u = r xor w xor m xor a; a word is 0 without its event (R334). -/
def sigInput (c : SigCycle) : DWord :=
  let r : DWord := match c.retired with | some pc => low32 pc ||| BitVec.ofNat 64 (2 ^ 63) | none => 0
  let w : DWord := match c.wrote with
    | some x => low32 x.data ||| BitVec.ofNat 64 (x.reg.val * 2 ^ 32 + b2n x.float * 2 ^ 37 + 2 ^ 62)
    | none => 0
  let q := fun (f : PairReq → DWord) => match c.req with | some x => f x | none => 0
  r ^^^ w ^^^ q reqWordM ^^^ q reqWordA

/-- One cycle of the signature register: the feedback polynomial x^64 + x^4 + x^3 + x + 1 (R334; log entry 27). -/
def misrStep (s : BitVec 64) (c : SigCycle) : BitVec 64 :=
  (s <<< 1) ^^^ (if s.msb then 0x1B else 0) ^^^ sigInput c

/-- The signature of a window (log entry 27). -/
def signature (l : List SigCycle) : BitVec 64 := l.foldl misrStep 0

/-- A pair that has stopped what it ran: it keeps the number of its window and its replays of the present second (R343). -/
def PairSt.idle (x : PairSt) : PairSt := { seq := x.seq, secNo := x.secNo, secCount := x.secCount, fault := x.fault }

namespace Module

/-! ### Pairs and partitions -/

/-- Pair `n`. -/
def pair (m : Module) (n : Nat) : PairSt := tget {} m.lss.pairs n

/-- Store pair `n`. -/
def setPair (m : Module) (n : Nat) (x : PairSt) : Module := { m with lss := { m.lss with pairs := tset {} m.lss.pairs n x } }

/-- The state code of pair `n` (R350): 0 TEST, 1 IDLE, 2 SPARE, 3 RUN, 4 LOANED, 5 FAILED, 6 SPLIT. -/
def pairState (m : Module) (n : Nat) : Nat := m.rd F.LSS_PAIR_STAT_STATE n

/-- Pair `n` goes to state `st`, hosting none where `p` is none. -/
def setPairState (m : Module) (n st : Nat) (p : Option Nat := none) : Module :=
  let w := match p with | some p => bits ((tget [] m.lss.store p).getD 0 0) 9 8 | none => 2
  ((m.wr F.LSS_PAIR_STAT_STATE st n).wr F.LSS_PAIR_STAT_PART (p.getD 0) n).wr F.LSS_PAIR_STAT_WINDOW w n

/-- The pair that partition `p` last had, or its record's where it has had none (R349). -/
def pairOfPart (m : Module) (p : Nat) : Nat :=
  match tget 0 m.lss.lastPair p with
  | 0 => partHost (tget [] m.lss.store p) % 4
  | k + 1 => k

/-- Partition `p` belongs to pair `n`: LSS_PART shows it (R363). -/
def givePair (m : Module) (p n : Nat) : Module :=
  { m.wr F.LSS_PART_PAIR n p with lss := { m.lss with lastPair := tset 0 m.lss.lastPair p (n + 1) } }

/-- A pair in SPARE, if there is one. -/
def sparePair (m : Module) : Option Nat := (List.range 4).find? (fun n => m.pairState n == 2)

/-- The fiddlehead pair's number, unless there is none (R352). -/
def fiddlehead (m : Module) : Option Nat := if m.flag F.LSS_CFG_FH_NONE then none else some (m.rd F.LSS_CFG_FH_PAIR)

/-- Pair `n` enters TEST; `after` says what its test decides, `answers` that it completes the request (R351). -/
def toTest (m : Module) (n : Nat) (after : AfterTest) (answers : Bool := false) : Module :=
  (m.setPairState n 0).setPair n { (m.pair n).idle with after := after, answers := answers }

/-- The request of LSS_CTRL completes (R357). -/
def lssDone (m : Module) (st : Nat) : Module := (m.wr F.LSS_CTRL_STAT_STATUS st).lower F.LSS_CTRL_STAT_PEND

/-- A MOVE or ADOPT completes; one of DPX's rotation answers no request (R357, R716). -/
def moveDone (m : Module) (st : Nat) : Module :=
  if m.lss.rotating then { m with lss := { m.lss with rotating := false } } else m.lssDone st

/-- Wipe the pair-local memory of pair `n` (R49). -/
def wipePair (m : Module) (n : Nat) : Module :=
  { m with mem := m.mem.wipe (MemSt.lpBase n) (MemSt.lpBase n + 0x20000) }

/-- The pair-local registers of partition `p` return to their reset values (R330). -/
def clearLocal (m : Module) (p : Nat) : Module := m.clrRange (0x10000000000 + p * 0x1000) (0x10000000000 + p * 0x1000 + 0x100)

/-- Partition `p` runs on pair `n` (R330). -/
def placePart (m : Module) (p n : Nat) : Module :=
  let m := (m.setPairState n 3 (some p)).givePair p n
  let m := m.wr F.LSS_PART_STATE 1 p
  ((m.wr F.LSS_LOC_INFO_PAIR n p).wr F.LSS_LOC_INFO_PART p p).wr F.LSS_LOC_INFO_WINDOW (m.rd F.LSS_PAIR_STAT_WINDOW n) p

/-- The image of partition `p` is copied to pair `n` and started at ENTRY (R349 steps 4, 5; step 7 of R125). -/
def startPart (m : Module) (p n : Nat) : Module :=
  let w := tget [] m.lss.store p
  let m := m.wipePair n
  let m := { m with mem := m.mem.putBytes (MemSt.lpBase n) (partImage w) }
  let m := (m.clearLocal p).placePart p n
  let m := m.setPair n { (m.pair n).idle with
    seq := 0, restore := withArgs (startCheckpoint (w.getD 2 0)) (tget [] m.nvc.startRegs p) }
  { m with nvc := { m.nvc with startRegs := tdel m.nvc.startRegs p } }

/-- Partition `p` stops (R348): its pair goes to FAILED, and STOPPED is set. -/
def stopPart (m : Module) (p n : Nat) : Module :=
  let m := (m.setPairState n 5).setPair n (m.pair n).idle
  (m.wr F.LSS_PART_STATE 3 p).raise F.LSS_EVT_STOPPED

/-! ### Window ends -/

/-- The attributes of the fabric transactions of partition `p` on pair `n` (R39). -/
def pairAccess (n p : Nat) : Access := { ini := 0x10 + n, world := false, part := p }

/-- Record of a committed write with an error response (R341). -/
def writeError (m : Module) (n p addr status : Nat) : Module :=
  let m := (((m.wr F.LSS_WERR_ADDR_ADDR addr).wr F.LSS_WERR_INFO_STATUS status).wr F.LSS_WERR_INFO_PAIR n).wr
    F.LSS_WERR_INFO_PART p
  (((m.addS F.LSS_WERR_INFO_COUNT 1).raise F.LSS_LOC_EVT_WERR p).raise F.LSS_EVT_WERR).latch
    (fun h => { h with werrs := h.werrs + 1 })

/-- The word `old` with the bytes of `mask` taken from `data` (R337). -/
def maskedWord (old data mask : Nat) : Nat :=
  ofBytes ((List.range 4).map (fun i => BitVec.ofNat 8 ((if bit mask i then data else old) / 2 ^ (8 * i))))

/-- One store of the bytes of `mask` to the pair-local registers (R330, R337): MTIMECMP by halves, LSS_LOC_EVT as W1C. -/
def storeLocal (m : Module) (p off data mask : Nat) : Module :=
  let v := m.rd F.LSS_LOC_MTIMECMP_US p
  if off = 0x10 then m.wr F.LSS_LOC_MTIMECMP_US (v / 2 ^ 32 * 2 ^ 32 + maskedWord (v % 2 ^ 32) data mask) p
  else if off = 0x14 then m.wr F.LSS_LOC_MTIMECMP_US (v % 2 ^ 32 + maskedWord (v / 2 ^ 32) data mask * 2 ^ 32) p
  else if off = 0x18 ∧ bit mask 0 then
    let m := m.when (bit data 0) (·.lower F.LSS_LOC_EVT_WERR p)
    let m := m.when (bit data 1) (·.lower F.LSS_LOC_EVT_MIGRATED p)
    m.when (bit data 2) (·.lower F.LSS_LOC_EVT_REPLAYED p)
  else m

/-- The bytes of an entry, and the address of the first. -/
def storeBytes (x : HeldStore) : Nat × List Byte :=
  let lo := (lowestBit 4 x.mask.toNat).getD 0
  (x.addr + lo, ((toBytes 4 x.data.toNat).drop lo).take (popCount 4 x.mask.toNat))

/-- An entry for pair-local memory or a pair-local register drains (R338). -/
def drainLocal (m : Module) (n : Nat) (p : Option Nat) (x : HeldStore) : Module :=
  if x.kind = .pairReg then
    match p with
    | some p => m.storeLocal p x.addr x.data.toNat x.mask.toNat
    | none => m
  else
    let (at', data) := storeBytes x
    let (st, cs) := m.mem.guardedPut [] (MemSt.lpBase n + at') data
    ({ m with mem := st } : Module).logChecks (3 + n) (Rec.ofAccess (pairAccess n (p.getD 0)) 0 0 x.addr 1 0)
      (x.addr / 256 * 256) cs

/-- The store `x` of pair `n` lies in its ranges and views (R324, R325). -/
def storeAllowed (m : Module) (n : Nat) (x : HeldStore) : Bool :=
  match x.kind with
  | .pairLocal => decide (x.addr < 0x20000)
  | .pairReg => decide (x.addr < 0x100)
  | .memView => (m.viewFor n (storeBytes x).1 (storeBytes x).2.length 1).any (fun v => ! v.device)
  | .deviceView => (m.viewFor n (storeBytes x).1 (storeBytes x).2.length 1).any (·.device)

/-- The pending reads of pair `n` commit (R376, R378; log entry 27). -/
def readsCommit (m : Module) (n : Nat) : Module :=
  let mine := (m.reads.filter (fun r => r.pair == n)).reverse
  let m := mine.foldl (fun m r => match r.effect with
    | .bridge c => m.bridgeVerdict c true
    | .tracker => m.trackerRestart
    | _ => m) m
  { m with reads := m.reads.filter (fun r => r.pair != n) }

/-- The pending reads of pair `n` are discarded, newest first (R342, R378; log entry 27). -/
def readsDiscard (m : Module) (n : Nat) : Module :=
  let mine := m.reads.filter (fun r => r.pair == n)
  let m := mine.foldl (fun m r => match r.effect with | .bridge c => m.bridgeVerdict c false | e => m.giveBack e) m
  { m with reads := m.reads.filter (fun r => r.pair != n) }

/-- The fiddlehead pair that a migration can use: SPARE, or in its periodic test (R348, R362). -/
def migTarget (m : Module) : Option Nat :=
  match m.fiddlehead with
  | some f => if m.pairState f = 2 ∨ (m.pairState f = 0 ∧ (m.pair f).after = .settle) then some f else none
  | none => none

/-- A migration of partition `p` from `x` begins (R344), or the partition stops where no spare is free (R348). Of two pairs that
are declared faulty in the same µs the lower one has the spare (R362; log entry 28). -/
def migrate (m : Module) (p x : Nat) : Module :=
  let begin' := fun (m : Module) f =>
    let m := m.wr F.LSS_PART_STATE 2 p
    { m with lss := { m.lss with mig := some { part := p, src := x, dst := f, kind := 0, tested := false, us := m.boot.us } } }
  match m.lss.mig, m.migTarget with
  | none, some f => begin' m f
  | some g, _ =>
    if g.kind = 0 ∧ ! g.tested ∧ g.us = m.boot.us ∧ x < g.src then begin' (m.stopPart g.part g.src) g.dst
    else m.stopPart p x
  | none, none => m.stopPart p x

/-- Pair `n` is declared faulty for `cause` (R343). A MOVE or ADOPT that waits for its partition's window is turned away. -/
def declareFaulty (m : Module) (n cause : Nat) : Module :=
  let m := (m.wr F.LSS_PAIR_STAT_FAIL_CAUSE cause n).setMap F.LSS_EVT_FAULT n
  match m.hosted n with
  | none => m.setPairState n 5
  | some p =>
    let waits := match m.lss.moveReq with | some r => r.2 == p | none => false
    let m := if waits then { (m.moveDone 1) with lss := { (m.moveDone 1).lss with moveReq := none } } else m
    m.migrate p n

/-- A mismatch of the window of pair `n` (R333, R342, R343; log entry 27). -/
def mismatch (m : Module) (n : Nat) : Module :=
  match m.hosted n with
  | none => m
  | some p =>
    if m.pairState n ≠ 3 || (m.pair n).wfi then m else
    let m := m.readsDiscard n
    let m := ((((m.raise F.LSS_LOC_EVT_REPLAYED p).addS F.LSS_PAIR_REPLAY_RECENT 1 n).addW F.LSS_PAIR_REPLAY_TOTAL 1 n)).setMap
      F.LSS_EVT_REPLAY n
    let m := m.latch (fun h => { h with replays := tset 0 h.replays n (sat 8 (tget 0 h.replays n + 1)) })
    let x := m.pair n
    let sec := m.rd F.LSS_MTIME_US / 1000000
    let cnt := if x.secNo = sec then x.secCount + 1 else 1
    let m := m.setPair n { x with replaying := true, secNo := sec, secCount := cnt, held := [] }
    let lim := m.rd F.LSS_CFG_REPLAY_LIMIT
    if x.replaying then m.declareFaulty n 1
    else if lim ≠ 0 ∧ lim ≤ cnt then m.declareFaulty n 2 else m

/-- A MOVE or ADOPT that waits begins at this boundary (R357; log entry 28). -/
def moveStart (m : Module) (p x : Nat) : Module :=
  match m.lss.moveReq with
  | none => m
  | some r =>
    if r.2 ≠ p then m else
    let m := { m with lss := { m.lss with moveReq := none } }
    let dst := if r.1 = 2 then (List.range 4).find? (fun n => m.pairState n == 4) else m.migTarget
    match m.lss.mig, dst with
    | none, some f =>
      let m := m.wr F.LSS_PART_STATE 2 p
      { m with lss := { m.lss with
          mig := some { part := p, src := x, dst := f, kind := r.1, tested := r.1 == 2, us := m.boot.us } } }
    | _, _ => m.moveDone 1

/-! ### Atomics -/

/-- The value that an atomic stores, if it stores one, from the old value (RV32 A extension, R318, R327, R745). -/
def amoResult (op : AmoOp) (old x : BitVec 32) : Option (BitVec 32) :=
  match op with
  | .swap => some x
  | .add => some (old + x)
  | .xor => some (old ^^^ x)
  | .and => some (old &&& x)
  | .or => some (old ||| x)
  | .min => some (if old.slt x then old else x)
  | .max => some (if old.slt x then x else old)
  | .minu => some (if old.ult x then old else x)
  | .maxu => some (if old.ult x then x else old)
  | .sc held => if held then some x else none

/-- One fabric atomic on a word of SRAM or DRAM (R29, R336): the response carries the old value, or 0 or 1 for SC. -/
def busAtomic (m : Module) (a : Access) (op : AmoOp) (addr : Nat) (x : BitVec 32) : Module :=
  match m.fabricDeny a addr 4 1, m.fabricDeny a addr 4 0 with
  | some d, _ => m.refuse a addr 1 d
  | none, some d => m.refuse a addr 0 d
  | none, none =>
    let (m, old) := m.memRead a ((memOf addr).getD 0) addr 4 0
    match old with
    | none => m
    | some l =>
      let o := BitVec.ofNat 32 (ofBytes l)
      match amoResult op o x with
      | some v =>
        let (m, good) := m.busWrite a addr (toBytes 4 v.toNat)
        if good then m.ok (match op with | .sc _ => 0 | _ => o.toNat) else m
      | none => m.ok 1

/-! ### Migration -/

/-- NVC adopts partition `p` onto pair `n` (R776 step 5): the start state of R777 with the compare registers of the old
restore point, and the image store takes the new image (step 6). -/
def adoptStart (m : Module) (p n : Nat) (old : List Nat) : Module :=
  let w := m.nvc.newRec
  let cp := withArgs (startCheckpoint (w.getD 2 0)) [mapped w m.nvc.area, m.nvc.schema, 1]
  let cp := (cp.set 80 (old.getD 80 0)).set 81 (old.getD 81 0)
  let m := m.setPair n { m.pair n with restore := cp }
  { m with lss := { m.lss with store := tset [] m.lss.store p w }
           nvc := { m.nvc with prevPart := tset [] m.nvc.prevPart p (tget [] m.lss.store p) } }

/-- The ADOPT in hand is one that NVC requested. -/
def adoptOfNvc (m : Module) (p n : Nat) : Bool :=
  match m.nvc.act with
  | some ⟨_, .adopt q f⟩ => q == p && f == n
  | _ => false

/-- Migration, MOVE or ADOPT ends (R344 steps 3–6, R345, R346, R357): `ns` is its duration (log entry 28). -/
def migrationDone (m : Module) (ns : Nat) : Module :=
  match m.lss.mig with
  | none => m
  | some g =>
    if ! g.tested then m else
    let base := MemSt.lpBase g.src
    let m := if g.kind = 2 then m else
      let m := (m.mem.dirtyLines base (base + 0x20000)).foldl (fun m l => m.scrubVisit (3 + g.src) (l - base / 256) []) m
      { m with mem := m.mem.copyLines base (MemSt.lpBase g.dst) 0x20000 }
    let x := m.pair g.src
    let m := (m.firewallRekey (0x10 + g.src) (0x10 + g.dst)).placePart g.part g.dst
    let m := m.setPair g.dst { (m.pair g.dst).idle with
      seq := x.seq, restore := x.restore, mtimeHi := x.mtimeHi, fault := x.fault }
    let m := if g.kind = 2 && m.adoptOfNvc g.part g.dst then m.adoptStart g.part g.dst x.restore else m
    let m := (m.raise F.LSS_LOC_EVT_MIGRATED g.part).addW F.LSS_LOC_MIGCNT_COUNT 1 g.part
    let m := ((((m.wr F.LSS_MIG_LOG0_FROM g.src).wr F.LSS_MIG_LOG0_TO g.dst).wr F.LSS_MIG_LOG0_PART g.part).wr
      F.LSS_MIG_LOG0_KIND g.kind).wr F.LSS_MIG_LOG0_NS100 (sat 16 (ns / 100))
    let m := ((m.wr F.LSS_MIG_LOG1_WINDOW x.seq).addW F.LSS_MIG_CNT_COUNT 1).raise F.LSS_EVT_MIGRATED
    let m := m.latch (fun h => { h with migrations := h.migrations + 1 })
    let m := { m with lss := { m.lss with mig := none } }
    if g.kind = 0 then (m.setPairState g.src 5).setPair g.src x.idle
    else
      let mine := m.lss.rotating
      let m := { m with lss := { m.lss with rotating := false } }
      (m.wipePair g.src).toTest g.src .moved (! mine)

/-- Step 2 fails (R348): the partition stops; a MOVE leaves it where it runs (log entry 28). -/
def migrationFails (m : Module) (g : Migration) : Module :=
  let m := { m with lss := { m.lss with mig := none } }
  if g.kind = 0 then m.stopPart g.part g.src else (m.wr F.LSS_PART_STATE 1 g.part).moveDone 1

/-! ### Comparator injection -/

/-- Where a pair settles after a passed test (R351): the fiddlehead is SPARE, another IDLE. -/
def settle (m : Module) (n : Nat) : Module := m.setPairState n (if m.fiddlehead == some n then 2 else 1)

/-- A restored pair (R357): SPARE, and the fiddlehead, where no pair is SPARE, LOANED or in migration step 2. -/
def restored (m : Module) (n : Nat) : Module :=
  let busy := (List.range 4).any (fun k => m.pairState k == 2 || m.pairState k == 4) || m.lss.mig.any (fun g => ! g.tested)
  if ! busy && ! m.flag F.LSS_CFG_FH_NONE then (m.wr F.LSS_CFG_FH_PAIR n).setPairState n 2 else m.setPairState n 1

/-- The result of a test is recorded (R355, R356). -/
def injectionResult (m : Module) (n missed : Nat) (ff : Bool) : Module :=
  let pass := missed == 0 && ! ff
  let m := (((m.wr F.LSS_INJ_RES_MISSED missed n).wrb F.LSS_INJ_RES_FALSE_FLAG ff n).wrb F.LSS_INJ_RES_PASS pass n).addW
    F.LSS_INJ_RES_RUNS 1 n
  let now := m.covNow
  if pass then m.setCov (fun c => { c with pairAt := tset 0 c.pairAt n now })
  else ((m.wr F.LSS_PAIR_STAT_FAIL_CAUSE 3 n).setPairState n 5).raise F.LSS_EVT_SELFTEST_FAIL

/-- RESTORE, or a SELFTEST that a FAILED pair passed (R357): the pair is reset and wiped (log entry 28). -/
def restorePair (m : Module) (n : Nat) : Module :=
  ((m.wipePair n).lower F.LSS_PAIR_STAT_LOCKSTEP_BROKEN n).wr F.LSS_PAIR_STAT_FAIL_CAUSE 0 n

/-- What a pair that passed goes on to (R349, R351, R357). -/
def afterPass (m : Module) (n : Nat) : Module :=
  match (m.pair n).after with
  | .startUp => m
  | .settle => m.settle n
  | .periodic => m.settle n
  | .selftestFailed => (m.restorePair n).restored n
  | .restore => m.restored n
  | .moved => (m.wr F.LSS_CFG_FH_PAIR n).setPairState n 2
  | .start p => m.startPart p n

/-- What follows a failed test (R349, R351). -/
def afterFail (m : Module) (n : Nat) : Module :=
  match (m.pair n).after with
  | .start p => (m.wr F.LSS_PART_STATE 3 p).raise F.LSS_EVT_STOPPED
  | _ => m

/-- Comparator injection on pair `n` ends (R344 step 2, R348, R351, R355, R356; log entry 28). -/
def injectionDone (m : Module) (n missed : Nat) (ff : Bool) : Module :=
  let pass := missed == 0 && ! ff
  let waiting := m.lss.mig.filter (fun g => g.dst == n && ! g.tested)
  let x := m.pair n
  let held := match x.after with | .startUp => true | .start p => m.sys.partRst == some p | _ => false
  if (m.pairState n ≠ 0 || held) && waiting.isNone then m else
  let m := m.injectionResult n missed ff
  match waiting with
  | some g =>
    if pass then
      let m := m.setPairState n 3 (some g.part)
      { m with lss := { m.lss with mig := some { g with tested := true } } }
    else m.migrationFails g
  | none =>
    let m := if pass then m.afterPass n else m.afterFail n
    m.when x.answers (fun m => (m.lssDone 0).setPair n { m.pair n with answers := false })

/-- The periodic injection (R356) on each IDLE and SPARE pair. -/
def periodicInjection (m : Module) : Module :=
  forEach (List.range 4) (fun n m =>
    let used := m.lss.mig.any (fun g => g.dst == n)
    m.when ((m.pairState n == 1 || m.pairState n == 2) && ! used) (·.toTest n .periodic)) m

/-! ### Requests (R357–R361) -/

/-- The module is the active unit of a duplex (R162, R358): ACTIVE or handing over. -/
def activeInDuplex (m : Module) : Bool :=
  m.flag F.DPX_CFG_EN && (m.rd F.DPX_STATE_ROLE == 2 || m.rd F.DPX_STATE_ROLE == 6)

/-- The status with which SPLIT of pair `n` is refused, in the order of R358. -/
def splitRefusal (m : Module) (n : Nat) : Option Nat :=
  let lc := m.rd F.SYSCTL_LC_STATE_STATE
  let st := m.pairState n
  if lc ≠ 0 ∧ lc ≠ 3 then some 2
  else if lc = 3 ∧ (m.hosted n).any (fun p => ! bit (m.rd F.SYSCTL_DBG_GRANT_PARTS) p) then some 2
  else if m.activeInDuplex then some 1
  else if (st ≠ 3 ∧ st ≠ 1) ∨ (m.pair n).replaying ∨ m.lss.mig.isSome ∨ m.lss.moveReq.any (fun r => m.hosted n == some r.2)
  then some 1
  else none

/-- SPLIT (R358, R359, R361; log entry 28). -/
def split (m : Module) (n : Nat) : Module :=
  match m.splitRefusal n with
  | some st => m.lssDone st
  | none =>
    let h := m.hosted n
    let m := (m.setPairState n 6 h).raise F.LSS_PAIR_STAT_LOCKSTEP_BROKEN n
    let m := match h with
      | some p => (m.lower F.LSS_PART_SAFE_VALID p).lower F.LSS_LOC_INFO_SAFE_VALID p
      | none => m
    (m.raise F.LSS_EVT_SPLIT).lssDone 0

/-- Partition `p` runs on a pair in RUN, and nothing moves (R357, R362). -/
def movable (m : Module) (p : Nat) : Bool :=
  m.lss.mig.isNone && m.rd F.LSS_PART_STATE p == 1 && m.pairState (m.rd F.LSS_PART_PAIR p) == 3
    && m.hosted (m.rd F.LSS_PART_PAIR p) == some p

/-- A MOVE or ADOPT is accepted; a pair halted in WFI stands at a boundary already (log entry 28). -/
def moveAccept (m : Module) (kind p : Nat) : Module :=
  let n := m.rd F.LSS_PART_PAIR p
  let m := { m with lss := { m.lss with moveReq := some (kind, p) } }
  if (m.pair n).wfi then m.moveStart p n else m

/-- A request of LSS_CTRL (R357): PEND is set, and cleared where it completes at once (log entry 28). -/
def lssRequest (m : Module) (op n p : Nat) : Module :=
  let st := m.pairState n
  let used := m.lss.mig.any (fun g => g.dst == n || g.src == n)
  let loaned := (List.range 4).find? (fun k => m.pairState k == 4)
  match op with
  | 1 =>
    if used || ! (st == 1 || st == 2 || st == 5) then m.lssDone 1
    else m.toTest n (if st = 5 then .selftestFailed else .settle) true
  | 2 =>
    if st = 5 ∨ (st = 6 ∧ m.hosted n = none) then (m.restorePair n).toTest n .restore true else m.lssDone 1
  | 3 => if m.movable p && m.sparePair.isSome then m.moveAccept 1 p else m.lssDone 1
  | 4 => m.split n
  | 5 =>
    match m.sparePair with
    | some f => if m.lss.mig.isSome then m.lssDone 1 else (m.setPairState f 4).lssDone 0
    | none => m.lssDone 1
  | 6 => if m.movable p && loaned.isSome then m.moveAccept 2 p else m.lssDone 1
  | 7 =>
    match loaned with
    | some f => if m.lss.mig.any (fun g => g.dst == f) then m.lssDone 1 else (m.wipePair f).toTest f .settle true
    | none => m.lssDone 1
  | _ => m.lssDone 0x10

/-- A write of LSS_CTRL (R57, R357): the secure world; debug access may write SPLIT only (log entry 28). -/
def lssControl (m : Module) (a : Access) (v : Nat) : Module :=
  let allowed := if a.ini = 0x3F then bits v 3 0 == 4 else a.world
  m.accessIf a 0x20F00050 allowed (fun m =>
    if bits v 31 16 ≠ 0x4C53 ∨ m.flag F.LSS_CTRL_STAT_PEND then m
    else (m.raise F.LSS_CTRL_STAT_PEND).lssRequest (bits v 3 0) (bits v 5 4) (bits v 11 8))

/-! ### Records and resets -/

/-- A PARTITION record is taken into the image store, and judged (R353, R354); records come in partition order. -/
def partRecord (m : Module) (w : List Nat) : Module :=
  let p := bits (w.getD 0 0) 3 0
  let h := partHost w
  let taken := (List.range p).any (fun q => let u := tget [] m.lss.store q; u != [] && partHost u == h)
  let refused := ! partFieldsOk w || (decide (h ≤ 3) && (m.fiddlehead == some h || taken))
  let m := { m with lss := { m.lss with store := tset [] m.lss.store p w } }
  m.wr F.LSS_PART_STATE (if refused then 4 else if h = 8 then 6 else 0) p

/-- The PARTITION records are in the image store: a pair that passed its test at start-up and is named by none that is taken
settles (R351). -/
def settleUnnamed (m : Module) : Module :=
  let named := fun n => (List.range 16).any (fun p =>
    let w := tget [] m.lss.store p; w != [] && partHost w == n && m.rd F.LSS_PART_STATE p == 0)
  forEach (List.range 4) (fun n m =>
    m.when (m.pairState n == 0 && (m.pair n).after == .startUp && ! named n) (·.settle n)) m

/-- The fields of LSS in the SYSTEM record; FH_SEL and FH_OVR are ignored where there is no fiddlehead (R352). -/
def lssConfig (m : Module) (w : List Nat) : Module :=
  let g := w.getD 6 0
  ((m.wr F.LSS_CFG_FH_PAIR (if bit g 2 && ! bit g 3 then bits g 1 0 else 3)).wrb F.LSS_CFG_FH_NONE (bit g 3)).wr
    F.LSS_CFG_REPLAY_LIMIT (bits (w.getD 8 0) 7 0)

/-- The partitions start (step 7 of R125, R136, R351): one on a failed pair starts on the fiddlehead where it is free. -/
def startPartitions (m : Module) : Module :=
  forEach (List.range 16) (fun p m =>
    let w := tget [] m.lss.store p
    if w = [] ∨ m.rd F.LSS_PART_STATE p ≠ 0 then m else
    let h := partHost w
    if m.pairState h = 0 then m.startPart p h
    else
      match m.sparePair with
      | some f => m.startPart p f
      | none => m.wr F.LSS_PART_STATE 3 p) m

/-- What a partition reset leaves of the move of partition `p` in hand (R351, R362): the step under way is the last. A pair that
step 2 took for it is tested again: for `p` where X is faulty, else as the fiddlehead; a loaned one stays on loan. -/
def moveAbandoned (m : Module) (p : Nat) : Module :=
  let m := match m.lss.mig with
    | some g =>
      if g.part ≠ p then m else
      let m := { m with lss := { m.lss with mig := none } }
      if g.kind = 0 then
        let m := (m.setPairState g.src 5).setPair g.src (m.pair g.src).idle
        m.when g.tested (fun m => ((m.wipePair g.dst).toTest g.dst (.start p)).givePair p g.dst)
      else (m.when (g.tested && g.kind == 1) (·.toTest g.dst .settle)).moveDone 0x0A
    | none => m
  if m.lss.moveReq.any (fun r => r.2 == p) then { (m.moveDone 0x0A) with lss := { (m.moveDone 0x0A).lss with moveReq := none } }
  else m

/-- A partition reset holds and wipes the pair of partition `p`, a FAILED one that ran it too (R49, R349 steps 1, 2; R360,
R362). -/
def partitionHeld (m : Module) (p : Nat) : Module :=
  let st := m.rd F.LSS_PART_STATE p
  if st = 0 ∨ st = 4 ∨ st = 6 then m else
  let m := m.moveAbandoned p
  let n := m.pairOfPart p
  let m := m.when (m.pairState n == 5) (fun m => (m.wipePair n).lower F.LSS_PAIR_STAT_LOCKSTEP_BROKEN n)
  let onPair := (st == 1 || st == 2) && (m.pairState n == 3 || m.pairState n == 6)
  let m := if onPair then
      let m := m.readsDiscard n
      ((m.wipePair n).lower F.LSS_PAIR_STAT_LOCKSTEP_BROKEN n).toTest n (.start p)
    else m
  let m := (m.clearLocal p).raise F.LSS_PART_SAFE_VALID p
  m.wr F.LSS_PART_STATE 5 p

/-- SYSCTL_RST_BUSY.PART has returned to 0 (R349 step 3): the partition's pair, or the spare in place of a FAILED one, is tested,
and the partition starts on a pass; a test that runs on the pair serves (log entry 28). -/
def partitionRestart (m : Module) (p : Nat) : Module :=
  if m.rd F.LSS_PART_STATE p ≠ 5 then m else
  let n := m.pairOfPart p
  let st := m.pairState n
  let onto := fun (m : Module) f => ((m.wipePair f).toTest f (.start p)).givePair p f
  if st = 0 ∧ (m.pair n).after = .start p then m
  else if st = 1 ∨ st = 2 then onto m n
  else if st = 0 then
    ((m.wipePair n).givePair p n).setPair n { m.pair n with after := .start p }
  else
    match m.sparePair with
    | some f => if st = 5 then onto m f else m.wr F.LSS_PART_STATE 3 p
    | none => m.wr F.LSS_PART_STATE 3 p

end Module

/-! ### Commands -/

/-- WINDOW_TIMEOUT (R333, R342, R343). -/
def execWindowTimeout (pair : Fin 4) (s : State) : Host.Outcome State Fault Refusal := s.run (fun m => m.mismatch pair.val)

/-- COMMITTED_WRITE_ERROR (R341). -/
def execCommittedWriteError (pair : Fin 4) (addr : Nat) (status : Fin 256) (s : State) : Host.Outcome State Fault Refusal :=
  s.run (fun m => match m.hosted pair.val with | some p => m.writeError pair.val p addr status.val | none => m)

/-- MIGRATION_COMPLETE (R40, R344–R346, R351, R371, R386). -/
def execMigrationComplete (ns : Nat) (s : State) : Host.Outcome State Fault Refusal := s.run (fun m => m.migrationDone ns)

/-- SELFTEST (R356, R357): a write of LSS_CTRL. -/
def execLssSelftest (a : Access) (v : Word) (s : State) : Host.Outcome State Fault Refusal :=
  s.runBy a 1 (fun a m => m.lssControl a v.toNat)

/-- RESTORE (R351, R357, R360): a write of LSS_CTRL. -/
def execLssRestore (a : Access) (v : Word) (s : State) : Host.Outcome State Fault Refusal :=
  s.runBy a 1 (fun a m => m.lssControl a v.toNat)

/-- MOVE (R351, R357, R362): a write of LSS_CTRL. -/
def execLssMove (a : Access) (v : Word) (s : State) : Host.Outcome State Fault Refusal :=
  s.runBy a 1 (fun a m => m.lssControl a v.toNat)

/-- SPLIT (R357–R362): a write of LSS_CTRL. -/
def execLssSplit (a : Access) (v : Word) (s : State) : Host.Outcome State Fault Refusal :=
  s.runBy a 1 (fun a m => m.lssControl a v.toNat)

/-- LOAN (R351, R357, R362): a write of LSS_CTRL. -/
def execLssLoan (a : Access) (v : Word) (s : State) : Host.Outcome State Fault Refusal :=
  s.runBy a 1 (fun a m => m.lssControl a v.toNat)

/-- ADOPT (R351, R357, R362): a write of LSS_CTRL. -/
def execLssAdopt (a : Access) (v : Word) (s : State) : Host.Outcome State Fault Refusal :=
  s.runBy a 1 (fun a m => m.lssControl a v.toNat)

/-- RETURN (R351, R357): a write of LSS_CTRL. -/
def execLssReturn (a : Access) (v : Word) (s : State) : Host.Outcome State Fault Refusal :=
  s.runBy a 1 (fun a m => m.lssControl a v.toNat)

/-- INJECTION_DONE (R344, R348, R351, R355, R356). -/
def execInjectionDone (pair : Fin 4) (missed : Fin 256) (falseFlag : Bool) (s : State) : Host.Outcome State Fault Refusal :=
  s.run (fun m => m.injectionDone pair.val missed.val falseFlag)

/-- PERIODIC_INJECTION (R351, R356). -/
def execPeriodicInjection (s : State) : Host.Outcome State Fault Refusal := s.run (fun m => m.periodicInjection)

/-- WFI_WAKE (R329, R332): the next window begins. -/
def execWfiWake (pair : Fin 4) (s : State) : Host.Outcome State Fault Refusal :=
  s.run (fun m => m.setPair pair.val { m.pair pair.val with wfi := false })

end Sys2Proof.Machine
end

