-- ==== Sys2Proof/Machine/Img.lean ====
section
/-!
DEFINITION. Instances (chapter 10): assignment, generations and the wrap fence, quiescing, shares and weights.
-/
namespace Sys2Proof.Machine

namespace Module

/-- The class of page `p` (R432): 0 cipher, 1 host DMA, 2 control. -/
def classOfPage (p : Nat) : Nat := if p < 64 then 0 else if p < 96 then 1 else 2

/-- The pages of a class. -/
def classPages (c : Nat) : List Nat :=
  if c = 0 then List.range 64 else if c = 1 then (List.range 32).map (64 + ·) else (List.range 16).map (96 + ·)

/-- The largest SHARE of a class and its pool (R451). -/
def shareMax (c : Nat) : Nat := if c = 0 then 128 else if c = 1 then 256 else 16
def pool (c : Nat) : Nat := if c = 0 then 512 else if c = 1 then 2048 else 256

/-- The byte address of page `p` (R36). -/
def pageBase (p : Nat) : Nat := 0x40000000 + p * 0x1000

/-- Entries held for the instance of page `p` and not completed (R451). -/
def instOcc (m : Module) (p : Nat) : Nat :=
  if p < 64 then m.cpiOcc p else if p < 96 then m.hqOcc (p - 64) else m.chiOcc (p - 96)

/-- SHARE of page `p`. -/
def instShare (m : Module) (p : Nat) : Nat := m.rd F.IMG_INST_SHARE_SHARE p

/-- Work of the instance that has begun, under any generation (R445). -/
def instInFlight (m : Module) (p : Nat) : Nat := if p < 64 then m.cpiInFlight p else 0

/-- Change what IMG holds of page `p`. -/
def setInst (m : Module) (p : Nat) (f : InstSt → InstSt) : Module := { m with inst := tmod {} m.inst p f }

/-- The tenant partition is hosted on a lock-step pair (R270, R272). -/
def onPair (m : Module) (part : Nat) : Bool :=
  let w := tget [] m.lss.store part
  w != [] && decide (partHost w ≤ 3)

/-! ### Requests (R458) -/

/-- The request completes with `st`. -/
def imgDone (m : Module) (st : Nat) : Module :=
  ((m.wr F.IMG_CTRL_STAT_STATUS st).lower F.IMG_CTRL_STAT_PEND).raise F.IMG_EVT_DONE

/-! ### Resets of data instances (R442–R447) -/

/-- HDMA's part of an instance reset of HQq (R546): nothing is written back, and what is discarded is counted
(log entry 31). -/
def hqInstReset (m : Module) (q : Nat) : Module :=
  let n := m.hqOcc q
  let x := m.hq q
  let m := m.staleCount (hqPage q) n
  let m := x.frames.foldl (fun m f => m.tsFree f.tsPort) m
  let m := match x.park with
    | some r => (m.setPark q none).copyGone r.id 15
    | none => m
  let m := m.setHq q (fun x => { txNo := x.txNo })
  m.clrRange (pageBase (hqPage q)) (pageBase (hqPage q) + 0x700)

/-- The owning block's part: entries not begun are discarded, work that has begun is stale, the page's registers return to
their reset values (R442 steps 2–4). -/
def blockInstReset (m : Module) (p : Nat) : Module := if p < 64 then m.cpeInstReset p else m.hqInstReset (p - 64)

/-- The reset completes: GEN takes `gen`, INST_EVT.RESET is set, and those who asked for it are answered (R442, R458;
log entry 31). -/
def instResetDone (m : Module) (p gen : Nat) : Module :=
  let x := tget {} m.inst p
  let m := m.setInst p (fun _ => {})
  let m := ((m.wr F.IMG_INST_STAT_GEN gen p).raise F.INST_EVT_RESET p).addW F.IMG_INST_STALE_RESETS 1 p
  let m := if x.tenantWaits then (m.wr F.INST_RESET_STAT_STATUS 0 p).lower F.INST_RESET_STAT_PEND p else m
  m.when x.imgWaits (·.imgDone 0)

/-- An instance reset of data page `p` (R442, R445, R447): it joins a held one, or is held itself where GEN would wrap. `img`
and `tenant` say who waits for it (log entry 31). -/
def instReset (m : Module) (p : Nat) (img tenant : Bool) : Module :=
  let m := m.when tenant (·.raise F.INST_RESET_STAT_PEND p)
  let x := tget {} m.inst p
  let m := m.setInst p (fun x => { x with imgWaits := x.imgWaits || img, tenantWaits := x.tenantWaits || tenant })
  if x.fence then m
  else
    let m := m.blockInstReset p
    let g := m.rd F.IMG_INST_STAT_GEN p
    if 4095 ≤ g then (m.setInst p (fun x => { x with fence := true, since := m.boot.us }))
    else m.instResetDone p (g + 1)

/-- The wrap fence of page `p` releases when no work is in flight (R445; log entry 31). -/
def fenceRelease (m : Module) (p : Nat) : Module :=
  if (tget {} m.inst p).fence && m.instInFlight p == 0 then m.instResetDone p 1 else m

/-- 100 ms after the fence began the work is abandoned, and the fence releases (R446; log entry 31). -/
def fenceForce (m : Module) (p : Nat) : Module :=
  if ! (tget {} m.inst p).fence || m.boot.us < (tget {} m.inst p).since + 100000 then m else
  let (m, n) := if p < 64 then m.cpeAbandon p else (m, 0)
  let m := (m.raise F.INST_EVT_FENCE_FORCED p).raise F.IMG_EVT_FENCE_FORCED
  (m.logBlk 0x10 0x1002 (pageBase p) (p + n * 2 ^ 16)).instResetDone p 1

/-! ### Control instances (R448–R450) -/

/-- CHI_STATE shows QUIESCED while IMG has the instance quiesced (R284). -/
def showQuiesced (m : Module) (i : Nat) : Module := m.when (m.chiQuiesced i) (fun m => m.wr F.CHI_STATE_STATE 2 i)

/-- Steps 2 and 3 of R303 for one instance: it leaves no command and no completion, and the registers of its page, the instance
header apart, take their reset values; one that is quiesced stays so (R449). -/
def chiReset (m : Module) (i : Nat) : Module :=
  let b := pageBase (chiPage i)
  let m := ((m.setChi i {}).clrRange b (b + 0x700)).clrRange (b + 0x800) (b + 0x1000)
  ((m.restoreCfg b (b + 0x700)).chiActive i).showQuiesced i

/-- QUIESCE_DONE of page `p`. -/
def quiescedPage (m : Module) (p : Nat) : Bool := m.flag F.IMG_INST_STAT_QUIESCE_DONE p

/-! ### The requests -/

/-- The instance owns a channel with SAFETY = 1 (R272). -/
def ownsSafety (m : Module) (p : Nat) : Bool :=
  decide (96 ≤ p) && (List.range 128).any (fun n =>
    let c := m.chan n
    c.owned && c.owner == p - 96 && c.safety)

/-- ASSIGN of page `p` to IMG_ARG.PART (R412, R272, R440, R449; log entry 31). -/
def imgAssign (m : Module) (p : Nat) : Module × Option Nat :=
  let part := m.rd F.IMG_ARG_PART
  if m.pageWorld p != (part == m.rd F.WCT_CFG_SEC_PART) then (m, some 2)
  else if m.ownsSafety p && ! m.onPair part then (m, some 2)
  else if 96 ≤ p ∧ ! m.quiescedPage p then (m, some 1)
  else
    let m := (m.raise F.IMG_INST_CFG_ASSIGNED p).wr F.IMG_INST_CFG_PART part p
    if 96 ≤ p then (m, some 0) else (m.instReset p true false, none)

/-- UNASSIGN of page `p` (R440, R449; log entry 31). -/
def imgUnassign (m : Module) (p : Nat) : Module × Option Nat :=
  if 96 ≤ p ∧ ! m.quiescedPage p then (m, some 1)
  else
    let m := m.lower F.IMG_INST_CFG_ASSIGNED p
    if 96 ≤ p then (m, some 0) else (m.instReset p true false, none)

/-- RESET of page `p` (R442, R449). -/
def imgResetPage (m : Module) (p : Nat) : Module × Option Nat :=
  if 96 ≤ p then
    if ! m.quiescedPage p then (m, some 1)
    else (((m.chiReset (p - 96)).raise F.INST_EVT_RESET p).addW F.IMG_INST_STALE_RESETS 1 p, some 0)
  else if ! m.flag F.IMG_INST_CFG_ASSIGNED p then (m, some 0x10)
  else (m.instReset p true false, none)

/-- QUIESCE of page `p` (R284, R448): it completes at QUIESCE_DONE. -/
def imgQuiesce (m : Module) (p : Nat) : Module × Option Nat :=
  if p < 96 ∨ ! m.flag F.IMG_INST_CFG_ASSIGNED p then (m, some 0x10)
  else
    let m := ((m.raise F.IMG_INST_STAT_QUIESCE p).raise F.INST_EVT_QUIESCE p).showQuiesced (p - 96)
    if m.quiescedPage p then (m, some 0) else (m.quiesceDone (p - 96), none)

/-- RESUME of page `p` (R285, R450). -/
def imgResume (m : Module) (p : Nat) : Module × Option Nat :=
  if p < 96 ∨ ! m.flag F.IMG_INST_STAT_QUIESCE p then (m, some 0x10)
  else
    let m := (m.lower F.IMG_INST_STAT_QUIESCE p).lower F.IMG_INST_STAT_QUIESCE_DONE p
    ((m.chiActive (p - 96)).raise F.INST_EVT_RESUME p, some 0)

/-- SET_SHARE of page `p` (R451, R453, R454). -/
def imgSetShare (m : Module) (p : Nat) : Module × Option Nat :=
  let s := m.rd F.IMG_ARG_SHARE
  let c := classOfPage p
  let others := (classPages c).filter (fun q => q != p)
  if shareMax c < s ∨ pool c < s + (others.map m.instShare).sum then (m, some 0x10)
  else if pool c < s + (others.map (fun q => max (m.instShare q) (m.instOcc q))).sum then (m, some 1)
  else ((m.wr F.IMG_INST_SHARE_SHARE s p).raise F.INST_EVT_SHARE p, some 0)

/-- SET_WEIGHT of page `p` (R455). -/
def imgSetWeight (m : Module) (p : Nat) : Module × Option Nat :=
  let w := m.rd F.IMG_ARG_WEIGHT
  if w = 0 then (m, some 0x10)
  else ((m.wr F.IMG_INST_SHARE_WEIGHT w p).raise F.INST_EVT_SHARE p, some 0)

/-- A request of IMG_CTRL for page `p`: the status, or none where it completes later (R458). -/
def imgOp (m : Module) (op p : Nat) : Module × Option Nat :=
  if 111 < p then (m, some 0x10) else
  match op with
  | 1 => m.imgAssign p
  | 2 => m.imgUnassign p
  | 3 => m.imgResetPage p
  | 4 => m.imgQuiesce p
  | 5 => m.imgResume p
  | 6 => m.imgSetShare p
  | 7 => m.imgSetWeight p
  | _ => (m, some 0x10)

/-- A write of IMG_CTRL (R458; log entry 31). -/
def imgControl (m : Module) (a : Access) (v : Nat) : Module :=
  m.access a 0x20E00000 1 (fun m =>
    if bits v 31 16 ≠ 0x494D ∨ m.flag F.IMG_CTRL_STAT_PEND then m else
    let m := (m.wr F.IMG_CTRL_STAT_PAGE (bits v 10 4)).raise F.IMG_CTRL_STAT_PEND
    let (m, st) := m.imgOp (bits v 3 0) (bits v 10 4)
    match st with
    | some st => m.imgDone st
    | none => m)

/-- A write of INST_RESET on page `p` (R442, R447). -/
def tenantReset (m : Module) (p v : Nat) : Module :=
  if bits v 15 0 ≠ 0x1E5A then m
  else if 96 ≤ p then m.wr F.INST_RESET_STAT_STATUS 2 p
  else m.instReset p false true

/-- The instance resets of a partition reset (R55, R447). -/
def partInstResets (m : Module) (part : Nat) : Module :=
  forEach (List.range 96) (fun p m =>
    if m.flag F.IMG_INST_CFG_ASSIGNED p && m.rd F.IMG_INST_CFG_PART p == part then m.instReset p false false else m) m

/-! ### The INSTANCE_MAP record (R436, R437) -/

/-- One entry of the record is applied; that of an unassigned instance loads PART, SHARE and WEIGHT where they are in range and fit the pool
(log entry 31). -/
def applyInstance (m : Module) (p w0 w1 : Nat) : Module :=
  let part := bits w0 7 4
  let s := bits w1 11 0
  let w := bits w1 23 16
  let c := classOfPage p
  let load := fun (m : Module) => ((m.wr F.IMG_INST_CFG_PART part p).wr F.IMG_INST_SHARE_SHARE s p).wr F.IMG_INST_SHARE_WEIGHT w p
  if ! bit w0 0 then
    m.when (s ≤ shareMax c && w != 0 && s + ((classPages c).map m.instShare).sum ≤ pool c) load else
  let kind := if shareMax c < s ∨ w = 0 then 1
    else if pool c < s + ((classPages c).map m.instShare).sum then 2
    else if m.pageWorld p && part != m.rd F.WCT_CFG_SEC_PART then 3 else 0
  if kind ≠ 0 then
    ((m.raise F.IMG_INST_STAT_CFG_BAD p).raise F.IMG_EVT_CFG_BAD).logBlk 0x10 0x1001 (0x10 + 8 * p) (p + kind * 2 ^ 8)
  else
    load (m.raise F.IMG_INST_CFG_ASSIGNED p)

/-- The tenants that the record `l` names for the command instances, whatever becomes of its entries (R270). -/
def mapParts (l : List Nat) : Tbl Nat :=
  (List.range 16).foldl (fun t i =>
    let w := l.getD (4 + 2 * chiPage i) 0
    tset 0 t i (if bit w 0 then bits w 7 4 + 1 else 0)) []

/-- The record `l`, as words, is applied in page order; the assignments that stood before it end (R437, R677;
log entry 31). -/
def applyInstanceMap (m : Module) (l : List Nat) : Module :=
  let m := forEach (List.range 112) (fun p m =>
    ((m.lower F.IMG_INST_CFG_ASSIGNED p).wr F.IMG_INST_CFG_PART 0 p).wr F.IMG_INST_SHARE_SHARE 0 p |>
      fun m => m.wr F.IMG_INST_SHARE_WEIGHT 0 p) m
  let m := { m with chc := { m.chc with parts := mapParts l } }
  forEach (List.range 112) (fun p m => m.applyInstance p (l.getD (4 + 2 * p) 0) (l.getD (5 + 2 * p) 0)) m

/-- CPI00 before the record is applied (R677). -/
def preAssign (m : Module) : Module :=
  ((((m.raise F.IMG_INST_CFG_ASSIGNED 0).wr F.IMG_INST_CFG_PART 0 0).wr F.IMG_INST_SHARE_SHARE 8 0).wr F.IMG_INST_SHARE_WEIGHT 1
    0).putMapBit F.WCT_INST_WORLD_SECURE 0

end Module

/-! ### Commands -/

/-- ASSIGN (R272, R412, R440–R442, R447, R449, R456, R458, R546). -/
def execImgAssign (a : Access) (v : Word) (s : State) : Host.Outcome State Fault Refusal :=
  s.runBy a 1 (fun a m => m.imgControl a v.toNat)

/-- UNASSIGN (R440–R442, R447, R449, R458, R546). -/
def execImgUnassign (a : Access) (v : Word) (s : State) : Host.Outcome State Fault Refusal :=
  s.runBy a 1 (fun a m => m.imgControl a v.toNat)

/-- IMG_RESET (R284, R303, R442, R443, R445, R447, R449, R456, R458, R546, R663). -/
def execImgReset (a : Access) (v : Word) (s : State) : Host.Outcome State Fault Refusal :=
  s.runBy a 1 (fun a m => m.imgControl a v.toNat)

/-- QUIESCE (R284, R285, R448, R456, R458). -/
def execImgQuiesce (a : Access) (v : Word) (s : State) : Host.Outcome State Fault Refusal :=
  s.runBy a 1 (fun a m => m.imgControl a v.toNat)

/-- RESUME (R284, R285, R450, R458). -/
def execImgResume (a : Access) (v : Word) (s : State) : Host.Outcome State Fault Refusal :=
  s.runBy a 1 (fun a m => m.imgControl a v.toNat)

/-- SET_SHARE (R453, R454, R456, R458). -/
def execImgSetShare (a : Access) (v : Word) (s : State) : Host.Outcome State Fault Refusal :=
  s.runBy a 1 (fun a m => m.imgControl a v.toNat)

/-- SET_WEIGHT (R455, R456, R458). -/
def execImgSetWeight (a : Access) (v : Word) (s : State) : Host.Outcome State Fault Refusal :=
  s.runBy a 1 (fun a m => m.imgControl a v.toNat)

/-- INST_RESET_REQUEST (R442, R447, R546). -/
def execInstResetRequest (a : Access) (page : Fin 112) (v : Word) (s : State) : Host.Outcome State Fault Refusal :=
  s.runBy a 1 (fun a m => m.access a (Module.pageBase page.val + 0x720) 1 (·.tenantReset page.val v.toNat))

/-- FENCE_RELEASE (R445). -/
def execFenceRelease (page : Fin 96) (s : State) : Host.Outcome State Fault Refusal := s.run (fun m => m.fenceRelease page.val)

/-- FENCE_FORCED (R446). -/
def execFenceForced (page : Fin 96) (s : State) : Host.Outcome State Fault Refusal := s.run (fun m => m.fenceForce page.val)

end Sys2Proof.Machine
end

