-- ==== Sys2Proof/Machine/Wct.lean ====
section
/-!
DEFINITION. The world controller (chapter 9): world entry and exit, the world map, secure holds and the secure watchdog.
-/
namespace Sys2Proof.Machine

namespace Module

/-! ### Cores -/

/-- Application core `n`. -/
def core (m : Module) (n : Nat) : CoreSt := tget {} m.wct.cores n

/-- Store application core `n`; WCT_STAT.FRAME_HELD follows (R402). -/
def setCore (m : Module) (n : Nat) (c : CoreSt) : Module :=
  ({ m with wct := { m.wct with cores := tset {} m.wct.cores n c } }).setMap F.WCT_STAT_FRAME_HELD n c.frame.isSome

/-- The core continues past its ECALL with a0 = UNAVAILABLE (R423, R426): `x` holds x1–x31, so a0 = x10 is entry 9. -/
def pastEcall (c : CoreCtx) : CoreCtx := { c with pc := c.pc + 4, x := c.x.set 9 0x0F }

/-- A frame is saved and the core is in world 1 (R402; log entry 30). -/
def enterWorld (m : Module) (n : Nat) (ctx : CoreCtx) (ecall : Bool) : Module :=
  let c := m.core n
  m.setCore n { c with ctx := { ctx with mode := .m }, secure := true, frame := some ⟨ctx, ecall⟩ }

/-- A trap into M mode of core `n` for `cause` (R402, R404, R426): while SEC_STATE is RESTARTING or FAILED an ECALL returns at
once and an M-level interrupt stays pending; an entry from world 1 saves nothing (log entries 29 and 30). -/
def worldEntry (m : Module) (n : Nat) (cause : EntryCause) (ctx : CoreCtx) : Module :=
  let c := m.core n
  if c.secure then m
  else if 2 ≤ m.rd F.WCT_STAT_SEC_STATE then
    match cause with
    | .mInterrupt => m.setCore n { c with ctx := ctx, irqPend := true }
    | _ => m.setCore n { c with ctx := pastEcall ctx }
  else
    match cause with
    | .mInterrupt => (m.setCore n { c with irqPend := false }).enterWorld n ctx false
    | _ => m.enterWorld n ctx true

/-- An MRET of core `n` to the context `ctx` (R402): to a mode other than M it releases the frame (log entry 30). -/
def worldExit (m : Module) (n : Nat) (ctx : CoreCtx) : Module :=
  let c := m.core n
  if ctx.mode == .m then m.setCore n { c with ctx := ctx }
  else m.setCore n { c with ctx := ctx, secure := false, frame := none }

/-- Core `n` resumes from its frame in world 0 (R423 step 3, R425). -/
def unwind (m : Module) (n : Nat) (plain : Bool) : Module :=
  let c := m.core n
  match c.frame with
  | none => m
  | some f =>
    let ctx := if f.ecall && ! plain then pastEcall f.ctx else f.ctx
    m.setCore n { c with ctx := ctx, secure := false, frame := none }

/-- Core `n` is in world 1 with a frame held. -/
def captured (m : Module) (n : Nat) : Bool := (m.core n).secure && (m.core n).frame.isSome

/-! ### The world map -/

/-- The WORLD_MAP record `w`, as 44 words, has no reserved bit set (R409). -/
def worldMapOk (w : List Nat) : Bool :=
  let g := fun k => w.getD k 0
  w.length == 44 && bits (g 0) 3 2 == 0 && bits (g 0) 15 12 == 0 && g 1 == 0
    && (List.range 22).all (fun b => bit (g (2 + b)) 1 == false && g (2 + b) / 16 == 0)
    && g 43 / 2 ^ 16 == 0

/-- Effective WORLD of block `b` from its word of the record (R411). -/
def effWorld (b w : Nat) : Nat := if b = 0x0D ∨ b = 0x10 then 1 else if b = 2 ∨ b = 3 ∨ b = 0x12 then 0 else bits w 0 0

/-- Effective GATE of block `b` from its word of the record (R409, R411). -/
def effGate (b w : Nat) : Nat := if coreDomain b then 3 else if bits w 3 2 = 3 then 1 else bits w 3 2

/-- The record replaces the CFG fields of WCT (R409, R416). -/
def worldMapApply (m : Module) (w : List Nat) : Module :=
  let g := fun k => w.getD k 0
  let m := (((m.wr F.WCT_CFG_SVC_CORE (bits (g 0) 1 0)).wr F.WCT_CFG_SEC_PART (bits (g 0) 7 4)).wr F.WCT_CFG_HOST_PART
    (bits (g 0) 11 8)).wr F.WCT_CFG_AC_PARTS (bits (g 0) 31 16)
  let m := forEach (List.range 22) (fun b m =>
    (m.wr F.WCT_BLK_WORLD (effWorld b (g (2 + b))) b).wr F.WCT_BLK_GATE (effGate b (g (2 + b))) b) m
  let m := forEach (List.range 16) (fun k m => m.wr F.WCT_IRQ_WORLD_SECURE (g (24 + k)) k) m
  forEach (List.range 4) (fun k m => m.wr F.WCT_INST_WORLD_SECURE (g (40 + k)) k) m

/-- L2_WAYS of the SYSTEM record (R406, R407). -/
def l2WaysApply (m : Module) (v : Nat) : Module :=
  let n := popCount 16 v
  if 1 ≤ n ∧ n ≤ 15 then (m.wr F.WCT_L2_WAYS_SECURE v).lower F.WCT_STAT_L2_DEFAULT
  else (m.wr F.WCT_L2_WAYS_SECURE 3).raise F.WCT_STAT_L2_DEFAULT

/-- The error response of a write after WORLD_LOCK (R416, R430). -/
def mapLocked (m : Module) (a : Access) (addr : Nat) : Module :=
  ({ m with resp := { status := 2 } }).log (Rec.ofAccess a 0x12 0x1205 addr 1 2)

/-- A write of WCT_MAP_LOAD by world 1 (R416; log entry 30). -/
def mapLoad (m : Module) (a : Access) (v : Nat) : Module :=
  if m.flag F.WCT_LOCK_WORLD_LOCK then m.mapLocked a 0x21000038
  else if ! bit v 0 then m
  else
    let (m1, d) := m.busRead a (m.rd F.WCT_MAP_SRC_ADDR) 176
    let m1 := { m1 with resp := {} }
    let w := words (d.getD [])
    if worldMapOk w then (m1.worldMapApply w).wr F.WCT_MAP_STAT_STATUS 0 else m1.wr F.WCT_MAP_STAT_STATUS 0x10

/-! ### VMID entries -/

/-- The entry that holds `vmid` validly, beside entry `e`. -/
def vmidHolder (m : Module) (e vmid : Nat) : Option Nat :=
  (List.range 32).find? (fun k => k != e && m.flag F.WCT_VMID_VALID k && m.rd F.WCT_VMID_VMID k == vmid)

/-- A write of WCT_VMID entry `e` (R414, R430; log entry 30). -/
def vmidWrite (m : Module) (a : Access) (e v : Nat) : Module :=
  let vmid := bits v 13 0
  let part := bits v 19 16
  let addr := 0x21000600 + 4 * e
  let refuse := fun code d0 => ({ m with resp := { status := 2 } }).log (Rec.ofAccess a 0x12 code addr 1 2 d0)
  if bit v 31 && ! bit (m.rd F.WCT_CFG_AC_PARTS) part then refuse 0x1203 (vmid + part * 2 ^ 16)
  else
    match (if bit v 31 then m.vmidHolder e vmid else none) with
    | some k => refuse 0x1204 (vmid + k * 2 ^ 16)
    | none => ((m.wr F.WCT_VMID_VMID vmid e).wr F.WCT_VMID_PART part e).wr F.WCT_VMID_VALID (bits v 31 31) e

/-! ### Secure holds -/

/-- A world-0 gate-off of block `b` is draining (R419). -/
def normalDrains (m : Module) (b : Nat) : Bool :=
  match m.sys.gateN with | some j => j.block == b && j.op % 2 == 0 | none => false

/-- A write of WCT_HOLD_CTRL by the secure world (R419). -/
def holdControl (m : Module) (v : Nat) : Module :=
  let b := bits v 7 0
  let op := bits v 9 8
  let n := m.rd F.WCT_HOLD_COUNT b
  let stat := fun (m : Module) st => m.wr F.WCT_HOLD_STAT_STATUS st
  if op = 0 ∨ op = 3 then m
  else if m.gateOf b ≠ 2 then stat m 0x10
  else if op = 1 then
    if m.normalDrains b || n == 255 then stat m 1 else stat (m.wr F.WCT_HOLD_COUNT (n + 1) b) 0
  else if n = 0 then stat m 0x10
  else (stat (m.wr F.WCT_HOLD_COUNT (n - 1) b) 0).deferLeave

/-! ### The secure watchdog -/

/-- The watchdog restarts at `us` (R422, R423, R425). -/
def swdtStart (m : Module) (us : Nat) : Module :=
  let m := m.wr F.WCT_SWDT_REMAIN_US us
  { m with wct := { m.wct with swdtRun := true } }

/-- The secure world stops (R424, R428; log entry 30). -/
def secFailed (m : Module) (d0 : Nat) : Module :=
  let m := ((m.wr F.WCT_STAT_SEC_STATE 3).raise F.WCT_EVT_SEC_FAILED).logBlk 0x12 0x1206 0 d0
  { m with wct := { m.wct with swdtRun := false } }

/-- Every captured core is unwound (R423 step 3). -/
def unwindAll (m : Module) : Module :=
  forEach (List.range 4) (fun n m => m.when (m.captured n) (·.unwind n false)) m

/-- Steps 2–5 of R423: the hold counts are cleared, the cores are unwound, the restart entry on the service core, and the
watchdog at 50 ms. `svc` is the context of the service core where it is in world 0 and was not unwound just now
(log entry 30). -/
def secRestart (m : Module) (svc : CoreCtx) : Module :=
  let k := m.rd F.WCT_CFG_SVC_CORE
  let m := forEach (List.range 22) (fun b m => m.lower F.WCT_HOLD_COUNT b) m
  let m := m.deferLeave
  let was := m.captured k
  let m := m.unwindAll
  let c := m.core k
  let m := if c.secure then m else m.enterWorld k (if was then c.ctx else svc) false
  m.swdtStart 50000

/-- The new firmware of an activation has not written READY in time: the slots of the image store are exchanged back (R782). -/
def slotsBack (m : Module) : Module :=
  match m.nvc.act with
  | some ⟨_, .ready _⟩ => { m with nvc := { m.nvc with secNew := false } }
  | _ => m

/-- Expiry of the secure watchdog (R423, R424, R428, R782; log entry 30). -/
def swdtExpire (m : Module) (digestMatches : Bool) (svc : CoreCtx) : Module :=
  if ! m.wct.swdtRun || m.rd F.WCT_SWDT_REMAIN_US != 0 then m
  else
  let m := m.slotsBack
  if m.rd F.WCT_STAT_RESTARTS = 3 then (m.secFailed 0).unwindAll
  else
    let k := m.rd F.WCT_CFG_SVC_CORE
    let r := m.rd F.WCT_STAT_RESTARTS + 1
    let mask := ((List.range 4).filter m.captured).foldl (fun v n => v + 2 ^ n) 0
    let m := m.logBlk 0x12 0x1202 0 (mask + k * 2 ^ 4 + r * 2 ^ 6)
    let m := (((m.raise F.WCT_EVT_SWDT_EXPIRED).wr F.WCT_STAT_SEC_STATE 2).wr F.WCT_STAT_RESTARTS r).addW
      F.WCT_RESTART_CNT_TOTAL 1
    let m := m.secRestart svc
    if digestMatches then m else m.secFailed 1

/-- A write of READY with the right key (R425). -/
def secReady (m : Module) (v : Nat) : Module :=
  let st := m.rd F.WCT_STAT_SEC_STATE
  if bits v 31 16 ≠ 0x5EC0 ∨ ! bit v 0 ∨ (st ≠ 0 ∧ st ≠ 2) then m else
  let m := ((m.wr F.WCT_STAT_SEC_STATE 1).raise F.WCT_EVT_SEC_READY).swdtStart 10000
  ({ m with wct := { m.wct with readyAt := m.boot.us } }).unwind (m.rd F.WCT_CFG_SVC_CORE) true

end Module

/-! ### Commands -/

/-- WORLD_ENTRY (R402, R404, R405, R426, R429). -/
def execWorldEntry (core : Fin 4) (cause : EntryCause) (ctx : CoreCtx) (s : State) : Host.Outcome State Fault Refusal :=
  s.run (fun m => m.worldEntry core.val cause ctx)

/-- WORLD_EXIT (R402, R404, R405). -/
def execWorldExit (core : Fin 4) (ctx : CoreCtx) (s : State) : Host.Outcome State Fault Refusal :=
  s.run (fun m => m.worldExit core.val ctx)

/-- VMID_WRITE (R414, R429): either world may write (R431). -/
def execVmidWrite (a : Access) (e : Fin 32) (v : Word) (s : State) : Host.Outcome State Fault Refusal :=
  s.runBy a 1 (fun a m => m.access a (0x21000600 + 4 * e.val) 1 (fun m => m.vmidWrite a e.val v.toNat))

/-- MAP_LOAD (R409, R416, R429, R431). -/
def execMapLoad (a : Access) (v : Word) (s : State) : Host.Outcome State Fault Refusal :=
  s.runBy a 1 (fun a m => m.accessIf a 0x21000038 a.world (fun m => m.mapLoad a v.toNat))

/-- WORLD_LOCK_SET (R401, R416, R431). -/
def execWorldLockSet (a : Access) (v : Word) (s : State) : Host.Outcome State Fault Refusal :=
  s.runBy a 1 (fun a m => m.accessIf a 0x21000000 a.world (fun m => m.when (bit v.toNat 0) (·.raise F.WCT_LOCK_WORLD_LOCK)))

/-- HOLD_INC (R419, R429, R431): the write names INC or DEC in its OP field. -/
def execHoldInc (a : Access) (v : Word) (s : State) : Host.Outcome State Fault Refusal :=
  s.runBy a 1 (fun a m => m.accessIf a 0x21000300 a.world (fun m => m.holdControl v.toNat))

/-- HOLD_DEC (R419, R420, R429, R431). -/
def execHoldDec (a : Access) (v : Word) (s : State) : Host.Outcome State Fault Refusal :=
  s.runBy a 1 (fun a m => m.accessIf a 0x21000300 a.world (fun m => m.holdControl v.toNat))

/-- DEFER_CANCEL (R420, R429): from either world. -/
def execDeferCancel (a : Access) (v : Word) (s : State) : Host.Outcome State Fault Refusal :=
  s.runBy a 1 (fun a m => m.access a 0x21000314 1 (fun m =>
    m.when (bit v.toNat 0 && m.flag F.WCT_DEFER_PEND) (fun m => m.deferEnd.gateDone false (m.rd F.WCT_DEFER_BLOCK) 0x0A)))

/-- SWDT_KICK (R422, R431). -/
def execSwdtKick (a : Access) (v : Word) (s : State) : Host.Outcome State Fault Refusal :=
  s.runBy a 1 (fun a m => m.accessIf a 0x21000014 a.world (fun m =>
    m.when (bits v.toNat 15 0 == 0x5EC1 && m.wct.swdtRun) (·.swdtStart 10000)))

/-- SWDT_EXPIRY (R420, R422–R424, R427–R429). -/
def execSwdtExpiry (digestMatches : Bool) (svc : CoreCtx) (s : State) : Host.Outcome State Fault Refusal :=
  s.run (fun m => m.swdtExpire digestMatches svc)

/-- SEC_READY (R425, R426, R431). -/
def execSecReady (a : Access) (v : Word) (s : State) : Host.Outcome State Fault Refusal :=
  s.runBy a 1 (fun a m => m.accessIf a 0x21000010 a.world (fun m => m.secReady v.toNat))

/-- RESTARTS_CLEAR (R425): SEC_STATE has stayed READY for 60 s. -/
def execRestartsClear (s : State) : Host.Outcome State Fault Refusal :=
  s.run (fun m => m.when (m.rd F.WCT_STAT_SEC_STATE == 1 && m.wct.readyAt + 60000000 ≤ m.boot.us) (·.lower F.WCT_STAT_RESTARTS))

end Sys2Proof.Machine
end

