-- ==== Sys2Proof/Machine/Reset.lean ====
section
/-!
DEFINITION. Clocks and the two resets of the whole module (R43–R52, R84–R86, R119, R127, R823).
-/
namespace Sys2Proof.Machine

/-! ### What the OTP says -/

/-- The state fuses by majority of the three copies (R159). -/
def Otp.fuses (o : Otp) : Nat := (o.lc0 &&& o.lc1) ||| (o.lc0 &&& o.lc2) ||| (o.lc1 &&& o.lc2)

/-- The life-cycle state stored (R159): the furthest whose fuse reads as blown, in the encoding of R166. -/
def Otp.lcState (o : Otp) : Nat :=
  if bit o.fuses 3 then 5 else if bit o.fuses 2 then 4 else if bit o.fuses 1 then 2 else if bit o.fuses 0 then 1 else 0

/-- A copy of the state fuses disagrees (R166). -/
def Otp.disagree (o : Otp) : Bool := o.lc0 != o.lc1 || o.lc1 != o.lc2

/-- Owner slot `k` is trusted (R158). -/
def Otp.trusted (o : Otp) (k : Nat) : Bool :=
  tget [] o.ecdsa k != [] && tget [] o.hss k != [] && ! bit o.revoked k

/-- Trusted slots as a map. -/
def Otp.trustedMap (o : Otp) : Nat := (List.range 4).foldl (fun v k => setBit v k (o.trusted k)) 0

namespace Module

/-- SYSCTL_OWNER_SLOT shows the slots (R166). -/
def showOwner (m : Module) (o : Otp) : Module :=
  (m.wr F.SYSCTL_OWNER_SLOT_TRUSTED o.trustedMap).wr F.SYSCTL_OWNER_SLOT_REVOKE o.revoked

/-- NVC_BROM_SLOTS shows the patch slots (R787). -/
def showBrom (m : Module) (o : Otp) : Module :=
  let map := fun (p : BromSlot → Bool) => (List.range 16).foldl (fun v k => setBit v k (p (tget {} o.brom k))) 0
  (m.wr F.NVC_BROM_SLOTS_USED (map BromSlot.used)).wr F.NVC_BROM_SLOTS_REVOKED (map BromSlot.revoked)

/-- The boot ROM lines that the patch slots replace (R786): of two slots for one line, that of the higher number
(log entry 51). -/
def romPatches (o : Otp) : Tbl (List Byte) :=
  (List.range 16).foldl (fun t k =>
    let s := tget {} o.brom k
    let b := s.block
    let at_ := ofBytes (b.take 4)
    if s.valid && ! s.revoked && crc32 (b.take 260) == ofBytes ((b.drop 260).take 4) && decide (at_ < 0x40000)
        && at_ % 256 == 0 then
      tput t at_ ((b.drop 4).take 256)
    else t) []

/-! ### Clocks -/

/-- CLK_AC is forced to /8: a dip, hold-up, or the controller over-temperature (R119). -/
def clkForced (m : Module) : Bool := m.flag F.HST_SUP_STAT_VAUX_STATE || m.sys.tempForce

/-- The divider in use (R47, R119). -/
def showClk (m : Module) : Module :=
  (m.wr F.SYSCTL_CLK_AC_DIV_ACT (if m.clkForced then 2 else m.rd F.SYSCTL_CLK_AC_DIV_DIV)).wrb F.HST_SUP_STAT_THROTTLE m.clkForced

/-- SYSCTL_PLL_STAT shows the locks; the clocks leave bypass once both PLLs are locked and SWITCH is 1 (R64). They return to
it with a reset alone (R46): a SERPLL event does not disturb the other clocks (R48). -/
def showPll (m : Module) : Module :=
  ((m.wrb F.SYSCTL_PLL_STAT_SYS_LOCK m.sys.sysLock).wrb F.SYSCTL_PLL_STAT_SER_LOCK m.sys.serLock).when
    (m.flag F.SYSCTL_PLL_CTRL_SWITCH && m.sys.sysLock && m.sys.serLock) (·.lower F.SYSCTL_PLL_STAT_BYPASS)

/-- A PLL locks; with both, the boot ROM goes on to the wipe (R46, R125 step 2; log entry 18). -/
def pllLock (m : Module) (serial : Bool) : Module :=
  if m.sys.resetHeld then m else
  let m := { m with sys := if serial then { m.sys with serLock := true } else { m.sys with sysLock := true } }.showPll
  m.when (m.rd F.SYSCTL_BOOT_STAT_STAGE == 0 && m.sys.sysLock && m.sys.serLock) (·.wr F.SYSCTL_BOOT_STAT_STAGE 1)

/-- SERPLL loses lock (R48): the lanes of P00–P02 and all PHYs go down. -/
def serLost (m : Module) : Module :=
  let m := { m with sys := { m.sys with serLock := false } }.showPll.raise F.SYSCTL_PLL_EVT_SER_LOL
  forEach (List.range 15) (fun p m => m.when (m.flag F.MAC_STAT_LINK p) (fun m =>
    m.linkLost p (m.flag F.MAC_STAT_LOCAL_FAULT p) (m.flag F.MAC_STAT_REMOTE_FAULT p))) m

/-! ### Resets -/

/-- The registers that a module reset keeps: SYSCTL_ID (R85), SYSCTL_RST_CAUSE (R49), SYSCTL_BOOT_WDT (R166) and
SYSCTL_DBG_CHAL (R164; log entry 18). -/
def keptByReset (a : Nat) : Bool :=
  a == 0x20000000 || a == 0x20000070 || a == 0x20000820 || (decide (0x20000840 ≤ a) && decide (a < 0x20000860))

/-- What NVC finds of an update after a reset (R789, R790, R796): a reset that the update did not request ends what was
activated live, and starts the rollback of a MODULE on probation (log entry 18). -/
def nvcAfterReset (x : NvcSt) (requested : Bool) : NvcSt :=
  let y : NvcSt := { phase := x.phase, last := x.last, failComp := x.failComp, failCause := x.failCause
                     trialWaits := x.trialWaits, done := x.done, check := x.check }
  if requested ∨ x.phase = 0 ∨ 5 ≤ x.phase then y
  else if x.trialWaits then y
  else { y with phase := 4, failCause := 0, backWaits := true }

/-- Module reset (R49, R51): everything but what R49, R164 and R166 keep, the configuration memory, and the memories, which
the start wipes (R131). `requested` says that a live update asked for it, `entry` that it is the entry reset (R161;
log entry 18). -/
def moduleReset (m : Module) (cause : Fam) (requested entry : Bool := false) : Module :=
  let n : Module := { regs := tkeep (fun k => keptByReset (k / 64)) m.regs, mem := m.mem, fresh := m.fresh, nvm := m.nvm
                      out := m.out, nvc := nvcAfterReset m.nvc requested
                      boot := { wdtBank := m.boot.wdtBank, grant := m.boot.grant, entry := entry } }
  n.raise cause

/-- Power-on reset (R49, R50, R85, R99, R161, R164): `unit` is the level of UNIT_SEL. The recorded grant is discarded, and a
fresh challenge is drawn (log entry 18). -/
def powerOn (m : Module) (unit : Bool) : Module :=
  let n : Module := { regs := tkeep (fun k => k / 64 == 0x20000000) m.regs, mem := m.mem, fresh := m.fresh, nvm := m.nvm
                      out := m.out, nvc := nvcAfterReset m.nvc false }
  let n := (n.wrb F.SYSCTL_ID_UNIT unit).wrb F.SYSCTL_RST_CAUSE_LOWV m.boot.lowv
  forEach (List.range 8) (fun k m =>
    let (m, v) := m.draw (2 ^ 32)
    m.wr F.SYSCTL_DBG_CHAL_CHAL v k) n

/-- Power-on reset is asserted at the end of hold-up (R98, R99): every channel is off, and the module is held until VAUX is
valid again (log entry 18). -/
def lowVoltageReset (m : Module) : Module :=
  let n : Module := { regs := tkeep (fun k => k / 64 == 0x20000000) m.regs, mem := m.mem, fresh := m.fresh, nvm := m.nvm
                      out := m.out, nvc := nvcAfterReset m.nvc false, boot := { lowv := true } }
  n.raise F.SYSCTL_RST_CAUSE_LOWV

/-- The life-cycle state the module is in (R157): while reset is held, the one that SYSCTL_LC_STATE takes at its release (R161,
R166). -/
def lifeCycle (m : Module) (o : Otp) : Nat :=
  if ! m.sys.resetHeld then m.rd F.SYSCTL_LC_STATE_STATE
  else if m.boot.entry && m.boot.grant.isSome then 3 else o.lcState

/-- Reset is released and the boot ROM starts on AC0 in the secure world (R46, R51, R153, R161, R166); NPM starts its tick
(R626; log entry 18). -/
def romStart (m : Module) (o : Otp) : Module :=
  if ! m.sys.resetHeld then m else
  let lc := m.lifeCycle o
  let m := { m with sys := { m.sys with resetHeld := false } }
  let granted := m.boot.entry && m.boot.grant.isSome
  let m := (m.wr F.SYSCTL_LC_STATE_STATE lc).wrb F.SYSCTL_LC_STATE_OTP_DISAGREE o.disagree
  let m := match granted, m.boot.grant with
    | true, some (parts, minutes) =>
      (m.wr F.SYSCTL_DBG_GRANT_PARTS parts).wr F.SYSCTL_DBG_GRANT_MINUTES_LEFT minutes
    | _, _ => m
  let m := { m with boot := { m.boot with us := 0, entry := false, grant := none, lowv := false, grantUs := 60000000, patches := romPatches o } }
  let m := ((m.wr F.SYSCTL_SECVER_COUNTER o.counter).showOwner o).showBrom o
  let m := ((m.raise F.SYSCTL_PLL_CTRL_SYS_EN).raise F.SYSCTL_PLL_CTRL_SER_EN).raise F.SYSCTL_PLL_CTRL_SWITCH
  (m.setCore 0 { m.core 0 with secure := true, ctx := {} }).preAssign.npmTickStart

end Module

/-! ### Commands -/

/-- POWER_ON_RESET (R15, R49, R50, R84, R85, R89, R90, R99, R111, R125, R132): `unitSel` is the level of UNIT_SEL. -/
def execPowerOnReset (unitSel : Bool) (s : State) : Host.Outcome State Fault Refusal := s.run (fun m => m.powerOn unitSel)

/-- TCXO_FAIL (R48, R49). -/
def execTcxoFail (s : State) : Host.Outcome State Fault Refusal := s.run (fun m => m.moduleReset F.SYSCTL_RST_CAUSE_TCXO_FAIL)

/-- SYSPLL_LOSS_OF_LOCK (R48, R49). -/
def execSyspllLossOfLock (s : State) : Host.Outcome State Fault Refusal :=
  s.run (fun m => m.when m.sys.sysLock (·.moduleReset F.SYSCTL_RST_CAUSE_SYSPLL_LOL))

/-- SERPLL_LOSS_OF_LOCK (R48). -/
def execSerpllLossOfLock (s : State) : Host.Outcome State Fault Refusal :=
  s.run (fun m => m.when m.sys.serLock (·.serLost))

/-- SERPLL_RELOCK (R48, R823): the links return by events of their own. -/
def execSerpllRelock (s : State) : Host.Outcome State Fault Refusal :=
  s.run (fun m => m.when (m.flag F.SYSCTL_PLL_CTRL_SER_EN) (fun m => { m with sys := { m.sys with serLock := true } }.showPll))

/-- PLL_LOCK (R46, R125). -/
def execPllLock (serial : Bool) (s : State) : Host.Outcome State Fault Refusal := s.run (fun m => m.pllLock serial)

/-- CLK_AC_DIV_WRITE (R47, R119). -/
def execClkAcDivWrite (a : Access) (v : Word) (s : State) : Host.Outcome State Fault Refusal :=
  s.runBy a 1 (fun a m => m.access a 0x20000020 1 (fun m => (m.wr F.SYSCTL_CLK_AC_DIV_DIV (bits v.toNat 1 0)).showClk))

/-- MODULE_RESET_REQUEST (R49, R52). -/
def execModuleResetRequest (a : Access) (v : Word) (s : State) : Host.Outcome State Fault Refusal :=
  s.runBy a 1 (fun a m => m.access a 0x20000060 1 (fun m =>
    m.when (a.world && bit v.toNat 0 && bits v.toNat 31 16 == 0xA5C3) (·.moduleReset F.SYSCTL_RST_CAUSE_SOFT)))

/-- BOOT_ROM_START (R15, R46, R51, R127, R132, R153, R161, R166). -/
def execBootRomStart (s : State) : Host.Outcome State Fault Refusal := s.run (fun m => m.romStart s.otp)

/-- DBG_RESET (R49, R86, R157): honoured but in FIELD and END. -/
def execDbgReset (s : State) : Host.Outcome State Fault Refusal :=
  s.run (fun m => m.when (m.lifeCycle s.otp != 2 && m.lifeCycle s.otp != 5) (·.moduleReset F.SYSCTL_RST_CAUSE_DEBUG))

end Sys2Proof.Machine
end

