-- ==== Sys2Proof/Machine/Bank.lean ====
section
/-!
DEFINITION. The configuration banks (R139, R766) and what a Pedibel image says (R140–R149, R158, R762).
-/
namespace Sys2Proof.Machine

/-! ### Banks -/

namespace BankSt

/-- The `n` bytes from offset `o`; an erased byte reads 0xFF. -/
def read (b : BankSt) (o n : Nat) : List Byte := (List.range n).map (fun i => tget 0xFF b.cells (o + i))

/-- The 32-bit word at offset `o` (R6). -/
def word (b : BankSt) (o : Nat) : Nat := ofBytes (b.read o 4)

/-- Programming changes bits from 1 to 0 only (R139). -/
def program (b : BankSt) (o : Nat) : List Byte → BankSt
  | [] => b
  | x :: r => program { b with cells := tmod 0xFF b.cells o (fun y => y &&& x) } (o + 1) r

/-- Bytes [lo, hi) are erased. -/
def erase (b : BankSt) (lo hi : Nat) : BankSt :=
  { b with cells := tkeep (fun a => ! (decide (lo ≤ a) && decide (a < hi))) b.cells }

/-- STATE of the boot-state sector (R139). -/
def state (b : BankSt) : Nat := b.word 0x7FFF000

/-- The trial starts left (R139): the 1 bits of TRIES [7:0]. -/
def tries (b : BankSt) : Nat := b.word 0x7FFF004 % 256

end BankSt

/-- Codes of STATE (R139). -/
def stStaging : Nat := 0xFFFFFF00
def stTrial : Nat := 0xFFFF0000
def stCommitted : Nat := 0xFF000000
def stRejected : Nat := 0

namespace Module

/-- Bank `b`: 0 is A, 1 is B. -/
def bank (m : Module) (b : Nat) : BankSt := if b = 0 then m.nvm.bankA else m.nvm.bankB

/-- Change bank `b` by `f`. -/
def setBank (m : Module) (b : Nat) (f : BankSt → BankSt) : Module :=
  { m with nvm := if b = 0 then { m.nvm with bankA := f m.nvm.bankA } else { m.nvm with bankB := f m.nvm.bankB } }

/-- STATE of bank `b` is programmed. -/
def programState (m : Module) (b v : Nat) : Module := m.setBank b (fun x => x.program 0x7FFF000 (toBytes 4 v))

end Module

/-! ### Checks of an image -/

/-- The header passes code 0x02 of R148. -/
def magicOk (r : Source) : Bool := Source.word r 0 == 0x4C424450 && bits (Source.word r 0x2C) 15 0 == 0x1280

/-- The header passes code 0x03. -/
def hdrCrcOk (r : Source) : Bool := crc32 (r 0 0xFC) == Source.word r 0xFC

/-- The header passes code 0x04. -/
def majorOk (r : Source) : Bool := bits (Source.word r 4) 15 8 == 1

/-- Length of the signature block at `o` (R145). -/
def sigBlockLen (r : Source) (o : Nat) : Nat := 0x144 + Source.word r (o + 0x140)

/-- The reserved bits of the header are 0 (R140). -/
def headerReservedOk (r : Source) : Bool :=
  bits (Source.word r 4) 31 16 == 0 && bits (Source.word r 0x10) 31 16 == 0 && bits (Source.word r 0x14) 31 8 == 0
    && bits (Source.word r 0x28) 31 16 == 0 && bits (Source.word r 0x2C) 31 16 == 0
    && (r 0x30 0xCC).all (fun b => b == 0)

/-- The bounds of R140 and R142 (code 0x05). -/
def boundsOk (r : Source) : Bool :=
  let len := Source.imageLen r
  let sig := Source.sigOffset r
  let n := Source.recCount r
  len % 4096 == 0 && decide (0x10000 ≤ len) && decide (len ≤ 0x4000000) && sig % 4096 == 0
    && decide (1 ≤ n) && decide (n ≤ 256) && decide (0x100 + 16 * n ≤ sig) && decide (sig + 0x144 ≤ len)
    && decide (sig + sigBlockLen r sig ≤ len) && decide (Source.secver r ≤ 128) && headerReservedOk r
    && (directory r).all (fun e => e.offset % 16 == 0 && decide (0x100 + 16 * n ≤ e.offset)
          && decide (e.offset + e.length ≤ sig))

/-- Code 0x06. -/
def crcsOk (r : Source) : Bool :=
  crc32 (r 0x100 (Source.sigOffset r - 0x100)) == Source.word r 0x20
    && (directory r).all (fun e => crc32 (recBytes r e) == e.crc)

/-- SHA-256 and SHA-384 (R647; log entry 6). -/
def sha256 (l : List Byte) : List Byte := Config.cipher { mode := 8, dir := 0, data := l }
def sha384 (l : List Byte) : List Byte := Config.cipher { mode := 9, dir := 0, data := l }

/-- The ECDSA signature of the block at `o` verifies over bytes 0 to o − 1 (R145); a block without its first word fails here
(log entry 20). -/
def ecdsaOk (r : Source) (o : Nat) : Bool :=
  Source.word r o == 0x47495350 && Config.ecdsaVerifies (sha384 (r 0 o) ++ r (o + 0x10) 192)

/-- The HSS public key of the block at `o`: 60 bytes, padded with zeros (R145). -/
def hssKey (r : Source) (o : Nat) : List Byte := r (o + 0x100) 60

/-- The HSS signature of the block at `o` verifies (R145, R146). -/
def hssOk (r : Source) (o : Nat) : Bool :=
  let sig := r (o + 0x144) (Source.word r (o + 0x140))
  hssAllowed (hssKey r o) sig && Config.hssVerifies (hssKey r o) sig (sha384 (r 0 o))

/-- The keys of the block at `o` match a trusted key pair of life-cycle state `lc` (R147, R157). -/
def keysTrusted (otp : Otp) (lc : Nat) (r : Source) (o : Nat) : Bool :=
  let e := sha384 (r (o + 0x10) 96)
  let h := sha256 (hssKey r o)
  if lc = 0 ∨ lc = 4 then e == Config.bromDigest lc false && h == Config.bromDigest lc true
  else if lc = 5 then false
  else (List.range 4).any (fun k => otp.trusted k && e == tget [] otp.ecdsa k && h == tget [] otp.hss k)

/-- The number of records of type `t`. -/
def countOf (r : Source) (t : Nat) : Nat := ((directory r).filter (fun e => e.type == t)).length

/-- The SYSTEM record has the right length and no reserved bit set (R352). -/
def systemOk (w : List Nat) : Bool :=
  let g := fun k => w.getD k 0
  w.length == 16 && (List.range 6).all (fun k => bits (g k) 3 1 == 0 && bits (g k) 31 8 == 0) && bits (g 6) 31 4 == 0
    && bits (g 7) 31 16 == 0 && bits (g 8) 31 8 == 0 && (List.range 7).all (fun k => g (9 + k) == 0)

/-- The INSTANCE_MAP record has the right length and no reserved bit set (R436). -/
def instanceMapOk (w : List Nat) : Bool :=
  let g := fun k => w.getD k 0
  w.length == 228 && (List.range 4).all (fun k => g k == 0)
    && (List.range 112).all (fun n => bits (g (4 + 2 * n)) 3 1 == 0 && bits (g (4 + 2 * n)) 31 8 == 0
      && bits (g (5 + 2 * n)) 15 12 == 0 && bits (g (5 + 2 * n)) 31 24 == 0)

/-- A type that may occur once occurs once at most, and a type per item once for each item (R143, R144; log entry 20): the
item is the NUMBER of a PROFILE record, which R232 judges at the use of the record, or the PARTITION of word 0. -/
def uniqueOk (r : Source) : Bool :=
  [6, 0xB, 0xC, 0xD, 0xE, 0xF, 0x10, 0x11].all (fun t => decide (countOf r t ≤ 1))
    && (List.range 16).all (fun p => decide (((recordsOf r 7).filter (fun l => ofBytes (l.take 4) % 16 == p)).length ≤ 1))

/-- Code 0x0B: every required record is present exactly once (R143), no record occurs more often than R143 admits, and SYSTEM,
WORLD_MAP and INSTANCE_MAP are well formed (R352, R409, R436). -/
def requiredOk (r : Source) : Bool :=
  [1, 2, 3, 4, 5, 8, 9].all (fun t => countOf r t == 1) && uniqueOk r
    && systemOk ((recordWords r 1).getD []) && ((recordsOf r 1).map List.length) == [64]
    && Module.worldMapOk ((recordWords r 2).getD []) && ((recordsOf r 2).map List.length) == [176]
    && instanceMapOk ((recordWords r 3).getD []) && ((recordsOf r 3).map List.length) == [912]

/-- Code 0x0C: no record of unknown TYPE is critical (R144). -/
def criticalOk (r : Source) : Bool := (directory r).all (fun e => ! e.crit || (decide (1 ≤ e.type) && decide (e.type ≤ 0x11)))

/-- The checks of R148 from code 0x02 on: the code of the first that fails, 0 where none does (log entry 20). -/
def imageCheck (otp : Otp) (lc counter : Nat) (r : Source) : Nat :=
  if ! magicOk r then 2
  else if ! hdrCrcOk r then 3
  else if ! majorOk r then 4
  else if ! boundsOk r then 5
  else if ! crcsOk r then 6
  else if ! ecdsaOk r (Source.sigOffset r) then 7
  else if ! hssOk r (Source.sigOffset r) then 8
  else if ! keysTrusted otp lc r (Source.sigOffset r) then 9
  else if Source.secver r < counter then 0xA
  else if ! requiredOk r then 0xB
  else if ! criticalOk r then 0xC else 0

namespace Module

/-- Bank `b` as a source. -/
def bankSource (m : Module) (b : Nat) : Source := (m.bank b).read

end Module

end Sys2Proof.Machine
end

