-- ==== Sys2Proof/Machine/Uin.lean ====
section
/-!
DEFINITION. The universal inputs (R307–R317, R826, R827): conversion, filter, debounce, faults, and the configuration that
takes effect at a frame boundary.
-/
namespace Sys2Proof.Machine

/-- The scale of the logarithm: 2^48. -/
def lnScale : Int := 281474976710656

/-- 2·atanh(z) by its series, `z` scaled: `p` is the power z^(2k+1), `k` the term, over the fuel. -/
def atanhSum (z : Int) : Nat → Nat → Int → Int
  | 0, _, _ => 0
  | fuel + 1, k, p => 2 * p / (2 * k + 1 : Nat) + atanhSum z fuel (k + 1) (p * z / lnScale * z / lnScale)

/-- ln(p / q) scaled, for 1 ≤ p / q < 2. -/
def lnMantissa (p q : Nat) : Int :=
  let z := ((p : Int) - q) * lnScale / ((p : Int) + q)
  atanhSum z 26 0 z

/-- ln(p / q) scaled, over at most `fuel` halvings or doublings (log entry 26). -/
def lnRatio : Nat → Nat → Nat → Int
  | 0, p, q => lnMantissa p q
  | fuel + 1, p, q =>
    if 2 * q ≤ p then lnMantissa 2 1 + lnRatio fuel p (2 * q)
    else if p < q then lnRatio fuel (2 * p) q - lnMantissa 2 1
    else lnMantissa p q

/-- 1/T of an NTC input, scaled, for the resistance `r` in 0.1 Ω (R311); 1/298.15 is 20/5963. -/
def ntcInverse (r25 b r : Nat) : Int := lnScale * 20 / 5963 + lnRatio 64 r (10 * r25) / b

/-- An NTC sample (R311, R312): the temperature in 1/16 °C, or the kind of its fault. The limits −55 °C and +160 °C are
218.15 K and 433.15 K (log entry 26). -/
def ntcConvert (r25 b r : Nat) : Except Nat Int :=
  if r = 0 then .error 2 else
  let inv := ntcInverse r25 b r
  if lnScale * 20 < inv * 4363 then .error 1
  else if inv * 8663 < lnScale * 20 then .error 2
  else .ok ((160 * lnScale + 5 * inv - 43704 * inv) / (10 * inv))

/-- The PT1000 relation (IEC 60751, R311) at u/32 °C, in units of 10^−15 × 2^−20 Ω. -/
def pt1000 (u : Int) : Int :=
  1000 * (1048576000000000000000 + 3908300000000 * 32768 * u - 577500000 * 1024 * u * u
    - (if u < 0 then 4183 * (u - 3200) * u * u * u else 0))

/-- The largest k in [lo, lo + 2^fuel) whose lower rounding bound, k − 1/2, the relation puts at or below `r`, in
1/16 °C. -/
def ptSearch (r : Nat) : Nat → Int → Int
  | 0, lo => lo
  | fuel + 1, lo =>
    let mid := lo + (2 ^ fuel : Nat)
    ptSearch r fuel (if pt1000 (2 * mid - 1) * 10 ≤ (r : Int) * 1048576000000000000000 then mid else lo)

/-- A PT1000 sample of `r` in 0.1 Ω (R311, R312; log entry 26). -/
def ptConvert (r : Nat) : Except Nat Int :=
  if 25000 < r then .error 1 else if r < 7000 then .error 2 else .ok (ptSearch r 13 (-1600))

namespace Module

/-- Input `n`. -/
def uinIn (m : Module) (n : Nat) : UinIn := tget {} m.uin.ins n

/-- Store input `n`. -/
def setUin (m : Module) (n : Nat) (x : UinIn) : Module := { m with uin := { m.uin with ins := tset {} m.uin.ins n x } }

/-- The configuration word of input `n` as its register holds it. -/
def uinWord (m : Module) (n : Nat) : Nat :=
  m.rd F.UIN_CFG_MODE n + m.rd F.UIN_CFG_THRESH n * 2 ^ 3 + m.rd F.UIN_CFG_HYST n * 2 ^ 12
    + m.rd F.UIN_CFG_FILT n * 2 ^ 17 + m.rd F.UIN_CFG_DEBOUNCE n * 2 ^ 21 + m.rd F.UIN_CFG_INVERT n * 2 ^ 28
    + m.rd F.UIN_CFG_NTC_SET n * 2 ^ 30

/-- The register takes the configuration word `v`; the reserved bit is remembered for R827. -/
def putUinWord (m : Module) (n v : Nat) : Module :=
  let m := ((((((m.wr F.UIN_CFG_MODE (bits v 2 0) n).wr F.UIN_CFG_THRESH (bits v 11 3) n).wr F.UIN_CFG_HYST
    (bits v 16 12) n).wr F.UIN_CFG_FILT (bits v 20 17) n).wr F.UIN_CFG_DEBOUNCE (bits v 27 21) n).wr F.UIN_CFG_INVERT
    (bits v 28 28) n).wr F.UIN_CFG_NTC_SET (bits v 31 30) n
  m.setUin n { m.uinIn n with resv := bit v 29 }

/-- The word of an input is invalid (R827). -/
def uinBad (w r25 b : Nat) (resv : Bool) : Bool :=
  let mode := bits w 2 0
  mode == 7 || resv
    || ((mode == 1 || mode == 6) && ! (decide (10 ≤ bits w 11 3) && decide (bits w 11 3 ≤ 300)
          && decide (1 ≤ bits w 16 12)))
    || ((mode == 2 || mode == 3 || mode == 4 || mode == 5) && decide (10 < bits w 20 17))
    || (mode == 3 && (r25 == 0 || b == 0))

/-- The mode in force of an input (R827): OFF where its word is invalid. -/
def uinMode (x : UinIn) : Nat := if x.bad then 0 else bits x.word 2 0

/-- The stored configuration of input `n` takes effect (R310, R316, R827): a change of mode starts filter, level and fault
afresh. -/
def uinLatch (m : Module) (n : Nat) : Module :=
  let x := m.uinIn n
  let w := m.uinWord n
  let k := bits w 31 30
  let r25 := m.rd F.UIN_NTC_R25_OHM k
  let b := m.rd F.UIN_NTC_B_KELVIN k
  let bad := uinBad w r25 b x.resv
  if x.word == w && x.r25 == r25 && x.b == b && x.bad == bad && ! x.changed then m else
  let y := { x with word := w, r25 := r25, b := b, bad := bad, changed := false }
  let m := m.wrb F.UIN_VAL_CFG_BAD bad n
  let m := m.when (x.changed || bad != x.bad) (·.lower F.UIN_VAL_VALID n)
  if uinMode y == uinMode x then m.setUin n y else
  let m := m.setUin n { y with y := 0, started := false, reading := false, level := false, debounce := 0, faultRun := 0, shuntOpen := false }
  let m := (((m.lower F.UIN_VAL_VALID n).lower F.UIN_VAL_FAULT n).lower F.UIN_VAL_FAULT_KIND n).lower F.UIN_VAL_LEVEL n
  m.when (uinMode y == 0) (·.lower F.UIN_VAL_VALUE n)

/-- VALUE of input `n` is published (R309, R312, R316). -/
def uinPublish (m : Module) (n : Nat) (v : Int) : Module :=
  (m.wr F.UIN_VAL_VALUE (unsigned 24 v) n).wrb F.UIN_VAL_VALID (! (m.uinIn n).changed) n

/-- A DIGITAL sample of `mv` millivolts (R310): between the thresholds the last reading stands (log entry 26). -/
def uinDigital (m : Module) (n mv : Nat) : Module :=
  let x := m.uinIn n
  let th := bits x.word 11 3 * 100
  let new := if th < mv then true else if mv + bits x.word 16 12 * 100 < th then false else x.reading
  let inv := bit x.word 28
  let (y, edge) : UinIn × Bool :=
    if ! x.started then ({ x with started := true, level := new, debounce := 0 }, false)
    else if new == x.level then ({ x with debounce := 0 }, false)
    else if bits x.word 27 21 ≤ x.debounce + 1 then ({ x with level := new, debounce := 0 }, true)
    else ({ x with debounce := x.debounce + 1 }, false)
  let m := m.setUin n { y with reading := new }
  let m := m.when edge (·.putMapBit F.UIN_EDGE_EDGE n)
  let l := y.level != inv
  (m.wrb F.UIN_VAL_LEVEL l n).uinPublish n (b2n l)

/-- The filter takes the sample `v` (R310): its state is held in 2^−10 units and rounded down; VALUE is its nearest
integer (log entry 26). -/
def uinFilter (m : Module) (n : Nat) (v : Int) : Module :=
  let x := m.uinIn n
  let y := if x.started then x.y + (v * 1024 - x.y) / (2 ^ bits x.word 20 17 : Nat) else v * 1024
  (m.setUin n { x with y := y, started := true }).uinPublish n ((y + 512) / 1024)

/-- An unfiltered sample out of range of kind `k` (R312). -/
def uinOut (m : Module) (n k : Nat) : Module :=
  let x := m.uinIn n
  if m.flag F.UIN_VAL_FAULT n then (m.wr F.UIN_VAL_FAULT_KIND k n).setUin n { x with faultRun := 0 }
  else if x.faultRun < 2 then m.setUin n { x with faultRun := x.faultRun + 1 }
  else
    let m := (m.raise F.UIN_VAL_FAULT n).wr F.UIN_VAL_FAULT_KIND k n
    (m.putMapBit F.UIN_FAULT_EVT_FAULT n).setUin n { x with faultRun := 0 }

/-- An unfiltered sample in range (R310, R312): while FAULT is set it only counts, and the third clears FAULT and restarts
the filter. -/
def uinGood (m : Module) (n : Nat) (v : Int) : Module :=
  let x := m.uinIn n
  if ! m.flag F.UIN_VAL_FAULT n then (m.setUin n { x with faultRun := 0 }).uinFilter n v
  else if x.faultRun < 2 then m.setUin n { x with faultRun := x.faultRun + 1 }
  else
    let m := (m.lower F.UIN_VAL_FAULT n).lower F.UIN_VAL_FAULT_KIND n
    (m.setUin n { x with faultRun := 0, started := false }).uinFilter n v

/-- A sample that its conversion judged. -/
def uinJudged (m : Module) (n : Nat) : Except Nat Int → Module
  | .error k => m.uinOut n k
  | .ok v => m.uinGood n v

/-- A CURRENT sample in µA (R312, R826): an opened shunt counts on the exciting unit only. -/
def currentConvert (opened : Bool) (ua : Nat) : Except Nat Int :=
  if opened then .error 2 else if ua < 3600 then .error 1 else if 21000 < ua then .error 2 else .ok ua

/-- One sample of a frame (R307, R310–R312, R826; log entry 26). -/
def uinSample (m : Module) (u : UinSample) : Module :=
  let n := u.n.val
  let x := m.uinIn n
  let mode := uinMode x
  let m := m.when (mode == 1 || mode == 6) (·.addW F.UIN_PULSE_COUNT u.edges n)
  if m.uin.exciteChanged then m else
  match mode with
  | 1 => m.uinDigital n u.x
  | 2 => m.uinFilter n (min u.x 32760 : Nat)
  | 3 => (m.wr F.UIN_RES_OHM (sat 24 u.x) n).uinJudged n (ntcConvert x.r25 x.b u.x)
  | 4 => (m.wr F.UIN_RES_OHM (sat 24 u.x) n).uinJudged n (ptConvert u.x)
  | 5 => m.uinJudged n (currentConvert (m.flag F.UIN_STAT_EXCITE && x.shuntOpen) u.x)
  | 6 => m.uinPublish n (sat 24 u.x : Nat)
  | _ => m

/-- The end of a frame (R309, R310, R316, R826): the samples are published, and configurations written take effect
(log entry 26). -/
def uinFrame (m : Module) (xs : List UinSample) : Module :=
  if ! m.running 5 || m.sys.blkRst == some 5 then m else
  let m := xs.foldl uinSample m
  let m := { m with uin := { m.uin with exciteChanged := false } }
  (forEach (List.range 64) (fun n m => m.uinLatch n) m).addW F.UIN_STAT_FRAME 1

/-- UIN_STAT.EXCITE takes the value `on` (R313, R314, R317, R826): the shunts close on the unit that gains it
(log entry 26). -/
def setExcite (m : Module) (on : Bool) : Module :=
  if m.flag F.UIN_STAT_EXCITE == on then m else
  let m := m.wrb F.UIN_STAT_EXCITE on
  let ins := if on then (List.range 64).foldl (fun t n => tmod {} t n (fun x => { x with shuntOpen := false })) m.uin.ins
    else m.uin.ins
  { m with uin := { ins := ins, exciteChanged := true } }

end Module

/-- UIN_FRAME (R309, R310, R312, R317, R826, R827). -/
def execUinFrame (xs : List UinSample) (s : State) : Host.Outcome State Fault Refusal := s.run (fun m => m.uinFrame xs)

/-- UIN_CFG_WRITE (R316, R317, R827): the word is stored as written, and judged at the next frame. -/
def execUinCfgWrite (a : Access) (n : Fin 64) (v : Word) (s : State) : Host.Outcome State Fault Refusal :=
  s.runBy a 1 (fun a m => m.access a (0x20300000 + 4 * n.val) 1 (fun m =>
    let m := (m.putUinWord n.val v.toNat).lower F.UIN_VAL_VALID n.val
    m.setUin n.val { m.uinIn n.val with changed := true }))

/-- UIN_NTC_WRITE (R316, R317, R827): R25 or B of set `k`; it applies from the next frame. -/
def execUinNtcWrite (a : Access) (k : Fin 4) (isB : Bool) (v : Word) (s : State) : Host.Outcome State Fault Refusal :=
  s.runBy a 1 (fun a m => m.access a (0x20300800 + 8 * k.val + 4 * b2n isB) 1 (fun m =>
    if isB then m.wr F.UIN_NTC_B_KELVIN (bits v.toNat 15 0) k.val else m.wr F.UIN_NTC_R25_OHM (bits v.toNat 23 0) k.val))

/-- SHUNT_OPEN (R308, R313, R826): only on the exciting unit. -/
def execShuntOpen (n : Fin 64) (s : State) : Host.Outcome State Fault Refusal :=
  s.run (fun m =>
    let x := m.uinIn n.val
    m.when (m.flag F.UIN_STAT_EXCITE && Module.uinMode x == 5) (·.setUin n.val { x with shuntOpen := true }))

/-- SHUNT_RECLOSE (R313, R317): cancelled on a unit that does not excite. -/
def execShuntReclose (n : Fin 64) (s : State) : Host.Outcome State Fault Refusal :=
  s.run (fun m => m.when (m.flag F.UIN_STAT_EXCITE) (·.setUin n.val { m.uinIn n.val with shuntOpen := false }))

end Sys2Proof.Machine
end

