-- ==== Sys2Proof/Machine/Dpx.lean ====
section
/-!
DEFINITION. Duplex operation (chapter 17): roles, the collar line and the supervisor, heartbeats and mirrors, takeover,
handover, evidence of dual drive, snapshots and the standby self-test.
-/
namespace Sys2Proof.Machine

namespace Module

/-- Change what DPX holds. -/
def setDpx (m : Module) (f : DpxSt → DpxSt) : Module := { m with dpx := f m.dpx }

/-- A record of DPX (R724). -/
def dpxLog (m : Module) (code d0 : Nat) (addr : Nat := 0) : Module := m.logBlk 0x0E code addr d0

/-- ROLE of the last valid peer frame. -/
def peerRole (m : Module) : Nat := m.rd F.DPX_STATE_PEER_ROLE

/-- A valid frame has arrived on a path within the last 10 ms (R689, R725). -/
def peerHeard (m : Module) : Bool := (List.range 3).any (fun k => m.flag F.DPX_PATH_HEARD k)

/-- An ACTIVE peer is heard (R689). -/
def activeHeard (m : Module) : Bool := m.peerHeard && m.peerRole == 2

/-- Channels of the map for which `p` holds, as a list. -/
def channelsWith (p : Nat → Bool) : List Nat := (List.range 128).filter p

/-! ### What DPX_STATE shows -/

/-- The collar is driven asserted (R692); in hold-up it is released (R96). -/
def collarDriven (m : Module) : Bool :=
  m.dpx.step9 && ! m.inHoldup && (m.role == 2 || (m.role == 6 && m.dpx.ho.any (fun h => h.out || h.engaged)))

/-- Full mode (R688). -/
def fullMode (m : Module) : Bool :=
  let lead := fun (r : Nat) => r == 2 || r == 6
  let back := fun (r : Nat) => r == 5 || r == 6
  m.peerHeard && ((lead m.role && back m.peerRole) || (back m.role && lead m.peerRole))

/-- Path 0 is lost and the units hear each other on path 1 (R708). -/
def degraded (m : Module) : Bool := m.pathLost 0 && ! m.pathLost 1 && m.flag F.DPX_PATH_HEARD 1

/-- DPX_STATE shows what follows from the roles and paths (log entry 42). -/
def showDpx (m : Module) : Module :=
  let m := (m.wrb F.DPX_STATE_COLLAR_OUT m.collarDriven).wrb F.DPX_STATE_PEER_HEARD m.peerHeard
  let m := (m.wrb F.DPX_STATE_FULL m.fullMode).wrb F.DPX_STATE_DEGRADED m.degraded
  (m.wrb F.DPX_STATE_HO_OUT (m.role == 6 && m.dpx.ho.any (·.out))).wrb F.PBR_STAT_PATH (m.pathLost 0 && ! m.pathLost 1)

/-! ### Roles -/

/-- The unit may drive its outputs from now on (R687, R691, R314): every command watchdog restarts with its full time. -/
def driveOn (m : Module) : Module :=
  let m := (m.raise F.DPX_STATE_DRIVE).setExcite true
  forEach (List.range 16) (fun i m =>
    if m.rd F.CHI_STATE_STATE i = 0 then m.setChi i { m.chi i with leftUs := m.wdtUs i } else m) m

/-- The unit no longer drives (R690, R691): every channel turns off, slewed, and keeps its commanded state. -/
def driveOff (m : Module) : Module :=
  if ! m.drives then m else
  let m := (m.lower F.DPX_STATE_DRIVE).setExcite false
  forEach (List.range 128) (fun n m => m.commandedOff n) m

/-- The unit takes role `r`, other than HANDOVER (R689–R691, R726; log entry 42). -/
def setRole (m : Module) (r : Nat) : Module :=
  let old := m.role
  let m := (m.wr F.DPX_STATE_ROLE r).setDpx (fun d => { d with ho := none, asked := if r = 5 then d.asked else none })
  let m := m.when (r == 5 && old != 5) (·.raise F.DPX_EVT_READY)
  let m := m.when (old == 5 && (r == 4 || r == 7)) (·.raise F.DPX_EVT_NOT_READY)
  let m := m.when ((r == 4 || r == 5 || r == 7) && old != 4 && old != 5) (·.diagAbandon)
  let m := if r = 2 then
      let sts := channelsWith (fun n => (m.chan n).shortToSupply)
      (m.when (old == 1 || old == 4 || old == 5 || ! m.drives) (·.driveOn)).setDpx (fun d => { d with sts := sts, hemRun := 0 })
    else if r = 3 then
      (m.raise F.DPX_STATE_DRIVE).when (decide (7 ≤ m.rd F.SYSCTL_BOOT_STAT_STAGE)) (·.setExcite true)
    else if r = 4 ∨ r = 5 ∨ r = 7 then (m.driveOff).setDpx (fun d => { d with engage := false, engaging := false })
    else m
  let m := m.when (r != 2) (·.lower F.DPX_STATE_COLLAR_CONFLICT)
  let m := m.when (r == 7) (·.raise F.DPX_EVT_INCOMPATIBLE)
  let m := if r = 0 ∨ r = 1 ∨ r = 3 ∨ r = 7 then m.linkDown 3 else m.linkEstablish
  m.showDpx

/-- The supervisor watchdog restarts at SUP_WDT_US (R694). -/
def supStart (m : Module) : Module :=
  (m.wr F.DPX_SUP_STAT_REMAIN_US (m.rd F.DPX_SUP_CFG_SUP_WDT_US)).setDpx (fun d => { d with supOk := true })

/-- The supervisor fails (R694, R695): `cause` is 0 the watchdog, 1 hold-up, 2 a block reset. -/
def supFails (m : Module) (cause : Nat) : Module :=
  if m.role = 2 ∨ m.role = 6 then
    (((m.setRole 3).raise F.DPX_EVT_RELEASED).dpxLog 0x2E07 cause)
  else m

/-! ### Fitness and readiness (R705, R707) -/

/-- A partition of LSS_PART is in a state of the list. -/
def anyPart (m : Module) (states : List Nat) : Bool := (List.range 16).any (fun p => states.contains (m.rd F.LSS_PART_STATE p))

/-- The unit may take the ACTIVE role: every partition has started (R138), and VAUX is not in hold-up (R96, R694; log
entry 42). -/
def mayLead (m : Module) : Bool := ! m.anyPart [3, 4] && ! m.inHoldup

/-- The readiness limits of R707 on the mirror gap, in sweeps, and on the age of the snapshot set, in cycles (R708). -/
def gapLimit (m : Module) : Nat := if m.degraded then 250 else 16
def snapLimit (m : Module) : Nat := if m.degraded then 20 else 2

/-- The record names a snapshot region. -/
def hasRegions (m : Module) : Bool := (List.range 16).any (fun r => m.flag F.DPX_SNAP_DST_LEN r)

/-- The mirror and snapshot conditions of R707. -/
def follows (m : Module) : Bool :=
  m.dpx.mirrored && m.dpx.gapOk && decide (m.dpx.sinceMirror ≤ m.gapLimit)
    && (! m.hasRegions || decide (m.rd F.DPX_SNAP_AGE_CYCLES ≤ m.snapLimit))

/-- A channel has SWITCH_FAIL (R177). -/
def anySwFail (m : Module) : Bool := (List.range 128).any (fun n => (m.chan n).swFail)

/-- TEST_OK (R705). -/
def testOk (m : Module) : Bool :=
  (List.range 4).all (fun w => m.rd F.DPX_PULSE_FAIL_MAP w == 0) && (List.range 4).all (fun n => m.pairState n != 5)

/-- The fitness word (R705). -/
def fitness (m : Module) : Nat :=
  let hosted := fun p => let w := tget [] m.lss.store p; w != [] && decide (partHost w ≤ 3)
  let safeOk := (List.range 16).all (fun p => ! hosted p || m.flag F.LSS_PART_SAFE_VALID p)
  b2n m.dpx.supOk + b2n (! m.anyPart [3, 4, 5]) * 2 + b2n safeOk * 4 + b2n (m.rd F.WCT_STAT_SEC_STATE != 3) * 8
    + b2n (m.flag F.CHC_STAT_RUN && ! m.flag F.CHC_STAT_CAL_STOPPED) * 16
    + b2n (decide (m.rd F.HST_SUP_STAT_VAUX_STATE ≤ 1)) * 32 + b2n (m.role == 2 || m.follows) * 64 + b2n m.testOk * 128
    + (15 - m.rd F.HST_SUP_STAT_VS_UV % 16) * 256 + b2n (! m.anySwFail) * 4096

/-- The unit's own part of the READY conditions: fit, TEST_OK, the four VS_OK bits, no clash (R707). -/
def ownReady (m : Module) : Bool :=
  let f := m.fitness
  f % 64 == 63 && bit f 7 && bits f 11 8 == 15 && ! m.flag F.DPX_STATE_CLASH

/-- Readiness is judged as a frame of the active unit arrives (R702, R707). -/
def judgeReady (m : Module) : Module :=
  let ok := m.ownReady && m.follows
  let m := m.setDpx (fun d => { d with ready := ok })
  let untaken := m.role == 6 && m.dpx.ho.any (fun h => ! h.out && h.taken.isNone)
  if m.role == 4 && ok then m.setRole 5
  else if (m.role == 5 || untaken) && ! ok then m.setRole 4 else m

/-- Its own conditions are judged at every sweep: silence of the peer costs no readiness (R702). -/
def judgeOwn (m : Module) : Module :=
  let untaken := m.role == 6 && m.dpx.ho.any (fun h => ! h.out && h.taken.isNone)
  if (m.role == 5 || untaken) && ! m.ownReady then (m.setRole 4).setDpx (fun d => { d with ready := false }) else m

/-! ### Frames sent -/

/-- A heartbeat over Ethernet (R697). -/
def heartbeatBytes (m : Module) (path : Nat) : List Byte :=
  [1, 1, BitVec.ofNat 8 (m.headByte path), 0] ++ netBytes 4 (tget 0 m.dpx.seqs path) ++ netBytes 2 (m.rd F.DPX_FIT_OWN)
    ++ [0, 0] ++ netBytes 4 (m.rd F.DPX_PAIR_ID_ID) ++ netBytes 4 (m.rd F.CHC_SWEEP_NUM) ++ netBytes 4 (m.rd F.DPX_CYCLE_NUM)
    ++ netBytes 2 m.dpx.phaseUs ++ [0, 0] ++ netBytes 8 m.tai ++ netBytes 4 (m.rd F.SYSCTL_IMG_SEQ_SEQ) ++ List.replicate 6 0

/-- A heartbeat over CAN, by object 126 (R698). -/
def heartbeatCan (m : Module) : Module :=
  let c := m.rd F.DPX_CFG_CAN_SEL
  let l := [BitVec.ofNat 8 (m.headByte 0), BitVec.ofNat 8 (tget 0 m.dpx.seqs 2)] ++ netBytes 2 (m.rd F.DPX_FIT_OWN)
  (m.wr F.CAN_OBJ_DATA_DATA (ofBytes l) c 126 0).canPend c 126

/-- A heartbeat leaves on path `k` (R696): nothing in a role that is silent. -/
def heartbeat (m : Module) (k : Nat) : Module :=
  if ! m.talks then m else
  let m := m.setDpx (fun d => { d with seqs := tset 0 d.seqs k ((tget 0 d.seqs k + 1) % 2 ^ 32) })
  if k = 2 then m.when (m.flag F.DPX_CFG_CAN_EN) (·.heartbeatCan) else m.onPath k (m.heartbeatBytes k)

/-- A heartbeat on every path (R703). -/
def heartbeatAll (m : Module) : Module := ((m.heartbeat 0).heartbeat 1).heartbeat 2

/-- The argument of the PWM command of channel `n`, as CHI_CMD_ARG lays it out (R275). -/
def pwmArgOf (m : Module) (n : Nat) : Nat :=
  match (m.chan n).cmd with
  | .pwm p d => p + d * 2 ^ 17
  | _ => 0

/-- What an entry of a mirror says of channel `n`: PROFILE, I_NOM and the PWM argument in one number. -/
def mirrorParam (m : Module) (n : Nat) : Nat := (m.chan n).load % 2 ^ 16 + m.pwmArgOf n * 2 ^ 16

/-- The channels that a mirror restates (R706): up to 32 that changed, and the refresh of the sweep. -/
def mirrorList (m : Module) : List Nat :=
  let changed := (channelsWith (fun n => m.mirrorParam n != tget 0 m.dpx.told n)).take 32
  let k := 4 * (m.rd F.CHC_SWEEP_NUM % 32)
  changed ++ [k, k + 1, k + 2, k + 3]

/-- A change entry (R706). -/
def mirrorEntry (m : Module) (n : Nat) : List Byte :=
  let c := m.chan n
  [BitVec.ofNat 8 n, BitVec.ofNat 8 c.profileNo] ++ netBytes 2 c.iNom ++ netBytes 4 (m.pwmArgOf n) ++ [0, 0, 0, 0]

/-- The two bits of CMD of channel `n` (R706). -/
def mirrorCmd (m : Module) (n : Nat) : Nat :=
  if ! m.drives then 0 else match (m.chan n).cmd with | .off => 0 | .on => 1 | .pwm _ _ => 2

/-- The payload of a mirror (R706). -/
def mirrorBytes (m : Module) (path : Nat) (fallback : Bool) : List Byte :=
  let cmds := (List.range 8).flatMap (fun w =>
    netBytes 4 ((List.range 16).foldl (fun v b => v + m.mirrorCmd (16 * w + b) * 4 ^ b) 0))
  let cond := (List.range 16).map (fun w =>
    BitVec.ofNat 8 ((List.range 8).foldl (fun v b => v + b2n (m.chan (8 * w + b)).conducting * 2 ^ b) 0))
  let samples := (List.range 128).flatMap (fun n => netBytes 2 (unsigned 16 (m.chan n).sample))
  let l := m.mirrorList
  [1, 2, BitVec.ofNat 8 (m.headByte path), BitVec.ofNat 8 (b2n fallback)] ++ netBytes 4 (m.rd F.CHC_SWEEP_NUM)
    ++ netBytes 4 (m.grp 0).pwmUs ++ cmds ++ cond ++ samples ++ [BitVec.ofNat 8 l.length, 0, 0, 0] ++ l.flatMap m.mirrorEntry

/-- The mirror of the sweep (R706, R708): on path 0, or every 125 sweeps on path 1 while the pair link is lost. -/
def mirrorSend (m : Module) : Module :=
  let go := fun (m : Module) (k : Nat) =>
    let m' := m.onPath k (m.mirrorBytes k (k == 1))
    let l := m.mirrorList
    m'.setDpx (fun d => { d with told := l.foldl (fun t n => tset 0 t n (m.mirrorParam n)) d.told })
  if ! m.talks then m
  else if m.degraded then m.when (m.rd F.CHC_SWEEP_NUM % 125 == 0) (fun m => go m 1)
  else go m 0

/-! ### Frames received -/

/-- What is wrong with the sender (R698), as INCOMPATIBLE logs it (R724). A CAN frame carries no PAIR_ID and no VERSION. -/
def headFaults (m : Module) (path : Nat) (h : DuplexHead) : Nat :=
  b2n (path != 2 && h.pairId != m.rd F.DPX_PAIR_ID_ID) + b2n (path != 2 && h.version != 1) * 2 + b2n (h.unit == m.unitNo) * 4

/-- A frame that is not valid (R689, R698, R720). -/
def frameFaulty (m : Module) (faults : Nat) : Module :=
  let m := m.when (bit faults 2) (·.raise F.DPX_STATE_CLASH)
  if m.role = 1 ∨ m.role = 4 ∨ m.role = 5 then (m.setRole 7).dpxLog 0x2E08 faults else m

/-- A valid frame (R689, R690, R698, R699): `counts` says that it keeps the path alive. -/
def frameValid (m : Module) (path : Nat) (h : DuplexHead) (counts : Bool) : Module :=
  let t := m.now
  let gap := decide (1000 < m.rd F.DPX_PATH_AGE_US path)
  let m := m.when counts (fun m => ((m.wr F.DPX_PATH_AGE_US 0 path).raise F.DPX_PATH_HEARD path).setDpx (fun d =>
    { d with pathRun := if gap || tget 0 d.pathRun path == 0 then tset 0 d.pathRun path (t + 1) else d.pathRun }))
  let m := (m.wr F.DPX_STATE_PEER_ROLE h.role).lower F.DPX_STATE_HEM_DISTRUST
  let m := m.setDpx (fun d =>
    { d with peerHeld := h.held, peerSeen := h.seen, activeSeen := d.activeSeen || (m.role == 1 && h.role == 2), heardUs := t })
  let m := if h.role = 2 ∧ ((m.role = 1 ∧ m.dpx.step9) ∨ (m.role = 3 ∧ m.rd F.HST_SUP_STAT_VAUX_STATE ≠ 2)) then m.setRole 4 else m
  m.showDpx

/-- A frame of the peer arrives on `path`; true where it is valid. A module outside a duplex takes none (R686;
log entry 43), and what arrives while the link is down is lost (R823). -/
def frameIn (m : Module) (path : Nat) (h : DuplexHead) (counts : Bool) : Module × Bool :=
  if m.role = 0 || ! m.pathOpen path then (m, false) else
  let f := m.headFaults path h
  if f = 0 then (m.frameValid path h counts, true) else (m.frameFaulty f, false)

/-- The unit yields or records evidence of kind `kind` (R714); `distrust` where hem evidence alone made it yield (R690;
log entry 43). -/
def dualActive (m : Module) (kind : Nat) (distrust : Bool) : Module :=
  let m := m.raise F.DPX_EVT_DUAL
  if m.unitNo = 1 then
    let m := ((m.raise F.DPX_EVT_YIELD).dpxLog 0x2E04 (kind + 2 ^ 8)).setRole 4
    m.when distrust (·.raise F.DPX_STATE_HEM_DISTRUST)
  else m.dpxLog 0x2E04 kind

/-- COLLAR_OPEN becomes 1 (R715): `own` says that this unit's COLLAR_IN showed it (log entry 43). -/
def collarOpened (m : Module) (own : Bool) : Module :=
  if m.flag F.DPX_STATE_COLLAR_OPEN then m
  else ((m.raise F.DPX_STATE_COLLAR_OPEN).raise F.DPX_EVT_COLLAR_OPEN).dpxLog 0x2E05 (b2n own)

/-- A heartbeat arrives (R689, R698, R710, R714, R715; log entry 43). -/
def heartbeatIn (m : Module) (path : Nat) (x : Heartbeat) : Module :=
  let (m, ok) := m.frameIn path x.head true
  if ! ok then m else
  let m := (m.wr F.DPX_FIT_PEER x.fit).when (path != 2) (·.setDpx (fun d => { d with peerSweep := x.sweep }))
  let lead := x.head.role == 2 || x.head.role == 6
  let m := m.when (lead && path != 2 && (m.role == 4 || m.role == 5)) (fun m =>
    (m.wr F.DPX_CYCLE_NUM x.cycle).setDpx (fun d => { d with phaseUs := x.phaseUs, shadow := true }))
  let m := if m.role = 2 ∧ m.dpx.step9 then
      if x.head.seen then m.lower F.DPX_STATE_COLLAR_OPEN else m.collarOpened false
    else m
  let m := if m.role = 2 ∧ x.head.role = 2 then m.dualActive 1 false else m
  m.when lead (·.judgeReady)

/-- The samples of the peer join the wire model (R203): the square of the sweep that has ended becomes that of both units'
current. The frame carries the peer's sweep number, and sweeps of the two units begin together but for the frame's way, so that
its sweep is the last one; one frame counts for a sweep (DEDUCED, log entry 43). -/
def mirrorSamples (m : Module) (l : List Int) : Module :=
  if m.dpx.joined then m else
  (forEach (List.range 128) (fun n m =>
    let c := m.chan n
    let both := c.last + l.getD n 0
    m.putChan n { c with sq := c.sq + (both * both - c.last * c.last) }) m).setDpx (fun d => { d with joined := true })

/-- The commanded states and parameters of the active unit become those of the channels (R691, R707). -/
def mirrorStates (m : Module) (x : Mirror) : Module :=
  let m := x.entries.foldl (fun m e =>
    let m := m.setDpx (fun d => { d with pwmArg := tset 0 d.pwmArg e.chan.val e.arg })
    m.setChan e.chan.val (fun c => { c with load := (e.profile % 16 + e.inom % 2 ^ 12 * 16) + c.load / 2 ^ 16 * 2 ^ 16 })) m
  forEach (List.range 128) (fun n m =>
    let a := tget 0 m.dpx.pwmArg n
    let cmd : Commanded := match x.cmd.getD n 0 with
      | 1 => .on
      | 2 => .pwm (bits a 16 0) (bits a 26 17)
      | _ => .off
    m.setChan n (fun c => { c with cmd := cmd, diag := if cmd == .off then c.diag else .none })) m

/-- The spans of R824 after a mirror: those of the channels that it shows ON and conducting go on, and begin afresh after a gap
above 16 sweeps. -/
def steadySpans (m : Module) (x : Mirror) : Tbl Nat :=
  let broken := ! m.dpx.mirrored || decide (16 < m.dpx.sinceMirror)
  (List.range 128).foldl (fun t n =>
    if x.cmd.getD n 0 == 1 && bit x.cond n then
      (let from_ := tget 0 m.dpx.steady n
       tset 0 t n (if broken || from_ == 0 then m.now + 1 else from_))
    else t) []

/-- A mirror arrives (R203, R211, R691, R707, R708, R824; log entry 43). -/
def mirrorIn (m : Module) (path : Nat) (x : Mirror) : Module :=
  let (m, ok) := m.frameIn path x.head (path == 0)
  if ! ok then m else
  let lead := x.head.role == 2 || x.head.role == 6
  let step := if x.fallback then 125 else 1
  let isNew := ! m.dpx.mirrored || x.sweep != m.rd F.DPX_MIRROR_SWEEP
  let gap := (x.sweep + 2 ^ 32 - m.rd F.DPX_MIRROR_SWEEP) % 2 ^ 32
  let m := m.when (lead && m.dpx.mirrored) (·.addS F.DPX_MIRROR_MISS_COUNT ((gap - 1) / step))
  let fresh := ! m.dpx.mirrored || decide (m.dpx.sinceMirror ≤ m.gapLimit)
  let m := (m.wr F.DPX_MIRROR_SWEEP x.sweep).setDpx (fun d =>
    { d with mirrored := true, gapOk := fresh, sinceMirror := 0, peerCond := x.cond, steady := m.steadySpans x
             peerSweep := (x.sweep + 1) % 2 ^ 32
             peerCmd := (List.range 128).foldl (fun t n => tset 0 t n (x.cmd.getD n 0)) [] })
  let m := m.when isNew (·.mirrorSamples x.samples)
  let m := m.when (lead && ! m.drives) (fun m =>
    let m := m.when (m.role == 4 || m.role == 5 || m.role == 6) (·.mirrorStates x)
    forEach (List.range 4) (fun g m => m.setGrp g { m.grp g with pwmUs := x.pwmUs + x.transitUs }) m)
  m.when lead (·.judgeReady)

/-! ### Paths and the collar -/

/-- Path `k`, which is in use, has been silent for 10 ms (R696, R699, R729). -/
def pathFails (m : Module) (k : Nat) : Module :=
  if m.pathLost k || m.rd F.DPX_PATH_AGE_US k < 10000 || (k == 2 && ! m.flag F.DPX_CFG_CAN_EN) then m else
  let m := m.lower F.DPX_PATH_HEARD k
  let m := ((m.raise F.DPX_PATH_LOST k).addW F.DPX_PATH_LOSSES 1 k).raise F.DPX_EVT_PATH_LOST
  let m := m.dpxLog 0x2E06 k
  (m.when (m.pathLost 0 && m.pathLost 1) (·.linkDown 1)).showDpx

/-- Path `k` is restored: valid frames have come for 100 ms with no gap above 1 ms (R699, R720). -/
def pathBack (m : Module) (k : Nat) : Module :=
  let run := tget 0 m.dpx.pathRun k
  let steady := run != 0 && decide (run + 100000 ≤ m.now + 1) && decide (m.rd F.DPX_PATH_AGE_US k ≤ 1000)
  if ! m.pathLost k || ! steady then m else ((m.lower F.DPX_PATH_LOST k).raise F.DPX_EVT_PATH_RESTORED).showDpx

/-- COLLAR_IN has a new level (R693, R714, R715). -/
def collarIn (m : Module) (asserted : Bool) : Module :=
  let t := m.now
  let m := m.when (m.flag F.DPX_STATE_COLLAR_IN != asserted) (·.setDpx (fun d => { d with collarUs := t }))
  let m := m.wrb F.DPX_STATE_COLLAR_IN asserted
  if asserted then m.lower F.DPX_STATE_COLLAR_OPEN else m.lower F.DPX_STATE_COLLAR_CONFLICT

/-! ### Engagement -/

/-- Turn-ons of the engagement are not complete. -/
def engagePending (m : Module) : Bool := (List.range 128).any (fun n => (m.chan n).phase == .turningOn)

/-- The last turn-on of the engagement completes (R704, R712): an incoming unit sends TAKEN, which names the first shadow
boundary at least 200 µs later. -/
def engageEnd (m : Module) : Module :=
  if ! m.dpx.engaging || m.engagePending then m else
  let m := (m.wr F.DPX_LAST_TO_ENGAGE_US (sat 12 m.dpx.sinceUs)).setDpx (fun d => { d with engaging := false })
  match m.dpx.ho with
  | some h =>
    if h.out || h.taken.isSome then m else
    let cyc := max 1 (m.rd F.DPX_TIMING_CYCLE_US)
    let c := (m.rd F.DPX_CYCLE_NUM + (200 + m.dpx.phaseUs + cyc - 1) / cyc) % 2 ^ 32
    let m := m.setDpx (fun d => { d with ho := some { h with taken := some c } })
    m.dpxControl 2 (m.rd F.CHC_SWEEP_NUM) c 0
  | none => m

/-- Every channel whose mirrored commanded state is ON begins a turn-on with slew step 0 and a full inrush window (R703
step 4); one that a test pulse has on stays on (R717); one in PWM engages at its next on-edge (R115). -/
def engageNow (m : Module) : Module :=
  let m := m.setDpx (fun d => { d with engage := false, engaging := true })
  let m := forEach (List.range 128) (fun n m =>
    let c := m.chan n
    match c.cmd with
    | .off => m
    | .pwm _ _ => m.when (m.mayEngage n) (fun m => m.setChan n (fun c => { c with engage := true }))
    | .on =>
      if c.pulse && c.conducting then
        m.setChan n (fun c => { c with pulse := false, window := some (m.newWindow n 0), steadyAt := none })
      else if c.phase == .off && c.pwm.isNone && m.mayEngage n then m.turnOn n true 0 true else m) m
  m.engageEnd

/-- The decision of a takeover (R703): `cause` as DPX_LAST_TO, `age` that of the last peer frame. -/
def takesOver (m : Module) (cause age : Nat) : Module :=
  let engaged := m.dpx.ho.any (·.engaged)
  let m := m.setRole 2
  let m := m.supStart
  let m := ((m.wr F.DPX_LAST_TO_CAUSE cause).wr F.DPX_LAST_TO_DECIDE_US (sat 12 age)).wr F.DPX_LAST_TO_TIME_US (m.nowU % 2 ^ 32)
  let m := ((m.addW F.DPX_COUNT_TAKEOVERS 1).raise F.DPX_EVT_TAKEOVER).dpxLog 0x2E01 (cause + sat 12 age * 2 ^ 16)
  let m := m.when (! engaged) (fun m =>
    (m.wr F.DPX_LAST_TO_ENGAGE_US 0).setDpx (fun d => { d with engage := true, sinceUs := 0 }))
  m.heartbeatAll

/-- The takeover conditions with the ages of the paths (R702, R720): the collar rule, then the all-paths rule
(log entry 43). -/
def takeover (m : Module) : Module :=
  let a0 := m.rd F.DPX_PATH_AGE_US 0
  let a1 := m.rd F.DPX_PATH_AGE_US 1
  let a2 := m.rd F.DPX_PATH_AGE_US 2
  let engaged := m.role == 6 && m.dpx.ho.any (fun h => ! h.out && h.engaged)
  if ! ((m.role == 5 && m.dpx.ready) || engaged) || m.inHoldup then m else
  let collar := ! m.flag F.DPX_STATE_COLLAR_IN && decide (100 ≤ a0)
  let silent := decide (400 ≤ a0) && decide (400 ≤ a1) && (! m.flag F.DPX_CFG_CAN_EN || decide (400 ≤ a2))
  if ! (collar || silent) then m else
  m.takesOver (if engaged then 3 else if collar then 1 else 2) (min a0 (min a1 a2))

/-! ### Handover -/

/-- The status with which a handover cannot begin (R711, R725; log entry 43). -/
def handoverRefusal (m : Module) : Option Nat :=
  if m.role = 6 then some 1
  else if m.role ≠ 2 ∨ m.peerRole ≠ 5 ∨ ! m.peerHeard ∨ (m.pathLost 0 && m.pathLost 1) then some 0x0F else none

/-- The ACTIVE unit begins a handover (R711, R712 step 1). -/
def handoverBegin (m : Module) (trigger : Nat) : Module :=
  if m.handoverRefusal.isSome then m else
  let s := (m.rd F.CHC_SWEEP_NUM + 16) % 2 ^ 32
  let t := m.now
  let m := (m.wr F.DPX_STATE_ROLE 6).setDpx (fun d =>
    { d with ho := some { out := true, trigger := trigger, sweep := s, sentUs := t } })
  m.showDpx.dpxControl 1 s 0 0

/-- A control frame of the peer acts where it is valid. -/
def controlIn (m : Module) (path : Nat) (h : DuplexHead) (f : Module → Module) : Module :=
  let (m, ok) := m.frameIn path h (path == 0)
  if ok then f m else m

/-- HANDOVER_OFFER arrives (R689, R712). -/
def offerIn (m : Module) (sweep : Nat) : Module :=
  if m.role ≠ 5 then m else
  let t := m.dpx.asked.getD 0
  ((m.wr F.DPX_STATE_ROLE 6).setDpx (fun d => { d with ho := some { out := false, trigger := t, sweep := sweep } })).showDpx

/-- The incoming unit engages, once the peer has come to sweep S (R712 step 2; log entry 42). -/
def handoverEngages (m : Module) : Module :=
  match m.dpx.ho with
  | some h =>
    if m.role ≠ 6 ∨ h.out ∨ h.engaged ∨ m.inHoldup ∨ 2 ^ 31 ≤ (m.dpx.peerSweep + 2 ^ 32 - h.sweep) % 2 ^ 32 then m else
    let m := m.setDpx (fun d => { d with ho := some { h with engaged := true }, sinceUs := 0 })
    let m := (m.driveOn).showDpx
    let m := ((m.wr F.DPX_LAST_TO_CAUSE (if h.trigger = 4 then 4 else 3)).wr F.DPX_LAST_TO_DECIDE_US 0).wr
      F.DPX_LAST_TO_TIME_US (m.nowU % 2 ^ 32)
    m.engageNow
  | none => m

/-- HANDOVER_TAKEN arrives (R712 step 4). -/
def takenIn (m : Module) : Module :=
  match m.dpx.ho with
  | some h =>
    if m.role ≠ 6 ∨ ! h.out then m else
    let m := ((m.raise F.DPX_EVT_HANDOVER_OUT).addW F.DPX_COUNT_HANDOVERS 1).dpxLog 0x2E02 (1 + h.trigger * 2)
    m.setRole 4
  | none => m

/-- HANDOVER_ABORT arrives (R712): the incoming unit turns its outputs off. -/
def abortIn (m : Module) : Module :=
  match m.dpx.ho with
  | some h =>
    if m.role ≠ 6 ∨ h.out then m else
    ((m.raise F.DPX_EVT_ABORT).dpxLog 0x2E03 0).setRole (if m.ownReady && m.follows then 5 else 4)
  | none => m

/-- 2 ms after the offer no TAKEN has come (R712; log entry 42). -/
def handoverTimeout (m : Module) : Module :=
  match m.dpx.ho with
  | some h =>
    if m.role ≠ 6 ∨ ! h.out ∨ m.now < h.sentUs + 2000 then m else
    (((m.raise F.DPX_EVT_ABORT).dpxLog 0x2E03 1).setRole 2).dpxControl 3 0 0 0
  | none => m

/-- A request of DPX_CTRL (R690, R711, R720, R725). -/
def dpxRequest (m : Module) (v : Nat) : Module :=
  if bits v 31 16 ≠ 0x4458 ∨ m.flag F.DPX_CTRL_STAT_PEND then m else
  match bits v 3 0 with
  | 1 =>
    match m.handoverRefusal with
    | some st => m.wr F.DPX_CTRL_STAT_STATUS st
    | none => (m.wr F.DPX_CTRL_STAT_STATUS 0).handoverBegin 0
  | 2 => (m.wr F.DPX_CTRL_STAT_STATUS 0).lower F.DPX_STATE_HEM_DISTRUST
  | _ => m.wr F.DPX_CTRL_STAT_STATUS 0x10

/-- A write of DPX_CTRL, by the secure world (R725; log entry 42). -/
def dpxControlWrite (m : Module) (a : Access) (v : Nat) : Module := m.accessIf a 0x20C00038 a.world (·.dpxRequest v)

/-- The triggers that the ACTIVE unit finds in a sweep (R711). -/
def handoverTriggers (m : Module) : Module :=
  if m.role ≠ 2 then m else
  let f := m.fitness
  let vsBad := (List.range 4).any (fun g => ! bit f (8 + g)
    && (List.range 32).any (fun p => (m.chan (32 * g + p)).cmd != .off))
  if bits f 4 1 ≠ 15 then m.handoverBegin 2 else if vsBad then m.handoverBegin 3 else m

/-- A STANDBY_READY unit with SWITCH_FAIL asks for the driving role (R713). -/
def switchRequest (m : Module) : Module :=
  if m.role == 5 && m.dpx.asked.isNone && m.anySwFail && bit (m.rd F.DPX_FIT_PEER) 12 then
    (m.setDpx (fun d => { d with asked := some 5 })).dpxControl 4 0 0 0
  else m

/-- The time of R713 runs while the unit is STANDBY_READY with all bits of FIT at 1. -/
def revertWatch (m : Module) : Module :=
  let t := m.now
  m.when (m.role != 5 || m.fitness != 0x1FFF) (·.setDpx (fun d => { d with revertUs := t }))

/-- Unit 0, ready for REVERT_HOLD_S, asks for the driving role back (R713). -/
def revertRequest (m : Module) : Module :=
  let held := decide (m.dpx.revertUs + m.rd F.DPX_TIMING_REVERT_HOLD_S * 1000000 ≤ m.now)
  let fit := m.fitness == 0x1FFF && bit (m.rd F.DPX_FIT_PEER) 12 && ! m.pathLost 0
  if held && fit && m.unitNo == 0 && m.role == 5 && m.flag F.DPX_CFG_REVERT_EN then
    (m.setDpx (fun d => { d with asked := some 4 })).dpxControl 4 0 0 0
  else m

/-! ### Evidence of dual drive -/

/-- Channel `n` meets the condition of the third kind (R714). -/
def hemConflict (m : Module) (n : Nat) : Bool :=
  let c := m.chan n
  m.role == 2 && c.cmd == .off && c.energised && ! m.dpx.sts.contains n

/-- The evidence of the third kind of one sweep (R714; log entry 43). -/
def hemSweep (m : Module) : Module :=
  let l := channelsWith m.hemConflict
  let groups := (List.range 4).filter (fun g => l.any (fun n => n / 32 == g))
  let m := forEach (List.range 4) (fun w m =>
    m.wr F.DPX_HEM_CONFLICT_MAP ((l.filter (fun n => n / 32 == w)).foldl (fun v n => v + 2 ^ (n % 32)) 0) w) m
  m.setDpx (fun d => { d with hemRun := if 2 ≤ groups.length then d.hemRun + 1 else 0 })

/-- 125 sweeps in a row met the condition (R690, R714). -/
def hemEvidence (m : Module) : Module :=
  if m.role ≠ 2 ∨ m.peerRole = 6 ∧ m.peerHeard ∨ m.dpx.hemRun < 125 then m
  else if m.unitNo = 1 ∧ m.flag F.DPX_STATE_HEM_DISTRUST then m
  else m.dualActive 3 (! m.flag F.DPX_STATE_COLLAR_CONFLICT)

/-! ### Sweeps and cycles -/

/-- Both units of a handover excite (R712, R826): the incoming unit from its engagement on, which is at its sweep nearest S, the
outgoing unit from its own sweep S on. The readings of a frame in which they do are discarded. -/
def handoverExcite (m : Module) : Module :=
  let both := m.role == 6 && m.dpx.ho.any (fun h =>
    h.engaged || (h.out && decide ((m.rd F.CHC_SWEEP_NUM + 2 ^ 32 - h.sweep) % 2 ^ 32 < 2 ^ 31)))
  m.when both (fun m => { m with uin := { m.uin with exciteChanged := true } })

/-- What DPX does at a sweep boundary (R691, R703, R705, R706, R711, R713, R714, R826). -/
def dpxSweep (m : Module) : Module :=
  if m.role = 0 then m else
  let m := m.setDpx (fun d =>
    { d with sinceMirror := d.sinceMirror + 1, joined := false, peerSweep := (d.peerSweep + 1) % 2 ^ 32 })
  let m := (m.when m.dpx.engage (·.engageNow)).handoverExcite
  let m := (m.judgeOwn).hemSweep
  let m := (m.wr F.DPX_FIT_OWN m.fitness).revertWatch
  ((m.handoverTriggers).switchRequest).mirrorSend

/-- Region `r` is copied through the bridge in writes of 256 bytes (R709). -/
def snapCopy (m : Module) (r : Nat) : Module :=
  let a := m.iattr 0x23
  let (m, l) := m.busRead a (m.rd F.DPX_SNAP_LOC_ADDR r) (m.rd F.DPX_SNAP_DST_LEN r)
  match l with
  | none => m.setMap F.DPX_SNAP_READY_REGIONS r false
  | some l =>
    let m := m.raise F.DPX_SNAP_STAT_BUSY
    forEach (List.range (l.length / 256)) (fun k m =>
      let x : BridgeMsg := { kind := 0x13, snap := true, part := m.rd F.DPX_SNAP_LOC_PART r, addr := m.rd F.DPX_SNAP_DST_ADDR r + 256 * k
                             len := 256, firstBe := 15, lastBe := 15, ini := 0x23, data := (l.drop (256 * k)).take 256 }
      m.request { tag := 0, kind := 0x13, acc := a, addr := 0, size := 256, base := x.addr, waits := false } x) m

/-- DPX copies the regions named in `v` while the bridge is UP; at the fallback rate only in every tenth cycle (R708,
R709; log entry 43). -/
def snapStart (m : Module) (v : Nat) : Module :=
  if ! m.bridgeUp || m.role != 2 && m.role != 6 || (m.degraded && m.rd F.DPX_CYCLE_NUM % 10 != 0) then m
  else forEach (bitsSet 16 v) (fun r m => m.when (m.flag F.DPX_SNAP_DST_LEN r) (fun m => m.snapCopy r)) m

/-- A write of DPX_SNAP_READY (R709). -/
def snapReady (m : Module) (v : Nat) : Module :=
  let old := m.rd F.DPX_SNAP_READY_REGIONS
  let m := m.wr F.DPX_SNAP_READY_REGIONS (old ||| (v % 2 ^ 16))
  m.snapStart ((v % 2 ^ 16) &&& (old ^^^ 0xFFFF))

/-- A write of region `r`'s copy has not been answered. -/
def snapPending (m : Module) (r : Nat) : Bool :=
  m.pbr.reqs.any (fun q => q.acc.ini == 0x23 && ! q.waits && q.kind == 0x13 && decide (m.rd F.DPX_SNAP_DST_ADDR r ≤ q.base)
    && decide (q.base < m.rd F.DPX_SNAP_DST_ADDR r + m.rd F.DPX_SNAP_DST_LEN r))

/-- The copy of region `r` ends, with the answer to its last write; SNAP_DONE follows the last region (R709, R737, R753). -/
def snapCopied (m : Module) (r : Nat) : Module :=
  if ! bit (m.rd F.DPX_SNAP_READY_REGIONS) r || ! m.flag F.DPX_SNAP_STAT_BUSY || m.snapPending r then m else
  let m := (m.setMap F.DPX_SNAP_READY_REGIONS r false).setMap F.DPX_SNAP_STAT_COPIED r
  if m.rd F.DPX_SNAP_READY_REGIONS ≠ 0 then m else
  (m.lower F.DPX_SNAP_STAT_BUSY).when m.bridgeUp (·.enqueue
    { kind := 0x17, op := 24, len := 4, data := netBytes 4 (m.rd F.DPX_CYCLE_NUM) })

/-- SNAP_DONE arrives (R709, R753). -/
def snapDone (m : Module) (cycle : Nat) : Module :=
  ((m.raise F.DPX_EVT_SNAP_DONE).wr F.DPX_SNAP_CYCLE_NUM cycle).wr F.DPX_SNAP_AGE_CYCLES 0

/-- An incoming handover reaches boundary C (R712 step 5). -/
def handoverIn (m : Module) : Module :=
  match m.dpx.ho with
  | some h =>
    if m.role = 6 ∧ ! h.out ∧ h.taken = some (m.rd F.DPX_CYCLE_NUM) then
      (((m.raise F.DPX_EVT_HANDOVER_IN).addW F.DPX_COUNT_HANDOVERS 1).dpxLog 0x2E02 (h.trigger * 2)).setRole 2
    else m
  | none => m

/-- A control-cycle boundary is due (R710): every CYCLE_US after the last one where the boundaries follow a peer's; else, on the
unit that drives, at the multiples of CYCLE_US of LSS_MTIME (log entry 43). -/
def cycleDue (m : Module) : Bool :=
  let c := m.rd F.DPX_TIMING_CYCLE_US
  if m.dpx.shadow then decide (c ≤ m.dpx.phaseUs) else m.drives && m.rd F.LSS_MTIME_US % c == 0 && m.dpx.phaseUs != 0

/-- A control-cycle boundary, or its shadow on a standby unit (R710; log entry 43). -/
def cycleBoundary (m : Module) : Module :=
  if ! m.flag F.DPX_CFG_EN || ! m.cycleDue then m else
  let m := (m.addW F.DPX_CYCLE_NUM 1).setDpx (fun d => { d with phaseUs := 0 })
  let m := m.wr F.DPX_SNAP_STAT_COPIED 0
  let m := if m.drives then m.raise F.DPX_EVT_CYCLE else m.addS F.DPX_SNAP_AGE_CYCLES 1
  let m := m.when (m.degraded && ! m.flag F.DPX_SNAP_STAT_BUSY) (fun m => m.snapStart (m.rd F.DPX_SNAP_READY_REGIONS))
  m.handoverIn

/-! ### Start-up -/

/-- The DUPLEX record breaks R721 or R722: the byte offset of what breaks it (log entry 42). -/
def duplexFault (w : List Nat) : Option Nat :=
  let g := fun k => w.getD k 0
  let regions := List.range (bits (g 8) 4 0)
  let len := fun r => bits (g (15 + 4 * r)) 24 8
  let loc := fun r => g (12 + 4 * r) + bits (g (13 + 4 * r)) 7 0 * 2 ^ 32
  let regionOk := fun r =>
    g (13 + 4 * r) / 2 ^ 12 == 0 && g (15 + 4 * r) / 2 ^ 25 == 0 && len r % 256 == 0 && decide (256 ≤ len r)
      && decide (len r ≤ 65536) && (memOf (loc r)).isSome && memOf (loc r + len r - 1) == memOf (loc r)
  if w.length ≠ 76 then some 0
  else if g 0 / 2 ^ 10 ≠ 0 ∨ bit (g 0) 3 ∨ 11 < bits (g 0) 7 4 ∨ bits (g 0) 9 8 = 0 then some 0
  else if g 1 = 0 then some 4
  else if g 2 % 2 ^ 16 < 500 ∨ 10000 < g 2 % 2 ^ 16 ∨ g 2 / 2 ^ 16 < 10 ∨ 3600 < g 2 / 2 ^ 16 then some 8
  else if g 3 / 2 ^ 20 ≠ 0 ∨ g 3 % 2 ^ 16 < 500 ∨ 20000 < g 3 % 2 ^ 16 ∨ g 3 % 2 ^ 16 < g 2 % 2 ^ 16 + 500 then some 0x0C
  else if g 5 / 2 ^ 28 ≠ 0 ∨ bits (g 5) 27 16 < 1 ∨ 4094 < bits (g 5) 27 16 then some 0x14
  else if 0x7FE < g 6 ∨ g 6 % 2 = 1 then some 0x18
  else if g 7 / 2 ^ 24 ≠ 0 then some 0x1C
  else if 16 < g 8 then some 0x20
  else if g 9 ≠ 0 ∨ g 10 ≠ 0 ∨ g 11 ≠ 0 then some 0x24
  else
    match regions.find? (fun r => ! regionOk r) with
    | some r => some (0x30 + 16 * r)
    | none => if 262144 < (regions.map len).sum then some 0x20 else none

/-- The fields of the record take effect (R721, R725). -/
def duplexFields (m : Module) (w : List Nat) : Module :=
  let g := fun k => w.getD k 0
  let m := (((m.wr F.DPX_CFG_EN (bits (g 0) 0 0)).wr F.DPX_CFG_REVERT_EN (bits (g 0) 1 1)).wr F.DPX_CFG_CAN_EN (bits (g 0) 2 2)).wr
    F.DPX_CFG_CAN_SEL (bits (g 0) 7 4)
  let m := ((m.wr F.DPX_CFG_UPLINKS (bits (g 0) 9 8)).wr F.DPX_PAIR_ID_ID (g 1)).wr F.DPX_TIMING_CYCLE_US (bits (g 2) 15 0)
  let m := ((m.wr F.DPX_TIMING_REVERT_HOLD_S (bits (g 2) 31 16)).wr F.DPX_SUP_CFG_SUP_WDT_US (bits (g 3) 15 0)).wr
    F.DPX_SUP_CFG_SUP_PART (bits (g 3) 19 16)
  let m := ((m.wr F.DPX_PEER_MAC_LO_ADDR (g 4)).wr F.DPX_PEER_MAC_HI_ADDR (bits (g 5) 15 0)).wr F.DPX_PEER_MAC_HI_VID (bits (g 5) 27 16)
  let m := (m.wr F.DPX_CAN_ID_ID (g 6)).wr F.DPX_WAKE_FWD_SEGS (g 7)
  forEach (List.range (min 16 (bits (g 8) 4 0))) (fun r m =>
    let a := g (13 + 4 * r)
    let b := g (15 + 4 * r)
    (((m.wr F.DPX_SNAP_LOC_ADDR (g (12 + 4 * r) + bits a 7 0 * 2 ^ 32) r).wr F.DPX_SNAP_LOC_PART (bits a 11 8) r).wr
      F.DPX_SNAP_DST_ADDR (g (14 + 4 * r) + bits b 7 0 * 2 ^ 32) r).wr F.DPX_SNAP_DST_LEN (bits b 24 8) r) m

/-- DPX configures objects 126 and 127 of the heartbeat controller (R613, R685, R698). -/
def duplexCan (m : Module) : Module :=
  let c := m.rd F.DPX_CFG_CAN_SEL
  let u := m.unitNo
  let obj := fun (m : Module) (o dir id : Nat) =>
    let m := ((m.raise F.CAN_OBJ_CFG_EN c o).wr F.CAN_OBJ_CFG_DIR dir c o).wr F.CAN_OBJ_CFG_FMT 2 c o
    (m.wr F.CAN_OBJ_ID_ID (id * 2 ^ 18) c o).wr F.CAN_OBJ_MASK_MASK (2 ^ 29 - 1) c o
  let m := obj m 126 1 (m.rd F.DPX_CAN_ID_ID + u)
  (obj m 127 0 (m.rd F.DPX_CAN_ID_ID + 1 - u)).wr F.CAN_OBJ_CTRL_DLC 4 c 126

/-- The DUPLEX record of the image that the boot region holds is applied (R686, R689, R692, R723): its fields are loaded whatever it holds
(R14); with EN = 0 the role stays OFF, and one that breaks R721 or R722 makes the unit INCOMPATIBLE (log entry 42). -/
def duplexApply (m : Module) : Module :=
  if m.role ≠ 0 ∨ ! m.boot.region then m else
  match recordWords m.bootRegion 0x10 with
  | none => m
  | some w =>
  let t := m.now
  let m := m.duplexFields w
  let m := (m.saveCfg 0x20C00000 0x20C00010).saveCfg 0x20C00100 0x20D00000
  if ! bit (w.getD 0 0) 0 then m else
  match duplexFault w with
  | some off => (m.dpxLog 0x2E0B 0x10 off).setRole 7
  | none => (((m.when (m.flag F.DPX_CFG_CAN_EN) (·.duplexCan)).lower F.DPX_STATE_DRIVE).setRole 1).supStart.setDpx (fun d =>
      { d with heardUs := t })

/-- A LISTEN unit becomes ACTIVE (R689): its supervisor watchdog starts afresh, and where it had no permission in step 8 its
initial states turn on under R254 (R273; log entry 42). -/
def goesActive (m : Module) : Module :=
  let had := m.drives
  (m.setRole 2).supStart.when (! had) (fun m => forEach (List.range 128) (fun n m => m.restart n) m)

/-- Step 9 begins once step 8 has completed (R125, R128, R689, R692; log entry 42). -/
def step9 (m : Module) : Module :=
  if ! m.boot.chanDone || m.dpx.step9 then m else
  let t := m.now
  let m := m.setDpx (fun d => { d with step9 := true, step9Us := t })
  if m.role ≠ 1 then m.showDpx
  else if m.activeHeard then m.setRole 4
  else if m.unitNo = 0 ∧ m.mayLead then m.goesActive else m.showDpx

/-- The initial state of channel `n` with the "Otherwise" column of R273. -/
def coldState (m : Module) (n : Nat) : Module :=
  let c := m.chan n
  let on := c.init == 1 || c.init == 3
  let m := m.setChan n (fun c => { c with cmd := if on then .on else .off })
  m.when (on && c.phase == .off && m.mayTurnOn n) (fun m => m.turnOn n true)

/-- 10 s without a peer while the collar reads released (R689, R690). -/
def coldStarts (m : Module) : Module :=
  if m.role ≠ 4 ∨ m.flag F.DPX_STATE_COLLAR_IN ∨ m.peerHeard ∨ ! m.mayLead
    ∨ m.now < max m.dpx.heardUs m.dpx.collarUs + 10000000 then m else
  let m := m.setDpx (fun d => { d with shadow := false })
  let ages := (List.range 3).map (fun k => m.rd F.DPX_PATH_AGE_US k)
  let m := (m.setRole 2).supStart
  let m := ((m.raise F.DPX_EVT_COLD_START).wr F.DPX_LAST_TO_CAUSE 5).wr F.DPX_LAST_TO_DECIDE_US (sat 12 (ages.foldl min 0xFFFF))
  let m := (m.wr F.DPX_LAST_TO_TIME_US (m.nowU % 2 ^ 32)).dpxLog 0x2E09 (m.rd F.DPX_STATE_HEM_DISTRUST)
  forEach (List.range 128) (fun n m => m.coldState n) m

/-! ### Supervisor -/

/-- A write of DPX_SUP_KICK (R689, R694; log entry 42). -/
def supKicked (m : Module) (v : Nat) : Module :=
  if bits v 15 0 ≠ 0xC011 ∨ m.role = 0 ∨ m.role = 7 then m else
  let m := m.supStart
  if m.role = 3 ∧ ! m.activeHeard ∧ m.mayLead then m.setRole 2 else m

/-- The supervisor watchdog expires (R694, R695; log entry 42). -/
def supExpires (m : Module) : Module :=
  if m.role = 0 ∨ m.role = 7 ∨ m.flag F.DPX_SUP_STAT_REMAIN_US then m else
  (m.setDpx (fun d => { d with supOk := false })).supFails 0

/-! ### Standby self-test -/

/-- A test pulse runs in group `g` (R716). -/
def pulsing (m : Module) (g : Nat) : Bool := (List.range 32).any (fun p => (m.chan (32 * g + p)).pulse)

/-- The mirrors have met R824 over the span that ends now: t_7 and 20 ms more. -/
def steadyFor (m : Module) (n : Nat) : Bool :=
  let from_ := tget 0 m.dpx.steady n
  let t7 := (((m.profileOf (m.chan n)).pts.getLast?).map Prod.fst).getD 0 * 10
  from_ != 0 && decide (m.dpx.sinceMirror ≤ 16) && decide (from_ + t7 + 20000 ≤ m.now + 1)

/-- A pulse of channel `n` is due (R716): once per 10 s, and 1 ms or more after the last one of its group. -/
def pulseDue (m : Module) (n : Nat) : Bool :=
  let last := tget 0 m.dpx.pulseFrom n
  let grp := tget 0 m.dpx.pulseEnd (n / 32)
  (last == 0 || decide (last + 10000000 ≤ m.now + 1)) && (grp == 0 || decide (grp + 1000 ≤ m.now + 1))

/-- A test pulse begins (R716, R717, R824; log entry 44). -/
def pulseBegin (m : Module) (n : Nat) : Module :=
  let c := m.chan n
  let t := m.now
  let mirroredOn := tget 0 m.dpx.peerCmd n == 1 && bit m.dpx.peerCond n
  let ok := (m.role == 4 || m.role == 5) && m.steadyFor n && m.pulseDue n && mirroredOn && c.phase == .off
    && m.freeToTurnOn n && m.vauxAllows n && ! m.pulsing (n / 32)
  m.when ok (fun m => (m.setDpx (fun d => { d with pulseFrom := tset 0 d.pulseFrom n (t + 1) })).setChan n (fun c =>
    { c with carried := false, slew := 0, pulse := true, phase := .turningOn, ocCount := 0, diag := .none, protOff := false
             inForce := c.load % 2 ^ 16 }))

/-- Channel `n` has been pulsed; with every channel that is mirrored ON pulsed, a pass is complete (R716; log entry 44). -/
def covPulse (m : Module) (n : Nat) : Module :=
  let s := setBit m.dpx.cov.pulsed n true
  let now := m.covNow
  if (List.range 128).all (fun k => tget 0 m.dpx.peerCmd k != 1 || bit s k) then
    (m.addW F.DPX_COV_PULSE_PASSES 1).setCov (fun c => { c with pulsed := 0, pulseAt := now })
  else m.setCov (fun c => { c with pulsed := s })

/-- A test pulse ends (R717): it gives no result where a protection ended it, or a takeover or a new CMD overtook it
(log entry 44). -/
def pulseEnd (m : Module) (n : Nat) : Module :=
  let c := m.chan n
  let t := m.now
  let begun := tget 0 m.dpx.pulseFrom n
  if ! c.pulse || (c.conducting && t + 1 < begun + 50) then m else
  let reached := c.phase == .on && decide (c.onAt < begun + 10)
  let m := m.setDpx (fun d => { d with pulseEnd := tset 0 d.pulseEnd (n / 32) (t + 1) })
  let m := m.setChan n (fun c => { (if c.conducting then beginOff c t false false true else c) with pulse := false })
  if c.protOff || ! c.conducting || m.drives || tget 0 m.dpx.peerCmd n != 1 then m else
  let fails := if reached && (c.carried || c.reverse) then 0 else tget 0 m.dpx.pulseRun n + 1
  let m := (m.setDpx (fun d => { d with pulseRun := tset 0 d.pulseRun n fails })).covPulse n
  if fails < 2 then m
  else ((m.putMapBit F.DPX_PULSE_FAIL_MAP n).raise F.DPX_EVT_SELFTEST_FAIL).dpxLog 0x2E0A n

/-- DPX moves the next partition to the SPARE pair (R716; log entry 44). -/
def rotatePair (m : Module) : Module :=
  let next := (List.range 16).map (fun k => (m.dpx.rotated + 1 + k) % 16)
  let part := next.find? (fun p => m.movable p)
  match part with
  | some p =>
    let due := m.dpx.rotatedUs == 0 || decide (m.dpx.rotatedUs + 10000000 ≤ m.now + 1)
    if (m.role = 4 ∨ m.role = 5) ∧ due ∧ m.sparePair.isSome ∧ m.lss.moveReq.isNone then
      let t := m.now
      let m := { m with lss := { m.lss with rotating := true }, dpx := { m.dpx with rotated := p, rotatedUs := t + 1 } }
      m.moveAccept 1 p
    else m
  | none => m

end Module

/-! ### Commands -/

/-- DUPLEX_RECORD_APPLY (R686, R689, R692, R723). -/
def execDuplexRecordApply (s : State) : Host.Outcome State Fault Refusal := s.runIn 0x0E (fun m => m.duplexApply)

/-- STEP9_BEGIN (R689, R692). -/
def execStep9Begin (s : State) : Host.Outcome State Fault Refusal := s.runIn 0x0E (fun m => m.step9)

/-- UNIT1_LISTEN_TIMEOUT (R689). -/
def execUnit1ListenTimeout (s : State) : Host.Outcome State Fault Refusal :=
  s.runIn 0x0E (fun m => m.when (m.role == 1 && m.dpx.step9 && m.unitNo == 1 && ! m.activeHeard && m.mayLead
    && decide (m.dpx.step9Us + 300000 ≤ m.now)) (·.goesActive))

/-- HEARTBEAT_TX (R462, R696–R698). -/
def execHeartbeatTx (path : Fin 3) (s : State) : Host.Outcome State Fault Refusal := s.runIn 0x0E (fun m => m.heartbeat path.val)

/-- HEARTBEAT_RX (R314, R689, R690, R698, R699, R714, R715, R720). -/
def execHeartbeatRx (path : Fin 3) (x : Heartbeat) (s : State) : Host.Outcome State Fault Refusal :=
  s.runIn 0x0E (fun m => m.heartbeatIn path.val x)

/-- MIRROR_RX (R203, R689, R691, R707, R708). -/
def execMirrorRx (path : Fin 2) (x : Mirror) (s : State) : Host.Outcome State Fault Refusal :=
  s.runIn 0x0E (fun m => m.mirrorIn path.val x)

/-- HANDOVER_OFFER (R689, R712, R720). -/
def execHandoverOffer (path : Fin 2) (head : DuplexHead) (sweep : Nat) (s : State) : Host.Outcome State Fault Refusal :=
  s.runIn 0x0E (fun m => m.controlIn path.val head (·.offerIn sweep))

/-- HANDOVER_TAKEN (R314, R689, R690, R712, R720, R826): the outgoing unit needs neither the sweep nor the cycle named. -/
def execHandoverTaken (path : Fin 2) (head : DuplexHead) (_sweep _cycle : Nat) (s : State) : Host.Outcome State Fault Refusal :=
  s.runIn 0x0E (fun m => m.controlIn path.val head (·.takenIn))

/-- HANDOVER_ABORT (R689, R712). -/
def execHandoverAbort (path : Fin 2) (head : DuplexHead) (s : State) : Host.Outcome State Fault Refusal :=
  s.runIn 0x0E (fun m => m.controlIn path.val head (·.abortIn))

/-- HANDOVER_REQUEST (R689, R711, R720). -/
def execHandoverRequest (path : Fin 2) (head : DuplexHead) (s : State) : Host.Outcome State Fault Refusal :=
  s.runIn 0x0E (fun m => m.controlIn path.val head (·.handoverBegin 1))

/-- COLLAR_IN_CHANGE (R693). -/
def execCollarInChange (asserted : Bool) (s : State) : Host.Outcome State Fault Refusal := s.runIn 0x0E (fun m => m.collarIn asserted)

/-- PATH_LOST (R699, R708, R715, R728, R729). -/
def execPathLost (path : Fin 3) (s : State) : Host.Outcome State Fault Refusal := s.runIn 0x0E (fun m => m.pathFails path.val)

/-- PATH_RESTORED (R699, R708, R720, R728). -/
def execPathRestored (path : Fin 3) (s : State) : Host.Outcome State Fault Refusal := s.runIn 0x0E (fun m => m.pathBack path.val)

/-- SUP_KICK (R689, R694): SUP_PART of world 0 only; any other write is refused with FW_DENY. -/
def execSupKick (a : Access) (v : Word) (s : State) : Host.Outcome State Fault Refusal :=
  s.runBy a 1 (fun a m => m.access a 0x20C00030 1 (fun m =>
    if ! a.world && a.part == m.rd F.DPX_SUP_CFG_SUP_PART then m.supKicked v.toNat
    else m.refuse a 0x20C00030 1 { status := 2, code := 1, block := 0x0E }))

/-- SUP_WATCHDOG_EXPIRY (R689, R694, R695, R729). -/
def execSupWatchdogExpiry (s : State) : Host.Outcome State Fault Refusal := s.runIn 0x0E (fun m => m.supExpires)

/-- TAKEOVER (R115, R314, R689, R691, R702, R703, R710, R720, R826). -/
def execTakeover (s : State) : Host.Outcome State Fault Refusal := s.runIn 0x0E (fun m => m.takeover)

/-- HANDOVER_ENGAGE (R314, R691, R712, R826). -/
def execHandoverEngage (s : State) : Host.Outcome State Fault Refusal := s.runIn 0x0E (fun m => m.handoverEngages)

/-- HANDOVER_TIMEOUT (R689, R712). -/
def execHandoverTimeout (s : State) : Host.Outcome State Fault Refusal := s.runIn 0x0E (fun m => m.handoverTimeout)

/-- HANDOVER (R689, R711, R720, R725): a write of DPX_CTRL. -/
def execHandover (a : Access) (v : Word) (s : State) : Host.Outcome State Fault Refusal :=
  s.runBy a 1 (fun a m => m.dpxControlWrite a v.toNat)

/-- CLEAR_DISTRUST (R690, R725): a write of DPX_CTRL. -/
def execClearDistrust (a : Access) (v : Word) (s : State) : Host.Outcome State Fault Refusal :=
  s.runBy a 1 (fun a m => m.dpxControlWrite a v.toNat)

/-- COLD_START (R273, R689, R690). -/
def execColdStart (s : State) : Host.Outcome State Fault Refusal := s.runIn 0x0E (fun m => m.coldStarts)

/-- COLLAR_CONFLICT (R714): ignored while a unit is in HANDOVER. -/
def execCollarConflict (s : State) : Host.Outcome State Fault Refusal :=
  s.runIn 0x0E (fun m => m.when (m.role == 2 && m.flag F.DPX_STATE_COLLAR_IN && ! (m.peerRole == 6 && m.peerHeard)
      && decide (m.dpx.collarUs + 100 ≤ m.now))
    (·.raise F.DPX_STATE_COLLAR_CONFLICT))

/-- HEM_CONFLICT (R690, R714). -/
def execHemConflict (s : State) : Host.Outcome State Fault Refusal := s.runIn 0x0E (fun m => m.hemEvidence)

/-- COLLAR_OPEN (R715). -/
def execCollarOpen (s : State) : Host.Outcome State Fault Refusal :=
  s.runIn 0x0E (fun m => m.when (m.role != 0 && ! m.flag F.DPX_STATE_COLLAR_IN && m.dpx.peerHeld
    && decide (m.dpx.collarUs + 1000 ≤ m.now)) (·.collarOpened true))

/-- CYCLE_BOUNDARY (R710, R712). -/
def execCycleBoundary (s : State) : Host.Outcome State Fault Refusal := s.runIn 0x0E (fun m => m.cycleBoundary)

/-- SNAP_READY_WRITE (R709). -/
def execSnapReadyWrite (a : Access) (v : Word) (s : State) : Host.Outcome State Fault Refusal :=
  s.runBy a 1 (fun a m => m.access a 0x20C0005C 1 (·.snapReady v.toNat))

/-- SNAP_COPY_DONE (R709, R753). -/
def execSnapCopyDone (region : Fin 16) (s : State) : Host.Outcome State Fault Refusal := s.runIn 0x0E (fun m => m.snapCopied region.val)

/-- SNAP_DONE (R709). -/
def execSnapDone (cycle : Nat) (s : State) : Host.Outcome State Fault Refusal := s.runIn 0x0E (fun m => m.snapDone cycle)

/-- ON_PULSE (R716, R717, R824). -/
def execOnPulse (c : Fin 128) (s : State) : Host.Outcome State Fault Refusal := s.runIn 0x0E (fun m => m.pulseBegin c.val)

/-- ON_PULSE_END (R717). -/
def execOnPulseEnd (c : Fin 128) (s : State) : Host.Outcome State Fault Refusal := s.runIn 0x0E (fun m => m.pulseEnd c.val)

/-- PAIR_ROTATION (R716). -/
def execPairRotation (s : State) : Host.Outcome State Fault Refusal := s.runIn 0x0E (fun m => m.rotatePair)

/-- REVERT (R713). -/
def execRevert (s : State) : Host.Outcome State Fault Refusal := s.runIn 0x0E (fun m => m.revertRequest)

end Sys2Proof.Machine
end

