-- ==== Sys2Proof/Machine/Manifest.lean ====
section
/-!
DEFINITION. Manifests, components and their order (R757–R764, R771–R773).
-/
namespace Sys2Proof.Machine

/-- A component entry (R759). -/
structure Comp where
  kind : Nat
  item : Nat
  lo : Nat
  hi : Nat
  schema : Nat
  fromMin : Nat
  aux : Nat
  auxLen : Nat
deriving DecidableEq, Repr

/-- A rule entry (R760): object versions as 64-bit numbers (R764). -/
structure Rule where
  rule : Nat
  subject : Nat
  kind : Nat
  item : Nat
  lo : Nat
  hi : Nat
deriving DecidableEq, Repr

/-- A version as the number of R764. -/
def versionOf (lo hi : Nat) : Nat := lo * 2 ^ 32 + hi

namespace Source

/-- Fields of the manifest header (R758). -/
def manSecver (r : Source) : Nat := bits (word r 0x0C) 7 0
def manSeq (r : Source) : Nat := word r 0x10
def payloadLen (r : Source) : Nat := word r 0x14
def chunks (r : Source) : Nat := word r 0x18
def compCount (r : Source) : Nat := bits (word r 0x1C) 7 0
def ruleCount (r : Source) : Nat := bits (word r 0x1C) 23 16
def compOff (r : Source) : Nat := word r 0x20
def ruleOff (r : Source) : Nat := word r 0x24
def hashOff (r : Source) : Nat := word r 0x28
def manSig (r : Source) : Nat := word r 0x2C

/-- The probation time in s (R758). -/
def probation (r : Source) : Nat := if bits (word r 0x30) 19 0 = 0 then 600 else bits (word r 0x30) 19 0

/-- The length of the manifest, its signature block included (R762). -/
def manLen (r : Source) : Nat := manSig r + sigBlockLen r (manSig r)

/-- Component `c` (R759). -/
def comp (r : Source) (c : Nat) : Comp :=
  let o := compOff r + 32 * c
  { kind := bits (word r o) 3 0, item := bits (word r o) 11 8, lo := word r (o + 4), hi := word r (o + 8)
    schema := bits (word r (o + 12)) 15 0, fromMin := bits (word r (o + 12)) 31 16
    aux := word r (o + 16) + bits (word r (o + 20)) 7 0 * 2 ^ 32, auxLen := word r (o + 24) }

/-- The components, by index. -/
def comps (r : Source) : List Comp := (List.range (compCount r)).map (comp r)

/-- Rule `k` (R760). -/
def ruleAt (r : Source) (k : Nat) : Rule :=
  let o := ruleOff r + 24 * k
  { rule := bits (word r o) 1 0, subject := bits (word r o) 12 8, kind := bits (word r o) 19 16, item := bits (word r o) 27 24
    lo := versionOf (word r (o + 4)) (word r (o + 8)), hi := versionOf (word r (o + 12)) (word r (o + 16)) }

/-- The rules. -/
def rules (r : Source) : List Rule := (List.range (ruleCount r)).map (ruleAt r)

/-- The digest of chunk `i` (R761). -/
def chunkHash (r : Source) (i : Nat) : List Byte := r (hashOff r + 32 * i) 32

end Source

open Source

/-- The fields of component `c` lie within their ranges (R759, R763). -/
def compOk (r : Source) (c : Nat) : Bool :=
  let o := compOff r + 32 * c
  let x := comp r c
  decide (1 ≤ x.kind) && decide (x.kind ≤ 6) && bits (word r o) 7 4 == 0 && bits (word r o) 31 12 == 0
    && bits (word r (o + 20)) 31 8 == 0 && word r (o + 28) == 0 && (x.kind == 1 || x.item == 0)
    && (if x.kind = 1 then x.auxLen % 256 == 0 && decide (256 ≤ x.auxLen) && decide (x.auxLen ≤ 1048576)
        else if x.kind = 6 then decide (1 ≤ x.auxLen) && decide (x.auxLen ≤ 4) && decide (x.aux < 2 ^ 32)
        else x.aux == 0 && x.auxLen == 0)

/-- The fields of rule `k` lie within their ranges (R760, R763). -/
def ruleOk (r : Source) (k : Nat) : Bool :=
  let o := ruleOff r + 24 * k
  let x := ruleAt r k
  (x.rule == 1 || x.rule == 2) && decide (x.subject < compCount r) && decide (1 ≤ x.kind) && decide (x.kind ≤ 6)
    && bits (word r o) 7 2 == 0 && bits (word r o) 15 13 == 0 && bits (word r o) 23 20 == 0 && bits (word r o) 31 28 == 0
    && word r (o + 20) == 0

/-- Check 1 of R763. -/
def manifestOk (r : Source) : Bool :=
  let p := bits (word r 0x30) 19 0
  word r 0 == 0x464E414D && word r 4 == 1 && word r 8 == 0x1280 && crc32 (r 0 0xFC) == word r 0xFC
    && bits (word r 0x0C) 31 8 == 0 && decide (manSecver r ≤ 128)
    && payloadLen r % 4096 == 0 && decide (0x10000 ≤ payloadLen r) && decide (payloadLen r ≤ 0x6000000)
    && chunks r * 4096 == payloadLen r && decide (1 ≤ compCount r) && decide (compCount r ≤ 32)
    && decide (ruleCount r ≤ 64) && bits (word r 0x1C) 15 8 == 0 && bits (word r 0x1C) 31 24 == 0
    && compOff r % 16 == 0 && ruleOff r % 16 == 0 && hashOff r % 16 == 0 && manSig r % 4096 == 0
    && decide (compOff r + 32 * compCount r ≤ manSig r) && decide (ruleOff r + 24 * ruleCount r ≤ manSig r)
    && decide (hashOff r + 32 * chunks r ≤ manSig r) && decide (manLen r ≤ 0x100000)
    && (p == 0 || (decide (60 ≤ p) && decide (p ≤ 86400))) && bits (word r 0x30) 31 20 == 0
    && (r 0x34 0xC8).all (fun b => b == 0)
    && (List.range (compCount r)).all (compOk r) && (List.range (ruleCount r)).all (ruleOk r)

/-- The checks of R763: the status of the first that fails. -/
def manifestStatus (otp : Otp) (lc counter imgSeq : Nat) (r : Source) : Nat :=
  if ! manifestOk r then 0x10
  else if ! (ecdsaOk r (manSig r) && hssOk r (manSig r)) then 8
  else if ! keysTrusted otp lc r (manSig r) then 2
  else if manSecver r < counter then 0x11
  else if manSeq r ≤ imgSeq then 0x11 else 0

/-- The digest of a manifest (R766). -/
def manDigest (r : Source) : List Byte := sha384 (r 0 (manLen r))

namespace Module

/-! ### The staging bank (R766) -/

/-- The staging bank: the bank that does not run, but while the running image is itself on trial the bank of that update. -/
def stagingBank (m : Module) : Nat :=
  if m.flag F.SYSCTL_BOOT_STAT_TRIAL && m.nvc.phase != 7 then m.rd F.SYSCTL_BOOT_STAT_BANK
  else 1 - m.rd F.SYSCTL_BOOT_STAT_BANK

/-- The manifest copy of bank `b`. -/
def manifestOf (m : Module) (b : Nat) : Source := fun o n => (m.bank b).read (0x6000000 + o) n

/-- The manifest copy of the staging bank. -/
def staged (m : Module) : Source := m.manifestOf m.stagingBank

/-- The payload of the staging bank. -/
def payload (m : Module) : Source := (m.bank m.stagingBank).read

/-- The staging header of bank `b` holds the digest of the manifest `r`: the digest at 0, CHUNKS at 0x30, VERIFIED at 0x34
(log entry 46). -/
def headerHolds (m : Module) (b : Nat) (d : List Byte) : Bool := (m.bank b).read 0x7FEE000 48 == d

/-- The VERIFIED word of the staging bank is programmed. -/
def verified (m : Module) : Bool := (m.bank m.stagingBank).word 0x7FEE034 == 0

/-- A manifest is held in bank `b`, and its digest is that of the header (log entry 46). -/
def manifestHeld (m : Module) (b : Nat) : Bool := m.headerHolds b (manDigest (m.manifestOf b))

/-- Chunk `i` is staged: in the bank's bitmap, or in the working one (R768). -/
def chunkStaged (m : Module) (i : Nat) : Bool :=
  ! bit (ofBytes ((m.bank m.stagingBank).read (0x7FEF000 + i / 8) 1)) (i % 8) || m.nvc.working.contains i

/-- CHUNKS of the staged manifest; 0 where no staging header stands. -/
def chunkCount (m : Module) : Nat :=
  let n := (m.bank m.stagingBank).word 0x7FEE030
  if n = 0xFFFFFFFF then 0 else n

/-- Chunks staged. -/
def stagedCount (m : Module) : Nat := ((List.range m.chunkCount).filter m.chunkStaged).length

/-! ### Versions (R771) -/

/-- An image's version as the number of R764. -/
def imageVersion (m : Module) : Nat := versionOf (m.rd F.SYSCTL_IMG_VER_LO_VER) (m.rd F.SYSCTL_IMG_VER_HI_VER)

/-- The component entry of `kind` and `item` in the manifest of the running bank, where that manifest stands. -/
def runningComp (m : Module) (kind item : Nat) : Option Comp :=
  let b := m.rd F.SYSCTL_BOOT_STAT_BANK
  if m.manifestHeld b then (comps (m.manifestOf b)).find? (fun c => c.kind == kind && c.item == item) else none

/-- The running version of `kind` and `item` before the update. -/
def baseVersion (m : Module) (kind item : Nat) : Nat :=
  match m.runningComp kind item with
  | some c => versionOf c.lo c.hi
  | none => m.imageVersion

/-- The running schema of `kind` and `item`. -/
def runningSchema (m : Module) (kind item : Nat) : Nat :=
  if kind = 2 then
    if m.rd F.CHC_STAT_BANK = 0 then m.rd F.CHC_UC_SCHEMA_BANK0 else m.rd F.CHC_UC_SCHEMA_BANK1
  else
    match m.runningComp kind item with
    | some c => c.schema
    | none => 0

/-- The version that `kind` and `item` runs with the components of `new` activated; with MODULE, every component is new. -/
def versionWith (m : Module) (new : List Nat) (kind item : Nat) : Nat :=
  let cs := comps m.staged
  let all := new.any (fun c => (cs.getD c ⟨0, 0, 0, 0, 0, 0, 0, 0⟩).kind == 5)
  match (List.range cs.length).find? (fun c => (all || new.contains c) && (comp m.staged c).kind == kind
      && (comp m.staged c).item == item) with
  | some c => versionOf (comp m.staged c).lo (comp m.staged c).hi
  | none => m.baseVersion kind item

/-! ### The order (R773) -/

/-- Place of a kind in the order of R773. -/
def kindRank (k : Nat) : Nat :=
  if k = 4 then 0 else if k = 2 then 1 else if k = 3 then 2 else if k = 1 then 3 else if k = 6 then 4 else 5

/-- The bundle carries a MODULE component. -/
def hasModule (m : Module) : Bool := (comps m.staged).any (fun c => c.kind == 5)

/-- The components to activate, in the order they are tried. -/
def toActivate (m : Module) : List Nat :=
  let r := m.staged
  let l := (List.range (compCount r)).filter (fun c => ! m.hasModule || (comp r c).kind == 5 || (comp r c).kind == 6)
  let rank := fun c => kindRank (comp r c).kind * 16 + (comp r c).item
  (List.range 96).flatMap (fun k => l.filter (fun c => rank c == k))

/-- Rule `x` holds with `new` activated: the object's version lies in its range. -/
def ruleHolds (m : Module) (new : List Nat) (x : Rule) : Bool :=
  let v := m.versionWith new x.kind x.item
  decide (x.lo ≤ v) && decide (v ≤ x.hi)

/-- Component `c` may be activated next after `new`. -/
def mayFollow (m : Module) (new : List Nat) (c : Nat) : Bool :=
  (rules m.staged).all (fun x =>
    if x.rule = 1 then x.subject != c || m.ruleHolds new x
    else ! (new ++ [c]).contains x.subject || m.ruleHolds (new ++ [c]) x)

/-- The order from `new` on; none where no component can follow. -/
def orderFrom (m : Module) : Nat → List Nat → List Nat → Option (List Nat)
  | _, _, [] => some []
  | 0, _, _ :: _ => none
  | fuel + 1, new, rest =>
    match rest.find? (m.mayFollow new) with
    | none => none
    | some c => (m.orderFrom fuel (new ++ [c]) (rest.erase c)).map (fun l => c :: l)

/-- The components activated, in activation order. -/
def activated (m : Module) : List Nat := m.nvc.done.map (fun d => d.comp)

/-- The order of the components not activated. -/
def orderLeft (m : Module) : Option (List Nat) :=
  let rest := m.toActivate.filter (fun c => ! m.activated.contains c)
  m.orderFrom rest.length m.activated rest

/-- NEXT (R773). -/
def nextComp (m : Module) : Option Nat := (m.orderLeft.getD []).head?

/-! ### Records of the staged and the running image (R772) -/

/-- Where the running image stands. -/
def runningImage (m : Module) : Source := (m.bank (m.rd F.SYSCTL_BOOT_STAT_BANK)).read

/-- The record type of a component kind (R765). -/
def kindType (k : Nat) : Nat := if k = 1 then 7 else if k = 2 then 8 else if k = 3 then 0xC else 5

/-- The record of the staged image that entry `e` names belongs to a listed component. -/
def listed (m : Module) (e : DirEntry) : Bool :=
  (comps m.staged).any (fun c => decide (c.kind ≤ 4) && kindType c.kind == e.type
    && (c.kind != 1 || word m.payload e.offset % 16 == c.item))

/-- R772: with no MODULE component, every record not listed is as in the running image. -/
def recordsUnchanged (m : Module) : Bool :=
  m.hasModule || (directory m.payload).all (fun e => m.listed e ||
    (directory m.runningImage).any (fun f => f.type == e.type && f.rver == e.rver && f.length == e.length && f.crc == e.crc))

/-- The record of component `c` in image `r`, as bytes. -/
def compRecord (r : Source) (c : Comp) : Option (List Byte) :=
  (recordsOf r (kindType c.kind)).find? (fun l => c.kind != 1 || (ofBytes (l.take 4)) % 16 == c.item)

end Module

end Sys2Proof.Machine
end

