-- ==== Sys2Proof/Machine/Pbr.lean ====
section
/-!
DEFINITION. The pair bridge (chapter 18) but for the execution of inbound requests (Machine/Inbound.lean): the session, the
local window, responses, doorbells, and what resends, retraction and the link's end do.
-/
namespace Sys2Proof.Machine

namespace Module

/-! ### What every message of the peer brings -/

/-- ACK: the messages up to it are acknowledged; a COMMIT among them needs no record any more (R734, R749;
log entry 13). -/
def acked (m : Module) (ack : Nat) : Module :=
  if m.pbr.unacked.all (fun x => x.msg.seq != ack) then m else
  let gone := m.pbr.unacked.takeWhile (fun x => x.msg.seq != ack) ++ (m.pbr.unacked.filter (fun x => x.msg.seq == ack)).take 1
  let cids := (gone.filter (fun x => x.msg.kind == 0x18)).map (fun x => x.msg.cid)
  m.setPbr (fun p => { p with unacked := p.unacked.drop gone.length
                              defers := p.defers.filter (fun d => ! (d.committed && cids.contains d.cid)) })

/-- Unit 1 retracts the requests and doorbells that it has not sent (R744). -/
def retract (m : Module) : Module :=
  if m.unitNo ≠ 1 ∨ ! m.flag F.PBR_STAT_BLOCKED ∨ m.flag F.PBR_STAT_RETRACTED then m else
  let out := fun (x : BridgeMsg) => isRequest x.kind || x.kind == 0x17
  let m := m.setPbr (fun p =>
    { p with retry := p.queue.filter out, queue := p.queue.filter (fun x => ! out x)
             retryTags := (p.inq.filter (fun r => isRequest r.msg.kind)).map (fun r => r.msg.tag)
               ++ (p.queue.filter (fun x => isResponse x.kind)).map (fun x => x.tag) })
  ((m.raise F.PBR_STAT_RETRACTED).addW F.PBR_CNT_CROSS_COUNT 1).raise F.PBR_EVT_CROSS

/-- What a message of the established session says of the peer (R734, R743, R744). -/
def hearPeer (m : Module) (x : BridgeMsg) : Module :=
  ((m.wrb F.PBR_STAT_PEER_BLOCKED x.blocked).acked x.ack).when x.blocked (·.retract)

/-- A message of the bridge arrives (R732, R734): `f` is its effect where it is accepted. An ACK_ONLY follows where nothing
else is sent. What arrives while the link of its path is down is lost (R823). -/
def bridgeIn (m : Module) (x : BridgeMsg) (f : Module → Module) : Module :=
  if ! m.pathOpen x.path then m
  else if x.version ≠ 1 ∨ 0x1B ≤ x.kind then m.addS F.PBR_CNT_BAD_COUNT 1
  else if ! m.bridgeUp ∨ x.session ≠ m.rd F.PBR_SESSION_PEER then m
  else
    let m := m.hearPeer x
    if ! sequenced x.kind then (f m).pump
    else if x.seq ≠ (m.pbr.lastSeq + 1) % 2 ^ 16 then m.pump
    else
      let n := m.pbr.nextSeq
      let m := (f (m.setPbr (fun p => { p with lastSeq := x.seq }))).pump
      m.when (m.bridgeUp && m.pbr.nextSeq == n) (·.emitMsg { kind := 0x1A })

/-- The same, for the messages of one KIND. -/
def kindIn (m : Module) (kind : Nat) (x : BridgeMsg) (f : Module → Module) : Module :=
  m.bridgeIn x (fun m => if x.kind = kind then f m else m)

/-! ### Session -/

/-- A HELLO arrives (R727, R729, R744; log entry 14). -/
def helloIn (m : Module) (x : BridgeMsg) : Module :=
  if ! m.pathOpen x.path then m
  else if x.version ≠ 1 then m.addS F.PBR_CNT_BAD_COUNT 1
  else if x.kind ≠ 0x10 then m
  else
    let pair := ofNetBytes (x.data.take 4) == m.rd F.DPX_PAIR_ID_ID
    let m := m.when (m.bridgeUp && x.session != m.rd F.PBR_SESSION_PEER) (·.linkDown 2)
    let new := x.session != m.rd F.PBR_SESSION_PEER
    let names := ofNetBytes ((x.data.drop 4).take 2) == m.rd F.PBR_SESSION_OWN && m.flag F.PBR_SESSION_OWN
    let m := (m.wr F.PBR_SESSION_PEER x.session).setPbr (fun p =>
      { p with paired := (p.paired && ! new) || pair, named := (p.named && ! new) || names })
    let m := m.when m.bridgeUp (·.hearPeer x)
    m.linkEstablish.pump

/-- A write of PBR_CTRL (R726, R727, R729). -/
def pbrEnable (m : Module) (v : Nat) : Module :=
  let m := m.wr F.PBR_CTRL_EN (v % 2)
  if v % 2 = 0 then m.linkDown 3 else (m.when (! m.flag F.PBR_SESSION_OWN) (·.newSession)).linkEstablish

/-! ### The local window (R739, R748, R750) -/

/-- The peer address of a local address in window `w` (R739). -/
def peerAddr (m : Module) (w addr : Nat) : Nat :=
  let n := m.rd F.PBR_WIN_A_SIZE_LOG2 w
  m.rd F.PBR_WIN_B_PEER_BASE w * 2 ^ 12 / 2 ^ n * 2 ^ n + winOffset addr % 2 ^ n

/-- An access to the window (R35, R739): `bitOf` is the window's bit that admits it (log entry 14). -/
def windowAccess (m : Module) (a : Access) (addr kind : Nat) (bitOf : Fam) (f : Module → Nat → Module) : Module :=
  m.access a addr kind (fun m =>
    match m.windowDeny addr bitOf with
    | some d => m.refuse a addr kind d
    | none => f m ((m.winOf addr).getD 0))

/-- Byte enables of the words of an access of `n` bytes at `addr` (R731, R733): the bytes covered, the first and the last
word's enables. -/
def spanOf (addr n : Nat) : Nat × Nat × Nat :=
  let len := (addr % 4 + n + 3) / 4 * 4
  let first := (2 ^ min 4 (addr % 4 + n) - 1) / 2 ^ (addr % 4) * 2 ^ (addr % 4)
  let last := if len = 4 then first else 2 ^ ((addr + n + 3) % 4 + 1) - 1
  (len, first, last)

/-- A message from a local initiator. -/
def localMsg (kind : Nat) (a : Access) (addr n : Nat) : BridgeMsg :=
  let s := spanOf addr n
  { kind := kind, world := a.world, part := a.part, ini := a.ini, addr := addr / 4 * 4, len := s.1, firstBe := s.2.1, lastBe := s.2.2 }

/-- COMMIT and CID of a read of `a` at peer address `pa` (R748, R749): a pair's read is deferred. -/
def readCommit (m : Module) (a : Access) (addr pa : Nat) : Module × Nat × Nat :=
  if a.spec then (m, 2, 0) else
  match pairOf a with
  | none => (m, 0, 0)
  | some p =>
    let c := m.pbr.nextCid
    let m := m.setPbr (fun x => { x with nextCid := (c + 1) % 256, defers := x.defers ++ [{ cid := c, part := a.part, addr := pa }] })
    ({ m with reads := ⟨p, m.windowSeq p, addr, .bridge c⟩ :: m.reads }, 1, c)

/-- The granule at `g` (R750) is in the prefetch buffer with the words of `n` bytes at peer address `pa`. -/
def prefetched (m : Module) (pa n : Nat) : Option (List Byte) :=
  match m.pbr.prefetch.find? (fun g => g.addr == pa / 64 * 64 && decide (m.now < g.keptUs + 10)) with
  | some g =>
    let ws := (List.range 16).filter (fun w => decide (pa % 64 < 4 * w + 4) && decide (4 * w < pa % 64 + n))
    if ws.all (bit g.good) && decide (pa % 64 + n ≤ 64) then some ((g.data.drop (pa % 64)).take n) else none
  | none => none

/-- The read-ahead of the granule at peer address `g` in window `w` (R41, R750; log entry 14). -/
def readAhead (m : Module) (a : Access) (addr g : Nat) (w : Nat) : Module :=
  let n := m.rd F.PBR_WIN_A_SIZE_LOG2 w
  let known := m.pbr.prefetch.any (fun x => x.addr == g) || m.pbr.reqs.any (fun q => q.fill && q.base == g)
  if g / 2 ^ n ≠ (g - 64) / 2 ^ n ∨ known then m
  else
    m.request { tag := 0, kind := 0x11, acc := a, addr := addr, size := 64, base := g, waits := false, fill := true }
      { localMsg 0x11 a g 64 with commit := 2 }

/-- A local read of `n` bytes (R737, R748, R750; log entry 14). -/
def windowRead (m : Module) (a : Access) (addr n : Nat) : Module :=
  m.windowAccess a addr 0 F.PBR_WIN_A_READ (fun m w =>
    let pa := m.peerAddr w addr
    let pre := m.flag F.PBR_WIN_A_PREFETCH w
    match (if pre then m.prefetched pa n else none) with
    | some l => m.ok (ofBytes l)
    | none =>
      let wide := pre && ! a.spec && decide (pa % 64 + n ≤ 64)
      let (m, com, cid) := m.readCommit a addr pa
      let x := if wide then localMsg 0x11 a (pa / 64 * 64) 64 else localMsg 0x11 a pa n
      let m := m.request { tag := 0, kind := 0x11, acc := a, addr := addr, size := n, base := x.addr, fill := wide }
        { x with commit := com, cid := cid
                 want := if wide then ((2 ^ ((n + pa % 4 + 3) / 4) - 1) * 2 ^ (pa % 64 / 4)) else x.want }
      m.when wide (fun m => m.readAhead a addr (pa / 64 * 64 + 64) w))

/-- Writes and atomics drop the granules of the prefetch buffer that they touch (R750). -/
def dropGranules (m : Module) (pa n : Nat) : Module :=
  m.setPbr (fun p => { p with prefetch := p.prefetch.filter (fun g => ! (decide (g.addr < pa + n) && decide (pa < g.addr + 64))) })

/-- A local write (R737). -/
def windowWrite (m : Module) (a : Access) (addr : Nat) (data : List Byte) : Module :=
  m.windowAccess a addr 1 F.PBR_WIN_A_WRITE (fun m w =>
    let pa := m.peerAddr w addr
    let x := localMsg 0x13 a pa data.length
    let pad := List.replicate (pa % 4) (0 : Byte) ++ data
    (m.dropGranules pa data.length).request
      { tag := 0, kind := 0x13, acc := a, addr := addr, size := data.length, base := x.addr }
      { x with data := pad ++ List.replicate (x.len - pad.length) 0 })

/-- A local atomic, LR or SC (R745, R746). -/
def windowAtomic (m : Module) (a : Access) (op addr : Nat) (data : List Byte) : Module :=
  m.windowAccess a addr 1 F.PBR_WIN_A_WRITE (fun m w =>
    let pa := m.peerAddr w addr
    (m.dropGranules pa 4).request { tag := 0, kind := 0x15, acc := a, addr := addr, size := 4, base := pa }
      { localMsg 0x15 a pa 4 with op := op, data := data, len := data.length })

/-! ### Responses (R737, R750) -/

/-- A granule joins the prefetch buffer; the oldest leaves a full one. -/
def keepGranule (m : Module) (g : Granule) : Module :=
  let g := { g with keptUs := m.now }
  m.setPbr (fun p =>
    let l := p.prefetch.filter (fun x => x.addr != g.addr)
    { p with prefetch := (if 16 ≤ l.length then l.drop 1 else l) ++ [g] })

/-- A response with STATUS other than OK reaches the local initiator (R737). -/
def remoteError (m : Module) (q : BridgeReq) (st : Nat) : Module :=
  let m := (m.raise F.PBR_EVT_REMOTE_ERR).logBlk 0x0F 0x2F02 q.addr (st + q.acc.ini * 2 ^ 8)
  { m with resp := { status := st } }

/-- A response arrives for a request of kind `kind` (R735, R737, R745). -/
def responseIn (m : Module) (kind : Nat) (x : BridgeMsg) : Module :=
  match m.pbr.reqs.find? (fun q => q.tag == x.tag && q.kind == kind && q.sent) with
  | none => m
  | some q =>
    let m := m.setPbr (fun p => { p with reqs := p.reqs.filter (fun r => r.tag != x.tag) })
    let bad := x.skipped ||| x.held
    let m := m.when (q.fill && x.op == 0) (·.keepGranule { addr := q.base, data := x.data, good := 0xFFFF ^^^ (bad % 2 ^ 16) })
    if ! q.waits then m
    else if x.op ≠ 0 then m.remoteError q x.op
    else if kind = 0x13 then m.ok
    else
      let off := if q.kind = 0x11 then q.addr % (if q.fill then 64 else 4) else 0
      { m with resp := { status := 0, data := ofBytes ((x.data.drop off).take q.size), skipped := bit x.skipped (off / 4) } }

/-! ### Doorbells (R752, R753) -/

/-- A doorbell is delivered. -/
def doorbellDeliver (m : Module) (x : BridgeMsg) : Module :=
  if x.op < 24 then (m.setMap F.PBR_DB_IN_BITS x.op).raise F.PBR_EVT_DB
  else if x.op = 24 then m.snapDone (ofNetBytes (x.data.take 4)) else m

/-- Doorbells behind which every write has completed are delivered, in order; at most `n` of them. -/
def doorbellsDue : Nat → Module → Module
  | 0, m => m
  | n + 1, m =>
    let before := m.pbr.inq.takeWhile (fun r => r.msg.kind != 0x17)
    match m.pbr.inq.drop before.length with
    | [] => m
    | r :: _ =>
      if before.any (fun q => q.msg.kind == 0x13) then m
      else doorbellsDue n ((m.setPbr (fun p => { p with inq := p.inq.eraseIdx before.length })).doorbellDeliver r.msg)

/-- A doorbell arrives (R752). -/
def doorbellIn (m : Module) (x : BridgeMsg) : Module :=
  let m := m.setPbr (fun p => { p with inq := p.inq ++ [{ msg := x }] })
  doorbellsDue m.pbr.inq.length m

/-- An inbound request finishes on the fabric: its response joins the channel (R736). -/
def inboundDone (m : Module) (tag : Nat) : Module :=
  match m.pbr.inq.find? (fun r => r.msg.tag == tag && isRequest r.msg.kind) with
  | none => m
  | some r =>
    let m := m.setPbr (fun p => { p with inq := p.inq.filter (fun q => ! (q.msg.tag == tag && isRequest q.msg.kind)) })
    let m := m.enqueue r.answer
    (doorbellsDue m.pbr.inq.length m).showPbr

/-- A write of PBR_DB_OUT (R752, R753). -/
def doorbellSend (m : Module) (v : Nat) : Module :=
  if ! m.bridgeUp then m else
  forEach (bitsSet 24 v) (fun n m => m.enqueue { kind := 0x17, op := n }) m

/-! ### Time-driven effects -/

/-- The oldest message has waited 20 µs for its acknowledgement on path 0, or 200 µs on path 1 (R734). -/
def ackLate (m : Module) : Bool :=
  match m.pbr.unacked with
  | x :: _ => decide (x.sentUs + (if m.bridgePath = 0 then 20 else 200) ≤ m.now)
  | [] => false

/-- The oldest message has been sent 8 times without acknowledgement (R729). -/
def ackLost (m : Module) : Bool := m.ackLate && ((m.pbr.unacked.head?).any (fun x => decide (8 ≤ x.sends)))

/-- The oldest message has waited too long (R729, R734): all are sent again, or the link goes DOWN after eight sends
(log entry 13). -/
def resend (m : Module) : Module :=
  if ! m.bridgeUp || ! m.ackLate then m
  else if m.ackLost then m.linkDown 0
  else
    let l := m.pbr.unacked
    let t := m.now
    let m := m.setPbr (fun p => { p with unacked := p.unacked.map (fun e => { e with sends := e.sends + 1, sentUs := t }) })
    (l.foldl (fun m e => m.emitMsg e.msg) m).addS F.PBR_CNT_RETX_COUNT 1

/-- The first condition of R729 that the state shows, in the order of its list: the sends of the oldest message, the paths, the
conditions of R726. The others are events of their own (log entry 14). -/
def linkCause (m : Module) : Option Nat :=
  if m.ackLost then some 0 else if m.pathLost 0 && m.pathLost 1 then some 1 else if ! m.mayLink then some 3 else none

/-- The head request has waited 2 µs without credit (R743). -/
def blockedNow (m : Module) : Module :=
  m.when (m.headStalled && m.pbr.headUs != 0 && decide (m.pbr.headUs + 2 ≤ m.now + 1)) (·.raise F.PBR_STAT_BLOCKED)

/-- The retry queue returns to the head of the channel once the responses to the requests held at the retraction are sent
(R744). -/
def retryRestore (m : Module) : Module :=
  if ! m.flag F.PBR_STAT_RETRACTED || ! m.pbr.retryTags.isEmpty then m
  else ((m.lower F.PBR_STAT_RETRACTED).setPbr (fun p =>
    { p with queue := p.retry ++ p.queue, retry := [], retryTags := [] })).pump

/-- The effect of the deferred read `c` of the peer is dropped (R378, R749). -/
def discardIn (m : Module) (c : Nat) : Module :=
  let mine := m.pbr.effects.filter (fun e => e.cid == c)
  let m := m.setPbr (fun p => { p with effects := p.effects.filter (fun e => e.cid != c) })
  mine.reverse.foldl (fun (m : Module) e => m.giveBack e.effect) m

/-- A word enters the holding buffer; the oldest leaves a full one (R751). -/
def holdWord (m : Module) (addr : Nat) (w : List Byte) : Module :=
  let m := match m.pbr.holding with
    | h :: r => if 8 ≤ m.pbr.holding.length then (m.setPbr (fun p => { p with holding := r })).holdingLoss h.addr false else m
    | [] => m
  let t := m.now
  (m.setPbr (fun p => { p with holding := p.holding ++ [{ addr := addr, data := w, keptUs := t }] })).showPbr

/-- The deferred read `c` of the peer commits: its effect stays, a tracker restarts now, and the words that the read was
widened to are held (R377, R378, R749, R751). -/
def peerCommit (m : Module) (c : Nat) : Module :=
  let mine := m.pbr.effects.filter (fun e => e.cid == c)
  let m := m.setPbr (fun p => { p with effects := p.effects.filter (fun e => e.cid != c) })
  let m := m.when (mine.any (fun e => e.effect == .tracker)) (·.trackerRestart)
  mine.foldl (fun m e => match e.keep with | some w => m.holdWord e.addr w | none => m) m

/-- A held word is not used within 64 µs (R751). -/
def holdingExpire (m : Module) (addr : Nat) : Module :=
  let due := fun (h : Held) => h.addr == addr && decide (h.keptUs + 64 ≤ m.now)
  if ! m.pbr.holding.any due then m
  else ((m.setPbr (fun p => { p with holding := p.holding.filter (fun h => ! due h) })).holdingLoss addr false).showPbr

end Module

/-! ### Commands -/

/-- HELLO_TX (R727). -/
def execHelloTx (s : State) : Host.Outcome State Fault Refusal := s.runIn 0x0F (fun m => m.when (m.flag F.PBR_CTRL_EN) (·.sendHello))

/-- HELLO (R726, R727, R729, R744, R754). -/
def execHello (x : BridgeMsg) (s : State) : Host.Outcome State Fault Refusal := s.runIn 0x0F (fun m => m.helloIn x)

/-- PBR_ENABLE_WRITE (R726, R729, R756). -/
def execPbrEnableWrite (a : Access) (v : Word) (s : State) : Host.Outcome State Fault Refusal :=
  s.runBy a 1 (fun a m => m.accessIf a 0x20D00000 a.world (·.pbrEnable v.toNat))

/-- WINDOW_READ (R35, R735, R737, R739, R748, R750, R754). -/
def execWindowRead (a : Access) (addr size : Nat) (s : State) : Host.Outcome State Fault Refusal :=
  s.runBy a 0 (fun a m => m.windowRead a addr size)

/-- WINDOW_WRITE (R35, R735, R737, R739, R750, R754). -/
def execWindowWrite (a : Access) (addr : Nat) (data : List Byte) (s : State) : Host.Outcome State Fault Refusal :=
  s.runBy a 1 (fun a m => m.windowWrite a addr data)

/-- WINDOW_ATOMIC (R35, R735, R739, R745, R750). -/
def execWindowAtomic (a : Access) (op : Fin 9) (addr : Nat) (data : Word) (s : State) : Host.Outcome State Fault Refusal :=
  s.runBy a 1 (fun a m => m.windowAtomic a (op.val + 1) addr (toBytes 4 data.toNat))

/-- WINDOW_LR (R745, R746). -/
def execWindowLr (a : Access) (addr : Nat) (s : State) : Host.Outcome State Fault Refusal :=
  s.runBy a 1 (fun a m => m.windowAtomic a 0x10 addr [])

/-- WINDOW_SC (R745, R746). -/
def execWindowSc (a : Access) (addr : Nat) (data : Word) (s : State) : Host.Outcome State Fault Refusal :=
  s.runBy a 1 (fun a m => m.windowAtomic a 0x11 addr (toBytes 4 data.toNat))

/-- READ_DATA (R735, R737, R750). -/
def execReadData (x : BridgeMsg) (s : State) : Host.Outcome State Fault Refusal :=
  s.runIn 0x0F (fun m => m.kindIn 0x12 x (·.responseIn 0x11 x))

/-- WRITE_DONE (R735, R737). -/
def execWriteDone (x : BridgeMsg) (s : State) : Host.Outcome State Fault Refusal :=
  s.runIn 0x0F (fun m => m.kindIn 0x14 x (·.responseIn 0x13 x))

/-- ATOMIC_DATA (R735, R737, R745). -/
def execAtomicData (x : BridgeMsg) (s : State) : Host.Outcome State Fault Refusal :=
  s.runIn 0x0F (fun m => m.kindIn 0x16 x (·.responseIn 0x15 x))

/-- DOORBELL (R752, R753). -/
def execDoorbell (x : BridgeMsg) (s : State) : Host.Outcome State Fault Refusal :=
  s.runIn 0x0F (fun m => m.kindIn 0x17 x (·.doorbellIn x))

/-- COMMIT_RX (R376, R749). -/
def execCommitRx (x : BridgeMsg) (s : State) : Host.Outcome State Fault Refusal :=
  s.runIn 0x0F (fun m => m.kindIn 0x18 x (·.peerCommit x.cid))

/-- DISCARD (R749). -/
def execBridgeDiscard (x : BridgeMsg) (s : State) : Host.Outcome State Fault Refusal :=
  s.runIn 0x0F (fun m => m.kindIn 0x19 x (·.discardIn x.cid))

/-- ACK_ONLY (R734). -/
def execAckOnly (x : BridgeMsg) (s : State) : Host.Outcome State Fault Refusal := s.runIn 0x0F (fun m => m.bridgeIn x id)

/-- INBOUND_EXECUTION_DONE (R736). -/
def execInboundExecutionDone (tag : Fin 256) (s : State) : Host.Outcome State Fault Refusal :=
  s.runIn 0x0F (fun m => m.inboundDone tag.val)

/-- RESEND_TIMEOUT (R729, R734, R754). -/
def execResendTimeout (s : State) : Host.Outcome State Fault Refusal := s.runIn 0x0F (fun m => m.resend)

/-- LINK_LOST (R726, R729, R747, R749–R751, R754). -/
def execLinkLost (s : State) : Host.Outcome State Fault Refusal :=
  s.runIn 0x0F (fun m => match m.linkCause with | some c => m.linkDown c | none => m)

/-- BLOCKED (R742, R743). -/
def execBridgeBlocked (s : State) : Host.Outcome State Fault Refusal := s.runIn 0x0F (fun m => m.blockedNow)

/-- BLOCKED_HELLO_TX (R743). -/
def execBlockedHelloTx (s : State) : Host.Outcome State Fault Refusal :=
  s.runIn 0x0F (fun m => m.when (m.flag F.PBR_STAT_BLOCKED) (·.sendHello))

/-- RETRY_QUEUE_RESTORE (R744). -/
def execRetryQueueRestore (s : State) : Host.Outcome State Fault Refusal := s.runIn 0x0F (fun m => m.retryRestore)

/-- SEMAPHORE_TIMEOUT (R747, R754). -/
def execSemaphoreTimeout (no : Fin 16) (s : State) : Host.Outcome State Fault Refusal :=
  s.runIn 0x0F (fun m => (m.setPbr (fun p =>
    { p with sems := p.sems.filter (fun x => x.no != no.val || decide (m.now < x.takenUs + 100)) })).showSems)

/-- PREFETCH_EXPIRY (R750): the granule at peer address `addr`, 10 µs old. -/
def execPrefetchExpiry (addr : Nat) (s : State) : Host.Outcome State Fault Refusal :=
  s.runIn 0x0F (fun m => m.setPbr (fun p =>
    { p with prefetch := p.prefetch.filter (fun g => g.addr != addr || decide (m.now < g.keptUs + 10)) }))

/-- PREFETCH_LOSS (R751): the word at `addr` of the holding buffer. -/
def execPrefetchLoss (addr : Nat) (s : State) : Host.Outcome State Fault Refusal := s.runIn 0x0F (fun m => m.holdingExpire addr)

/-- DOORBELL_SEND (R752, R753): a write of PBR_DB_OUT. -/
def execDoorbellSend (a : Access) (v : Word) (s : State) : Host.Outcome State Fault Refusal :=
  s.runBy a 1 (fun a m => m.access a 0x20D00014 1 (·.doorbellSend v.toNat))

end Sys2Proof.Machine
end

