-- ==== Sys2Proof/Machine/RegBase.lean ====
section
/-!
DEFINITION. What a register access does by the access codes alone (R9–R13).
-/
namespace Sys2Proof.Machine

namespace Module

/-- The bits of `x` that are not in `y`. -/
def without (x y : Nat) : Nat := x - (x &&& y)

/-- A write of `v` to the bits of the register named in `mask`, by the access codes of R11: RW takes the bits, W1C clears
and W1S sets those written as 1; RO, WO and RE fields store nothing. -/
def plainWrite (m : Module) (a mask v : Nat) : Module :=
  (fieldsAt a).foldl (fun (m : Module) x =>
    let (f, i, j, k) := x
    let fm := bits mask f.hi f.lo
    let fv := bits v f.hi f.lo &&& fm
    let old := m.rd f i j k
    match f.acc with
    | .rw => m.wr f (without old fm ||| fv) i j k
    | .w1c => m.wr f (without old fv) i j k
    | .w1s => m.wr f (old ||| fv) i j k
    | .ro | .wo | .re => m) m

/-- The value of the register at byte address `a` as its fields hold it; a WO field reads 0 (R11; log entry 49). -/
def plainRead (m : Module) (a : Nat) : Nat :=
  (fieldsAt a).foldl (fun v x => if x.1.acc = .wo then v else v + m.rd x.1 x.2.1 x.2.2.1 x.2.2.2 * 2 ^ x.1.lo) 0

end Module

end Sys2Proof.Machine
end

