-- ==== Sys2Proof/Machine/Nvc.lean ====
section
/-!
DEFINITION. Live update (chapter 19): staging, activation, probation, rollback and COMMIT.
-/
namespace Sys2Proof.Machine

open Source

/-- The registers and table entries that a SWITCH record names (R506): entries by TABLE × 2^13 + INDEX. -/
structure SwItems where
  regs : Tbl (List Nat) := []
  entries : Tbl (List Nat) := []
deriving DecidableEq, Repr

/-- The items of a SWITCH record in record order; a later item of the same place replaces an earlier one. -/
def swItems : Nat → List Nat → SwItems → SwItems
  | 0, _, x => x
  | _, [], x => x
  | fuel + 1, h :: r, x =>
    if h % 16 = 1 then swItems fuel (r.drop 2) { x with regs := tput x.regs (r.getD 0 0) [r.getD 1 0] }
    else if h % 16 = 2 then
      swItems fuel (r.drop 16) { x with entries := tput x.entries (bits h 5 4 * 8192 + bits h 28 16) (r.take 16) }
    else x

/-- The items of the SWITCH record of image `r`. -/
def switchItems (r : Source) : SwItems :=
  let w := (recordWords r 0xC).getD []
  swItems w.length (w.drop 4) {}

namespace Module

/-- NVC's access attributes (R39). -/
def nvcAccess (m : Module) : Access := m.iattr 0x27

/-- An entry is appended to the update record log of the staging bank (R785). -/
def updLog (m : Module) (phase comp status : Nat) : Module :=
  m.setBank m.stagingBank (fun b => { b with log := ⟨phase, comp, status, m.tai⟩ :: b.log })

/-- Change what NVC holds. -/
def setNvc (m : Module) (f : NvcSt → NvcSt) : Module := { m with nvc := f m.nvc }

/-! ### Staging -/

/-- Staging fails with `st` (R763, R770, R795). -/
def stageFails (m : Module) (st code : Nat) : Module :=
  ((m.setNvc (fun n => { n with stg := 5, check := code })).logBlk 0x15 0x3502 0 (st + code * 2 ^ 8)).opEnded 0 st
    m.stagedCount code

/-- The staged bank is in use (R794, R804): the bank may not be erased. -/
def bankInUse (m : Module) : Bool :=
  ! (m.nvc.phase == 0 || m.nvc.phase == 5 || m.nvc.phase == 7 || (m.nvc.phase == 3 && m.nvc.done.isEmpty))

/-- The sectors of a new manifest are erased and written (R767). -/
def stageNew (m : Module) (r : Source) : Module :=
  let m := m.setBank m.stagingBank (fun b =>
    let b := { b.erase 0x6000000 0x6100000 with log := [] }
    let b := (b.erase 0x7FEE000 0x7FF0000).erase 0x7FFF000 0x8000000
    let b := b.program 0x6000000 (r 0 (manLen r))
    let b := (b.program 0x7FEE000 (manDigest r)).program 0x7FEE030 (toBytes 4 (chunks r))
    b.program 0x7FFF000 (toBytes 4 stStaging))
  { m with nvc := { stg := 1 } }

/-- Staging goes on (R767): with every chunk staged the image check runs, and a verified bank is done. -/
def stageResume (m : Module) : Module :=
  let m := m.setNvc (fun n => { n with working := [], stg := 1, check := 0 })
  if m.verified then (m.setNvc (fun n => { n with stg := 4 })).opCommits 0 |>.opEnded 0 0 m.chunkCount 0
  else m.when (m.stagedCount == m.chunkCount) (·.setNvc (fun n => { n with stg := 3 }))

/-- STAGE_BUNDLE starts (R763, R767, R794): the manifest at `addr` is read and checked (log entry 45). -/
def stageBegin (m : Module) (o : Otp) (addr : Nat) : Module :=
  let a := m.nvcAccess
  let resp := m.resp
  let (m, h) := m.busRead a addr 256
  let sig := ofBytes (((h.getD []).drop 0x2C).take 4)
  let (m, g) := if sig ≤ 0x100000 then m.busRead a (addr + sig + 0x140) 4 else (m, some [])
  let len := min 0x100000 (sig + 0x144 + ofBytes (g.getD []))
  let (m, all) := m.busRead a addr len
  let st := m.resp.status
  let m := { m with resp := resp }
  match h, g, all with
  | some _, some _, some l =>
    let r : Source := fun o n => exactly n ((l.drop o).take n)
    let st := manifestStatus o (m.rd F.SYSCTL_LC_STATE_STATE) (m.rd F.SYSCTL_SECVER_COUNTER) (m.rd F.SYSCTL_IMG_SEQ_SEQ) r
    if st ≠ 0 then m.stageFails st 0
    else if m.headerHolds m.stagingBank (manDigest r) then m.stageResume
    else if m.bankInUse then m.opEnded 0 1 0 0
    else m.stageNew r
  | _, _, _ => m.stageFails st 0

/-- A chunk completes (R768). -/
def chunkEnd (m : Module) (i st : Nat) : Module :=
  let m := ((m.wr F.NVC_CHUNK_STAT_STATUS st).lower F.NVC_CHUNK_STAT_PEND).wr F.NVC_CHUNK_STAT_INDEX i
  (m.raise F.NVC_EVT_CHUNK).setNvc (fun n => { n with chunk := none })

/-- A STAGE_BUNDLE handle is RUNNING, and receives (R768). -/
def receiving19 (m : Module) : Bool :=
  m.nvc.stg == 1 && (match m.laneRuns 0 with | some n => (m.slot n).op == 0x10 | none => false)

/-- A write of NVC_CHUNK_SUB (R768, R796; log entry 45). -/
def chunkSubmit (m : Module) (v : Nat) : Module :=
  let i := bits v 14 0
  if bits v 31 16 ≠ 0x4E43 ∨ m.flag F.NVC_CHUNK_STAT_PEND then m
  else if ! m.receiving19 then m.chunkEnd i 1
  else if m.chunkCount ≤ i then m.chunkEnd i 0x10
  else
    let m := (m.raise F.NVC_CHUNK_STAT_PEND).wr F.NVC_CHUNK_STAT_INDEX i
    m.setNvc (fun n => { n with chunk := some (i, m.rd F.NVC_CHUNK_ADDR_ADDR * 64) })

/-- The local address through which the pair bridge reaches peer address `pa` for writing, if a window maps it (R739). -/
def toPeer (m : Module) (pa : Nat) : Option Nat :=
  ((List.range 16).find? (fun w =>
    let n := m.rd F.PBR_WIN_A_SIZE_LOG2 w
    m.flag F.PBR_WIN_A_EN w && m.flag F.PBR_WIN_A_WRITE w && m.rd F.PBR_WIN_B_PEER_BASE w * 2 ^ 12 / 2 ^ n == pa / 2 ^ n)).map
      (fun w =>
        let n := m.rd F.PBR_WIN_A_SIZE_LOG2 w
        0x30000000 + m.rd F.PBR_WIN_A_OFF w * 2 ^ 12 / 2 ^ n * 2 ^ n + pa % 2 ^ n)

/-- A write to the peer's NVC_PEER_MAP at offset `off` of the NVC window, where a bridge window maps it (R769). -/
def toPeerMap (m : Module) (off : Nat) (l : List Byte) : Module :=
  match m.toPeer (0x21300000 + off) with
  | some a => m.windowWrite m.nvcAccess a l
  | none => m

/-- The working bitmap is programmed into the bank, and copied to the peer (R769): `resp` stays that of the last access
(log entry 45). -/
def bitmapFlush (m : Module) : Module :=
  let resp := m.resp
  let m := m.nvc.working.foldl (fun (m : Module) i =>
    m.setBank m.stagingBank (fun b => b.program (0x7FEF000 + i / 8) [BitVec.ofNat 8 (255 - 2 ^ (i % 8))])) m
  let m := m.setNvc (fun n => { n with working := [] })
  if m.role = 0 then m else
  let b := m.bank m.stagingBank
  let m := forEach (List.range 12) (fun k m => m.toPeerMap (0x1000 + 256 * k) (b.read (0x7FEF000 + 256 * k) 256)) m
  { (m.toPeerMap 0x1C00 (b.read 0x7FEE000 32)).toPeerMap 0x1C20 (b.read 0x7FEE020 16) with resp := resp }

/-- The chunk in progress ends (R768): `same` says that the read-back equals what was programmed (log entry 45). -/
def chunkDone (m : Module) (same : Bool) : Module :=
  match m.nvc.chunk with
  | none => m
  | some (i, addr) =>
    let resp := m.resp
    let (m, l) := m.busRead m.nvcAccess addr 4096
    let st := m.resp.status
    let m := { m with resp := resp }
    match l with
    | none => m.chunkEnd i st
    | some l =>
      if sha256 l ≠ chunkHash m.staged i then m.chunkEnd i 0x10
      else if m.chunkStaged i then m.chunkEnd i 0
      else
        let m := m.setBank m.stagingBank (fun b => (b.erase (i * 4096) (i * 4096 + 4096)).program (i * 4096) l)
        if ! same then m.chunkEnd i 0x12
        else
          let m := (m.chunkEnd i 0).setNvc (fun n => { n with working := n.working ++ [i] })
          let k := m.stagedCount
          let m := m.when (k % 64 == 0 || k == m.chunkCount) (·.bitmapFlush)
          m.when (k == m.chunkCount) (·.setNvc (fun n => { n with stg := 3 }))

/-- The status of R763 that goes with a code of R148 (R770). -/
def codeStatus (c : Nat) : Nat := if c = 7 ∨ c = 8 then 8 else if c = 9 then 2 else if c = 0xA then 0x11 else 0x10

/-- The staged image check ends (R770; log entry 45). -/
def stgDone (m : Module) (o : Otp) (readError : Bool) : Module :=
  if m.nvc.stg ≠ 3 ∨ m.laneRuns 0 = none then m else
  let r := m.payload
  let code := if readError then 1 else imageCheck o (m.rd F.SYSCTL_LC_STATE_STATE) (m.rd F.SYSCTL_SECVER_COUNTER) r
  let m := m.raise F.NVC_EVT_STG_DONE
  if code ≠ 0 then m.stageFails (codeStatus code) code
  else if seq r ≠ manSeq m.staged ∨ secver r ≠ manSecver m.staged then m.stageFails 0x11 0
  else
    let n := m.chunkCount
    let m := (m.setBank m.stagingBank (fun b => b.program 0x7FEE034 [0, 0, 0, 0])).setNvc (fun n => { n with stg := 4, check := 0 })
    ((m.logBlk 0x15 0x3501 0 n).opCommits 0).opEnded 0 0 n 0

/-! ### Change-over of the switch configuration (R780) -/

/-- A difference that cannot be changed over live: SWC_CTRL, SWC_PFC_HDRM, or MIN_CELLS of an SWC_QCFG. -/
def switchFixed (old new : SwItems) : Bool :=
  new.regs.any (fun e =>
    let v := e.2.getD 0 0
    let was := tget [] old.regs e.1
    (e.1 == 0 && was != e.2) || (e.1 == 0x0C && was != e.2)
      || (decide (0x400 ≤ e.1) && decide (e.1 < 0x600) && v % 256 != (if was = [] then 4 else was.getD 0 0 % 256)))

/-- Every difference from `old` to `new` is applied. -/
def switchApply (m : Module) (old new : SwItems) : Module :=
  let m := old.entries.foldl (fun (m : Module) e =>
    if tget [] new.entries e.1 = [] ∧ e.1 % 8192 < tableSize (e.1 / 8192) then m.entryOff (e.1 / 8192) (e.1 % 8192) else m) m
  let m := new.entries.foldl (fun (m : Module) e =>
    let t := e.1 / 8192
    if tget [] old.entries e.1 = e.2 ∨ writeRefused t (e.1 % 8192) e.2 then m
    else (m.setTable t (e.1 % 8192) (writable t e.2)).commit) m
  new.regs.foldl (fun (m : Module) e =>
    if tget [] old.regs e.1 = e.2 then m else m.plainWrite (0x20400000 + e.1) 0xFFFFFFFF (e.2.getD 0 0)) m

/-! ### Activation -/

/-- The phase with which an update stands when nothing runs (R789). -/
def restPhase (m : Module) : Nat :=
  if m.nvc.done.isEmpty then 0 else if m.nvc.done.all (fun d => d.leftUs == 0) then 3 else 2

/-- The pair on loan returns (R357, R776): it is wiped and tested. -/
def returnPair (m : Module) (f : Nat) : Module := if m.pairState f = 4 then (m.wipePair f).toTest f .settle else m

/-- Component `c` joins those activated, on probation for PROBATION_S (R789). -/
def onProbation (m : Module) (c : Nat) : Module :=
  m.setNvc (fun n => { n with done := n.done ++ [⟨c, probation m.staged * 1000000⟩] })

/-- R423 steps 2–5 on behalf of NVC (R781): SEC_STATE is RESTARTING until the firmware writes READY. -/
def secChange (m : Module) (new : Bool) : Module :=
  let m := (m.setNvc (fun n => { n with secNew := new })).wr F.WCT_STAT_SEC_STATE 2
  m.secRestart (m.core (m.rd F.WCT_CFG_SVC_CORE)).ctx

/-- A swap of the microcode banks is requested (R297, R779). -/
def requestSwap (m : Module) : Module :=
  let m := m.raise F.CHC_UC_STAT_PEND
  { m with chc := { m.chc with ucJob := .swap } }

/-- The change-over of component `c` is undone (R790): a0, a1 and a2 of the old image of a partition are those of R777, with
a2 = 2 (log entry 46). -/
def undo (o : Otp) (m : Module) (c : Nat) : Otp × Module :=
  let x := comp m.staged c
  if x.kind = 1 then
    let w := tget [] m.nvc.prevPart x.item
    let m := { m with lss := { m.lss with store := tset [] m.lss.store x.item w } }
    let m := m.setNvc (fun n => { n with
      prevPart := tdel n.prevPart x.item
      startRegs := tset [] n.startRegs x.item [mapped w x.aux, m.runningSchema 1 x.item, 2] })
    (o, (m.partitionHeld x.item).partitionRestart x.item)
  else if x.kind = 2 then (o, m.when (m.flag F.CHC_STAT_LOADED) (·.requestSwap))
  else if x.kind = 3 then
    let m := m.switchApply (switchItems m.payload) (switchItems m.runningImage)
    (o, m.drainRequest (m.rd F.SWC_EPOCH_EPOCH))
  else if x.kind = 4 then (o, m.secChange false)
  else if x.kind = 6 then
    let o' := { o with brom := m.nvc.bromSlots.foldl (fun t k => tmod {} t k (fun s => { s with revoked := true })) o.brom }
    let m := m.nvc.bromSlots.foldl (fun (m : Module) k => m.logBlk 0x15 0x3508 0 (k + 2 ^ 4)) m
    (o', (m.setNvc (fun n => { n with bromSlots := [] })).showBrom o')
  else (o, m.setNvc (fun n => { n with backWaits := true }))

/-- The rollback of every component that NVC can undo without a restart has begun; with no MODULE among them the update is
rolled back (R790; log entry 46). -/
def rollback (o : Otp) (m : Module) : Otp × Module :=
  let l := m.activated.reverse
  let (o, m) := l.foldl (fun (s : Otp × Module) c => undo s.1 s.2 c) (o, m.setNvc (fun n => { n with phase := 4, backWaits := false }))
  if m.nvc.backWaits then (o, m)
  else
    let m := (m.setNvc (fun n => { n with phase := 5, done := [] })).logBlk 0x15 0x3505 0 (l.length % 32)
    (o, m.updLog 5 0 0)

/-- A probation fails (R789, R790, R795): `cause` is the row of R789, counted from 0. -/
def probationFails (m : Module) (c cause : Nat) : Module :=
  let m := ((m.setNvc (fun n => { n with phase := 4, failComp := c, failCause := cause })).raise F.NVC_EVT_PROB_FAIL).logBlk
    0x15 0x3504 0 (c + cause * 2 ^ 8)
  m.updLog 4 c 0

/-- An activation ends with `st` (R774, R776, R789, R795); a rollback that waits for it begins (log entry 46). -/
def actEnd (o : Otp) (m : Module) (c st : Nat) : Otp × Module :=
  let k := (comp m.staged c).kind
  let rolling := m.nvc.phase == 4
  let m := match m.nvc.act with
    | some ⟨_, .handover p f⟩ | some ⟨_, .adopt p f⟩ =>
      (m.setMap F.NVC_HO_REQ_PARTS p false).when (st != 0) (·.returnPair f)
    | some ⟨_, .ready _⟩ => m.when (st != 0) (·.setNvc (fun n => { n with secNew := false }))
    | _ => m
  let m := m.setNvc (fun n => { n with act := none, last := st })
  let m := m.when (st == 0) (fun m => (m.onProbation c).updLog 2 c 0)
  let m := ((m.raise F.NVC_EVT_ACT_DONE).logBlk 0x15 0x3503 0 (c + k * 2 ^ 8 + st * 2 ^ 16)).opEnded 0 st c k
  if rolling then rollback o m else (o, m.setNvc (fun n => { n with phase := m.restPhase }))

/-- The activation of component `c` waits for `w`. -/
def actWaits (m : Module) (c : Nat) (w : ActWait) : Module := m.setNvc (fun n => { n with phase := 1, act := some ⟨c, w⟩ })

/-- Where the admission of an access within the `n` bytes at `a` may change: the bounds of the regions of the target (R381). -/
def boundsWithin (m : Module) (a n : Nat) : List Nat :=
  let t := (blockOf a).getD 0
  ((List.range 16).flatMap (fun r => [m.rd F.FAB_RGN_BASE_BASE t r * 4096, (m.rd F.FAB_RGN_LIMIT_LIMIT t r + 1) * 4096])).filter
    (fun p => decide (a < p) && decide (p < a + n))

/-- Every access of the partition to the `n` bytes at `a` is admitted. -/
def admitted (m : Module) (x : Access) (a n kind : Nat) : Bool :=
  m.fabricDeny x a n kind == none && ((a + n - 1) :: m.boundsWithin a n).all (fun p => m.fabricDeny x p 1 kind == none)

/-- The record `w` maps the whole range. -/
def mapsAll (w : List Nat) (a n : Nat) : Bool :=
  (partViews w).any (fun v => decide (v.pbase ≤ a) && decide (a + n ≤ v.pbase + v.size))

/-- The conditions of R775. -/
def partReady (m : Module) (x : Comp) (w : List Nat) : Bool :=
  let n := m.rd F.LSS_PART_PAIR x.item
  let a := pairAccess n x.item
  let running := m.rd F.LSS_PART_STATE x.item == 1
  (memOf x.aux).isSome && memOf x.aux == memOf (x.aux + x.auxLen - 1)
    && m.admitted a x.aux x.auxLen 0 && m.admitted a x.aux x.auxLen 1
    && mapsAll (tget [] m.lss.store x.item) x.aux x.auxLen && mapsAll w x.aux x.auxLen
    && (partViews w).all (fun v => (! bit v.perm 0 || m.admitted a v.pbase v.size 0)
          && (! bit v.perm 1 || m.admitted a v.pbase v.size 1))
    && running && m.sparePair.isSome && m.lss.mig.isNone && m.lss.moveReq.isNone

/-- Steps 1–3 of R776: F, whose local memory is wiped, runs the new record (log entry 45). -/
def actPartition (o : Otp) (m : Module) (c : Nat) (x : Comp) : Otp × Module :=
  let w := words ((compRecord m.payload x).getD [])
  match m.partReady x w, m.sparePair with
  | true, some f =>
    let m := (m.wipePair f).setPairState f 4
    let m := { m with mem := m.mem.putBytes (MemSt.lpBase f) (partImage w) }
    let m := (m.setMap F.NVC_HO_REQ_PARTS x.item).raise F.NVC_EVT_HO_REQ
    let now := m.now
    let m := m.setNvc (fun n => { n with newRec := w, area := x.aux, schema := m.runningSchema 1 x.item, hoUs := now })
    (o, m.actWaits c (.handover x.item f))
  | _, _ => actEnd o m c 1

/-- The secure DRAM buffer of R779: which one the spec does not say, a free 64-byte aligned place (log entry 45). -/
def ucBuffer (m : Module) : Module × Nat :=
  let (m, v) := m.draw 0x1FFFE00
  (m, 0x800000000 + 64 * v)

/-- LOAD and SWAP of R779: NVC copies the record into a secure DRAM buffer, which CHC_UC_SRC then names (log entry 45). -/
def actMicrocode (o : Otp) (m : Module) (c : Nat) (x : Comp) : Otp × Module :=
  let l := (compRecord m.payload x).getD []
  let h := words (l.take 32)
  let code := (l.drop 32).take (h.getD 3 0)
  let st := if ! m.running 4 then 0x0F else if m.flag F.CHC_UC_STAT_PEND then 1 else m.ucCheck h code
  if st ≠ 0 then actEnd o m c st
  else
    let resp := m.resp
    let (m, v) := m.ucBuffer
    let (m, good) := m.busWrite m.nvcAccess v l
    let err := m.resp.status
    let m := { m with resp := resp }
    if ! good then actEnd o m c err else
    let m := m.wr F.CHC_UC_SRC_ADDR v
    let b := 1 - m.rd F.CHC_STAT_BANK
    let m := ((m.ucHeader b h).raise F.CHC_STAT_LOADED).requestSwap
    let m := { m with chc := if b = 0 then { m.chc with code0 := code } else { m.chc with code1 := code } }
    (o, (m.opCommits 0).actWaits c (.swap b))

/-- R780 (log entry 45). -/
def actSwitch (o : Otp) (m : Module) (c : Nat) : Otp × Module :=
  let old := switchItems m.runningImage
  let new := switchItems m.payload
  if ! m.running 6 then actEnd o m c 0x0F
  else if switchFixed old new then actEnd o m c 0x11
  else
    let m := (m.switchApply old new).opCommits 0
    let e := m.rd F.SWC_EPOCH_EPOCH
    (o, (m.drainRequest e).actWaits c (.drain e))

/-- R781 (log entry 45). -/
def actSecure (o : Otp) (m : Module) (c : Nat) : Otp × Module :=
  let m := (m.opCommits 0).secChange true
  (o, m.actWaits c (.ready (m.rd F.WCT_RESTART_CNT_TOTAL)))

/-- The refusal of R783, if any. -/
def moduleRefusal (m : Module) (restart : Bool) : Option Nat :=
  if m.role = 2 ∨ m.role = 6 ∨ m.role = 3 then some 1
  else if m.flag F.HST_SUP_STAT_VAUX_STATE ∨ m.flag F.HST_SUP_STAT_HOLDUP_WEAK then some 1
  else if ! m.flag F.DPX_CFG_EN && ! restart then some 2 else none

/-- R783: the unit goes to trial. -/
def actModule (o : Otp) (m : Module) (c : Nat) (restart : Bool) : Otp × Module :=
  match m.moduleRefusal restart with
  | some st => actEnd o m c st
  | none =>
    let b := m.stagingBank
    let m := (m.programState b stTrial).setBank b (fun x => x.program 0x7FFF004 (toBytes 4 0xFFFFFF03))
    let m := (m.updLog 8 c 0).setNvc (fun n => { n with phase := 1, last := 0, trialWaits := true, failComp := c })
    (o, m.moduleReset F.SYSCTL_RST_CAUSE_UPDATE true)

/-- R787: one free slot per block. -/
def actBrom (o : Otp) (m : Module) (c : Nat) (x : Comp) : Otp × Module :=
  let free := (List.range 16).filter (fun k => ! (tget {} o.brom k).used)
  if ! m.hasModule || decide (free.length < x.auxLen) then actEnd o m c 0x11
  else
    let slots := free.take x.auxLen
    let o := { o with brom := (List.range x.auxLen).foldl (fun t k =>
      tmod {} t (slots.getD k 0) (fun s => { s with block := m.payload (x.aux + 272 * k) 272, used := true, valid := true })) o.brom }
    let m := slots.foldl (fun (m : Module) k => m.logBlk 0x15 0x3508 0 k) ((m.opCommits 0).showBrom o)
    actEnd o (m.setNvc (fun n => { n with bromSlots := n.bromSlots ++ slots })) c 0

/-- The schema condition of R774. -/
def schemaOk (m : Module) (x : Comp) : Bool :=
  let s := m.runningSchema x.kind x.item
  decide (x.fromMin ≤ s) && (x.kind != 2 || x.schema == s)

/-- An activation ends before any of it has begun: nothing but its record changes (R774, R795). -/
def actRefused (m : Module) (c st : Nat) : Module :=
  let k := (comp m.staged c).kind
  let m := (m.setNvc (fun n => { n with last := st })).raise F.NVC_EVT_ACT_DONE
  (m.logBlk 0x15 0x3503 0 (c + k * 2 ^ 8 + st * 2 ^ 16)).opEnded 0 st c k

/-- ACTIVATE with MODE NEXT starts (R774). -/
def actNext (o : Otp) (m : Module) (restart : Bool) : Otp × Module :=
  let ph := m.nvc.phase
  let c := m.nextComp.getD 0
  let x := comp m.staged c
  if m.rd F.WCT_STAT_SEC_STATE ≠ 1 then (o, m.actRefused c 0x0F)
  else if m.nvc.stg ≠ 4 ∨ m.nvc.act.isSome ∨ ¬ (ph = 0 ∨ ph = 2 ∨ ph = 3) then (o, m.opEnded 0 1 c x.kind)
  else if ! m.recordsUnchanged ∨ m.orderLeft = none ∨ m.nextComp = none then actEnd o m c 0x11
  else if ! m.schemaOk x then actEnd o m c 0x11
  else
    match x.kind with
    | 1 => actPartition o m c x
    | 2 => actMicrocode o m c x
    | 3 => actSwitch o m c
    | 4 => actSecure o m c
    | 5 => actModule o m c restart
    | _ => actBrom o m c x

/-- ACTIVATE with MODE ROLLBACK starts (R789, R790): with nothing activated it is refused (log entry 46). -/
def actRollback (o : Otp) (m : Module) : Otp × Module :=
  match m.nvc.done.getLast? with
  | none => (o, m.opEnded 0 1 0 0)
  | some d =>
    if m.nvc.phase ≠ 2 ∧ m.nvc.phase ≠ 3 then (o, m.opEnded 0 1 0 0)
    else
      let k := (comp m.staged d.comp).kind
      let m := (m.probationFails d.comp 0).opCommits 0
      let (o, m) := rollback o m
      (o, m.opEnded 0 0 d.comp k)

/-- The status with which the activation under way can end now, if it can (R776, R779, R780, R782, R794). -/
def actOutcome (m : Module) : ActWait → Option Nat
  | .handover p _ =>
    if m.rd F.LSS_PART_STATE p = 5 then some 0x0A
    else if m.rd F.LSS_PART_STATE p = 3 ∨ m.role = 3 then some 0x0F else none
  | .adopt p f =>
    if m.lss.mig.isSome || m.lss.moveReq.isSome then none
    else if m.rd F.LSS_PART_STATE p = 1 ∧ m.rd F.LSS_PART_PAIR p = f then some 0
    else if m.rd F.LSS_PART_STATE p = 5 then some 0x0A else some 0x0F
  | .swap b =>
    if m.chc.ucJob ≠ .none ∨ m.chc.revertDue then none
    else if m.rd F.CHC_STAT_BANK ≠ b then some 0x0E
    else if m.chc.revertLeft = 0 then some 0 else none
  | .drain _ => if m.flag F.SWC_DRAIN_STAT_DRAINED then some 0 else none
  | .ready r =>
    if m.rd F.WCT_RESTART_CNT_TOTAL ≠ r ∨ m.rd F.WCT_STAT_SEC_STATE = 3 then some 0x0E
    else if m.rd F.WCT_STAT_SEC_STATE = 1 then some 0 else none

/-- The activation under way ends where it can. -/
def actPoll (o : Otp) (m : Module) : Otp × Module :=
  match m.nvc.act with
  | none => (o, m)
  | some x =>
    match m.actOutcome x.wait with
    | some st => actEnd o m x.comp st
    | none => (o, m)

/-- A write of NVC_HO_READY that R796 admits: the ADOPT is requested (R776 step 5). -/
def hoReady (m : Module) (p : Nat) : Module :=
  match m.nvc.act with
  | some ⟨c, .handover q f⟩ =>
    if q ≠ p ∨ ! m.movable p then m else
    let m := m.setNvc (fun n => { n with act := some ⟨c, .adopt q f⟩ })
    { m with lss := { m.lss with rotating := true } }.moveAccept 2 p
  | _ => m

/-- HO_WAIT_MS has passed without READY (R776, R795). -/
def hoTimeout (o : Otp) (m : Module) : Otp × Module :=
  match m.nvc.act with
  | some ⟨c, .handover p _⟩ =>
    if m.now < m.nvc.hoUs + m.rd F.NVC_HO_CFG_HO_WAIT_MS * 1000 then (o, m)
    else actEnd o (m.logBlk 0x15 0x3507 0 p) c 0x0E
  | _ => (o, m)

/-! ### Probation -/

/-- A component has served its probation (R789). -/
def probationEnd (m : Module) (c : Nat) : Module :=
  if m.nvc.phase ≠ 2 ∨ m.nvc.done.any (fun d => d.comp == c && decide (1 < d.leftUs)) then m else
  let m := m.setNvc (fun n => { n with done := n.done.map (fun d => if d.comp = c then { d with leftUs := 0 } else d) })
  if m.restPhase = 3 then ((m.setNvc (fun n => { n with phase := 3 })).raise F.NVC_EVT_PASSED).updLog 3 c 0 else m

/-- The row of R789 whose event has occurred for component `c`, if one has (log entry 46). -/
def probationCause (m : Module) (c : Nat) : Option Nat :=
  let x := comp m.staged c
  let st := m.rd F.LSS_PART_STATE x.item
  if x.kind = 1 then
    if st = 3 ∨ st = 4 ∨ st = 5 ∨ (List.range 16).any (fun i => m.rd F.CHI_STATE_STATE i == 3
        && m.flag F.IMG_INST_CFG_ASSIGNED (96 + i) && m.rd F.IMG_INST_CFG_PART (96 + i) == x.item) then some 1 else none
  else if x.kind = 2 then if m.flag F.CHC_EVT_DEADLINE_MISS ∨ m.flag F.CHC_EVT_UC_REVERTED then some 2 else none
  else if x.kind = 4 then if m.rd F.WCT_STAT_SEC_STATE ≠ 1 then some 3 else none
  else if x.kind = 5 then if 1000000 ≤ m.nvc.unfitUs then some 4 else none
  else none

/-- An event of R789 ends the probation of component `c` (R790, R794): a handover that waits is given up first, and an
activation past its commit point ends before the rollback. -/
def probationFail (o : Otp) (m : Module) (c : Nat) : Otp × Module :=
  let serves := m.nvc.done.any (fun d => d.comp == c && d.leftUs != 0)
  match serves && (m.nvc.phase == 2 || m.nvc.phase == 1), m.probationCause c with
  | true, some cause =>
    let m := m.probationFails c cause
    match m.nvc.act with
    | some ⟨k, .handover _ _⟩ => actEnd o m k 0x0A
    | some _ => (o, m)
    | none => rollback o m
  | _, _ => (o, m)

/-- A MODULE rollback goes on (R790): an ACTIVE unit hands over first, any other restarts from the committed bank
(log entry 46). -/
def moduleBack (m : Module) : Module :=
  if m.nvc.phase ≠ 4 ∨ ! m.nvc.backWaits then m
  else if m.role = 2 then m.when (m.peerRole == 5) (·.handoverBegin 0)
  else if m.role = 6 then m
  else
    let n := m.nvc.done.length
    let m := (m.programState m.stagingBank stRejected).logBlk 0x15 0x3505 0 (n % 32)
    let m := (m.updLog 5 0 0).setNvc (fun x => { x with phase := 5, done := [], backWaits := false })
    m.moduleReset F.SYSCTL_RST_CAUSE_UPDATE true

/-- A MODULE on trial is judged (R784): STANDBY_READY, or on a single module channels controllable. -/
def trialPoll (m : Module) : Module :=
  let good := if m.role = 0 then m.rd F.SYSCTL_BOOT_STAT_STAGE == 8 else m.role == 5
  if ! m.nvc.trialWaits || ! good || ! m.flag F.SYSCTL_BOOT_STAT_TRIAL then m else
  let c := m.nvc.failComp
  let m := m.setNvc (fun n => { n with trialWaits := false, phase := 2, failComp := 0 })
  ((m.onProbation c).updLog 2 c 0).logBlk 0x15 0x3503 0 (c + 5 * 2 ^ 8)

/-- What NVC finds when the image that runs is known (R784, R789, R790, R796). -/
def nvcStart (m : Module) : Module :=
  let b := m.stagingBank
  let m := m.setNvc (fun n => { n with
    stg := if (m.bank b).word 0x7FEE030 = 0xFFFFFFFF then 0 else if m.verified then 4 else 2 })
  if m.nvc.trialWaits then
    if m.flag F.SYSCTL_BOOT_STAT_TRIAL then m
    else
      let c := m.nvc.failComp
      let m := (m.setNvc (fun n => { n with trialWaits := false })).probationFails c 4
      (m.setNvc (fun n => { n with phase := 5, done := [] })).logBlk 0x15 0x3505 0 1
  else if m.nvc.phase = 4 ∧ m.nvc.backWaits then
    let c := (m.activated.getLast?).getD 0
    let n := m.nvc.done.length
    let m := m.probationFails c 0
    if m.flag F.SYSCTL_BOOT_STAT_TRIAL then m.setNvc (fun x => { x with backWaits := true })
    else (m.setNvc (fun x => { x with phase := 5, done := [], backWaits := false })).logBlk 0x15 0x3505 0 (n % 32)
  else m

/-! ### COMMIT and WIPE -/

/-- COMMIT starts (R791, R792; log entry 46). -/
def commitBegin (m : Module) : Module :=
  if m.nvc.phase ≠ 3 ∧ m.nvc.phase ≠ 6 then m.opEnded 0 1 0 0
  else if m.flag F.HST_SUP_STAT_VAUX_STATE ∨ m.flag F.HST_SUP_STAT_HOLDUP_WEAK then m.opEnded 0 1 0 0
  else if m.rd F.WCT_STAT_SEC_STATE ≠ 1 then m.opEnded 0 0x0F 0 0
  else
    let m := m.when (m.nvc.phase == 3) (·.programState m.stagingBank stCommitted)
    ((m.setNvc (fun n => { n with phase := 6 })).updLog 6 0 0).opCommits 0

/-- The remaining steps of COMMIT (R791, R792; log entry 46). -/
def commitEnd (o : Otp) (m : Module) : Otp × Module :=
  if m.nvc.phase ≠ 6 then (o, m) else
  let want := manSecver m.staged
  let n := min want 128 - o.counter
  let o := { o with counter := o.counter + n }
  let m := (m.updLog 7 0 0).setNvc (fun x => { x with phase := 7, done := [], prevPart := [], bromSlots := [], stg := 0 })
  (o, ((m.raise F.NVC_EVT_COMMIT_DONE).logBlk 0x15 0x3506 0 (want + n * 2 ^ 8)).opEnded 0 0 n 0)

/-- WIPE with TARGET STAGING (R804). -/
def wipeStaging (m : Module) : Module :=
  if m.bankInUse then m.opEnded 0 1 0 0
  else
    let m := (m.opCommits 0).setBank m.stagingBank (fun _ => {})
    { m with nvc := {} }.opEnded 0 0 0 0

end Module

/-! ### Commands -/

/-- CHUNK_SUBMIT (R757, R768, R794, R796). -/
def execChunkSubmit (a : Access) (v : Word) (s : State) : Host.Outcome State Fault Refusal :=
  s.runBy a 1 (fun a m => m.access a 0x21300108 1 (·.chunkSubmit v.toNat))

/-- CHUNK_DONE (R757, R761, R766, R768, R769, R794). -/
def execChunkDone (same : Bool) (s : State) : Host.Outcome State Fault Refusal := s.runIn 0x15 (fun m => m.chunkDone same)

/-- STG_DONE (R770, R793, R795). -/
def execStgDone (readError : Bool) (s : State) : Host.Outcome State Fault Refusal :=
  s.runIn 0x15 (fun m => m.stgDone s.otp readError)

/-- HO_READY (R776, R794, R796). -/
def execHoReady (a : Access) (v : Word) (s : State) : Host.Outcome State Fault Refusal :=
  s.runBy a 1 (fun a m =>
    let p := bits v.toNat 3 0
    m.accessIf a 0x21300214 (! a.world && a.part == p && bit (m.rd F.NVC_HO_REQ_PARTS) p) (·.hoReady p))

/-- HO_TIMEOUT (R776, R795). -/
def execHoTimeout (s : State) : Host.Outcome State Fault Refusal := s.runOtpIn 0x15 Module.hoTimeout

/-- PROBATION_END (R789). -/
def execProbationEnd (comp : Fin 32) (s : State) : Host.Outcome State Fault Refusal :=
  s.runIn 0x15 (fun m => m.probationEnd comp.val)

/-- PROBATION_FAIL (R789, R790, R794, R795). -/
def execProbationFail (comp : Fin 32) (s : State) : Host.Outcome State Fault Refusal :=
  s.runOtpIn 0x15 (fun o m => Module.probationFail o m comp.val)

end Sys2Proof.Machine
end

