-- ==== Sys2Proof/Machine/Boot.lean ====
section
/-!
DEFINITION. Start-up and life cycle (chapter 3): wipe, self-tests, choice and application of the image, the initial states
of the channels (R266–R273), the boot watchdog, and the life-cycle requests.
-/
namespace Sys2Proof.Machine

/-! ### Records of the channel controller -/

/-- The channel protection block of channel `n` keeps R220 and R221. -/
def protOk (n w0 w1 : Nat) : Bool :=
  let cont := contOf (classOf n)
  let amb := signed 8 (bits w0 31 24)
  let oc := bits w1 11 0
  decide (bits w0 3 0 ≤ 9) && decide (60 ≤ bits w0 11 4) && decide (bits w0 11 4 ≤ 250) && decide (5 ≤ bits w0 16 12)
    && decide (bits w0 16 12 ≤ 30) && decide (-40 ≤ amb) && decide (amb ≤ 125) && decide (cont ≤ 10 * oc)
    && decide (2 * oc ≤ 3 * cont) && decide (bits w1 15 12 ≤ 12) && ! bit w1 31 && decide (bits w1 30 20 < oc)

/-- The load block of channel `n` keeps R224. -/
def loadOk (n w : Nat) : Bool :=
  decide (1 ≤ bits w 15 4) && decide (bits w 15 4 ≤ contOf (classOf n)) && bits w 31 22 == 0

/-- The control word holds no reserved code and no reserved bit (R268). -/
def ctrlOk (w : Nat) : Bool := bits w 7 6 != 3 && bits w 31 10 == 0

/-- The instance word is within R269. -/
def instWordOk (w : Nat) : Bool := decide (2 ≤ bits w 13 0) && decide (bits w 13 0 ≤ 10000) && bits w 31 14 == 0

/-- The CHANNEL record `l` has its length and its COUNT (R266). -/
def chanRecordOk (l : List Byte) : Bool :=
  l.length == 2128 && ofBytes (l.take 4) == 128 && ((l.drop 4).take 12).all (fun b => b == 0)

/-- The profile that a PROFILE record defines, if it is valid but for its NUMBER's uniqueness (R231, R232). -/
def profileRec (l : List Byte) : Option (Nat × Profile) :=
  let w := Module.words l
  let h := w.getD 0 0
  let pts := (List.range 8).map (fun k => (bits (w.getD (2 + k) 0) 19 0, bits (w.getD (2 + k) 0) 28 20))
  let ts := pts.map Prod.fst
  let rising := (List.range 7).all (fun k => decide (ts.getD k 0 < ts.getD (k + 1) 0))
  if l.length == 40 && decide (6 ≤ bits h 3 0) && bits h 31 7 == 0 && w.getD 1 0 == 0
      && (List.range 8).all (fun k => bits (w.getD (2 + k) 0) 31 29 == 0) && ts.getD 0 1 == 0 && rising
      && decide (100 ≤ ts.getD 7 0) && pts.all (fun p => decide (16 ≤ p.2))
  then some (bits h 3 0, ⟨bit h 4, bits h 6 5, pts⟩) else none

/-- The custom profiles that the PROFILE records `rs` define: a number that several records carry is defined by none
(R232). -/
def customProfiles (rs : List (List Byte)) : Tbl Profile :=
  let numberOf := fun (l : List Byte) => bits (ofBytes (l.take 4)) 3 0
  (rs.filterMap profileRec).foldl (fun t p =>
    if (rs.filter (fun l => numberOf l == p.1)).length = 1 then tset {} t p.1 p.2 else t) []

namespace Module

/-! ### Banks at the start -/

/-- The result for bank `b` is recorded in SYSCTL_BOOT_ERR (R148). -/
def bootErr (m : Module) (b code : Nat) : Module :=
  if b = 0 then m.wr F.SYSCTL_BOOT_ERR_A code else m.wr F.SYSCTL_BOOT_ERR_B code

/-- Bank `b` is barred (R152). -/
def barred (m : Module) (b : Nat) : Bool :=
  if b = 0 then m.flag F.SYSCTL_BOOT_WDT_BAR_A else m.flag F.SYSCTL_BOOT_WDT_BAR_B

/-- Bank `b` is a candidate (R150; log entry 20). -/
def isCandidate (m : Module) (b : Nat) : Bool :=
  let st := (m.bank b).state
  let r := m.bankSource b
  (st == stTrial || st == stCommitted) && magicOk r && hdrCrcOk r && majorOk r

/-- Banks of `l` by descending SEQ, bank A first at equal SEQ. -/
def bySeq (m : Module) (l : List Nat) : List Nat :=
  if l = [0, 1] ∧ Source.seq (m.bankSource 0) < Source.seq (m.bankSource 1) then [1, 0] else l

/-- The candidates in the order in which they are checked (R150): a TRIAL one with a try left, then the COMMITTED ones that
are not barred (log entry 20). -/
def bootOrder (m : Module) : List (Nat × Bool) :=
  let cs := [0, 1].filter m.isCandidate
  let trial := cs.filter (fun b => (m.bank b).state == stTrial && (m.bank b).tries != 0)
  let comm := cs.filter (fun b => (m.bank b).state == stCommitted && ! m.barred b)
  (m.bySeq trial).map (fun b => (b, true)) ++ (m.bySeq comm).map (fun b => (b, false))

/-- The start halts (R151): a bank that could not be read is recorded with 0x0E (log entry 20). -/
def bootHalt (m : Module) : Module :=
  let m := m.when (m.rd F.SYSCTL_BOOT_ERR_A == 1) (·.bootErr 0 0xE)
  let m := m.when (m.rd F.SYSCTL_BOOT_ERR_B == 1) (·.bootErr 1 0xE)
  m.wr F.SYSCTL_BOOT_STAT_STAGE 0xF

/-- The next candidate's check begins (R150): a TRIAL one uses up a try (log entry 20). -/
def nextCandidate (m : Module) : Module :=
  match m.boot.cands with
  | [] => m.bootHalt
  | (b, trial) :: _ =>
    match lowestBit 8 (m.bank b).tries with
    | some k => m.when trial (·.setBank b (fun x => x.program 0x7FFF004 [BitVec.ofNat 8 (255 - 2 ^ k)]))
    | none => m

/-! ### Wipe and self-tests -/

/-- The wipe ends (R131, R132, R157): in END the boot ROM halts (log entry 10). -/
def wipeDone (m : Module) : Module :=
  if m.rd F.SYSCTL_BOOT_STAT_STAGE ≠ 1 then m else
  let m := { m with mem := {} }
  m.wr F.SYSCTL_BOOT_STAT_STAGE (if m.rd F.SYSCTL_LC_STATE_STATE = 5 then 0xF else 2)

/-- The self-tests of step 4 end (R134–R137, R150). -/
def selftestEnd (m : Module) (missed : List Nat) (falseFlags cores : Nat) (hash modular : Bool) : Module :=
  if m.rd F.SYSCTL_BOOT_STAT_STAGE ≠ 2 then m else
  let m := forEach (List.range 4) (fun n m =>
    let bad := missed.getD n 0 != 0 || bit falseFlags n
    (m.injectionResult n (missed.getD n 0) (bit falseFlags n)).when bad (·.setMap F.SYSCTL_SELFTEST_PAIR_FAIL n)) m
  let m := ((m.wr F.SYSCTL_SELFTEST_CORE_FAIL cores).wrb F.SYSCTL_SELFTEST_HASH_FAIL hash).wrb F.SYSCTL_SELFTEST_MOD_FAIL modular
  let m := ((m.wr F.CPE_STAT_FENCED cores).wrb F.CPE_STAT_HASH_FAIL hash).wrb F.CPE_STAT_MA_FAIL modular
  let m := m.wrb F.SYSCTL_BOOT_STAT_SW_CRYPTO (hash || modular)
  let m := forEach [0, 1] (fun b m =>
    if ! m.isCandidate b then m.bootErr b 0xD
    else if (m.bank b).state == stCommitted && m.barred b then m.bootErr b 0xF else m) m
  let m := { m with boot := { m.boot with cands := m.bootOrder } }
  (m.wr F.SYSCTL_BOOT_STAT_STAGE 3).nextCandidate

/-! ### Assignments -/

/-- SYSCTL_IATTR takes the SYSTEM record `w` (R154, R352). -/
def iattrApply (m : Module) (w : List Nat) : Module :=
  let put := fun (m : Module) (fw fp : Fam) k => (m.wr fw (bits (w.getD k 0) 0 0)).wr fp (bits (w.getD k 0) 7 4)
  let m := put m F.SYSCTL_IATTR_SWC_WORLD F.SYSCTL_IATTR_SWC_PART 0
  let m := put m F.SYSCTL_IATTR_PBR_WORLD F.SYSCTL_IATTR_PBR_PART 1
  let m := put m F.SYSCTL_IATTR_CHC_WORLD F.SYSCTL_IATTR_CHC_PART 2
  let m := put m F.SYSCTL_IATTR_CAN_WORLD F.SYSCTL_IATTR_CAN_PART 3
  let m := put m F.SYSCTL_IATTR_HST_WORLD F.SYSCTL_IATTR_HST_PART 4
  put m F.SYSCTL_IATTR_NVC_WORLD F.SYSCTL_IATTR_NVC_PART 5

/-- Step 6 of R125 (R154): the assignments of image `r` are applied, retained and locked. -/
def applyAssignments (m : Module) (r : Source) : Module :=
  let sys := (recordWords r 1).getD []
  let m := (m.iattrApply sys).lssConfig sys
  let m := m.l2WaysApply (bits (sys.getD 7 0) 15 0)
  let m := (m.worldMapApply ((recordWords r 2).getD [])).applyInstanceMap ((recordWords r 3).getD [])
  let m := (m.saveCfg 0x20000088 0x200000A0).saveCfg 0x20F00000 0x20F00004
  let m := forEach (List.range 112) (fun n m => m.saveCfg (0x20E01000 + 16 * n) (0x20E01008 + 16 * n)) m
  m.raise F.WCT_LOCK_WORLD_LOCK

/-- The place of the SECURE_FW record in image `r`. -/
def fwOffset (r : Source) : Nat :=
  match (directory r).find? (fun e => e.type == 5) with | some e => e.offset | none => 0

/-- The image of bank `b` is run (R130, R154, R155, R166): copied, applied, and SECURE_FW entered on AC0 (log entry 20). -/
def runImage (m : Module) (b : Nat) (trial : Bool) : Module :=
  let r := m.bankSource b
  let m := { m with mem := (m.mem.wipe 0x800000000 0x804000000).putBytes 0x800000000 (r 0 (Source.imageLen r)) }
  let m := (m.wr F.SYSCTL_BOOT_STAT_BANK b).wrb F.SYSCTL_BOOT_STAT_TRIAL trial
  let m := (m.wr F.SYSCTL_IMG_VER_LO_VER (Source.word r 8)).wr F.SYSCTL_IMG_VER_HI_VER (Source.word r 12)
  let m := (m.wr F.SYSCTL_IMG_SEQ_SEQ (Source.seq r)).wr F.SYSCTL_SECVER_IMAGE (Source.secver r)
  let m := { m with boot := { m.boot with cands := [], region := true } }.applyAssignments r
  let m := (m.wr F.SYSCTL_BOOT_STAT_STAGE 5).swdtStart 10000
  (m.setCore 0 { m.core 0 with secure := true, ctx := { pc := 0x800000000 + fwOffset r } }).nvcStart.physDown

/-- A candidate's check ends (R148–R151; log entry 20). -/
def candidateDone (m : Module) (o : Otp) (readError : Bool) : Module :=
  if m.rd F.SYSCTL_BOOT_STAT_STAGE ≠ 3 then m else
  match m.boot.cands with
  | [] => m
  | (b, trial) :: rest =>
    let code := if readError then 1
      else imageCheck o (m.rd F.SYSCTL_LC_STATE_STATE) (m.rd F.SYSCTL_SECVER_COUNTER) (m.bankSource b)
    let m := m.bootErr b code
    if code = 0 then m.runImage b trial
    else { m.when trial (·.programState b stRejected) with boot := { m.boot with cands := rest } }.nextCandidate

/-! ### Watchdog and retry -/

/-- The retry of a halted start (R151). -/
def bootRetry (m : Module) : Module :=
  m.when (m.rd F.SYSCTL_BOOT_STAT_STAGE == 0xF && m.rd F.SYSCTL_LC_STATE_STATE != 5)
    (·.moduleReset F.SYSCTL_RST_CAUSE_BOOT_RETRY)

/-- The boot watchdog expires (R152): three in a row bar a COMMITTED bank (log entry 20). -/
def bootWatchdog (m : Module) : Module :=
  let st := m.rd F.SYSCTL_BOOT_STAT_STAGE
  if 7 ≤ st ∨ m.sys.resetHeld ∨ m.boot.us < 1800000 then m else
  let b := m.rd F.SYSCTL_BOOT_STAT_BANK
  let m := if st < 5 ∨ m.flag F.SYSCTL_BOOT_STAT_TRIAL then m else
    let n := if m.boot.wdtBank = some b then m.rd F.SYSCTL_BOOT_WDT_COUNT + 1 else 1
    if 3 ≤ n then
      let m := if b = 0 then m.raise F.SYSCTL_BOOT_WDT_BAR_A else m.raise F.SYSCTL_BOOT_WDT_BAR_B
      { m.lower F.SYSCTL_BOOT_WDT_COUNT with boot := { m.boot with wdtBank := none } }
    else { m.wr F.SYSCTL_BOOT_WDT_COUNT n with boot := { m.boot with wdtBank := some b } }
  m.moduleReset F.SYSCTL_RST_CAUSE_BOOT_WDT

/-! ### Steps 7 and 8 -/

/-- The PARTITION records of the boot region go to LSS, in partition order (R351, R353, R354). -/
def takePartitions (m : Module) : Module :=
  let rs := (recordsOf m.bootRegion 7).map words
  (forEach (List.range 16) (fun p m => (rs.filter (fun w => bits (w.getD 0 0) 3 0 == p)).foldl partRecord m) m).settleUnnamed

/-- Partitions are running (R126, R152, R167). -/
def partitionsRun (m : Module) : Module :=
  let m := (m.startPartitions.wr F.SYSCTL_BOOT_T_PART_US (sat 32 m.boot.us)).lower F.SYSCTL_BOOT_WDT_COUNT
  { m with boot := { m.boot with wdtBank := none } }

/-- Secure firmware writes STAGE (R155, R166): it begins step 7's partitions at 6 and step 8 at 7, each once per start (R167;
log entry 20). -/
def stageWrite (m : Module) (v : Nat) : Module :=
  let old := m.rd F.SYSCTL_BOOT_STAT_STAGE
  if old < 5 ∨ 7 < old then m else
  let reach := fun k => decide (m.boot.reached < k) && decide (k ≤ v) && decide (v ≤ 8)
  let m := m.wr F.SYSCTL_BOOT_STAT_STAGE v
  let m := { m with boot := { m.boot with reached := if v ≤ 8 then max m.boot.reached v else m.boot.reached } }
  (m.when (reach 6) (·.takePartitions)).when (reach 7) (fun m => m.partitionsRun.setExcite m.partitionsRun.drives)

/-- The INPUT record takes effect at UIN (R315). -/
def inputApply (m : Module) (w : List Nat) : Module :=
  let m := forEach (List.range 64) (fun n m => m.putUinWord n (w.getD (4 + n) 0)) m
  let m := forEach (List.range 4) (fun k m =>
    (m.wr F.UIN_NTC_R25_OHM (bits (w.getD (68 + 2 * k) 0) 23 0) k).wr F.UIN_NTC_B_KELVIN (bits (w.getD (69 + 2 * k) 0) 15 0) k) m
  let m := (m.saveCfg 0x20300000 0x20300100).saveCfg 0x20300800 0x20300820
  let resv := (List.range 64).foldl (fun v n => setBit v n (bit (w.getD (4 + n) 0) 29)) 0
  let m := { m with uin := { m.uin with keptResv := resv } }
  forEach (List.range 64) (fun n m => m.uinLatch n) m

/-- The block of channel `n` from the CHANNEL record `w` (R221, R225, R267–R271): what the output itself is doing goes on. -/
def chanConfigure (m : Module) (w : List Nat) (n : Nat) : Module :=
  let g := fun k => w.getD (20 + 4 * n + k) 0
  let x := m.chan n
  let c : Chan :=
    { prot0 := g 0, prot1 := g 1, load := g 2, ctrl := g 3, inForce := g 2 % 2 ^ 16
      phase := x.phase, offFrom := x.offFrom, offAt := x.offAt, fwWatch := x.fwWatch }
  let attached := match tget 0 m.chc.parts c.owner with | 0 => false | k + 1 => m.onPair k
  let bad := w == [] || ! protOk n (g 0) (g 1) || ! loadOk n (g 2) || ! m.profileKnown c.profileNo || ! ctrlOk (g 3)
    || (c.owned && ! instWordOk (w.getD (4 + c.owner) 0)) || (c.safety && ! attached)
  let m := (m.putChan n { c with configBad := bad, retryLeft := c.retryMax }).wr F.CHC_CH_CTRL_CTRL (g 3) n
  let m := m.when bad (fun m => (m.putChan n { m.chan n with configBad := false }).setChan n (fun c => { c with configBad := true }))
  m.when c.owned (fun m => m.setMap F.CHI_OWNED_MAP (n % 32) true c.owner (n / 32))

/-- The instance words and the channel blocks of the CHANNEL record `w` (R266–R271). -/
def chanRecordApply (m : Module) (w : List Nat) : Module :=
  let m := forEach (List.range 16) (fun i m =>
    let m := m.wr F.CHI_WDT_TIMEOUT (bits (w.getD (4 + i) 0) 13 0) i
    m.setChi i { m.chi i with leftUs := m.wdtUs i }) m
  forEach (List.range 128) (fun n m => m.chanConfigure w n) m

/-- The wire model of channel `n` starts (R201): `theta` is that of the channel state record, where it serves
(log entry 23). -/
def wireStart (m : Module) (n : Nat) (theta : Option Int) : Module :=
  let c := m.chan n
  let (amb, fb) := m.ambient c
  let t := amb + (c.startRise * 5 : Nat) * degree
  let t := match theta with | some x => max t x | none => t
  m.setChan n (fun c => { c with theta := t, amb := amb, ambFallback := fb })

/-- The initial commanded state of channel `n` (R273): `saved` is that of an unused channel state record. -/
def chanInitial (m : Module) (n : Nat) (saved : Option Commanded) : Module :=
  let c := m.chan n
  if ! c.owned ∨ c.configBad then m else
  let plain : Commanded := if c.init = 1 ∨ c.init = 3 then .on else .off
  let cmd := if c.init < 2 then plain else saved.getD plain
  let m := m.setChan n (fun c => { c with cmd := cmd })
  m.when (cmd == .on && m.mayTurnOn n) (fun m => m.turnOn n true)

/-- The microcode record `l` runs in bank 0 (R294, R295). -/
def ucStart (m : Module) (l : List Byte) : Module :=
  let w := words l
  let m := m.ucHeader 0 w
  { m with chc := { m.chc with code0 := (l.drop 32).take (w.getD 3 0), keptUc := l } }.raise F.CHC_STAT_RUN

/-- CFG fields of CHC and of the CHI pages are retained (R62). -/
def chcSave (m : Module) : Module :=
  let m := ((m.saveCfg 0x20200010 0x20200018).saveCfg 0x20200020 0x20200024).saveCfg 0x20200400 0x20200600
  forEach (List.range 16) (fun i m => (m.saveCfg (chiAddr i 0x20) (chiAddr i 0x24)).saveCfg (chiAddr i 0x40) (chiAddr i 0x50)) m

/-- COLLAR_IN has read released throughout the last 10 ms (R692). -/
def collarReleased (m : Module) : Bool := ! m.flag F.DPX_STATE_COLLAR_IN && decide (m.dpx.collarUs + 10000 ≤ m.now)

/-- Step 8 (R100, R129, R130, R201, R273, R692; log entry 20). -/
def channelsStart (m : Module) : Module :=
  if m.rd F.SYSCTL_BOOT_STAT_STAGE ≠ 7 ∨ m.boot.chanDone then m else
  let r := m.bootRegion
  let m := m.when (m.role == 1 && m.collarReleased && ! m.dpx.activeSeen) (·.driveOn)
  let m := m.setExcite m.drives
  let m := match (recordsOf r 0xB).head? with
    | some l => m.inputApply (words l)
    | none => m
  let m := m.ucStart (((recordsOf r 8).head?).getD [])
  let l := ((recordsOf r 9).head?).getD []
  let w := if chanRecordOk l then words l else []
  let m := { m with chc := { m.chc with profiles := customProfiles (recordsOf r 0xA), keptChan := w } }
  let m := (m.chanRecordApply w).chcSave
  let lowv := m.flag F.SYSCTL_RST_CAUSE_LOWV
  let saved := if lowv then m.nvm.record else none
  let m := forEach (List.range 128) (fun n m => m.wireStart n (saved.map (fun x => tget 0 x.thetas n))) m
  let m := forEach (List.range 128) (fun n m =>
    m.chanInitial n ((saved.filter (fun x => ! x.used)).map (fun x => tget .off x.cmds n))) m
  let m := { m with nvm := { m.nvm with record := m.nvm.record.map (fun (x : ChanRecord) => { x with used := true }) } }
  let m := { m with mem := m.mem.wipe 0x800000000 0x804000000, boot := { m.boot with chanDone := true, region := false } }
  m.wr F.SYSCTL_BOOT_T_CHAN_US (sat 32 m.boot.us)

/-! ### Life cycle -/

/-- The token at `addr` carries the present challenge, this device's serial, and fields within their ranges (R163;
log entry 21). -/
def tokenFits (m : Module) (w : List Nat) : Bool :=
  let g := fun k => w.getD k 0
  let min := bits (g 11) 10 0
  (List.range 8).all (fun k => g k == m.rd F.SYSCTL_DBG_CHAL_CHAL k) && g 8 + g 9 * 2 ^ 32 == Config.serial % 2 ^ 64
    && bits (g 10) 31 17 == 0 && bits (g 11) 31 11 == 0 && decide (1 ≤ min) && decide (min ≤ 1440)
    && (List.range 12).all (fun k => g (12 + k) == 0) && (List.range 16).all (fun k => g (48 + k) == 0)

/-- The debug token verifies (R163): its words, if it does (log entry 21). -/
def tokenRead (m : Module) (o : Otp) : Option (List Nat) :=
  let a := m.rd F.SYSCTL_DBG_TOKEN_ADDR
  let t := m.mem.bytes a 256
  let w := words t
  if memOf a = some 0 ∧ memOf (a + 255) = some 0 ∧ m.tokenFits w
      ∧ (List.range 4).any (fun k => o.trusted k && Config.tokenVerifies (tget [] o.ecdsa k) t)
  then some w else none

/-- A new challenge is drawn (R164). -/
def newChallenge (m : Module) : Module :=
  forEach (List.range 8) (fun k m =>
    let (m, v) := m.draw (2 ^ 32)
    m.wr F.SYSCTL_DBG_CHAL_CHAL v k) m

/-- The request completes with `st`. -/
def lcDone (m : Module) (st : Nat) : Module := m.wr F.SYSCTL_LC_STAT_STATUS st

/-- A stored state is requested: OTP is programmed (R161). -/
def lcProgram (m : Module) (t : Nat) : Module :=
  { m.raise F.SYSCTL_LC_STAT_PEND with boot := { m.boot with lcNext := some t } }

/-- A write of SYSCTL_LC_REQ (R160–R164; log entry 21). -/
def lcRequest (m : Module) (o : Otp) (a : Access) (v : Nat) : Module :=
  if bits v 31 16 ≠ 0x5A3C then m else
  let t := bits v 2 0
  let lc := m.rd F.SYSCTL_LC_STATE_STATE
  if m.flag F.SYSCTL_LC_STAT_PEND ∨ m.flag F.HST_SUP_STAT_VAUX_STATE ∨ m.flag F.HST_SUP_STAT_HOLDUP_WEAK ∨ m.activeInDuplex then
    m.lcDone 1
  else if lc = 0 ∧ t = 1 then
    if a.world ∧ o.trustedMap ≠ 0 then m.lcProgram 1 else m.lcDone 2
  else if lc = 1 ∧ t = 2 then if a.world then m.lcProgram 2 else m.lcDone 2
  else if lc = 2 ∧ t = 3 then
    let n := m.newChallenge
    match m.tokenRead o with
    | some w =>
      let g := some (bits (w.getD 10 0) 15 0, bits (w.getD 11 0) 10 0)
      ({ n with boot := { n.boot with grant := g } } : Module).moduleReset F.SYSCTL_RST_CAUSE_LC_CHANGE false true
    | none => n.lcDone 2
  else if lc = 3 ∧ t = 2 then m.moduleReset F.SYSCTL_RST_CAUSE_LC_CHANGE
  else if (lc = 1 ∨ lc = 2) ∧ t = 4 then
    if ! a.world then m.lcDone 2 else
    let n := m.newChallenge
    match m.tokenRead o with
    | some w => if bit (w.getD 10 0) 16 then n.lcProgram 4 else n.lcDone 2
    | none => n.lcDone 2
  else if (lc = 0 ∨ lc = 4) ∧ t = 5 then if a.world ∨ a.ini = 0x3F then m.lcProgram 5 else m.lcDone 2
  else if (lc = 1 ∨ lc = 2) ∧ t = 5 then if a.world then m.lcProgram 5 else m.lcDone 2
  else m.lcDone 2

/-- The write of SYSCTL_LC_REQ reaches SYSCTL (log entry 21). -/
def lcAccess (m : Module) (o : Otp) (a : Access) (v : Nat) : Module := m.access a 0x20000804 1 (·.lcRequest o a v)

/-- The OTP programming of a life-cycle state ends (R161; log entry 21). -/
def lcProgramDone (o : Otp) (m : Module) : Otp × Module :=
  match m.boot.lcNext with
  | none => (o, m)
  | some t =>
    let b := if t = 1 then 1 else if t = 2 then 2 else if t = 4 then 4 else 8
    ({ o with lc0 := o.lc0 ||| b, lc1 := o.lc1 ||| b, lc2 := o.lc2 ||| b }, m.moduleReset F.SYSCTL_RST_CAUSE_LC_CHANGE)

/-- A write of SYSCTL_OWNER_SLOT (R158, R166): nothing changes where it would leave no slot trusted, or in END
(log entry 21). -/
def ownerRevoke (o : Otp) (m : Module) (a : Access) (v : Nat) : Otp × Module :=
  match m.accessDeny a 0x20000838 4 1 with
  | some d => (o, m.refuse a 0x20000838 1 d)
  | none =>
    let k := bits v 11 8
    let o' := { o with revoked := o.revoked ||| k }
    let last := o.trustedMap != 0 && o'.trustedMap == 0
    if ! a.world ∨ last ∨ m.rd F.SYSCTL_LC_STATE_STATE = 5 then (o, m.refuse a 0x20000838 1 (denyWriter 0x20000838))
    else (o', m.ok.showOwner o')

end Module

/-! ### Commands -/

/-- MEMORY_WIPE_DONE (R131–R133, R157). -/
def execMemoryWipeDone (s : State) : Host.Outcome State Fault Refusal := s.run (fun m => m.wipeDone)

/-- STARTUP_SELFTEST_DONE (R134–R137, R149, R150): lanes missed and false flags of the pairs, failed cores, hash unit and
modular-arithmetic unit. -/
def execStartupSelftestDone (missed : List (Fin 256)) (falseFlags cores : Fin 16) (hash modular : Bool) (s : State) :
    Host.Outcome State Fault Refusal :=
  s.run (fun m => m.selftestEnd (missed.map Fin.val) falseFlags.val cores.val hash modular)

/-- IMAGE_CANDIDATE_CHECK_DONE (R130, R148–R151, R154, R155): `readError` says that NVC could not read the bank. -/
def execImageCandidateCheckDone (readError : Bool) (s : State) : Host.Outcome State Fault Refusal :=
  s.run (fun m => m.candidateDone s.otp readError)

/-- BOOT_RETRY (R151). -/
def execBootRetry (s : State) : Host.Outcome State Fault Refusal := s.run (fun m => m.bootRetry)

/-- BOOT_WATCHDOG_EXPIRY (R152). -/
def execBootWatchdogExpiry (s : State) : Host.Outcome State Fault Refusal := s.run (fun m => m.bootWatchdog)

/-- CHANNEL_INITIAL_STATES (R100, R128–R130, R201, R220–R225, R231, R232, R266–R273, R294, R295, R314, R315, R692). -/
def execChannelInitialStates (s : State) : Host.Outcome State Fault Refusal := s.run (fun m => m.channelsStart)

/-- LC_REQ_PROVISIONED (R160–R162): a write of SYSCTL_LC_REQ. -/
def execLcReqProvisioned (a : Access) (v : Word) (s : State) : Host.Outcome State Fault Refusal :=
  s.runBy a 1 (fun a m => m.lcAccess s.otp a v.toNat)

/-- LC_REQ_FIELD (R160–R162): a write of SYSCTL_LC_REQ. -/
def execLcReqField (a : Access) (v : Word) (s : State) : Host.Outcome State Fault Refusal :=
  s.runBy a 1 (fun a m => m.lcAccess s.otp a v.toNat)

/-- LC_REQ_FIELD_DEBUG (R160–R165): a write of SYSCTL_LC_REQ. -/
def execLcReqFieldDebug (a : Access) (v : Word) (s : State) : Host.Outcome State Fault Refusal :=
  s.runBy a 1 (fun a m => m.lcAccess s.otp a v.toNat)

/-- LC_REQ_RETURN (R160–R164): a write of SYSCTL_LC_REQ. -/
def execLcReqReturn (a : Access) (v : Word) (s : State) : Host.Outcome State Fault Refusal :=
  s.runBy a 1 (fun a m => m.lcAccess s.otp a v.toNat)

/-- LC_REQ_END (R160–R162): a write of SYSCTL_LC_REQ. -/
def execLcReqEnd (a : Access) (v : Word) (s : State) : Host.Outcome State Fault Refusal :=
  s.runBy a 1 (fun a m => m.lcAccess s.otp a v.toNat)

/-- LC_REQ_MANUFACTURE (R160, R162): a write of SYSCTL_LC_REQ. -/
def execLcReqManufacture (a : Access) (v : Word) (s : State) : Host.Outcome State Fault Refusal :=
  s.runBy a 1 (fun a m => m.lcAccess s.otp a v.toNat)

/-- LC_OTP_PROGRAM_DONE (R159, R161). -/
def execLcOtpProgramDone (s : State) : Host.Outcome State Fault Refusal := s.runOtp Module.lcProgramDone

/-- DBG_GRANT_EXPIRY (R160, R161). -/
def execDbgGrantExpiry (s : State) : Host.Outcome State Fault Refusal :=
  s.run (fun m => m.when (m.rd F.SYSCTL_LC_STATE_STATE == 3 && ! m.flag F.SYSCTL_DBG_GRANT_MINUTES_LEFT)
    (·.moduleReset F.SYSCTL_RST_CAUSE_LC_CHANGE))

/-- OWNER_SLOT_REVOKE (R158, R166). -/
def execOwnerSlotRevoke (a : Access) (v : Word) (s : State) : Host.Outcome State Fault Refusal :=
  s.runOtp (fun o m =>
    match m.issued a 1 with
    | none => (o, m.withheld a 1)
    | some a => Module.ownerRevoke o m a v.toNat)

end Sys2Proof.Machine
end

