-- ==== Sys2Proof/Machine/Supply.lean ====
section
/-!
DEFINITION. Auxiliary supply, hold-up, load supplies and temperatures (chapter 2).
-/
namespace Sys2Proof.Machine

namespace Module

/-- An event of HST_SUP_EVT, which HST also latches for its report (R122, R811); `n` is its bit. -/
def supEvent (m : Module) (n : Nat) : Module :=
  let m := if n = 0 then m.raise F.HST_SUP_EVT_DIP else if n = 1 then m.raise F.HST_SUP_EVT_DIP_EXT
    else if n = 2 then m.raise F.HST_SUP_EVT_WEAK else if n = 8 then m.raise F.HST_SUP_EVT_TEMP_WARN
    else if n = 9 then m.raise F.HST_SUP_EVT_TEMP_THROTTLE else if n = 10 then m.raise F.HST_SUP_EVT_BP_HIGH
    else m.setMap F.HST_SUP_EVT_VS_UV (n - 4)
  m.latch (fun h => { h with sup := setBit h.sup n true })

/-- The VAUX state becomes `v` (R91). -/
def setVaux (m : Module) (v : Nat) : Module := (m.wr F.HST_SUP_STAT_VAUX_STATE v).showClk

/-- A dip begins (R91, R92; log entry 19). -/
def dipBegins (m : Module) : Module :=
  if m.sys.resetHeld ∨ m.rd F.HST_SUP_STAT_VAUX_STATE ≠ 0 then m else
  let m := ((m.setVaux 1).supEvent 0).diagAbandon
  { m with sup := { m.sup with dipMin := 0xFFFF } }

/-- A dip ends (R91); what waits for it may turn on (log entry 19). -/
def dipEnds (m : Module) : Module :=
  m.when (m.rd F.HST_SUP_STAT_VAUX_STATE == 1) (fun m => (m.setVaux 0).lower F.HST_SUP_STAT_DIP_EXT)

/-- A dip has lasted 500 ms (R95, R816). -/
def dipLong (m : Module) : Module :=
  m.when (m.rd F.HST_SUP_STAT_VAUX_STATE == 1) (fun m =>
    ((m.raise F.HST_SUP_STAT_DIP_EXT).supEvent 1).logBlk 0x14 0x3403 0 (m.sup.dipMin % 2 ^ 16))

/-- The error log ring as it stands (R825). -/
def logCopy (m : Module) : HoldupLog :=
  { slots := (List.range 256).map (fun i => (i, m.mem.bytes (m.logSlot i) 32)), wr := m.rd F.FAB_LOG_WR_IDX
    rd := m.rd F.FAB_LOG_RD_IDX, seq := m.rd F.FAB_LOG_WR_SEQ }

/-- The Pedibel image has been applied: step 6 is past (R115, R154; log entry 20). -/
def imageApplied (m : Module) : Bool := m.flag F.WCT_LOCK_WORLD_LOCK

/-- Hold-up begins (R91, R96, R99, R115, R694): before the image is applied nothing is written (log entries 19 and 50). -/
def holdupBegins (m : Module) : Module :=
  if m.sys.resetHeld ∨ m.rd F.HST_SUP_STAT_VAUX_STATE = 2 then m
  else if ! m.imageApplied then m.lowVoltageReset
  else
    let m := (m.setVaux 2).lower F.HST_SUP_STAT_DIP_EXT
    let m := { m with sup := { m.sup with flush := some m.logCopy, flushed := false } }
    (m.when (m.role != 0) (·.supFails 1)).showDpx

/-- The flush ends (R97, R825): the slots of `kept` were copied before a record took them (log entry 19). -/
def flushEnds (m : Module) (kept : List Nat) : Module :=
  match m.sup.flush with
  | none => m
  | some f =>
    let now := m.logCopy
    let slots := (List.range 256).map (fun i => (i, if kept.contains i then tget [] f.slots i else tget [] now.slots i))
    { m with nvm := { m.nvm with log := some { f with slots := slots } }
             sup := { m.sup with flush := none, flushed := true } }

/-- The channel state record as the channels stand (R100). -/
def chanRecord (m : Module) : ChanRecord :=
  { cmds := (List.range 128).foldl (fun t n => tset .off t n (m.chan n).cmd) []
    thetas := (List.range 128).foldl (fun t n => tset 0 t n (m.chan n).theta) [] }

/-- Every channel turns off, and power-on reset is asserted (R97–R99). -/
def holdupEnds (m : Module) : Module :=
  m.when (m.rd F.HST_SUP_STAT_VAUX_STATE == 2) (fun m => m.allOffHard.lowVoltageReset)

/-- The channel state record is complete (R97, R100). -/
def recordDone (m : Module) : Module :=
  m.when m.sup.flushed (fun m => { m with nvm := { m.nvm with record := some m.chanRecord } }.holdupEnds)

/-- VS of group `g` enters undervoltage (R109, R192, R193, R238; log entry 19). -/
def uvEnters (m : Module) (g : Nat) : Module :=
  if m.sys.resetHeld ∨ bit (m.rd F.HST_SUP_STAT_VS_UV) g then m else
  let m := (m.setMap F.HST_SUP_STAT_VS_UV g).supEvent (4 + g)
  forEach (List.range 32) (fun p m =>
    let n := 32 * g + p
    let m := m.trip n 6 true
    m.setChan n (fun c =>
      { c with pulse := false, phase := match c.phase with | .turningOff _ => .turningOff true | x => x })) m

/-- VS of group `g` leaves undervoltage (R109, R124, R262; log entry 19). -/
def uvLeaves (m : Module) (g : Nat) : Module :=
  if m.sys.resetHeld ∨ ! bit (m.rd F.HST_SUP_STAT_VS_UV) g then m else
  let m := (m.setMap F.HST_SUP_STAT_VS_UV g false).setGrp g { m.grp g with vsConv := [], droopRun := 0, droop := false }
  forEach (List.range 32) (fun p m => m.restart (32 * g + p)) m

/-- HOLDUP_WEAK is judged for VHOLD of `mv` (R102, R103). -/
def weakJudge (m : Module) (mv : Nat) : Module :=
  let weak := ! m.sup.measured || decide (mv < 29000) || decide (m.rd F.HST_HOLDUP_CAP_UF < 2000)
  let was := m.flag F.HST_SUP_STAT_HOLDUP_WEAK
  (m.wrb F.HST_SUP_STAT_HOLDUP_WEAK weak).when (weak && ! was) (·.supEvent 2)

/-- The capacitance has been measured as `uf` µF (R102; log entry 19). -/
def capMeasured (m : Module) (uf : Nat) : Module :=
  if ! m.sup.measuring then m else
  let m := (m.wr F.HST_HOLDUP_CAP_UF (sat 16 uf)).raise F.HST_HOLDUP_CAP_VALID
  let m := { m with sup := { m.sup with measuring := false, measured := true } }
  m.weakJudge (m.rd F.HST_VHOLD_MV_NOW)

/-- The voltages are converted (R122): VAUX, VHOLD and VS_A–VS_D in mV. -/
def voltages (m : Module) (vaux vhold : Nat) (vs : List Nat) : Module :=
  if m.sys.resetHeld then m else
  let m := (m.wr F.HST_VAUX_MV_NOW (sat 16 vaux)).wr F.HST_VHOLD_MV_NOW (sat 16 vhold)
  let m := ((m.wr F.HST_VS_MV_A_NOW (sat 16 (vs.getD 0 0))).wr F.HST_VS_MV_B_NOW (sat 16 (vs.getD 1 0))).wr F.HST_VS_MV_C_NOW
    (sat 16 (vs.getD 2 0)) |>.wr F.HST_VS_MV_D_NOW (sat 16 (vs.getD 3 0))
  let v := sat 16 vaux
  let m := (m.wr F.HST_VAUX_MV_MIN (min v (m.rd F.HST_VAUX_MV_MIN))).latch (fun h => { h with vmin := min v h.vmin })
  let m := m.when (m.rd F.HST_SUP_STAT_VAUX_STATE == 1) (fun m => { m with sup := { m.sup with dipMin := min v m.sup.dipMin } })
  m.weakJudge vhold

/-- The upper limit of the baseplate range in °C (R1, R120). -/
def bpLimit (m : Module) : Int := if m.flag F.SYSCTL_ID_GRADE then 95 else 85

/-- The temperatures are converted, in 1/16 °C (R119, R120, R122; log entry 19). -/
def temperatures (m : Module) (ctl bp : Int) (ps : List Int) : Module :=
  if m.sys.resetHeld then m else
  let u := fun (x : Int) => unsigned 16 x
  let before := signed 16 (m.rd F.HST_TEMP_CTL_DEG)
  let m := (m.wr F.HST_TEMP_CTL_DEG (u ctl)).wr F.HST_TEMP_BP_DEG (u bp)
  let m := ((m.wr F.HST_TEMP_PS_A_DEG (u (ps.getD 0 0))).wr F.HST_TEMP_PS_B_DEG (u (ps.getD 1 0))).wr F.HST_TEMP_PS_C_DEG
    (u (ps.getD 2 0)) |>.wr F.HST_TEMP_PS_D_DEG (u (ps.getD 3 0))
  let warn := decide (115 * 16 ≤ ctl)
  let m := (m.wrb F.HST_SUP_STAT_TEMP_WARN warn).when (warn && ! m.flag F.HST_SUP_STAT_TEMP_WARN) (·.supEvent 8)
  let hot := decide (120 * 16 ≤ ctl)
  let m := m.when (hot && decide (before < 120 * 16)) (·.supEvent 9)
  let m := m.when hot (fun m => { m with sys := { m.sys with tempForce := true } })
  let m := m.when (decide (ctl < 110 * 16)) (fun m => { m with sys := { m.sys with tempForce := false } })
  m.showClk.when (decide (m.bpLimit * 16 < bp)) (·.supEvent 10)

end Module

/-! ### Commands -/

/-- DIP_ENTRY (R89, R91–R94, R115, R119). -/
def execDipEntry (s : State) : Host.Outcome State Fault Refusal := s.run (fun m => m.dipBegins)

/-- DIP_EXIT (R89, R91, R115, R119). -/
def execDipExit (s : State) : Host.Outcome State Fault Refusal := s.run (fun m => m.dipEnds)

/-- DIP_EXTENDED (R95, R816). -/
def execDipExtended (s : State) : Host.Outcome State Fault Refusal := s.run (fun m => m.dipLong)

/-- HOLDUP_ENTRY (R89, R91, R94, R96, R97, R99, R115, R119, R694). -/
def execHoldupEntry (s : State) : Host.Outcome State Fault Refusal := s.run (fun m => m.holdupBegins)

/-- HOLDUP_FLUSH_DONE (R97, R396, R825). -/
def execHoldupFlushDone (kept : List (Fin 256)) (s : State) : Host.Outcome State Fault Refusal :=
  s.run (fun m => m.flushEnds (kept.map Fin.val))

/-- CHANNEL_STATE_RECORD_DONE (R97–R100, R825). -/
def execChannelStateRecordDone (s : State) : Host.Outcome State Fault Refusal := s.run (fun m => m.recordDone)

/-- HOLDUP_TIMEOUT (R98, R99). -/
def execHoldupTimeout (s : State) : Host.Outcome State Fault Refusal := s.run (fun m => m.holdupEnds)

/-- VHOLD_EXHAUSTED (R89, R98, R99, R115). -/
def execVholdExhausted (s : State) : Host.Outcome State Fault Refusal := s.run (fun m => m.holdupEnds)

/-- VS_UNDERVOLTAGE_ENTRY (R89, R109, R192, R193). -/
def execVsUndervoltageEntry (group : Fin 4) (s : State) : Host.Outcome State Fault Refusal :=
  s.run (fun m => m.uvEnters group.val)

/-- VS_UNDERVOLTAGE_EXIT (R89, R109, R124, R245, R262). -/
def execVsUndervoltageExit (group : Fin 4) (s : State) : Host.Outcome State Fault Refusal :=
  s.run (fun m => m.uvLeaves group.val)

/-- HOLDUP_CAP_MEASURE (R102): a measurement begins. -/
def execHoldupCapMeasure (s : State) : Host.Outcome State Fault Refusal :=
  s.run (fun m => m.when (! m.sys.resetHeld) (fun m => { m with sup := { m.sup with measuring := true } }))

/-- HOLDUP_CAP_MEASURE_DONE (R102, R103). -/
def execHoldupCapMeasureDone (uf : Nat) (s : State) : Host.Outcome State Fault Refusal := s.run (fun m => m.capMeasured uf)

/-- VOLTAGE_UPDATE (R102, R103, R122). -/
def execVoltageUpdate (vaux vhold : Nat) (vs : List Nat) (s : State) : Host.Outcome State Fault Refusal :=
  s.run (fun m => m.voltages vaux vhold vs)

/-- TEMP_CONVERSION (R119, R120, R122). -/
def execTempConversion (ctl bp : Int) (ps : List Int) (s : State) : Host.Outcome State Fault Refusal :=
  s.run (fun m => m.temperatures ctl bp ps)

end Sys2Proof.Machine
end

