-- ==== Sys2Proof/Machine/Mbx.lean ====
section
/-!
DEFINITION. Long operations (chapter 20): requesters, submissions, handles, and the operations of the mailbox.
-/
namespace Sys2Proof.Machine

/-- A handle command (R800). -/
def isHandleOp (op : Nat) : Bool := decide (1 ≤ op) && decide (op ≤ 5)

/-- A long operation (R800). -/
def isLongOp (op : Nat) : Bool := decide (0x10 ≤ op) && decide (op ≤ 0x17)

/-- Bit of MBX_PERM for a long operation (R800). -/
def classBit (op : Nat) : Nat := if op ≤ 0x12 then 0 else op - 0x12

/-- The arguments `g` of `op` lie within their ranges and the reserved bits of the words it uses are 0 (R800, R804). -/
def argsOk (op : Nat) (g : List Nat) : Bool :=
  let x := fun k => g.getD k 0
  let addr := x 0 + bits (x 1) 7 0 * 2 ^ 32
  if op ≤ 5 then bits (x 0) 31 16 == 0
  else if op = 0x10 then bits (x 1) 31 8 == 0 && (memOfAddr addr).isSome
  else if op = 0x11 then bits (x 0) 31 2 == 0
  else if op = 0x12 then true
  else if op = 0x13 then bits (x 0) 31 10 == 0 && x 0 != 0
  else if op = 0x14 then bits (x 0) 31 7 == 0 && x 0 != 0
  else if op = 0x15 then decide (x 0 ≤ 1)
  else if op = 0x16 then bits (x 0) 31 8 == 0 && x 0 != 0
  else bits (x 1) 31 8 == 0 && addr % 32 == 0 && decide (1 ≤ bits (x 2) 8 0) && decide (bits (x 2) 8 0 ≤ 256)
    && bits (x 2) 15 9 == 0 && bits (x 2) 31 18 == 0
where
  /-- The memory behind an address. -/
  memOfAddr (a : Nat) : Option Nat := Module.memOf a

namespace Module

/-! ### Windows -/

/-- The requester of an access (R797). -/
def requester (a : Access) : Nat := if a.world then 16 else a.part

/-- The refusal of an access to another requester's window (R797). -/
def denyWindow : Deny := { status := 2, code := 1, block := 0x13 }

/-- Byte address of offset `o` in window `r`. -/
def winAddr (r o : Nat) : Nat := 0x21101000 + 0x100 * r + o

/-- An entry is posted to window `r`; behind 16 others it waits (R801, R817; log entry 47). -/
def mbxPost (m : Module) (r : Nat) (e : MbxCpl) : Module :=
  let l := tget [] m.mbx.fifos r
  let m := { m with mbx := { m.mbx with fifos := tset [] m.mbx.fifos r (l ++ [e]) } }
  m.when (decide (l.length < 16)) (·.raise F.MBX_WIN_IRQ_STAT_CPL r)

/-- The state of a handle as an entry shows it at posting. -/
def stateOf (m : Module) (h : Nat) : Nat := if (m.slot (h % 256)).gen = h / 256 then (m.slot (h % 256)).state else 7

/-- The pop of MBX_CPL (R801): the oldest entry goes and its other words show; an entry that waited is posted. -/
def mbxPop (m : Module) (r : Nat) : Module :=
  match tget [] m.mbx.fifos r with
  | [] => m
  | e :: l =>
    let enters := decide (16 ≤ l.length)
    let l := l.mapIdx (fun i x => if i = 15 && x.handle != 0 then { x with state := m.stateOf x.handle } else x)
    let m := { m with mbx := { m.mbx with fifos := tset [] m.mbx.fifos r l } }
    let m := m.when enters (·.raise F.MBX_WIN_IRQ_STAT_CPL r)
    (((m.wr F.MBX_CPL_X_HANDLE e.handle r).wr F.MBX_CPL_X_STATE e.state r).wr F.MBX_CPL_R0_RESULT e.r0 r).wr
      F.MBX_CPL_R1_RESULT e.r1 r

/-- The word of MBX_CPL for an entry (R817). -/
def mbxWord (e : MbxCpl) : Nat := e.session + e.status * 2 ^ 16 + e.op * 2 ^ 24 + 2 ^ 31

/-- What a read of MBX_CPL of window `r` does (R801). -/
def mbxCplPlan (m : Module) (r : Nat) : RePlan :=
  let e := (tget [] m.mbx.fifos r).head?
  { value := (e.map mbxWord).getD 0
    what := e.map (fun e => .mbx r e (m.rd F.MBX_CPL_X_HANDLE r) (m.rd F.MBX_CPL_X_STATE r) (m.rd F.MBX_CPL_R0_RESULT r)
      (m.rd F.MBX_CPL_R1_RESULT r))
    effect := (·.mbxPop r) }

/-- A read of MBX_CPL of window `r` (R376–R378, R797). -/
def mbxCplRead (m : Module) (a : Access) (r : Nat) : Module :=
  let addr := winAddr r 0x24
  if requester a ≠ r then m.access a addr 0 (fun m => m.refuse a addr 0 denyWindow)
  else m.rePlanned a addr (m.mbxCplPlan r)

/-! ### Handles -/

/-- Handles that requester `r` holds. -/
def heldBy (m : Module) (r : Nat) : List Nat :=
  (List.range 256).filter (fun n => (m.slot n).state != 7 && (m.slot n).owner == r)

/-- QUEUED handles of lane `l`. -/
def queuedOf (m : Module) (l : Nat) : List Nat :=
  (List.range 256).filter (fun n => (m.slot n).state == 0 && laneOf (m.slot n).op == l)

/-- Lane U is taken by a handle that is not final (R799 check 7). -/
def laneUTaken (m : Module) : Bool :=
  (List.range 256).any (fun n => decide ((m.slot n).state ≤ 3) && laneOf (m.slot n).op == 0)

/-- The operation of slot `n` has begun its commit step (R793, R806): ADOPT's is the halt of the old pair. -/
def pastCommit (m : Module) (n : Nat) : Bool :=
  let x := m.slot n
  x.committed || (x.op == 0x11 && m.lss.mig.isSome
    && (match m.nvc.act with | some ⟨_, .adopt _ _⟩ => true | _ => false))

/-- The handle of slot `n` becomes final in state `st` with status `status` (R801, R803, R807, R816): the SUSPENDs that wait
complete, then its final entry is posted (log entry 47). -/
def finalise (m : Module) (n st status : Nat) (rolled : Bool := false) : Module :=
  let x := m.slot n
  let h := m.handleOf n
  let m := (m.setSlot n (fun x =>
    { x with state := st, status := status, lane := false, suspends := [], cancels := [], finalUs := m.now })).raise F.MBX_EVT_FINAL
  let m := m.when (st == 6) (·.logBlk 0x13 0x3301 0 (h + x.op * 2 ^ 16 + status * 2 ^ 24))
  let m := m.when (st == 5) (·.logBlk 0x13 0x3302 0 (h + x.op * 2 ^ 16 + b2n rolled * 2 ^ 24))
  let m := x.suspends.foldl (fun (m : Module) s => m.mbxPost x.owner ⟨s, 0, 2, h, st, 0, 0⟩) m
  m.mbxPost x.owner ⟨x.session, status, x.op, h, st, x.r0, x.r1⟩

/-! ### Handle commands -/

/-- A handle command completes with `st` and results `r0`, `r1` (log entry 47). -/
def handleDone (m : Module) (r n op session st : Nat) (r0 r1 : Nat := 0) : Module :=
  m.mbxPost r ⟨session, st, op, m.handleOf n, (m.slot n).state, r0, r1⟩

/-- QUERY (R801): the progress has no rule, and is a free value. -/
def query (m : Module) (r n session : Nat) : Module :=
  let x := m.slot n
  let (m, p) := m.draw 256
  m.handleDone r n 1 session 0 (x.state + p * 2 ^ 8 + x.status * 2 ^ 16 + x.op * 2 ^ 24) x.session

/-- SUSPEND (R805). -/
def suspend (m : Module) (r n session : Nat) : Module :=
  let x := m.slot n
  if x.state = 0 then (m.setSlot n (fun x => { x with state := 2 })).handleDone r n 2 session 0
  else if x.state ≠ 1 then m.handleDone r n 2 session 0x10
  else if x.op = 0x10 then
    if m.nvc.stg = 1 ∧ x.ended = none then (m.setSlot n (fun x => { x with state := 2 })).handleDone r n 2 session 0
    else m.handleDone r n 2 session 1
  else if x.op = 0x13 ∨ x.op = 0x16 then m.setSlot n (fun x => { x with suspends := x.suspends ++ [session] })
  else m.handleDone r n 2 session 1

/-- RESUME (R803, R805). -/
def resume (m : Module) (r n session : Nat) : Module :=
  let x := m.slot n
  if x.state ≠ 2 then m.handleDone r n 3 session 0x10
  else
    let m := (m.setSlot n (fun x => { x with state := if x.lane then 1 else 0 })).handleDone r n 3 session 0
    match (if x.lane ∧ x.op = 0x16 then m.mbx.adcs.head? else none) with
    | some k => m.calibrateNext k
    | none => m

/-- CANCEL (R806). -/
def cancel (m : Module) (r n session : Nat) : Module :=
  let x := m.slot n
  if x.state = 0 ∨ (x.state = 2 ∧ ! x.lane) then
    let m := m.mbxPost r ⟨session, 0x0A, 4, m.handleOf n, 5, 0, 0⟩
    m.finalise n 5 0x0A
  else if x.state = 1 ∨ x.state = 2 then
    if m.pastCommit n then m.handleDone r n 4 session 0x0B
    else m.setSlot n (fun x => { x with state := 3, cancels := x.cancels ++ [session] })
  else if x.state = 3 then m.setSlot n (fun x => { x with cancels := x.cancels ++ [session] })
  else m.handleDone r n 4 session (if x.state = 5 then 0x0A else 0x0B)

/-- RELEASE (R802). -/
def release (m : Module) (r n session : Nat) : Module :=
  if 4 ≤ (m.slot n).state then
    let h := m.handleOf n
    (m.setSlot n (fun x => { ({} : Slot) with gen := x.gen })).mbxPost r ⟨session, 0, 5, h, 7, 0, 0⟩
  else m.handleDone r n 5 session 1

/-! ### Submission -/

/-- The first check of R799 that fails, as its status. -/
def submitRefusal (m : Module) (r op : Nat) (g : List Nat) : Option Nat :=
  let n := bits (g.getD 0 0) 7 0
  let x := m.slot n
  let l := laneOf op
  if ! isHandleOp op && ! isLongOp op then some 0x10
  else if isLongOp op && r != 16 && ! bit (m.rd F.MBX_PERM_CLASS r) (classBit op) then some 2
  else if ! argsOk op g then some 0x10
  else if isHandleOp op then
    if x.state = 7 ∨ x.gen ≠ bits (g.getD 0 0) 15 8 then some 3 else if x.owner ≠ r then some 2 else none
  else if (List.range 256).all (fun k => (m.slot k).state != 7) then some 5
  else if r ≠ 16 ∧ m.rd F.MBX_QUOTA_MAX r ≤ (m.heldBy r).length then some 5
  else if l = 0 ∧ m.laneUTaken then some 1
  else if l ≠ 0 ∧ 8 ≤ (m.queuedOf l).length then some 5 else none

/-- A long operation is accepted (R799, R801, R802): which free slot it takes is a free value (log entry 47). -/
def accept (m : Module) (r op session : Nat) (g : List Nat) : Module :=
  let free := (List.range 256).filter (fun k => (m.slot k).state == 7)
  let (m, k) := m.draw free.length
  let n := free.getD k 0
  let m := m.setSlot n (fun x =>
    { gen := if x.gen = 255 then 1 else x.gen + 1, state := 0, owner := r, op := op, session := session, args := g
      order := m.mbx.next })
  let m := { m with mbx := { m.mbx with next := m.mbx.next + 1 } }
  m.mbxPost r ⟨session, 0, op, m.handleOf n, 0, 0, 0⟩

/-- A write of MBX_GO of window `r` (R797, R799; log entry 47). -/
def submit (m : Module) (r v : Nat) : Module :=
  let op := bits v 7 0
  let session := bits v 31 16
  let g := (List.range 8).map (fun k => m.rd F.MBX_ARG_ARG r k)
  let n := bits (g.getD 0 0) 7 0
  match m.submitRefusal r op g with
  | some st => (m.raise F.MBX_EVT_REFUSED).mbxPost r ⟨session, st, op % 128, 0, 7, 0, 0⟩
  | none =>
    match op with
    | 1 => m.query r n session
    | 2 => m.suspend r n session
    | 3 => m.resume r n session
    | 4 => m.cancel r n session
    | 5 => m.release r n session
    | _ => m.accept r op session g

/-- The write reaches the window: only its own requester's is admitted (R797). -/
def mbxGo (m : Module) (a : Access) (r v : Nat) : Module :=
  m.access a (winAddr r 0x20) 1 (fun m => if requester a = r then m.submit r v else m.refuse a (winAddr r 0x20) 1 denyWindow)

/-! ### SELFTEST -/

/-- LSS takes a SELFTEST of pair `n` (R357). -/
def pairTestable (m : Module) (n : Nat) : Bool :=
  let st := m.pairState n
  (st == 1 || st == 2 || st == 5) && ! m.lss.mig.any (fun g => g.dst == n || g.src == n)

/-- The tests of `want` take place with the results `t` (R134–R136, R804), in order; with the failures in the layout of
SYSCTL_SELFTEST and the tests skipped. -/
def selftests (m : Module) (want : Nat) (t : SelftestResult) : Module × Nat × Nat :=
  let pairs := (List.range 4).filter (fun n => bit want n)
  let skipped := (pairs.filter (fun n => ! m.pairTestable n)).length
  let bad := fun n => ((t.missed.map Fin.val).getD n 0 != 0) || bit t.falseFlags.val n
  let run := pairs.filter m.pairTestable
  let m := run.foldl (fun (m : Module) n =>
    (m.toTest n (if m.pairState n = 5 then .selftestFailed else .settle)).injectionDone n ((t.missed.map Fin.val).getD n 0)
      (bit t.falseFlags.val n)) m
  let pf := run.foldl (fun v n => if bad n then setBit v n true else v) 0
  let cf := t.cores.val &&& bits want 7 4
  let hf := t.hash && bit want 8
  let mf := t.modular && bit want 9
  let m := ((m.wr F.CPE_STAT_FENCED (m.rd F.CPE_STAT_FENCED ||| cf)).when hf (·.raise F.CPE_STAT_HASH_FAIL)).when mf
    (·.raise F.CPE_STAT_MA_FAIL)
  let m := (m.wr F.SYSCTL_SELFTEST_PAIR_FAIL (m.rd F.SYSCTL_SELFTEST_PAIR_FAIL ||| pf)).wr F.SYSCTL_SELFTEST_CORE_FAIL
    (m.rd F.SYSCTL_SELFTEST_CORE_FAIL ||| cf)
  let m := (m.when hf (·.raise F.SYSCTL_SELFTEST_HASH_FAIL)).when mf (·.raise F.SYSCTL_SELFTEST_MOD_FAIL)
  (m, pf + cf * 2 ^ 4 + b2n hf * 2 ^ 8 + b2n mf * 2 ^ 9, skipped)

/-! ### EXPORT_LOG (R809) -/

/-- The records to copy, oldest first, at most `n`: a record whose SEQ breaks the run ends them. -/
def exportRun (slotBytes : Nat → List Byte) : Nat → Nat → Nat → Option Nat → List (List Byte)
  | 0, _, _, _ => []
  | n + 1, i, wr, q =>
    if i % 256 = wr then [] else
    let l := slotBytes (i % 256)
    let s := ofBytes (l.drop 28) % 2 ^ 16
    match q with
    | some q => if s = (q + 1) % 2 ^ 16 then l :: exportRun slotBytes n (i + 1) wr (some s) else []
    | none => l :: exportRun slotBytes n (i + 1) wr (some s)

/-- The records of an export with arguments `g` (log entry 47). -/
def exportRecords (m : Module) (g : List Nat) : List (List Byte) :=
  let n := bits (g.getD 2 0) 8 0
  if bit (g.getD 2 0) 17 then
    match m.nvm.log with
    | some c => exportRun (fun i => tget [] c.slots i) n c.rd c.wr none
    | none => []
  else exportRun (fun i => m.mem.bytes (m.logSlot i) 32) n (m.rd F.FAB_LOG_RD_IDX) (m.rd F.FAB_LOG_WR_IDX) none

/-- The address of an export. -/
def exportAddr (g : List Nat) : Nat := g.getD 0 0 + bits (g.getD 1 0) 7 0 * 2 ^ 32

/-- The records are written one after another; the status of the first write that fails, 0 where none does. -/
def exportWrite (m : Module) (addr : Nat) (l : List (List Byte)) : Module × Nat :=
  let resp := m.resp
  let (m, _, st) := l.foldl (fun (s : Module × Nat × Nat) r =>
    if s.2.2 ≠ 0 then s else
    let (m, good) := s.1.busWrite (s.1.iattr 0x26) s.2.1 r
    (m, s.2.1 + 32, if good then 0 else m.resp.status)) (m, addr, 0)
  ({ m with resp := resp }, st)

/-- EXPORT_LOG of slot `n` runs to its end. -/
def exportEnd (m : Module) (g : List Nat) : Module :=
  let advance := bit (g.getD 2 0) 16 && ! bit (g.getD 2 0) 17
  if advance && ! m.flag F.SYSCTL_IATTR_HST_WORLD then m.opEnded 4 2 0 0
  else
    let l := m.exportRecords g
    let (m, st) := m.exportWrite (exportAddr g) l
    if st ≠ 0 then m.opEnded 4 st 0 0
    else
      let m := m.opCommits 4
      let m := m.when advance (fun m => m.wr F.FAB_LOG_RD_IDX (m.rd F.FAB_LOG_RD_IDX + l.length))
      match l.head? with
      | some r => m.opEnded 4 0 l.length (ofBytes (r.drop 28) % 2 ^ 16)
      | none =>
        let (m, q) := m.draw (2 ^ 32)
        m.opEnded 4 0 0 q

/-! ### The life of a handle -/

/-- The work of an operation begins (R803, R804; log entry 47). -/
def beginWork (o : Otp) (m : Module) (op : Nat) (g : List Nat) : Otp × Module :=
  let x := g.getD 0 0
  match op with
  | 0x10 => (o, m.stageBegin o (exportAddr g))
  | 0x11 => if bit x 0 then actRollback o m else actNext o m (bit x 1)
  | 0x12 => (o, m.commitBegin)
  | 0x14 =>
    (o, (forEach (bitsSet 7 x) (fun k m => (m.raise F.FAB_SCRUB_STAT_REQ_BUSY k).wr F.FAB_SCRUB_STAT_PROGRESS 0 k) m).opCommits 2)
  | 0x15 =>
    (o, if x = 0 then m.wipeStaging
        else ({ m with nvm := { m.nvm with log := none } }.opCommits 0).opEnded 0 0 0 0)
  | 0x16 =>
    let l := bitsSet 8 x
    (o, if m.flag F.CHC_STAT_CAL_STOPPED then m.opEnded 3 0x0F (m.rd F.CHC_CAL_STAT_FAULT) 0
        else { m with mbx := { m.mbx with adcs := l } }.calibrateNext (l.headD 0))
  | _ => (o, m)

/-- The oldest QUEUED handle of a free lane starts (R803; log entry 47). -/
def laneStart (o : Otp) (m : Module) (l : Nat) : Otp × Module :=
  if (m.laneSlot l).isSome then (o, m) else
  let q := m.queuedOf l
  match q.find? (fun n => q.all (fun k => decide ((m.slot n).order ≤ (m.slot k).order))) with
  | none => (o, m)
  | some n =>
    let x := m.slot n
    beginWork o (m.setSlot n (fun x => { x with state := 1, lane := true })) x.op x.args

/-- What is left of the operation of slot `n` is done, where it can end now (log entry 47). -/
def endWork (o : Otp) (m : Module) (n : Nat) (t : SelftestResult) : Otp × Module :=
  let x := m.slot n
  if x.ended.isSome then (o, m) else
  match x.op with
  | 0x11 => actPoll o m
  | 0x12 => commitEnd o m
  | 0x13 =>
    let (m, f, k) := m.selftests (x.args.getD 0 0) t
    (o, m.opEnded 1 0 f k)
  | 0x14 =>
    let left := (bitsSet 7 (x.args.getD 0 0)).any (fun k => m.flag F.FAB_SCRUB_STAT_REQ_BUSY k)
    (o, if left then m else m.opEnded 2 0 0 0)
  | 0x17 => (o, m.exportEnd x.args)
  | _ => (o, m)

/-- A running operation ends (R803, R807; log entry 47). -/
def opFinishes (o : Otp) (m : Module) (l : Nat) (t : SelftestResult) : Otp × Module :=
  match m.laneRuns l with
  | none => (o, m)
  | some n =>
    let (o, m) := endWork o m n t
    match (m.slot n).ended with
    | some st => (o, m.finalise n (if st = 0 then 4 else 6) st)
    | none => (o, m)

/-- A suspend point is reached (R805; log entry 47). -/
def suspendNow (m : Module) (l : Nat) : Module :=
  match m.laneRuns l with
  | none => m
  | some n =>
    let x := m.slot n
    if x.suspends = [] ∨ x.ended.isSome then m else
    let m := m.setSlot n (fun x => { x with state := 2, suspends := [] })
    x.suspends.foldl (fun (m : Module) s => m.handleDone x.owner n 2 s 0) m

/-- What the operation of slot `n` has done is undone (R793, R804). -/
def undoWork (o : Otp) (m : Module) (n : Nat) (t : SelftestResult) : Otp × Module :=
  let x := m.slot n
  match x.op with
  | 0x10 =>
    let m := m.setBank m.stagingBank (fun b =>
      { (b.erase 0x6000000 0x6100000).erase 0x7FEE000 0x7FF0000 with log := [] })
    (o, m.setNvc (fun y => { y with stg := 0, check := 0, working := [] }))
  | 0x11 => match m.nvc.act with | some a => actEnd o m a.comp 0x0A | none => (o, m)
  | 0x13 =>
    let (m, f, k) := m.selftests (x.args.getD 0 0 &&& t.ran.val) t
    (o, m.setSlot n (fun y => { y with r0 := f, r1 := k }))
  | 0x16 => (o, { m with mbx := { m.mbx with adcs := [] }, chc := { m.chc with calShadow := false } })
  | 0x17 =>
    let l := m.exportRecords x.args
    let (m, k) := m.draw (l.length + 1)
    (o, (m.exportWrite (exportAddr x.args) (l.take k)).1)
  | _ => (o, m)

/-- The rollback of a cancelled operation completes with `st` (R806). -/
def rollbackEnds (o : Otp) (m : Module) (l st : Nat) (t : SelftestResult) : Otp × Module :=
  match (m.laneSlot l).filter (fun n => (m.slot n).state == 3) with
  | none => (o, m)
  | some n =>
    let (o, m) := if st = 0 then undoWork o m n t else (o, m)
    let x := m.slot n
    let fin := if st = 0 then 5 else 6
    let m := x.cancels.foldl (fun (m : Module) s =>
      m.mbxPost x.owner ⟨s, if st = 0 then 0x0A else 0x12, 4, m.handleOf n, fin, 0, 0⟩) m
    (o, m.finalise n fin (if st = 0 then 0x0A else st) true)

/-- The slot of a handle that has been final for 60 s becomes free (R802). -/
def handleExpires (m : Module) (n : Nat) : Module :=
  let st := (m.slot n).state
  m.when (4 ≤ st && st ≤ 6 && decide ((m.slot n).finalUs + 60000000 ≤ m.now)) (·.setSlot n (fun x => { ({} : Slot) with gen := x.gen }))

/-! ### Resets -/

/-- A block reset of MBX (R808): an operation past its commit step runs to its end (that of NVC's activations and of FAB's
scrubs they find by themselves), what has not begun it is rolled back, and every handle is freed (log entry 17). -/
def mbxBlockReset (o : Otp) (m : Module) : Otp × Module :=
  let l := (List.range 256).filter (fun n => (m.slot n).lane && decide ((m.slot n).state ≤ 3))
  let (o, m) := l.foldl (fun (s : Otp × Module) n =>
    if ! s.2.pastCommit n then undoWork s.1 s.2 n {}
    else if (s.2.slot n).op = 0x12 then commitEnd s.1 s.2 else s) (o, m)
  let resumes := l.any (fun n => (m.slot n).op == 0x16 && (m.slot n).state == 2 && m.pastCommit n)
  let m := match (if resumes then m.mbx.adcs.head? else none) with | some k => m.calibrateNext k | none => m
  let slots := (List.range 256).foldl (fun t n => tmod ({} : Slot) t n (fun x => { ({} : Slot) with gen := x.gen })) m.mbx.slots
  (o, { m with mbx := { slots := slots, adcs := m.mbx.adcs } })

/-- The window of partition `r` in a partition reset (R808, R817). -/
def windowReset (m : Module) (r : Nat) : Module :=
  let m := { m with mbx := { m.mbx with fifos := tdel m.mbx.fifos r } }
  m.clrRange (winAddr r 0) (winAddr r 0x100)

end Module

/-! ### Commands -/

/-- QUERY (R797–R801): a write of MBX_GO. -/
def execMbxQuery (a : Access) (win : Fin 17) (v : Word) (s : State) : Host.Outcome State Fault Refusal :=
  s.runBy a 1 (fun a m => m.mbxGo a win.val v.toNat)

/-- SUSPEND (R797–R801, R805): a write of MBX_GO. -/
def execMbxSuspend (a : Access) (win : Fin 17) (v : Word) (s : State) : Host.Outcome State Fault Refusal :=
  s.runBy a 1 (fun a m => m.mbxGo a win.val v.toNat)

/-- RESUME (R797–R801, R803, R805): a write of MBX_GO. -/
def execMbxResume (a : Access) (win : Fin 17) (v : Word) (s : State) : Host.Outcome State Fault Refusal :=
  s.runBy a 1 (fun a m => m.mbxGo a win.val v.toNat)

/-- CANCEL (R797–R801, R806, R815): a write of MBX_GO. -/
def execMbxCancel (a : Access) (win : Fin 17) (v : Word) (s : State) : Host.Outcome State Fault Refusal :=
  s.runBy a 1 (fun a m => m.mbxGo a win.val v.toNat)

/-- RELEASE (R797–R802): a write of MBX_GO. -/
def execMbxRelease (a : Access) (win : Fin 17) (v : Word) (s : State) : Host.Outcome State Fault Refusal :=
  s.runBy a 1 (fun a m => m.mbxGo a win.val v.toNat)

/-- STAGE_BUNDLE (R763, R767, R797–R803): the submission; the operation runs from HANDLE_START. -/
def execStageBundle (a : Access) (win : Fin 17) (v : Word) (s : State) : Host.Outcome State Fault Refusal :=
  s.runBy a 1 (fun a m => m.mbxGo a win.val v.toNat)

/-- ACTIVATE with MODE NEXT (R774, R797–R803): the submission. -/
def execActivateNext (a : Access) (win : Fin 17) (v : Word) (s : State) : Host.Outcome State Fault Refusal :=
  s.runBy a 1 (fun a m => m.mbxGo a win.val v.toNat)

/-- ACTIVATE with MODE ROLLBACK (R790, R797–R803): the submission. -/
def execActivateRollback (a : Access) (win : Fin 17) (v : Word) (s : State) : Host.Outcome State Fault Refusal :=
  s.runBy a 1 (fun a m => m.mbxGo a win.val v.toNat)

/-- COMMIT (R791, R797–R803): the submission. -/
def execMbxCommit (a : Access) (win : Fin 17) (v : Word) (s : State) : Host.Outcome State Fault Refusal :=
  s.runBy a 1 (fun a m => m.mbxGo a win.val v.toNat)

/-- SELFTEST (R797–R804): the submission. -/
def execMbxSelftest (a : Access) (win : Fin 17) (v : Word) (s : State) : Host.Outcome State Fault Refusal :=
  s.runBy a 1 (fun a m => m.mbxGo a win.val v.toNat)

/-- SCRUB (R797–R804): the submission. -/
def execMbxScrub (a : Access) (win : Fin 17) (v : Word) (s : State) : Host.Outcome State Fault Refusal :=
  s.runBy a 1 (fun a m => m.mbxGo a win.val v.toNat)

/-- WIPE with TARGET STAGING (R797–R804): the submission. -/
def execWipeStaging (a : Access) (win : Fin 17) (v : Word) (s : State) : Host.Outcome State Fault Refusal :=
  s.runBy a 1 (fun a m => m.mbxGo a win.val v.toNat)

/-- WIPE with TARGET HOLDUP_LOG (R797–R804): the submission. -/
def execWipeHoldupLog (a : Access) (win : Fin 17) (v : Word) (s : State) : Host.Outcome State Fault Refusal :=
  s.runBy a 1 (fun a m => m.mbxGo a win.val v.toNat)

/-- CALIBRATE_CHANNELS (R797–R804): the submission. -/
def execCalibrateChannels (a : Access) (win : Fin 17) (v : Word) (s : State) : Host.Outcome State Fault Refusal :=
  s.runBy a 1 (fun a m => m.mbxGo a win.val v.toNat)

/-- EXPORT_LOG (R797–R804, R809): the submission. -/
def execExportLog (a : Access) (win : Fin 17) (v : Word) (s : State) : Host.Outcome State Fault Refusal :=
  s.runBy a 1 (fun a m => m.mbxGo a win.val v.toNat)

/-- HANDLE_START (R803, R804). -/
def execHandleStart (lane : Fin 5) (s : State) : Host.Outcome State Fault Refusal :=
  s.runOtpIn 0x13 (fun o m => Module.laneStart o m lane.val)

/-- SUSPEND_POINT (R805). -/
def execSuspendPoint (lane : Fin 5) (s : State) : Host.Outcome State Fault Refusal := s.runIn 0x13 (fun m => m.suspendNow lane.val)

/-- LONG_OP_END (R801, R803, R804, R807, R809): `tests` are the results of a SELFTEST. -/
def execLongOpEnd (lane : Fin 5) (tests : SelftestResult) (s : State) : Host.Outcome State Fault Refusal :=
  s.runOtpIn 0x13 (fun o m => Module.opFinishes o m lane.val tests)

/-- ROLLBACK_COMPLETE (R793, R804, R806): `status` is that of the rollback. -/
def execRollbackComplete (lane : Fin 5) (status : Fin 256) (tests : SelftestResult) (s : State) :
    Host.Outcome State Fault Refusal :=
  s.runOtpIn 0x13 (fun o m => Module.rollbackEnds o m lane.val status.val tests)

/-- HANDLE_EXPIRY (R802). -/
def execHandleExpiry (slot : Fin 256) (s : State) : Host.Outcome State Fault Refusal :=
  s.runIn 0x13 (fun m => m.handleExpires slot.val)

/-- MBX_CPL_READ (R376, R377, R797, R801). -/
def execMbxCplRead (a : Access) (win : Fin 17) (s : State) : Host.Outcome State Fault Refusal :=
  s.runBy a 0 (fun a m => m.mbxCplRead a win.val)

end Sys2Proof.Machine
end

