-- ==== Sys2Proof/Machine/Views.lean ====
section
/-!
DEFINITION. What a read of a register shows (R9–R16): its stored fields, and the fields that show other state of the
block, which are computed here.
-/
namespace Sys2Proof.Machine

namespace Module

/-- A field that shows `v` in bits [hi:lo]. -/
def shown (v hi lo : Nat) : Nat × Nat := ((2 ^ (hi + 1 - lo) - 1) * 2 ^ lo, v % 2 ^ (hi + 1 - lo) * 2 ^ lo)

/-- The element of a family with offset `o` below, `d` apart, `n` of them, at the register itself. -/
def elem (o d n : Nat) : Option Nat := if o % d = 0 ∧ o / d < n then some (o / d) else none

/-- Time since `t` of DPX's coverage, in units of `us` µs; never is the largest value (R716). -/
def covAge (m : Module) (t us : Nat) : Nat := if t = 0 then 65535 else sat 16 ((m.covNow - t) / us)

/-- The longest time since an eligible channel's diagnostic cycle: the channels whose mirrored CMD is OFF (R716;
log entry 44). -/
def covDiagAge (m : Module) : Nat :=
  ((List.range 128).filter (fun n => tget 0 m.dpx.peerCmd n == 0)).foldl
    (fun v n => max v (m.covAge (tget 0 m.dpx.cov.diagAt n) 1000)) 0

/-- The longest time since a pair passed injection (R716; log entry 44). -/
def covPairAge (m : Module) : Nat :=
  (List.range 4).foldl (fun v p => max v (m.covAge (tget 0 m.dpx.cov.pairAt p) 1000000)) 0

/-- The fields of SYSCTL, CHC, IMG, SWC and TMU that show other state, at offset `o` of the window of block `b`. -/
def viewBlock (m : Module) (b o : Nat) : List (Nat × Nat) :=
  if b = 2 then
    if o = 0x6C then [shown (b2n m.sys.blkRst.isSome) 0 0, shown (b2n m.sys.partRst.isSome) 1 1] else []
  else if b = 4 then
    if 0x800 ≤ o ∧ o < 0x840 then
      match elem (o - 0x800) 4 16 with
      | some i => [shown (m.rd F.CHI_STATE_STATE i) 1 0, shown (m.chi i).queue.length 12 8, shown (m.chi i).fifo.length 20 16]
      | none => []
    else if 0x1000 ≤ o ∧ o < 0x1800 then
      if o % 16 = 0 then [shown (m.condWord ((o - 0x1000) / 16)) 31 0]
      else if o % 16 = 4 then [shown (m.recovWord ((o - 0x1000) / 16)) 31 0]
      else if o % 16 = 8 then [shown (m.measWord ((o - 0x1000) / 16)) 31 0] else []
    else if 0x1900 ≤ o ∧ o < 0x1910 then
      match elem (o - 0x1900) 4 4 with
      | some w => [shown ((List.range 32).foldl (fun v n => setBit v n (m.flag F.CHC_CH_EVT_EVT (32 * w + n))) 0) 31 0]
      | none => []
    else []
  else if b = 0x10 then
    if 0x20 ≤ o ∧ o < 0x2C then
      match elem (o - 0x20) 4 3 with
      | some c => [shown ((classPages c).map (m.instShare)).sum 11 0, shown (pool c) 27 16]
      | none => []
    else if 0x1000 ≤ o ∧ o < 0x1700 then
      let p := (o - 0x1000) / 16
      if o % 16 = 0 then [shown (b2n (m.pageWorld p)) 8 8, shown (classOfPage p) 11 10]
      else if o % 16 = 8 then
        [shown (if p < 96 then m.rd F.IMG_INST_STAT_GEN p else 0) 11 0, shown (b2n (tget {} m.inst p).fence) 12 12,
         shown (m.instOcc p) 27 16]
      else []
    else []
  else if b = 6 then
    if o = 4 then [shown m.cellsFree 13 0, shown m.freeShared 29 16]
    else if o = 8 then [shown m.descsUsed 12 0, shown m.copiesUsed 29 16]
    else if o = 0x18 then [shown (m.swc.fwd.filter (fun e => fwdValid e.2 && ! fwdStatic e.2)).length 13 0]
    else if o = 0x34 then [shown m.epochOldest 31 0]
    else if 0x800 ≤ o ∧ o < 0xA00 then
      match elem (o - 0x800) 4 128 with
      | some q => [shown (m.qCells q) 13 0, shown (m.queueCopies (q / 8) (q % 8)).length 29 16]
      | none => []
    else if 0xA00 ≤ o ∧ o < 0xC00 then
      match elem (o - 0xA00) 4 128 with
      | some q => [shown (m.ingCells (q / 8) (q % 8)) 13 0]
      | none => []
    else []
  else if b = 9 then
    if o = 0x10 then [shown m.taiSec 31 0]
    else if o = 0x14 then [shown (m.taiSec / 2 ^ 32) 15 0]
    else if o = 0x18 then [shown (m.tai % 1000000000) 29 0]
    else if o = 0x1C then [shown m.tmu.t 31 0]
    else if o = 0x20 then [shown m.tai 63 0]
    else if o = 0x28 then [shown (m.tai / 1000) 31 0]
    else if o = 0x2C then [shown (m.tai / 1000 / 2 ^ 32) 31 0]
    else if 0x100 ≤ o ∧ o < 0x140 then
      let k := (o - 0x100) / 16
      if o % 16 = 0 then [shown (m.evi k).length 12 8]
      else if o % 16 = 4 then
        [shown (match (m.evi k).head? with | some e => e.t / 1000000000 | none => 0) 31 0]
      else if o % 16 = 8 then [shown (m.eviWord k) 31 0] else []
    else []
  else []

/-- The fields of NVC that show other state, at offset `o` (R769, R773, R789, R795, R796; log entry 45). -/
def viewNvc (m : Module) (o : Nat) : List (Nat × Nat) :=
  let missing := fun (i : Nat) => decide (i < m.chunkCount) && ! m.chunkStaged i
  if o = 0x110 then [shown m.stagedCount 14 0, shown m.chunkCount 30 16]
  else if o = 0x114 then [shown m.nvc.stg 2 0, shown m.stagingBank 3 3, shown m.nvc.check 15 8]
  else if o = 0x118 then [shown (((List.range m.chunkCount).find? missing).getD m.chunkCount) 14 0]
  else if o = 0x120 then
    [shown ((List.range 32).foldl (fun v n => setBit v n (missing (32 * m.rd F.NVC_MISS_SEL_WORD + n))) 0) 31 0]
  else if o = 0x140 then
    let word := fun (k : Nat) => m.rd F.NVC_PEER_MAP_WORD k
    let same := ((List.range 12).flatMap (fun k => toBytes 4 (word (768 + k)))) == (m.bank m.stagingBank).read 0x7FEE000 48
    if m.flag F.NVC_PEER_STG_VALID then
      [shown (24576 - ((List.range 768).map (fun k => popCount 32 (word k))).sum) 14 0, shown (b2n same) 16 16]
    else []
  else if o = 0x200 then
    [shown m.nvc.phase 3 0, shown (m.nextComp.getD 0) 12 8, shown (b2n (m.toActivate.all (m.activated.contains ·))) 13 13,
     shown m.nvc.last 23 16, shown m.nvc.done.length 29 24]
  else if o = 0x204 then [shown ((m.nvc.done.foldl (fun v d => max v d.leftUs) 0 + 999999) / 1000000) 16 0]
  else if o = 0x208 then [shown m.nvc.failComp 4 0, shown m.nvc.failCause 11 8]
  else []

/-- The fields of MBX that show other state, at offset `o` (R817). -/
def viewMbx (m : Module) (o : Nat) : List (Nat × Nat) :=
  let used := (List.range 256).filter (fun n => (m.slot n).state != 7)
  if o = 0 then [shown used.length 8 0]
  else if 0x10 ≤ o ∧ o < 0x24 then
    match elem (o - 0x10) 4 5 with
    | some l => [shown ((m.laneSlot l).map m.handleOf |>.getD 0) 15 0, shown (m.queuedOf l).length 19 16,
                 shown (b2n (m.laneSlot l).isSome) 24 24]
    | none => []
  else if 0x1000 ≤ o ∧ o < 0x2100 then
    let r := (o - 0x1000) / 0x100
    let w := o % 0x100
    if w = 0x24 then [shown ((tget [] m.mbx.fifos r).head?.map mbxWord |>.getD 0) 31 0]
    else if w = 0x34 then [shown (min 16 (tget [] m.mbx.fifos r).length) 4 0, shown (m.heldBy r).length 16 8]
    else if 0x40 ≤ w ∧ w < 0x60 ∧ w % 4 = 0 then
      [shown ((m.heldBy r).foldl (fun v n => if n / 32 = (w - 0x40) / 4 then setBit v (n % 32) true else v) 0) 31 0]
    else []
  else []

/-- The fields of an instance page that show other state: page `p`, offset `o` (R283, R289, R291, R305, R435, R447, R680). -/
def viewPage (m : Module) (p o : Nat) : List (Nat × Nat) :=
  if o = 0x700 then
    [shown p 6 0, shown (classOfPage p) 9 8, shown (b2n (m.pageWorld p)) 12 12, shown (m.rd F.IMG_INST_CFG_PART p) 19 16]
  else if o = 0x704 then
    [shown (if p < 96 then m.rd F.IMG_INST_STAT_GEN p else 0) 11 0, shown (b2n (tget {} m.inst p).fence) 16 16]
  else if o = 0x708 then [shown (m.instShare p) 11 0, shown (m.rd F.IMG_INST_SHARE_WEIGHT p) 23 16]
  else if o = 0x70C then [shown (m.instOcc p) 11 0]
  else if o = 0x714 then
    [shown (m.rd F.IMG_INST_STAT_QUIESCE p) 0 0, shown (m.rd F.IMG_INST_STAT_QUIESCE_DONE p) 1 1]
  else if p < 64 then
    if o = 0xC then [shown (m.cpi p).fifo.length 5 0, shown (b2n (m.rd F.CPE_STAT_FENCED == 15)) 8 8]
    else if o = 0x10 then [shown ((m.cpi p).fifo.head?.map cpiWord |>.getD 0) 31 0] else []
  else if p < 96 then []
  else
    let i := p - 96
    let x := m.chi i
    if o = 0xC then
      [shown i 7 4, shown x.queue.length 12 8, shown (m.instShare p) 20 16, shown x.fifo.length 28 24]
    else if o = 0x10 then [shown (x.fifo.head?.map cplWord |>.getD 0) 31 0]
    else if o = 0x20 then [shown ((x.leftUs + 999) / 1000) 29 16]
    else if o = 0x2C then [shown (m.rd F.CHC_SWEEP_NUM) 31 0]
    else if 0x50 ≤ o ∧ o < 0x60 ∧ o % 4 = 0 then
      [shown ((List.range 32).foldl (fun v n => setBit v n (m.flag F.CHI_CH_EVT_EVT i (32 * ((o - 0x50) / 4) + n))) 0) 31 0]
    else if 0x800 ≤ o ∧ o % 4 = 0 then
      let n := (o - 0x800) / 16
      let own := (m.chan n).owned && (m.chan n).owner == i
      if o % 16 = 0 then [shown (if own then m.condWord n else 0) 31 0]
      else if o % 16 = 4 then [shown (if own then m.recovWord n else 0) 31 0]
      else if o % 16 = 8 then [shown (if own then m.measWord n else 0) 31 0]
      else if own then [] else [shown 0 31 0]
    else []

/-- The fields of the register at byte address `a` that show other state. -/
def viewFields (m : Module) (a : Nat) : List (Nat × Nat) :=
  if isAperture a then m.viewPage (pageOf a) ((a - 0x40000000) % 0x1000)
  else match blockOf a with
  | some b =>
    let o := (a - 0x20000000) % 0x100000
    if a < 0x20000000 ∨ 0x21400000 ≤ a then []
    else if b = 0x15 then m.viewNvc o
    else if b = 0x13 then m.viewMbx o
    else if b = 0x0E then
      if o = 0 then [shown m.unitNo 16 16]
      else if o = 0xA0 then [shown m.covDiagAge 15 0]
      else if o = 0xA4 then [shown (m.covAge m.dpx.cov.pulseAt 1000000) 15 0]
      else if o = 0xA8 then [shown m.covPairAge 15 0]
      else if o = 0xAC then [shown (m.covAge m.dpx.cov.scrubAt 1000000) 15 0] else []
    else if b = 0x0D then if o = 0x30 then [shown (b2n m.rootAllowed) 1 1] else []
    else if b = 0x0F then if o = 4 then [shown m.pbr.holding.length 27 24] else []
    else m.viewBlock b o
  | none => []

/-- The value a read of the register at byte address `a` returns (log entry 49). -/
def view (m : Module) (a : Nat) : Nat :=
  (m.viewFields a).foldl (fun v f => without v f.1 + f.2) (m.plainRead a)

end Module

end Sys2Proof.Machine
end

