-- ==== Sys2Proof/Machine/Hst.lean ====
section
/-!
DEFINITION. The lichen report and its seal (chapter 20), and the VAUX minimum (chapter 2).
-/
namespace Sys2Proof.Machine

namespace Module

/-- The value of the register that holds field `f`, element `i`. -/
def regOf (m : Module) (f : Fam) (i : Nat := 0) : Nat := m.view (f.addr i 0 0)

/-- Bit n is set where `p n` holds, for n below `k`. -/
def mapOf (k : Nat) (p : Nat → Bool) : Nat := (List.range k).foldl (fun v n => setBit v n (p n)) 0

/-- One number of several, each shifted to its place. -/
def packed (l : List (Nat × Nat)) : Nat := (l.map (fun x => x.1 * 2 ^ x.2)).sum

/-- Word `w` of a channel map of the report. -/
def chanMap (m : Module) (w : Nat) : Nat :=
  mapOf 32 (fun n => let c := m.chan (32 * w + n); c.exhausted || c.fwMissing || c.swFail || c.configBad)

/-- The words 0x00–0x3C of a report (R811). -/
def reportHead (m : Module) : List Nat :=
  let h := m.hst
  [0x4843494C,
   packed [(1, 0), (m.unitNo, 8), (b2n h.first, 9), (m.rd F.DPX_CFG_EN, 10), (b2n (m.rd F.WCT_STAT_SEC_STATE != 1), 11)],
   m.rd F.HST_LR_SEQ_SEQ, 0,
   m.tai % 2 ^ 32, m.tai / 2 ^ 32 % 2 ^ 32,
   m.rd F.LSS_MTIME_US / 1000 % 2 ^ 32,
   m.rd F.SYSCTL_IMG_SEQ_SEQ,
   packed [(bits (m.regOf F.SYSCTL_SECVER_COUNTER) 15 0, 0), (m.rd F.SYSCTL_LC_STATE_STATE, 16),
           (bits (m.regOf F.SYSCTL_BOOT_STAT_STAGE) 6 4, 19), (m.rd F.SYSCTL_LC_STATE_OTP_DISAGREE, 22)],
   bits (m.regOf F.HST_SUP_STAT_VAUX_STATE) 9 0,
   packed [(h.sup % 2048, 0), (b2n h.mesh, 16)],
   packed [(h.vmin % 65536, 0), (m.rd F.HST_VHOLD_MV_NOW, 16)],
   packed [(m.rd F.HST_HOLDUP_CAP_UF, 0), (m.rd F.HST_TEMP_CTL_DEG, 16)],
   m.rd F.HST_TEMP_BP_DEG,
   packed [(m.rd F.HST_TEMP_PS_A_DEG, 0), (m.rd F.HST_TEMP_PS_B_DEG, 16)],
   packed [(m.rd F.HST_TEMP_PS_C_DEG, 0), (m.rd F.HST_TEMP_PS_D_DEG, 16)]]

/-- The words 0x40–0x7C of a report (R811). -/
def reportMiddle (m : Module) : List Nat :=
  let h := m.hst
  [bits (m.regOf F.SYSCTL_SELFTEST_PAIR_FAIL) 9 0,
   packed ((List.range 4).map (fun p => (m.rd F.LSS_PAIR_STAT_STATE p, 3 * p))
     ++ (List.range 4).map (fun p => (m.rd F.LSS_PAIR_STAT_LOCKSTEP_BROKEN p, 12 + p))
     ++ (List.range 16).map (fun p => (m.rd F.LSS_PART_SAFE_VALID p, 16 + p))),
   packed ((List.range 4).map (fun p => (sat 8 (tget 0 h.replays p), 8 * p))),
   packed [(sat 8 h.migrations, 0), (sat 8 h.werrs, 8), (mapOf 16 (fun p => [3, 4].contains (m.rd F.LSS_PART_STATE p)), 16)],
   packed [(m.rd F.WCT_STAT_SEC_STATE, 0), (m.rd F.WCT_STAT_RESTARTS, 4), (m.rd F.WCT_RESTART_CNT_TOTAL, 16)],
   packed [(sat 16 h.rebuilds, 0), (sat 8 h.transients, 16), (sat 8 h.poisons, 24)],
   packed [(sat 16 h.written, 0), (sat 16 h.overwritten, 16)],
   packed [(m.rd F.CHC_CAL_STAT_FAULT, 0), (m.rd F.CHC_STAT_CAL_SPARE, 8), (m.rd F.CHC_STAT_CAL_STOPPED, 9), (h.uc % 4, 10),
           (mapOf 4 (fun g => (m.grp g).overLimit), 12), (mapOf 4 (fun g => (m.grp g).loss), 16), (m.rd F.CHC_STAT_BANK, 20)]]
  ++ (List.range 4).map m.chanMap
  ++ (List.range 4).map (fun w => h.trips / 2 ^ (32 * w) % 2 ^ 32)

/-- The words 0x80–0xF8 of a report (R811). -/
def reportTail (m : Module) : List Nat :=
  [m.regOf F.DPX_STATE_ROLE, m.regOf F.DPX_FIT_OWN, m.regOf F.DPX_PATH_AGE_US, m.regOf F.DPX_PATH_AGE_US 1,
   m.regOf F.DPX_PATH_AGE_US 2, m.regOf F.DPX_COV_DIAG_AGE_MS, m.regOf F.DPX_COV_PULSE_AGE_S, m.regOf F.DPX_COV_PAIRS_AGE_S,
   m.regOf F.DPX_COV_SCRUB_AGE_S, m.regOf F.DPX_COUNT_TAKEOVERS, m.rd F.NPM_STORM_SEGS,
   packed [(bits (m.regOf F.CPE_STAT_BUSY) 12 4, 0), (m.rd F.KST_STAT_MESH_OPEN, 9)],
   sat 32 m.hst.drops, m.hst.swc % 128,
   packed [(m.nvc.phase, 0), (m.nvc.last, 8), (m.nvc.stg, 16)],
   packed [(bits (m.view 0x21100000) 8 0, 0),
           (mapOf 5 (fun l => match m.laneSlot l with | some n => [1, 2].contains (m.slot n).state | none => false), 16)],
   m.rd F.HST_SEAL_STAT_LAST * 2,
   packed [(m.rd F.HST_SEAL_CNT_LATE, 0), (m.rd F.HST_SEAL_CNT_SKIPPED, 16)]] ++ List.replicate 13 0

/-- The report, with its CRC (log entry 48). -/
def reportBytes (m : Module) : List Byte :=
  let l := (m.reportHead ++ m.reportMiddle ++ m.reportTail).flatMap (toBytes 4)
  l ++ toBytes 4 (crc32 l)

/-- The latches "since the previous report" start again (R811; log entry 48). -/
def latchesClear (m : Module) : Module :=
  { m with hst := { first := false, vmin := m.rd F.HST_VAUX_MV_NOW, lastAt := m.hst.lastAt, sealUs := m.hst.sealUs
                    sealLate := m.hst.sealLate } }

/-- A seal request is counted skipped (log entry 48). -/
def sealSkipped (m : Module) (seq : Nat) : Module := (m.addW F.HST_SEAL_CNT_SKIPPED 1).logBlk 0x14 0x3402 0 seq

/-- The seal request that follows the report numbered `seq` (R812, R814; log entry 48). -/
def sealRequest (m : Module) (seq : Nat) : Module :=
  if (seq + 1) % 100 ≠ 0 then m
  else if m.rd F.WCT_STAT_SEC_STATE ≠ 1 then m.sealSkipped (seq - 99)
  else
    let m := m.when (m.flag F.HST_SEAL_STAT_PEND) (fun m => m.sealSkipped (m.rd F.HST_SEAL_REQ_FIRST_SEQ))
    let m := { m with hst := { m.hst with sealUs := m.now, sealLate := false } }
    ((m.wr F.HST_SEAL_REQ_FIRST_SEQ (seq - 99)).raise F.HST_EVT_SEAL_REQ).raise F.HST_SEAL_STAT_PEND

/-- A report is due (R810): the latest multiple of 10 000 µs lies less than 200 µs back, and has no report (log entry 48). -/
def reportDue (m : Module) : Bool :=
  let t := m.rd F.LSS_MTIME_US
  m.flag F.HST_CTRL_LR_EN && decide (t % 10000 < 200) && m.hst.lastAt != some (t / 10000)

/-- HST writes one report (R810, R811; log entry 48). -/
def report (m : Module) : Module :=
  if ! m.reportDue then m else
  let m := { m with hst := { m.hst with lastAt := some (m.rd F.LSS_MTIME_US / 10000) } }
  let size := 2 ^ m.rd F.HST_LR_SIZE_LOG2
  let i := m.rd F.HST_LR_WR_IDX % size
  let seq := m.rd F.HST_LR_SEQ_SEQ
  let addr := m.rd F.HST_LR_BASE_ADDR * 4096 + 256 * i
  let resp := m.resp
  let full := (i + 1) % size == m.rd F.HST_LR_RD_IDX % size
  let (m, done) := m.busWrite (m.iattr 0x26) addr m.reportBytes
  if ! done then
    { ((m.lower F.HST_CTRL_LR_EN).raise F.HST_EVT_LR_FAIL).logBlk 0x14 0x3401 addr m.resp.status with resp := resp }
  else
    let m := { m with resp := resp }
    let m := m.when full (fun m =>
      ((m.wr F.HST_LR_RD_IDX ((m.rd F.HST_LR_RD_IDX + 1) % size)).addS F.HST_LR_LOST_COUNT 1).raise F.HST_EVT_LR_LOST)
    let m := (m.wr F.HST_LR_WR_IDX ((i + 1) % size)).wr F.HST_LR_SEQ_SEQ ((seq + 1) % 4294967200)
    m.latchesClear.sealRequest seq

/-- A write of HST_SEAL_DONE by the secure world (R812): a value other than HST_SEAL_REQ is ignored. -/
def sealDone (m : Module) (v : Nat) : Module :=
  if v ≠ m.rd F.HST_SEAL_REQ_FIRST_SEQ ∨ ! m.flag F.HST_SEAL_STAT_PEND then m
  else (m.lower F.HST_SEAL_STAT_PEND).wr F.HST_SEAL_STAT_LAST (v / 2)

/-- A seal request has not been done within 1 s (R812). -/
def sealLate (m : Module) : Module :=
  m.when (m.flag F.HST_SEAL_STAT_PEND && ! m.hst.sealLate && decide (m.hst.sealUs + 1000000 ≤ m.now)) (fun m =>
    ({ m with hst := { m.hst with sealLate := true } }.addW F.HST_SEAL_CNT_LATE 1).raise F.HST_EVT_SEAL_LATE)

/-- What a read of HST_VAUX_MV does (R122): the committed read sets MIN to NOW. -/
def vauxPlan (m : Module) : RePlan :=
  { value := m.rd F.HST_VAUX_MV_NOW + m.rd F.HST_VAUX_MV_MIN * 2 ^ 16, what := some .tracker, effect := (·.trackerRestart) }

/-- A read of HST_VAUX_MV (R122, R376–R378; log entry 48). -/
def vauxRead (m : Module) (a : Access) : Module := m.rePlanned a 0x21200408 m.vauxPlan

end Module

/-! ### Commands -/

/-- LICHEN_REPORT (R810, R811, R812, R814). -/
def execLichenReport (s : State) : Host.Outcome State Fault Refusal := s.runIn 0x14 (fun m => m.report)

/-- SEAL_DONE (R812, R818): world 1 only. -/
def execSealDone (a : Access) (v : Word) (s : State) : Host.Outcome State Fault Refusal :=
  s.runBy a 1 (fun a m => m.accessIf a 0x21200044 a.world (·.sealDone v.toNat))

/-- SEAL_LATE (R812). -/
def execSealLate (s : State) : Host.Outcome State Fault Refusal := s.runIn 0x14 (fun m => m.sealLate)

/-- HST_VAUX_MV_READ (R122, R376, R377). -/
def execHstVauxMvRead (a : Access) (s : State) : Host.Outcome State Fault Refusal := s.runBy a 0 (fun a m => m.vauxRead a)

end Sys2Proof.Machine
end

