-- ==== Sys2Proof/Machine/Sysctl.lean ====
section
/-!
DEFINITION. Block reset, partition reset and the power-up of a block (chapter 1), with what each block's own chapter says
of its block reset.
-/
namespace Sys2Proof.Machine

namespace Module

/-- The wrap fences of the pages [lo, hi) are released, and GEN becomes 1 (R456). -/
def fencesFree (m : Module) (lo hi : Nat) : Module :=
  forEach ((List.range (hi - lo)).map (lo + ·)) (fun p m => if (tget {} m.inst p).fence then m.instResetDone p 1 else m) m

/-- The instance registers of the pages [lo, hi) return to their reset values. -/
def pagesClear (m : Module) (lo hi : Nat) : Module :=
  forEach ((List.range (hi - lo)).map (lo + ·)) (fun p m => m.clrRange (pageBase p) (pageBase p + 0x700)) m

/-- The registers that a block reset keeps (R122, R328, R363, R458, R674, R675; log entry 17). -/
def keptByBlock (b a : Nat) : Bool :=
  let o := a % 0x100000
  if b = 0x14 then decide (0x400 ≤ o) && decide (o < 0x440)
  else if b = 0x11 then o == 0x80
  else if b = 0x0D then decide (0x100 ≤ o) && o % 16 == 4
  else b == 0x10

/-- The register window of block `b` returns to its reset values. -/
def windowClear (m : Module) (b : Nat) : Module := m.clrRange (winBase b) (winBase b + 0x100000) (keptByBlock b)

/-- CHC: outputs off, commands and completions discarded, and the state of the channels, groups and banks gone (R303;
log entry 17). -/
def chcClear (m : Module) : Module :=
  let m := m.allOffHard.when (m.mbx.adcs != []) (fun m => m.calHalted 8)
  let x := m.chc
  let m := { m with chc := { chans := x.chans, profiles := x.profiles, parts := x.parts, keptChan := x.keptChan, keptUc := x.keptUc } }
  forEach (List.range 16) (fun i m => m.chiReset i) (m.windowClear 4)

/-- CHC after its reset: the retained records run again, in bank 0, and R273 applies with the "Otherwise" column (R303). -/
def chcRestart (m : Module) : Module :=
  if m.chc.keptUc = [] then m else
  let m := (m.ucStart m.chc.keptUc).chanRecordApply m.chc.keptChan
  let m := forEach (List.range 128) (fun n m => m.wireStart n none) m
  forEach (List.range 128) (fun n m => m.when ((m.chan n).owned && ! (m.chan n).configBad) (·.coldState n)) m

/-- LSS: every partition on a pair stops, and the other pairs are tested again (R348, R363). LOCKSTEP_BROKEN and SAFE_VALID
return by their own rules alone (R360, R361), and a stopped partition stays so (R348; log entry 17). -/
def lssClear (m : Module) : Module :=
  let old := m
  let m := forEach (List.range 4) (fun n m => m.readsDiscard n) m
  let m := { (m.windowClear 0x11) with lss := { store := m.lss.store, lastPair := m.lss.lastPair } }
  let m := m.restoreCfg (winBase 0x11) (winBase 0x11 + 0x100000)
  let m := forEach (List.range 4) (fun n m =>
    ((m.wipePair n).wrb F.LSS_PAIR_STAT_LOCKSTEP_BROKEN (old.flag F.LSS_PAIR_STAT_LOCKSTEP_BROKEN n) n).toTest n .settle) m
  forEach (List.range 16) (fun p m =>
    let st := old.rd F.LSS_PART_STATE p
    let m := m.wrb F.LSS_PART_SAFE_VALID (old.flag F.LSS_PART_SAFE_VALID p) p
    let m := m.when (st == 3) (·.wr F.LSS_PART_STATE 3 p)
    m.when ([1, 2, 5].contains st) (fun m => m.stopPart p (m.pairOfPart p))) m

/-- DPX: the supervisor fails (R694, R695). The role is set again when the reset is complete (log entry 17). -/
def dpxClear (m : Module) : Module :=
  let role := m.role
  let drive := m.rd F.DPX_STATE_DRIVE
  let m := (m.supFails 2).windowClear 0x0E
  { ((m.wr F.DPX_STATE_ROLE role).wr F.DPX_STATE_DRIVE drive) with
    dpx := { step9 := m.dpx.step9, step9Us := m.dpx.step9Us, heardUs := m.now, collarUs := m.now } }

/-- DPX after its reset: the CFG fields are back, and a unit of a duplex resumes in RELEASED (R686, R689, R695;
log entry 17). -/
def dpxRestart (m : Module) : Module :=
  if m.role = 0 ∨ m.role = 7 then m.showDpx
  else (m.setRole 3).supStart

/-- MAC: every link goes down (log entry 17). -/
def macClear (m : Module) : Module :=
  let m := forEach (List.range 15) (fun p m => m.when (m.flag F.MAC_STAT_LINK p) (fun m => m.linkLost p false false)) m
  { (m.windowClear 7) with mac := [] }

/-- HDMA: descriptors, parked frames and fetched rings are gone (log entry 17). -/
def hdmaClear (m : Module) : Module :=
  let m := forEach (List.range 32) (fun q m =>
    match (m.hq q).park with
    | some r => (m.setPark q none).copyGone r.id 15
    | none => m) m
  let m := (({ m with hdma := {} } : Module).windowClear 8).pagesClear 64 96
  m.fencesFree 64 96

/-- NPM: every transceiver and PHY wakes, and every segment is AWAKE (R643; log entry 17). -/
def npmClear (m : Module) : Module :=
  let m := forEach (bitsSet 24 (m.rd F.NPM_ASLEEP_SEGS)) (fun s m => m.segSleep s false) m
  let m := forEach [1, 2, 3, 4, 5, 6, 7] (fun n m => m.timerStop n) m
  { (m.windowClear 0x0B) with npm := {} }

/-- CAN: every object, register and counter is reset (R616); a transceiver that sleeps goes on sleeping (R614;
log entry 17). -/
def canClear (m : Module) : Module :=
  let m := { (m.windowClear 0x0A) with can := [] }
  forEach (List.range 12) (fun s m => m.wrb F.CAN_STAT_XCVR_SLEEP (bit (m.rd F.NPM_ASLEEP_SEGS) s) s) m

/-- CPE: jobs and completions are gone; the units taken out of service and the quarantine ranges stay (R675;
log entry 17). -/
def cpeClear (m : Module) : Module :=
  let kept := (m.rd F.CPE_STAT_FENCED, m.rd F.CPE_STAT_HASH_FAIL, m.rd F.CPE_STAT_MA_FAIL)
  let m := ((m.cpeBlockReset).windowClear 0x0C).pagesClear 0 64
  let m := ((m.wr F.CPE_STAT_FENCED kept.1).wr F.CPE_STAT_HASH_FAIL kept.2.1).wr F.CPE_STAT_MA_FAIL kept.2.2
  m.fencesFree 0 64

/-- NVC: what had not been programmed is gone; staging and update state stand in the bank (R769, R796; log entry 17). -/
def nvcClear (m : Module) : Module :=
  let m := (m.windowClear 0x15).setNvc (fun n => { n with working := [], chunk := none })
  m.setNvc (fun n => { n with
    stg := if (m.bank m.stagingBank).word 0x7FEE030 = 0xFFFFFFFF then 0 else if m.verified then 4 else 2 })

/-- Block `b` is reset (R53): its pending reads, private memories, state and fields (log entry 17). -/
def blockClear (o : Otp) (m : Module) (b : Nat) : Otp × Module :=
  let m := { m with reads := m.reads.filter (fun r => blockOf r.addr != some b) }
  let m := m.setPbr (fun p => { p with effects := p.effects.filter (fun r => blockOf r.addr != some b) })
  if b = 0x04 then (o, m.chcClear)
  else if b = 0x05 then (o, { (m.windowClear 5) with uin := { keptResv := m.uin.keptResv } })
  else if b = 0x06 then (o, { (m.windowClear 6) with swc := { scanUs := m.boot.us, ageUs := m.boot.us } })
  else if b = 0x07 then (o, m.macClear)
  else if b = 0x08 then (o, m.hdmaClear)
  else if b = 0x09 then (o, { (m.windowClear 9) with tmu := {} })
  else if b = 0x0A then (o, m.canClear)
  else if b = 0x0B then (o, m.npmClear)
  else if b = 0x0C then (o, m.cpeClear)
  else if b = 0x0D then (o, m.kstBlockReset.windowClear 0x0D)
  else if b = 0x0E then (o, m.dpxClear)
  else if b = 0x0F then (o, { ((m.linkDown 4).windowClear 0x0F) with pbr := {} })
  else if b = 0x11 then (o, m.lssClear)
  else if b = 0x13 then ((mbxBlockReset o m).1, (mbxBlockReset o m).2.windowClear 0x13)
  else if b = 0x14 then (o, m.windowClear 0x14)
  else if b = 0x15 then (o, (m.nvcClear).showBrom o)
  else (o, m)

/-- The CFG fields of IMG, which its own reset layer leaves, give way to the retained copy (R53, R62, R458; log entry 17). -/
def imgCfgClear (m : Module) : Module :=
  forEach (List.range 112) (fun p m => m.clrRange (0x20E01000 + 16 * p) (0x20E01008 + 16 * p)) m

/-- Block `b` after its reset (R53 step 5): the CFG fields stand again, and what its chapter says follows (log entry 17). -/
def blockRestart (m : Module) (b : Nat) : Module :=
  let m := m.when (b == 0x10) (·.imgCfgClear)
  let m := m.restoreCfg (winBase b) (winBase b + 0x100000)
  if b = 0x04 then m.chcRestart
  else if b = 0x05 then
    let m := forEach (List.range 64) (fun n m => m.setUin n { m.uinIn n with resv := bit m.uin.keptResv n }) m
    (forEach (List.range 64) (fun n m => m.uinLatch n) m).setExcite (decide (7 ≤ m.rd F.SYSCTL_BOOT_STAT_STAGE) && m.drives)
  else if b = 0x06 then forEach (List.range 15) (fun p m => m.wr F.SWC_PORT_STAT_LINK (m.rd F.MAC_STAT_LINK p) p) m
  else if b = 0x09 then
    if ! m.running 0x0B then m else
    let m := forEach [1, 2, 3, 4, 5, 6, 7] (fun n m => m.when (m.flag F.NPM_WT_CFG_EN (n - 1)) (·.wakeTimerLoad n)) m.npmTickStart
    m.raise F.NPM_EVT_TMU_RESET
  else if b = 0x0A then m.when (m.flag F.DPX_CFG_EN && m.flag F.DPX_CFG_CAN_EN) (·.duplexCan)
  else if b = 0x0B then m.npmTickStart
  else if b = 0x0C then m.showUnits
  else if b = 0x0E then m.dpxRestart
  else if b = 0x0F then m.showPbr
  else m

/-- A write of SYSCTL_BLK_RST (R53, R54, R57). -/
def blockResetWrite (o : Otp) (m : Module) (v : Nat) : Otp × Module :=
  let b := bits v 7 0
  if m.sys.blkRst.isSome || coreDomain b || ! bit (m.rd F.SYSCTL_PWR_STATE_ON) b then (o, m)
  else
    let gated := ! bit (m.rd F.SYSCTL_CLK_STATE_RUN) b
    let m := m.setMap F.SYSCTL_CLK_STATE_RUN b
    blockClear o { m with sys := { m.sys with blkRst := some b, regate := gated } } b

/-- The block reset in progress completes (R53, R54). -/
def blockResetEnd (m : Module) : Module :=
  match m.sys.blkRst with
  | none => m
  | some b =>
    let gated := m.sys.regate
    let m := ({ m with sys := { m.sys with blkRst := none, regate := false } } : Module).blockRestart b
    m.when gated (·.setMap F.SYSCTL_CLK_STATE_RUN b false)

/-- A write of SYSCTL_PART_RST (R55–R57, R349, R808). -/
def partResetWrite (m : Module) (v : Nat) : Module :=
  if m.sys.partRst.isSome then m else
  let p := bits v 3 0
  let m := (m.partitionHeld p).partInstResets p
  let m := m.windowReset p
  { m with sys := { m.sys with partRst := some p } }

/-- The partition reset in progress completes (R55, R349). -/
def partResetEnd (m : Module) : Module :=
  match m.sys.partRst with
  | none => m
  | some p => ({ m with sys := { m.sys with partRst := none } } : Module).partitionRestart p

/-- The power-up that world `sec` asked for ends (R62): the block was reset, its CFG fields stand, and its clock runs
(log entry 16). -/
def powerUpEnd (o : Otp) (m : Module) (sec : Bool) : Otp × Module :=
  match m.gateJob sec with
  | none => (o, m)
  | some j =>
    if j.op % 2 = 0 then (o, m) else
    let m := (m.setMap F.SYSCTL_PWR_STATE_ON j.block).setMap F.SYSCTL_CLK_STATE_RUN j.block
    let (o, m) := blockClear o m j.block
    (o, (m.blockRestart j.block).gateDone sec j.block 0)

end Module

/-! ### Commands -/

/-- BLOCK_RESET (R53, R54, R57 and each block's own rule): a write of SYSCTL_BLK_RST. -/
def execBlockReset (a : Access) (v : Word) (s : State) : Host.Outcome State Fault Refusal :=
  s.runOtp (fun o m =>
    match m.issued a 1 with
    | none => (o, m.withheld a 1)
    | some a =>
      match m.accessDeny a 0x20000064 4 1 with
      | some d => (o, m.refuse a 0x20000064 1 d)
      | none => Module.blockResetWrite o m.ok v.toNat)

/-- BLOCK_RESET_DONE (R53, R54, R62, R303, R314, R627, R689). -/
def execBlockResetDone (s : State) : Host.Outcome State Fault Refusal := s.run (fun m => m.blockResetEnd)

/-- PARTITION_RESET (R55–R57, R349, R442, R808): a write of SYSCTL_PART_RST. -/
def execPartitionReset (a : Access) (v : Word) (s : State) : Host.Outcome State Fault Refusal :=
  s.runBy a 1 (fun a m => m.access a 0x20000068 1 (·.partResetWrite v.toNat))

/-- PARTITION_RESET_DONE (R55, R349). -/
def execPartitionResetDone (s : State) : Host.Outcome State Fault Refusal := s.run (fun m => m.partResetEnd)

/-- GATE_POWER_UP_DONE (R49, R62, R627, R643). -/
def execGatePowerUpDone (secure : Bool) (s : State) : Host.Outcome State Fault Refusal :=
  s.runOtp (fun o m => Module.powerUpEnd o m secure)

end Sys2Proof.Machine
end

