-- ==== Sys2Proof/Machine/RegCmd.lean ====
section
/-!
DEFINITION. The registers whose write is a command with a row of its own: what a write of such a register does is what
that row's meaning does.
-/
namespace Sys2Proof.Machine

/-- `x` as a 32-bit word. -/
def w32 (x : Nat) : Word := BitVec.ofNat 32 x

/-- Commands of the SYSCTL, FAB and WCT windows. -/
def coreCommand (a : Access) (addr v : Nat) (s : State) : Option (Host.Outcome State Fault Refusal) :=
  let w := w32 v
  if addr = 0x20000020 then some (execClkAcDivWrite a w s)
  else if addr = 0x20000040 then
    let b := Fin.ofNat 256 (bits v 7 0)
    some (if bits v 9 8 = 0 then execGateClockOff a b s else if bits v 9 8 = 1 then execGateClockOn a b s
      else if bits v 9 8 = 2 then execGatePowerOff a b s else execGatePowerOn a b s)
  else if addr = 0x20000060 then some (execModuleResetRequest a w s)
  else if addr = 0x20000064 then some (execBlockReset a w s)
  else if addr = 0x20000068 then some (execPartitionReset a w s)
  else if addr = 0x20000804 then some (execLcReqField a w s)
  else if addr = 0x20000838 then some (execOwnerSlotRevoke a w s)
  else if addr = 0x20100000 then some (execEnforceSet a w s)
  else if addr = 0x20100008 then some (execFabLogBaseWrite a (BitVec.ofNat 64 v) s)
  else if addr = 0x2010007C then some (execScrubRequest a w s)
  else if addr = 0x20100218 then some (execFirewallCommit a w none s)
  else if addr = 0x21000000 then some (execWorldLockSet a w s)
  else if addr = 0x21000010 then some (execSecReady a w s)
  else if addr = 0x21000014 then some (execSwdtKick a w s)
  else if addr = 0x21000038 then some (execMapLoad a w s)
  else if addr = 0x21000300 then some (execHoldInc a w s)
  else if addr = 0x21000314 then some (execDeferCancel a w s)
  else match F.WCT_VMID_VALID.index? addr with
  | some (e, _, _) => some (execVmidWrite a (Fin.ofNat 32 e) w s)
  | none => none

/-- Commands of the CHC, UIN, IMG, LSS and CPE windows and of the instance pages. -/
def instCommand (a : Access) (addr v : Nat) (s : State) : Option (Host.Outcome State Fault Refusal) :=
  let w := w32 v
  if addr = 0x20200030 then some (execUcLoad a w s)
  else if addr = 0x20E00000 then some (execImgAssign a w s)
  else if addr = 0x20F00050 then some (execLssSelftest a w s)
  else if addr = 0x20A00020 then some (execCpeCntSelWrite a w s)
  else if Module.isAperture addr then
    let p := Module.pageOf addr
    let o := (addr - 0x40000000) % 0x1000
    if o = 0x720 then some (execInstResetRequest a (Fin.ofNat 112 p) w s)
    else if p < 64 then if o = 4 then some (execCpiSubmit a (Fin.ofNat 64 p) w s) else none
    else if p < 96 then
      let q := Fin.ofNat 32 (p - 64)
      if o = 0x08 then some (execRingEnableWrite a q false w s)
      else if o = 0x0C then some (execHqRxTailWrite a q w s)
      else if o = 0x20 then some (execRingEnableWrite a q true w s)
      else if o = 0x24 then some (execHqTxTailWrite a q w s) else none
    else if o = 4 then
      some (s.run (fun m => m.chiCommand a (p - 96) (bits v 3 0) (bits v 10 4) (bits v 15 11) (bits v 31 16)))
    else if o = 0x1C then some (execWatchdogKick a (Fin.ofNat 16 (p - 96)) w s) else none
  else match F.UIN_CFG_MODE.index? addr with
  | some (n, _, _) => some (execUinCfgWrite a (Fin.ofNat 64 n) w s)
  | none =>
    match F.UIN_NTC_R25_OHM.index? addr with
    | some (k, _, _) => some (execUinNtcWrite a (Fin.ofNat 4 k) false w s)
    | none =>
      match F.UIN_NTC_B_KELVIN.index? addr with
      | some (k, _, _) => some (execUinNtcWrite a (Fin.ofNat 4 k) true w s)
      | none => none

/-- Commands of the SWC, MAC, HDMA, TMU, CAN and NPM windows. -/
def netCommand (a : Access) (addr v : Nat) (s : State) : Option (Host.Outcome State Fault Refusal) :=
  let w := w32 v
  if addr = 0x20400038 then some (execDrainRequest a w s)
  else if addr = 0x20400040 then
    some (s.run (fun m => m.access a addr 1 (·.tblCommand (bits v 3 0) (bits v 5 4) (bits v 28 16))))
  else if addr = 0x20400070 then some (execSwcCntSelWrite a w s)
  else if addr = 0x20600100 then some (execHdmaCntSelWrite a w s)
  else if addr = 0x20700000 then some (execServoEnWrite a w s)
  else if addr = 0x2070004C then some (execTmuSet a w s)
  else if addr = 0x20700060 then some (execOffsetSample a w s)
  else if addr = 0x20700074 then some (execReselect a w s)
  else if addr = 0x20900000 then
    some (s.run (fun m => m.access a addr 1 (·.npmCommand (bits v 2 0) (bits v 12 8) (bits v 31 16))))
  else match F.MAC_CNT_SEL_KIND.index? addr with
  | some (p, _, _) => some (execMacCntSelWrite a (Fin.ofNat 16 p) w s)
  | none =>
    match F.TMU_EVO_CTRL_MODE.index? addr with
    | some (k, _, _) => some (execEvoArm a (Fin.ofNat 4 k) w s)
    | none =>
      match F.TMU_TMR_LOAD_US.index? addr with
      | some (n, _, _) => some (execTmrLoad a (Fin.ofNat 16 n) w s)
      | none =>
        match F.CAN_CTRL_MODE.index? addr with
        | some (c, _, _) => some (execCanModeWrite a (Fin.ofNat 12 c) w s)
        | none =>
          match F.CAN_CMD_OP.index? addr with
          | some (c, _, _) =>
            some (if bits v 10 8 = 3 then execTxReq a (Fin.ofNat 12 c) (Fin.ofNat 128 (bits v 6 0)) s
              else s.run (fun m => m.access a addr 1 (·.canCommandAt c (bits v 10 8) (bits v 6 0))))
          | none =>
            match F.NPM_WT_CFG_EN.index? addr with
            | some (n, _, _) => some (execWakeTimerConfig a (Fin.ofNat 7 n) w s)
            | none => none

/-- Commands of the KST, DPX, PBR, NVC, MBX and HST windows. -/
def unitCommand (a : Access) (addr v : Nat) (s : State) : Option (Host.Outcome State Fault Refusal) :=
  let w := w32 v
  if addr = 0x20B00000 then
    some (if bit v 8 then execKstLockRelease a (Fin.ofNat 256 (bits v 7 0)) s else execKstLockTake a (Fin.ofNat 256 (bits v 7 0)) s)
  else if addr = 0x20B00008 then
    some (s.run (fun m => m.access a addr 1 (·.kstOp (bits v 2 0) (bits v 9 4) (bits v 15 10) (bits v 23 16) none)))
  else if addr = 0x20C00030 then some (execSupKick a w s)
  else if addr = 0x20C00038 then some (execHandover a w s)
  else if addr = 0x20C0005C then some (execSnapReadyWrite a w s)
  else if addr = 0x20D00000 then some (execPbrEnableWrite a w s)
  else if addr = 0x20D00014 then some (execDoorbellSend a w s)
  else if addr = 0x21300108 then some (execChunkSubmit a w s)
  else if addr = 0x21300214 then some (execHoReady a w s)
  else if addr = 0x21200044 then some (execSealDone a w s)
  else match F.MBX_GO_OP.index? addr with
  | some (r, _, _) => some (execMbxQuery a (Fin.ofNat 17 r) w s)
  | none => none

/-- What a write of `v` to the register at `addr` does, where that write is a command with a row of its own
(log entry 49). -/
def ownCommand (a : Access) (addr v : Nat) (s : State) : Option (Host.Outcome State Fault Refusal) :=
  match coreCommand a addr v s with
  | some r => some r
  | none =>
    match instCommand a addr v s with
    | some r => some r
    | none =>
      match netCommand a addr v s with
      | some r => some r
      | none => unitCommand a addr v s

end Sys2Proof.Machine
end

