-- ==== Sys2Proof/Machine/RegRead.lean ====
section
/-!
DEFINITION. Reads of registers (R9–R16, R376–R380): which registers there are, what a read returns, and what it takes when
it commits.
-/
namespace Sys2Proof.Machine

namespace Module

/-! ### What a read takes -/

/-- The window of MBX that `addr` lies in (R797). -/
def mbxWindow (addr : Nat) : Option Nat :=
  if 0x21101000 ≤ addr ∧ addr < 0x21102100 then some ((addr - 0x21101000) / 0x100) else none

/-- The RE count in the register at `addr`, if it has one: every RE field that is neither of a pop nor of the tracker
(R377). -/
def countAt (addr : Nat) : Option (Fam × Nat × Nat × Nat) :=
  let pops := (F.CHI_CPL_SEQ.index? addr).isSome || (F.CPI_CPL_TAG.index? addr).isSome || (F.TMU_EVI_NS_NS.index? addr).isSome
    || (F.MBX_CPL_SESSION.index? addr).isSome || addr == 0x21200408
  if pops then none else (fieldsAt addr).find? (fun x => x.1.acc == .re)

/-- What a read of the count register at `addr` does (R377); `served` is the value its count held when it was served, where
counts have arrived since. -/
def countPlan (m : Module) (addr : Nat) (served : Option Nat) : Option RePlan :=
  match countAt addr with
  | none => none
  | some (f, i, j, k) =>
    let v := served.getD (m.rd f i j k) % 2 ^ f.width
    some { value := without (m.view addr) ((2 ^ f.width - 1) * 2 ^ f.lo) + v * 2 ^ f.lo
           what := some (.count (f.key i j k) f.width v)
           effect := fun m => m.countClear f v i j k }

/-- What a read of the register at `addr` does, where it has an RE field. -/
def rePlan (m : Module) (addr : Nat) : Option RePlan :=
  if addr = 0x21200408 then some m.vauxPlan
  else match F.CHI_CPL_SEQ.index? addr with
  | some (i, _, _) => some (m.cplPlan i)
  | none =>
    match F.CPI_CPL_TAG.index? addr with
    | some (i, _, _) => some (m.cpiPlan i)
    | none =>
      match F.TMU_EVI_NS_NS.index? addr with
      | some (k, _, _) => some (m.eviPlan k)
      | none =>
        match F.MBX_CPL_SESSION.index? addr with
        | some (r, _, _) => some (m.mbxCplPlan r)
        | none => m.countPlan addr none

/-- The refusal of a read of `n` bytes of the register at `addr` (R10, R16, R388, R797; log entries 4 and 49). -/
def regReadDeny (m : Module) (a : Access) (addr n : Nat) : Option Deny :=
  match m.accessDeny a addr n 0 with
  | some d => some d
  | none =>
    match misfit addr n with
    | some d => some d
    | none =>
      match mbxWindow addr with
      | some r => if requester a = r then none else some denyWindow
      | none => none

/-- A read of 4 bytes of guarded memory or of the boot ROM (log entries 49 and 51). -/
def memoryRead (m : Module) (a : Access) (addr : Nat) : Module :=
  match memOf addr with
  | some k => m.guardedReadAt a k addr 4 0 []
  | none =>
    match m.pairBars a addr 4 0 with
    | some d => m.refuse a addr 0 d
    | none =>
      match m.busRead a addr 4 with
      | (m, some l) => m.ok (ofBytes l)
      | (m, none) => m

/-- The answer of a load of 4 bytes at `addr` as its pair takes it: bytes that a held store to a view with DEVICE = 0 writes come
from the commit buffer (R326; log entry 27). -/
def forwarded (m old : Module) (a : Access) (addr : Nat) : Module :=
  let f := old.forwards a 0 addr 4 0
  if m.resp.status ≠ 0 || f.1.isEmpty then m else
  let l := toBytes 4 m.resp.data
  { m with resp := { m.resp with
      data := ofBytes ((List.range 4).map (fun i => (heldByte f.1 f.2 (addr + i)).getD (l.getD i 0))) } }

/-- A read of the 32-bit count register at `addr`, or of what else stands at that address (log entry 49). -/
def countRead (m : Module) (a : Access) (addr : Nat) (served : Option Nat) : Module :=
  if isWindow addr then m.windowRead a addr 4
  else if blockOf addr = some 0 ∨ (memOf addr).isSome then m.memoryRead a addr
  else
  match m.regReadDeny a addr 4 with
  | some d => m.refuse a addr 0 d
  | none =>
    match m.countPlan addr served with
    | some p => m.rePlanned a addr p
    | none =>
      match m.rePlan addr with
      | some p => m.rePlanned a addr p
      | none => m.ok (m.view addr)

end Module

/-! ### Commands -/

/-- COUNT_CLEAR_READ (R11, R326, R376–R379): a read of a register with an RE count. `served` is the value that the count held when
the read was served, where counts have arrived since; where it is none the read commits as it is served. A register without
a count is read as it is. -/
def execCountClearRead (a : Access) (addr : Nat) (served : Option Nat) (s : State) : Host.Outcome State Fault Refusal :=
  s.runBy a 0 (fun a m => (m.countRead a addr served).forwarded m a addr)

end Sys2Proof.Machine
end

