-- ==== Sys2Proof/Machine/RegWrite.lean ====
section
/-!
DEFINITION. REGISTER_WRITE: writes of the registers that have no row of their own (R9–R16, R29, R388, R820, R821), with the
conditions and the effects that each register's own rule adds; and the items of the SWITCH, TIME, CAN and NPM records, which
secure firmware applies by such writes (R506, R582, R615, R642).
-/
namespace Sys2Proof.Machine

namespace Module

/-! ### Who may write -/

/-- Registers that only world 1 writes (R64, R306, R341, R397, R431, R551, R756, R798, R818, R796; log entry 49). -/
def secureOnly (addr : Nat) : Bool :=
  let within := fun (lo hi : Nat) => decide (lo ≤ addr) && decide (addr ≤ hi)
  addr == 0x20000018 || addr == 0x20000810 || within 0x20200010 0x20200034 || within 0x20100000 0x201FFFFF
    || addr == 0x21000030 || within 0x20600080 0x206000FC || within 0x20D00100 0x20D003FC || within 0x21100040 0x211000BC
    || addr == 0x21200000 || within 0x21200010 0x21200018 || within 0x21200030 0x2120003C || addr == 0x21300218

/-- The refusal of the writer of the register at `addr`, if its rule refuses it. -/
def writerDeny (a : Access) (addr : Nat) : Option Deny :=
  match mbxWindow addr with
  | some r => if requester a = r then none else some denyWindow
  | none => if secureOnly addr && ! a.world then some (denyWriter addr) else none

/-! ### What of the write is taken -/

/-- Every bit of a register. -/
def allBits : Nat := 2 ^ 64 - 1

/-- The controller and the object whose registers `addr` lies among, with the offset there (R620). -/
def canObjAt (addr : Nat) : Option (Nat × Nat × Nat) :=
  if 0x20800000 ≤ addr ∧ addr < 0x208C0000 ∧ 0x4000 ≤ addr % 0x10000 ∧ addr % 0x10000 < 0x8000 then
    some ((addr - 0x20800000) / 0x10000, (addr % 0x10000 - 0x4000) / 0x80, addr % 0x80)
  else none

/-- A write to an object that R602 ignores with WRITE_IGNORED. -/
def objPending (m : Module) (addr : Nat) : Option Nat :=
  match canObjAt addr with
  | some (c, o, r) =>
    if m.flag F.CAN_OBJ_STAT_TX_PENDING c o && (r == 0 || r == 4 || r == 0xC || decide (0x20 ≤ r)) then some c else none
  | none => none

/-- A write to an object that belongs to DPX (R613). -/
def objOfDpx (m : Module) (addr : Nat) : Bool :=
  match canObjAt addr with
  | some (c, o, _) => m.flag F.CAN_CTRL_DPX_EN c && decide (126 ≤ o)
  | none => false

/-- A write to a bit-timing register outside INIT (R592). -/
def timingIgnored (m : Module) (addr : Nat) : Option Nat :=
  if 0x20800000 ≤ addr ∧ addr < 0x208C0000 ∧ (addr % 0x10000 = 0x20 ∨ addr % 0x10000 = 0x24 ∨ addr % 0x10000 = 0x28) then
    let c := (addr - 0x20800000) / 0x10000
    if m.rd F.CAN_CTRL_MODE c = 0 then none else some c
  else none

/-- The bits of the register at `addr` that a write of `v` may change, beside what the access codes say: fields writable
only under a condition (R481, R510, R512, R550, R561, R578, R592, R602, R613, R818, R821) and the words of another
instance's channel (R289; log entry 49). -/
def writeMask (m : Module) (addr v : Nat) : Nat :=
  if 0x20400400 ≤ addr ∧ addr < 0x20400600 then if m.flag F.SWC_CTRL_FWD_EN then without allBits 0xFF else allBits
  else if addr = 0x2040000C then if m.flag F.SWC_CTRL_FWD_EN then 0 else allBits
  else if addr = 0x204000C8 then if m.flag F.SWC_CTRL_SPORE_EN then 0 else allBits
  else if 0x20500000 ≤ addr ∧ addr < 0x20600000 then
    let len := bits v 17 4
    if addr % 0x10000 = 0 ∧ (len < 1518 ∨ 9216 < len) then without allBits 0x3FFF0 else allBits
  else if addr = 0x20700030 then if m.flag F.TMU_CTRL_SERVO_EN then 0 else allBits
  else if 0x20700200 ≤ addr ∧ addr < 0x20700280 then 0
  else if (m.timingIgnored addr).isSome || (m.objPending addr).isSome || m.objOfDpx addr then 0
  else if 0x21200010 ≤ addr ∧ addr ≤ 0x21200018 then if m.flag F.HST_CTRL_LR_EN then 0 else allBits
  else match F.CHI_CH_EVT_EVT.index? addr with
  | some (i, n, _) => if (m.chan n).owned && (m.chan n).owner == i then allBits else 0
  | none => allBits

/-! ### What the write does beside storing -/

/-- A write of the ring configuration of an XL ring (R606). -/
def xlRingConfig (m : Module) (c : Nat) (tx : Bool) (v : Nat) : Module :=
  let size := bits v 3 0
  let bad := bit v 16 && (decide (size < 4) || decide (10 < size))
  let en := bit v 16 && ! bad
  let m := if tx then (m.wr F.CAN_XTX_CFG_LOG2SZ size c).wrb F.CAN_XTX_CFG_EN en c
    else (m.wr F.CAN_XRX_CFG_LOG2SZ size c).wrb F.CAN_XRX_CFG_EN en c
  m.when bad (fun m => (m.wr F.CAN_XERR_STATUS 0x10 c).wrb F.CAN_XERR_TX tx c)

/-- After a write of an object register (R602, R620). -/
def objWritten (m : Module) (addr v : Nat) : Module :=
  match m.objPending addr with
  | some c => if m.objOfDpx addr then m else m.raise F.CAN_EVT_WRITE_IGNORED c
  | none =>
    match canObjAt addr with
    | some (c, o, r) =>
      if r = 0 ∧ bit v 0 = false ∧ m.objOfDpx addr = false then
        let m := ((m.lower F.CAN_OBJ_STAT_VALID c o).lower F.CAN_OBJ_STAT_OPEN c o).lower F.CAN_OBJ_STAT_SHADOW_FULL c o
        m.lower F.CAN_OBJ_STAT_OVERRUN c o
      else m
    | none => m

/-- After a write of a register of the SWC, MAC, TMU, CAN or NPM windows; `old` is the module before the write. -/
def netWritten (m old : Module) (addr v : Nat) : Module :=
  if 0x20400100 ≤ addr ∧ addr < 0x20400800 then m.swcXoff
  else if 0x20500000 ≤ addr ∧ addr < 0x20600000 then
    let p := (addr - 0x20500000) / 0x10000
    if addr % 0x10000 ≠ 0x400 then m
    else if ! m.flag F.MAC_PHY_CTRL_EN p then m.when (old.flag F.MAC_PHY_CTRL_EN p) (·.linkLost p false false)
    else if m.phyAlways p && ! old.phyAlways p then m.phyUp p else m
  else if addr = 0x20700030 then
    m.when (! old.flag F.TMU_CTRL_SERVO_EN) (fun m => m.wr F.TMU_RATE_RATE (unsigned 32 (clampRate (signed 32 (v % 2 ^ 32)))))
  else if addr = 0x20700090 then m.when (! bit v 31) (fun m => { m with tmu := { m.tmu with ppsOut := false, ppsDue := false } })
  else if 0x20700280 ≤ addr ∧ addr < 0x20700300 ∧ addr % 16 = 0 then
    m.when (! bit v 0) (·.timerStop ((addr - 0x20700200) / 16))
  else if 0x20800000 ≤ addr ∧ addr < 0x208C0000 then
    let c := (addr - 0x20800000) / 0x10000
    match m.timingIgnored addr with
    | some c => m.raise F.CAN_EVT_CFG_IGNORED c
    | none =>
      if addr % 0x10000 = 0x108 then m.xlRingConfig c true v
      else if addr % 0x10000 = 0x128 then m.xlRingConfig c false v
      else m.objWritten addr v
  else if addr = 0x20900010 then
    forEach (bitsSet 24 (without v (old.rd F.NPM_HOLD_SEGS))) (fun s m => m.segHeld s) m
  else m

/-- After a write of a register of another window. -/
def coreWritten (m : Module) (a : Access) (addr v : Nat) : Module :=
  if addr = 0x20000018 then m.showPll
  else if addr = 0x20000810 then m.stageWrite (bits v 3 0)
  else if addr = 0x20000860 then m.wr F.SYSCTL_DBG_TOKEN_ADDR v
  else if addr = 0x20201800 ∨ (F.CHI_DIAG_SEL_CHANNEL.index? addr).isSome then m.diagUpdate
  else if addr = 0x21000030 then m.when (m.flag F.WCT_LOCK_WORLD_LOCK) (fun m => m.mapLocked a addr)
  else if addr = 0x21301C2C then m.raise F.NVC_PEER_STG_VALID
  else match F.KST_PARAM_DATA.index? addr with
  | some (k, _, _) => m.wr F.KST_PARAM_DATA v k
  | none => m

/-- A write of `v` to a register without a row of its own, past every check: WCT_MAP_SRC takes none once the map is locked
(R416), and STAGE is moved by its own rule (R125). -/
def registerSet (m : Module) (a : Access) (addr v : Nat) : Module :=
  let own := addr == 0x20000810 || (addr == 0x21000030 && m.flag F.WCT_LOCK_WORLD_LOCK)
    || (decide (0x20800000 ≤ addr) && decide (addr < 0x208C0000) && (addr % 0x10000 == 0x108 || addr % 0x10000 == 0x128))
  let mask := if own then 0 else m.writeMask addr v
  ((m.plainWrite addr mask v).netWritten m addr v).coreWritten a addr v

/-! ### Items of a record -/

/-- Block and code of CFG_REJECT for the record of the window that `addr` lies in (R509, R584, R618, R645). -/
def rejectCode (addr : Nat) : Option (Nat × Nat) :=
  match blockOf addr with
  | some 0x06 => some (0x06, 0x2601)
  | some 0x09 => some (0x09, 0x2904)
  | some 0x0A => some (0x0A, 0x2A04)
  | some 0x0B => some (0x0B, 0x2B02)
  | _ => none

/-- An item that names a register that its record may not (R506, R582, R615, R642; log entry 49). -/
def itemBarred (m : Module) (addr v : Nat) : Bool :=
  if addr < 0x20700000 then addr == 0x20400000
  else if addr < 0x20800000 then
    addr == 0x2070004C || addr == 0x20700074 || (decide (0x20700200 ≤ addr) && decide (addr < 0x20700280))
  else if addr < 0x20900000 then
    let o := addr % 0x10000
    let c := (addr - 0x20800000) / 0x10000
    let was := m.rd F.CAN_CTRL_MODE c
    let fast := if was = 0 then bit v 8 else m.flag F.CAN_CTRL_FAST c
    let xcvr := if was = 0 then bits v 5 4 else m.rd F.CAN_CTRL_XCVR c
    o == 0x14 || o == 0x10C || o == 0x12C || (m.timingIgnored addr).isSome || (m.objPending addr).isSome
      || (o == 0 && bits v 1 0 != 0 && (! m.canTimingOk c fast || (fast && xcvr != 2)))
  else addr == 0x20900000

/-- An item that is not applied is logged as CFG_REJECT with its offset in the record and a status: that of the access where
there was one; the manual names none for an item that may not be used at all (log entry 49). -/
def itemReject (m : Module) (addr off : Nat) (st : Option Nat) : Module :=
  match rejectCode addr with
  | none => m
  | some (b, code) =>
    let (m, f) := m.draw 0x14
    m.logBlk b code off (st.getD f)

/-- What an item of the NPM record sets is kept through a power-off (R62, R642; log entry 49). -/
def itemKeep (m : Module) (addr : Nat) : Module :=
  if 0x20900100 ≤ addr ∧ addr < 0x20900280 then m.saveCfg addr (addr + 4) else m

end Module

/-- A write of `n` bytes of `v` at `addr` with the attributes `a`. `item` is the offset in its record of the item that secure
firmware applies by the write, if it does (log entry 49). -/
def State.writeAs (s : State) (a : Access) (addr n v : Nat) (item : Option Nat) : Host.Outcome State Fault Refusal :=
  let reject := fun (m : Module) (st : Option Nat) =>
    match item with
    | some off => m.itemReject addr off st
    | none => m
  let barred := item.isSome && s.m.itemBarred addr v
  if barred then s.run (fun m => reject m none)
  else if Module.isWindow addr then execWindowWrite a addr (toBytes n v) s
  else match s.m.accessDeny a addr n 1 with
  | some d => s.run (fun m => reject (m.refuse a addr 1 d) (some d.status))
  | none =>
    if Module.blockOf addr = some 0 ∨ (Module.memOf addr).isSome then s.run (fun m => (m.busWrite a addr (toBytes n v)).1)
    else match Module.misfit addr n with
    | some d => s.run (fun m => reject (m.refuse a addr 1 d) (some d.status))
    | none =>
      match ownCommand a addr v s with
      | some r => r
      | none =>
        match Module.writerDeny a addr with
        | some d => s.run (fun m => m.refuse a addr 1 d)
        | none => s.run (fun m => (m.ok.registerSet a addr v).when item.isSome (·.itemKeep addr))

/-- The same, with the attributes that the initiator of `a` issues it with (R38, R39). -/
def State.regWrite (s : State) (a : Access) (addr n v : Nat) (item : Option Nat) : Host.Outcome State Fault Refusal :=
  match s.m.issued a 1 with
  | some b => s.writeAs b addr n v item
  | none => s.run (·.withheld a 1)

/-! ### Commands -/

/-- TBL_WRITE (R470, R493, R494, R496, R506, R508): `item` is the offset in the SWITCH record of the entry that secure firmware
applies by the command, if it does. -/
def execTblWrite (a : Access) (table : Fin 4) (index : Fin 8192) (item : Option Nat) (s : State) :
    Host.Outcome State Fault Refusal :=
  s.runBy a 1 (fun a m =>
    let m := m.access a tblCmdAddr 1 (·.tblCommand 1 table.val index.val)
    let st := if m.resp.status = 0 then m.rd F.SWC_TBL_STAT_STATUS else m.resp.status
    match item with
    | some off => if st = 0 then m else m.itemReject tblCmdAddr off (some st)
    | none => m)

/-- REGISTER_WRITE (R9–R13, R16, R29, R32, R388, R506, R582, R592, R602, R615, R642, R820, R821). -/
def execRegisterWrite (a : Access) (addr size v : Nat) (item : Option Nat) (s : State) : Host.Outcome State Fault Refusal :=
  s.regWrite a addr size (v % 2 ^ (8 * size)) item

end Sys2Proof.Machine
end

