-- ==== Sys2Proof/Machine/Inbound.lean ====
section
/-!
DEFINITION. Inbound requests of the pair bridge (R733, R736, R740, R745–R748, R751): their admission and their execution on
this module's fabric.
-/
namespace Sys2Proof.Machine

namespace Module

/-! ### Admission -/

/-- The limits of R733: a naturally aligned range of 4–256 bytes, nonzero byte enables, not in the bridge's own window. An
ATOMIC names one word. -/
def withinLimits (x : BridgeMsg) : Bool :=
  let n := if x.kind = 0x15 then 4 else x.len
  let shape := decide (4 ≤ n) && decide (n ≤ 256) && popCount 9 n == 1 && x.addr % n == 0
  let enables := x.kind == 0x15 || (x.firstBe % 16 != 0 && x.lastBe % 16 != 0 && (n != 4 || x.firstBe == x.lastBe))
  shape && enables && ! (decide (0x30000000 ≤ x.addr) && decide (x.addr < 0x40000000))

/-- Bytes that a message names. -/
def spanLen (x : BridgeMsg) : Nat := if x.kind = 0x15 then 4 else x.len

/-- Entry INe admits the message (R740). -/
def entryAdmits (m : Module) (x : BridgeMsg) (e : Nat) : Bool :=
  m.flag F.PBR_IN_KEY_EN e && decide (m.rd F.PBR_IN_BASE_BASE e ≤ x.addr / 4096)
    && decide ((x.addr + spanLen x - 1) / 4096 ≤ m.rd F.PBR_IN_LIMIT_LIMIT e) && bit (m.rd F.PBR_IN_KEY_PARTS e) x.part
    && (if x.world then m.flag F.PBR_IN_KEY_SECURE e else m.flag F.PBR_IN_KEY_NORMAL e)
    && (if x.kind = 0x11 then m.flag F.PBR_IN_KEY_R e else if x.kind = 0x13 then m.flag F.PBR_IN_KEY_W e else m.flag F.PBR_IN_KEY_A e)

/-- A snapshot write lies in the LOCAL range of a region of its partition (R740). -/
def snapAdmits (m : Module) (x : BridgeMsg) : Bool :=
  (List.range 16).any (fun r =>
    let b := m.rd F.DPX_SNAP_LOC_ADDR r
    m.flag F.DPX_SNAP_DST_LEN r && m.rd F.DPX_SNAP_LOC_PART r == x.part && decide (b ≤ x.addr)
      && decide (x.addr + spanLen x ≤ b + m.rd F.DPX_SNAP_DST_LEN r))

/-- The attributes with which an admitted request runs (R740), none where it is not admitted; a read with COMMIT 0b10 runs as
speculative (R748). -/
def inboundAccess (m : Module) (x : BridgeMsg) : Option Access :=
  let spec := x.kind == 0x11 && x.commit == 2
  if x.snap then if x.kind = 0x13 ∧ m.snapAdmits x then some { ini := 0x23, world := false, part := x.part } else none
  else match (List.range 16).find? (m.entryAdmits x) with
  | some e => some { ini := 0x23, world := m.flag F.PBR_IN_KEY_EXEC_WORLD e, part := m.rd F.PBR_IN_KEY_EXEC_PART e, spec := spec }
  | none => none

/-- IN_DENY (R740, R755; log entry 15). -/
def inDeny (m : Module) (x : BridgeMsg) : Module :=
  let k := if x.kind = 0x11 then 1 else if x.kind = 0x13 then 2 else 4
  (m.raise F.PBR_EVT_IN_DENY).logBlk 0x0F 0x2F04 x.addr (x.part + b2n x.world * 2 ^ 4 + k * 2 ^ 5 + b2n x.snap * 2 ^ 8)

/-- The response to a request, with its STATUS and data (R731, R737). -/
def answerOf (x : BridgeMsg) (st : Nat) (data : List Byte) (skipped held : Nat := 0) : BridgeMsg :=
  { kind := x.kind + 1, tag := x.tag, op := st, len := if st = 0 then data.length else 0, data := if st = 0 then data else []
    skipped := skipped, held := held }

/-- A request is under execution until INBOUND_EXECUTION_DONE; its response is then sent (R736), or discarded where the
request itself took the link DOWN (R729). -/
def underExecution (m : Module) (x answer : BridgeMsg) : Module :=
  if ! m.bridgeUp then m else (m.setPbr (fun p => { p with inq := p.inq ++ [{ msg := x, answer := answer }] })).showPbr

/-- A request that is not executed is answered at once. -/
def turnDown (m : Module) (x : BridgeMsg) (st : Nat) : Module := m.enqueue (answerOf x st [])

/-! ### Reads -/

/-- What an inbound read has gathered: the words so far, the RE_SKIPPED marks, the held marks, and the status. -/
structure Gathered where
  data : List Byte := []
  skipped : Nat := 0
  held : Nat := 0
  status : Nat := 0

/-- Width of the register access at `addr` within a range that ends at `stop`. -/
def stepWidth (addr stop : Nat) : Nat := if regWidth addr = some 8 ∧ addr + 8 ≤ stop then 8 else 4

/-- The held data of word `addr`, if the demand read asks for it (R751; log entry 14). -/
def heldWord (m : Module) (x : BridgeMsg) (addr : Nat) : Option (List Byte) :=
  if x.commit = 2 ∨ ! bit x.want ((addr - x.addr) / 4) then none
  else (m.pbr.holding.find? (fun h => h.addr == addr && decide (m.now < h.keptUs + 64))).map Held.data

/-- One register of an inbound read (R376, R379, R748, R751). -/
def readOne (m : Module) (a : Access) (x : BridgeMsg) (g : Gathered) (addr n : Nat) : Module × Gathered :=
  let k := (addr - x.addr) / 4
  match m.heldWord x addr with
  | some w =>
    let t := m.now
    let m := m.setPbr (fun p => { p with holding := p.holding.eraseP (fun h => h.addr == addr && decide (t < h.keptUs + 64)) })
    (m.showPbr, { g with data := g.data ++ w })
  | none =>
    match m.rePlan addr with
    | none => (m, { g with data := g.data ++ toBytes n (m.view addr) })
    | some p =>
      let g' := { g with data := g.data ++ toBytes n p.value }
      if a.spec then (m, { g' with skipped := setBit g.skipped k true })
      else match p.what with
      | none => (m, g')
      | some w =>
        if x.commit = 1 then
          if 16 ≤ (m.pbr.effects.filter (fun e => e.ini == x.ini)).length then
            (m.refuse a addr 0 { status := 1, code := 8, block := (blockOf addr).getD 0 }, { g' with status := 1 })
          else
            let keep := if bit x.want k then none else some (toBytes n p.value)
            ((m.when (takesAtOnce w) p.effect).setPbr (fun q =>
              { q with effects := q.effects ++ [{ cid := x.cid, ini := x.ini, addr := addr, effect := w, keep := keep }] }),
              { g' with held := setBit g.held k keep.isSome })
        else if bit x.want k then (p.effect m, g')
        else ((p.effect m).holdWord addr (toBytes n p.value), { g' with held := setBit g.held k true })

/-- The registers of an inbound read from `addr` to `stop`, at most `fuel` of them (log entry 15). -/
def readRegs : Nat → Module → Access → BridgeMsg → Gathered → Nat → Nat → Module × Gathered
  | 0, m, _, _, g, _, _ => (m, g)
  | fuel + 1, m, a, x, g, addr, stop =>
    if stop ≤ addr then (m, g) else
    let n := stepWidth addr stop
    let (m, g) := m.readOne a x g addr n
    if g.status ≠ 0 then (m, g) else readRegs fuel m a x g (addr + n) stop

/-- The first register of the range from `addr` to `stop` that refuses a read (`kind` 0) or a write (`kind` 1), with its
refusal. -/
def rangeDeny (m : Module) (a : Access) (kind : Nat) : Nat → Nat → Nat → Option (Nat × Deny)
  | 0, _, _ => none
  | fuel + 1, addr, stop =>
    if stop ≤ addr then none else
    let n := stepWidth addr stop
    let d := if kind = 0 then m.regReadDeny a addr n
      else match m.accessDeny a addr n 1 with
      | some d => some d
      | none => misfit addr n
    match d with
    | some d => some (addr, d)
    | none => m.rangeDeny a kind fuel (addr + n) stop

/-- Every byte of the range is enabled; a register takes whole words only (R10). -/
def wholeWords (x : BridgeMsg) : Bool := x.firstBe % 16 == 15 && x.lastBe % 16 == 15

/-- The target behind `addr` is memory, or the boot ROM. -/
def inMemory (addr : Nat) : Bool := (memOf addr).isSome || blockOf addr == some 0 || blockOf addr == none

/-- An admitted READ runs on the fabric; its response waits for the end of its execution (log entry 15). -/
def inboundRead (m : Module) (a : Access) (x : BridgeMsg) : Module :=
  if inMemory x.addr then
    let (m, l) := m.busRead a x.addr x.len
    match l with
    | some l => m.underExecution x (answerOf x 0 l)
    | none => m.underExecution x (answerOf x m.resp.status [])
  else if ! wholeWords x then
    let d : Deny := { status := 0x10, code := 3, block := (blockOf x.addr).getD 0 }
    (m.refuse a x.addr 0 d).underExecution x (answerOf x d.status [])
  else match m.rangeDeny a 0 64 x.addr (x.addr + x.len) with
  | some (addr, d) => (m.refuse a addr 0 d).underExecution x (answerOf x d.status [])
  | none =>
    let (m, g) := readRegs 64 m a x {} x.addr (x.addr + x.len)
    m.underExecution x (answerOf x g.status g.data g.skipped g.held)

/-! ### Writes -/

/-- Byte `k` of a message's range is enabled (R731). -/
def byteOn (x : BridgeMsg) (k : Nat) : Bool :=
  if k < 4 then bit x.firstBe k else if x.len ≤ k + 4 then bit x.lastBe (k % 4) else true

/-- The runs of enabled bytes of a write, in address order: address and bytes. -/
def enabledRuns (x : BridgeMsg) : List (Nat × List Byte) :=
  ((List.range x.len).foldl (fun (l : List (Nat × List Byte)) k =>
    if ! byteOn x k then l else
    let b := x.data.getD k 0
    match l with
    | (s, bs) :: r => if s + bs.length = x.addr + k then (s, bs ++ [b]) :: r else (x.addr + k, [b]) :: l
    | [] => [(x.addr + k, [b])]) []).reverse

/-- A write to memory: the status of the first run that fails, if one does. -/
def writeRuns (m : Module) (a : Access) (l : List (Nat × List Byte)) : Module × Nat :=
  l.foldl (fun (s : Module × Nat) r =>
    if s.2 ≠ 0 then s else
    let (m, good) := s.1.busWrite a r.1 r.2
    (m, if good then 0 else m.resp.status)) (m, 0)

end Module

/-- The registers of an inbound write from `addr` to `stop`, at most `fuel` of them; the status is that of the first that
fails (log entry 15). -/
def writeRegs (a : Access) (x : BridgeMsg) : Nat → State → Nat → Nat → State × Nat
  | 0, s, _, _ => (s, 0)
  | fuel + 1, s, addr, stop =>
    if stop ≤ addr then (s, 0) else
    let n := Module.stepWidth addr stop
    match s.regWrite a addr n (ofBytes ((x.data.drop (addr - x.addr)).take n)) none with
    | .next t => if t.m.resp.status ≠ 0 then (t, t.m.resp.status) else writeRegs a x fuel t (addr + n) stop
    | _ => (s, 0)

/-- An admitted WRITE runs on the fabric (log entry 15). -/
def State.inboundWrite (s : State) (a : Access) (x : BridgeMsg) : State :=
  let done := fun (s : State) (st : Nat) => { s with m := s.m.underExecution x (Module.answerOf x st []) }
  let no := fun (addr : Nat) (d : Module.Deny) => done { s with m := s.m.refuse a addr 1 d } d.status
  if Module.inMemory x.addr then
    let r := s.m.writeRuns a (Module.enabledRuns x)
    done { s with m := r.1 } r.2
  else if ! Module.wholeWords x then no x.addr { status := 0x10, code := 3, block := (Module.blockOf x.addr).getD 0 }
  else match s.m.rangeDeny a 1 64 x.addr (x.addr + x.len) with
  | some (addr, d) => no addr d
  | none =>
    let (t, st) := writeRegs a x 64 s x.addr (x.addr + x.len)
    done t st

namespace Module

/-! ### Atomics, LR and SC -/

/-- The reservation holder of a message (R746). -/
def holderOf (x : BridgeMsg) : Holder :=
  if 0x10 ≤ x.ini ∧ x.ini ≤ 0x13 then .pair x.world x.part else .other x.ini x.world

/-- The AMO of an OP (R745). -/
def amoOf (op : Nat) : Option AmoOp :=
  if op = 0 then none else [AmoOp.swap, .add, .xor, .and, .or, .min, .max, .minu, .maxu][op - 1]?

/-- LR: the word is read; the holder's earlier semaphore and any other holder's on the granule are free, and a free one, or the
one taken longest ago, covers the granule (R746, R747). -/
def semTake (m : Module) (h : Holder) (granule : Nat) : Module :=
  let l := m.pbr.sems.filter (fun s => s.holder != h && s.granule != granule)
  let l := if 16 ≤ l.length then l.drop 1 else l
  let no := ((List.range 16).find? (fun n => l.all (fun s => s.no != n))).getD 0
  let t := m.now
  (m.setPbr (fun p => { p with sems := l ++ [{ no := no, holder := h, granule := granule, takenUs := t }] })).showSems

/-- An admitted ATOMIC runs on the fabric (R745–R747; log entry 15). -/
def inboundAtomic (m : Module) (a : Access) (x : BridgeMsg) : Module :=
  let word := BitVec.ofNat 32 (ofBytes (x.data.take 4))
  let reply := fun (m : Module) => m.underExecution x (answerOf x m.resp.status (toBytes 4 m.resp.data))
  let h := holderOf x
  let g := x.addr / 64
  if x.op = 0x10 then
    let (m, l) := m.busRead a x.addr 4
    match l with
    | some l => (m.semTake h g).underExecution x (answerOf x 0 l)
    | none => reply m
  else if x.op = 0x11 then
    if m.pbr.sems.any (fun s => s.holder == h && s.granule == g) then
      let (m, good) := m.busWrite a x.addr (toBytes 4 word.toNat)
      if good then
        let m := (m.setPbr (fun p => { p with sems := p.sems.filter (fun s => s.holder != h) })).showSems
        m.underExecution x (answerOf x 0 (toBytes 4 0))
      else reply m
    else (m.addS F.PBR_SEM_CNT_SC_FAIL 1).underExecution x (answerOf x 0 (toBytes 4 1))
  else match amoOf x.op with
  | some op => reply (m.busAtomic a op x.addr word)
  | none => m.turnDown x 0x10

end Module

/-- An inbound request of kind `kind`: its limits, its admission, and its execution by `run`; with 32 under execution none is
admitted (R735; log entry 15). A bridge that does not work receives nothing. -/
def State.inbound (s : State) (kind : Nat) (x : BridgeMsg) (run : State → Access → State) : State :=
  let full := decide (32 ≤ (s.m.pbr.inq.filter (fun r => isRequest r.msg.kind)).length)
  let live := s.m.pathOpen x.path && x.version == 1 && s.m.bridgeUp && x.session == s.m.rd F.PBR_SESSION_PEER
    && x.seq == (s.m.pbr.lastSeq + 1) % 2 ^ 16 && x.kind == kind
  if ! s.m.works 0x0F then s
  else if ! live then { s with m := s.m.bridgeIn x id }
  else if full then { s with m := s.m.hearPeer x }
  else if ! Module.withinLimits x then { s with m := s.m.bridgeIn x (·.turnDown x 0x10) }
  else match s.m.inboundAccess x with
  | none => { s with m := s.m.bridgeIn x (fun m => (m.inDeny x).turnDown x 2) }
  | some a =>
    let t := run { s with m := s.m.hearPeer x } a
    { t with m := t.m.bridgeIn x id }

/-! ### Commands -/

/-- READ (R367, R376, R379, R380, R382, R733–R736, R740, R748, R751). -/
def execBridgeRead (x : BridgeMsg) (s : State) : Host.Outcome State Fault Refusal :=
  .next (s.inbound 0x11 x (fun s a => { s with m := s.m.inboundRead a x }))

/-- WRITE (R382, R733–R736, R740, R747). -/
def execBridgeWrite (x : BridgeMsg) (s : State) : Host.Outcome State Fault Refusal :=
  .next (s.inbound 0x13 x (fun s a => s.inboundWrite a x))

/-- ATOMIC (R733–R736, R740, R745–R747): AMO, LR and SC. -/
def execBridgeAtomic (x : BridgeMsg) (s : State) : Host.Outcome State Fault Refusal :=
  .next (s.inbound 0x15 x (fun s a => { s with m := s.m.inboundAtomic a x }))

end Sys2Proof.Machine
end

