-- ==== Sys2Proof/Machine/Sweep.lean ====
section
/-!
DEFINITION. The sweep boundary, the end of a turn-on, and the start of an off-state diagnostic cycle (chapters 4 to 6, 17).
-/
namespace Sys2Proof.Machine

namespace Module

/-- A standby unit starts a scrub pass over all seven memories as soon as the previous one is complete (R716;
log entry 44). -/
def standbyScrub (m : Module) : Module :=
  if (m.role ≠ 4 ∧ m.role ≠ 5) ∨ (List.range 7).any (fun k => m.flag F.FAB_SCRUB_STAT_REQ_BUSY k) then m
  else forEach (List.range 7) (fun k m => (m.raise F.FAB_SCRUB_STAT_REQ_BUSY k).wr F.FAB_SCRUB_STAT_PROGRESS 0 k) m

/-- A sweep boundary: commands execute in CHC, and DPX judges and mirrors (log entry 24). -/
def sweepEnd (m : Module) (missed : Bool) : Module :=
  let m := m.when (m.running 4) (·.chcSweep missed)
  (m.when (m.running 0x0E) (·.dpxSweep)).standbyScrub

/-- Channel `n` may be diagnosed (R92, R207, R209, R716): its output has been off for 10 ms, in no dip; on the standby unit,
one whose mirrored CMD is OFF (log entry 44). -/
def diagEligible (m : Module) (n : Nat) : Bool :=
  let c := m.chan n
  let g := n / 32
  c.phase == .off && decide (c.offAt + 10000 ≤ m.now) && m.rd F.HST_SUP_STAT_VAUX_STATE != 1
    && ((m.role != 4 && m.role != 5) || tget 0 m.dpx.peerCmd n == 0)
    && (List.range 32).all (fun p => (m.chan (32 * g + p)).diag == .none)

end Module

/-! ### Commands -/

/-- SWEEP_BOUNDARY (R138, R182, R201, R203, R264, R278, R279, R282, R283, R285, R297, R298, R316, R448, R691, R703, R705,
R706, R711, R713, R714, R716): `missed` says that the evaluation of the sweep missed its bound. -/
def execSweepBoundary (missed : Bool) (s : State) : Host.Outcome State Fault Refusal := s.run (fun m => m.sweepEnd missed)

/-- TURN_ON_COMPLETE (R238, R704, R712). -/
def execTurnOnComplete (c : Fin 128) (s : State) : Host.Outcome State Fault Refusal :=
  s.run (fun m => m.when ((m.chan c.val).phase == .turningOn) (fun m =>
    let t := m.now
    (m.setChan c.val (fun c => { c with phase := .on, onAt := t })).engageEnd))

/-- DIAG_CYCLE_START (R92, R207–R209, R716). -/
def execDiagCycleStart (c : Fin 128) (s : State) : Host.Outcome State Fault Refusal :=
  s.run (fun m => m.when (m.diagEligible c.val) (fun m => m.setChan c.val (fun c => { c with diag := .supply true 0 })))

end Sys2Proof.Machine
end

