-- ==== Sys2Proof/Machine/Window.lean ====
section
/-!
DEFINITION. The end of a pair's window (R332, R335–R342): the compare, the commit with the drain of the commit buffer, whose
stores reach every target of the fabric, and the atomics of a pair.
-/
namespace Sys2Proof.Machine

namespace Module

/-- The writes of pair `n` over the bridge that have no answer yet: they drain (R338). -/
def drainingOf (m : Module) (n : Nat) : Nat :=
  (m.pbr.reqs.filter (fun q => q.waits && q.kind == 0x13 && q.acc.ini == 0x10 + n)).length

/-- The window can have ended so: 32 stores end it, a DEVICE load ends one that holds a store, and neither a window nor the
commit buffer holds more than its own (R332, R337, R338). -/
def windowOk (m : Module) (n : Nat) (w : WindowEnd) : Bool :=
  let mine := (m.pair n).held.length + w.stores.length
  decide (mine ≤ 32) && decide (w.next.length ≤ 32) && decide (mine + w.next.length + m.drainingOf n ≤ 64)
    && (match w.early with
      | some .stores => mine == 32
      | some .deviceLoad => decide (0 < mine)
      | _ => true)

/-- The stores of `l` that enter the commit buffer. One that no range and no view covers raises a store access fault and is not
held (R324, R337). -/
def admitStores (m : Module) (n : Nat) (l : List HeldStore) : Module × List HeldStore :=
  let x := m.pair n
  ((if l.all (m.storeAllowed n) then m else m.setPair n { x with fault := some .store }), l.filter (m.storeAllowed n))

end Module

/-- An entry of the commit buffer drains (R338): a store to a view is a write at the fabric with the pair's attributes (R39), and
an error response to it is recorded (R341; log entry 27). -/
def State.drain (s : State) (n : Nat) (p : Option Nat) (x : HeldStore) : State :=
  match x.kind, p with
  | .memView, some p | .deviceView, some p =>
    let (a, l) := Module.storeBytes x
    match s.writeAs (Module.pairAccess n p) a l.length (ofBytes l) none with
    | .next t => if t.m.resp.status = 0 then t else { t with m := t.m.writeError n p a t.m.resp.status }
    | _ => s
  | .pairLocal, _ | .pairReg, _ => { s with m := s.m.drainLocal n p x }
  | _, none => s

/-- A window of pair `n` commits (R335, R338–R340, R376): its stores drain in program order, its reads commit, the checkpoint at
its end becomes the restore point, and what the next window holds stands (log entry 27). -/
def State.windowCommit (s : State) (n : Nat) (p : Option Nat) (mine next : List HeldStore) (w : WindowEnd) : State :=
  let s := mine.foldl (fun s x => s.drain n p x) s
  let m := s.m.readsCommit n
  if m.hosted n ≠ p then { s with m := m } else
  let x := m.pair n
  let m := m.setPair n { x with seq := (x.seq + 1) % 2 ^ 32, restore := w.cpA, other := x.restore, held := next
                                replaying := false, wfi := w.early == some .wfi }
  { s with m := match p with | some p => m.moveStart p n | none => m }

/-- The compare at the end of a window (R332, R335, R342, R359): a split pair commits unconditionally, one without a partition
too (log entry 27). -/
def State.windowCompare (s : State) (w : WindowEnd) : State :=
  let n := w.pair.val
  let p := s.m.hosted n
  let split := s.m.pairState n == 6
  let runs := match p with | some p => s.m.rd F.LSS_PART_STATE p == 1 | none => split
  if ! runs || (s.m.pair n).wfi || ! s.m.windowOk n w then s else
  let m := s.m.when w.early.isSome (·.addW F.LSS_PAIR_EARLY_COUNT 1 n)
  let (m, l) := m.admitStores n w.stores
  if split || (signature w.sigA == signature w.sigB && w.cpA == w.cpB) then
    let (m, next) := m.admitStores n w.next
    { s with m := m }.windowCommit n p ((m.pair n).held ++ l) next w
  else { s with m := (m.setPair n { m.pair n with other := w.cpA }).mismatch n }

namespace Module

/-! ### Atomics of a pair (R327, R336) -/

/-- An AMO or SC on pair-local memory: it executes within the pair, and what it stores is held as a store of the window (R327,
R337). -/
def amoLocal (m : Module) (n : Nat) (a : Access) (op : AmoOp) (addr : Nat) (x : Word) : Module :=
  let store := fun (m : Module) (v : Word) =>
    m.setPair n { m.pair n with held := (m.pair n).held ++ [{ kind := .pairLocal, addr := addr, data := v, mask := 0xF }] }
  match op with
  | .sc held => if held then (store m x).ok 0 else m.ok 1
  | _ =>
    let m := m.guardedReadAt a (3 + n) addr 4 0 []
    if m.resp.status ≠ 0 then m.pairFault a 0
    else match amoResult op (BitVec.ofNat 32 m.resp.data) x with
      | some v => store m v
      | none => m

/-- The operation code of an atomic through the bridge window (R745, R746). -/
def bridgeOp : AmoOp → Nat
  | .swap => 1 | .add => 2 | .xor => 3 | .and => 4 | .or => 5 | .min => 6 | .max => 7 | .minu => 8 | .maxu => 9
  | .sc _ => 0x11

/-- The request of core A for an atomic (R334). -/
def amoRequest (op : AmoOp) (addr x : Word) (device : Bool) : PairReq :=
  { kind := match op with | .sc _ => .sc | _ => .amo, addr := addr, data := x, device := device }

/-- An AMO or SC of pair `n` to address `addr` of its map (R327, R336): the request words of the two cores are compared, and it is
issued as one atomic where they match; a target other than SRAM, DRAM and the bridge window raises a store access fault in the
cores and issues nothing. An AMO needs the permissions R and W of its view, an SC needs W (log entry 27). -/
def amoToView (m : Module) (n : Nat) (op : AmoOp) (addr x : Word) (mB aB : DWord) : Module :=
  match m.hosted n with
  | none => m
  | some p =>
    let a := pairAccess n p
    let v := addr.toNat
    let bad := m.setPair n { m.pair n with fault := some .store }
    if v % 4 ≠ 0 then bad
    else if v + 4 ≤ 0x20000 then m.amoLocal n a op v x
    else
      match (m.pairViews n).find? (fun u => decide (u.vbase ≤ v) && decide (v + 4 ≤ u.vbase + u.size)) with
      | none => bad
      | some u =>
        let pa := u.pbase + (v - u.vbase)
        let reads := match op with | .sc _ => false | _ => true
        let q := amoRequest op addr x u.device
        if ! bit u.perm 1 || (reads && ! bit u.perm 0) || ((memOf pa).isNone && ! isWindow pa) then bad
        else if m.pairState n = 3 ∧ (mB ≠ reqWordM q ∨ aB ≠ reqWordA q) then m.mismatch n
        else if isWindow pa then m.windowAtomic a (bridgeOp op) pa (toBytes 4 x.toNat)
        else m.busAtomic a op pa x

end Module

/-! ### Commands -/

/-- WINDOW_COMPARE (R326, R329, R331, R332, R334, R335, R337–R343, R376, R378). -/
def execWindowCompare (w : WindowEnd) (s : State) : Host.Outcome State Fault Refusal := .next (s.windowCompare w)

/-- AMO_TO_VIEW (R327, R334, R336): `mB` and `aB` are the request words of core B. -/
def execAmoToView (pair : Fin 4) (op : AmoOp) (addr data : Word) (mB aB : DWord) (s : State) :
    Host.Outcome State Fault Refusal :=
  s.run (fun m => m.amoToView pair.val op addr data mB aB)

end Sys2Proof.Machine
end

