-- ==== Sys2Proof/Machine/Dispatch.lean ====
section
/-!
DEFINITION. One arm for each command: its effect on everything but the queue.
-/
namespace Sys2Proof.Machine

/-- The effect of command `i` on the state, the queue aside. -/
def exec (i : Instr) (s : State) : Host.Outcome State Fault Refusal :=
  match i with
  | .registerWrite a addr size v item => Sys2Proof.Machine.execRegisterWrite a addr size v item s
  | .countClearRead a addr served => Sys2Proof.Machine.execCountClearRead a addr served s
  | .hstVauxMvRead a => Sys2Proof.Machine.execHstVauxMvRead a s
  | .guardedRead a kind mem addr count ups => Sys2Proof.Machine.execGuardedRead a kind mem addr count ups s
  | .guardedWrite a mem addr data ups => Sys2Proof.Machine.execGuardedWrite a mem addr data ups s
  | .scrubLineVisit mem line ups last => Sys2Proof.Machine.execScrubLineVisit mem line ups last s
  | .l2Eviction line => Sys2Proof.Machine.execL2Eviction line s
  | .scrubRequest a v => Sys2Proof.Machine.execScrubRequest a v s
  | .scrubPassDone mem => Sys2Proof.Machine.execScrubPassDone mem s
  | .firewallCommit a v recOffset => Sys2Proof.Machine.execFirewallCommit a v recOffset s
  | .enforceSet a v => Sys2Proof.Machine.execEnforceSet a v s
  | .fabLogBaseWrite a v => Sys2Proof.Machine.execFabLogBaseWrite a v s
  | .powerOnReset unitSel => Sys2Proof.Machine.execPowerOnReset unitSel s
  | .tcxoFail => Sys2Proof.Machine.execTcxoFail s
  | .syspllLossOfLock => Sys2Proof.Machine.execSyspllLossOfLock s
  | .serpllLossOfLock => Sys2Proof.Machine.execSerpllLossOfLock s
  | .serpllRelock => Sys2Proof.Machine.execSerpllRelock s
  | .pllLock serial => Sys2Proof.Machine.execPllLock serial s
  | .clkAcDivWrite a v => Sys2Proof.Machine.execClkAcDivWrite a v s
  | .moduleResetRequest a v => Sys2Proof.Machine.execModuleResetRequest a v s
  | .bootRomStart => Sys2Proof.Machine.execBootRomStart s
  | .dbgReset => Sys2Proof.Machine.execDbgReset s
  | .blockReset a v => Sys2Proof.Machine.execBlockReset a v s
  | .blockResetDone => Sys2Proof.Machine.execBlockResetDone s
  | .partitionReset a v => Sys2Proof.Machine.execPartitionReset a v s
  | .partitionResetDone => Sys2Proof.Machine.execPartitionResetDone s
  | .gateClockOff a block => Sys2Proof.Machine.execGateClockOff a block s
  | .gateClockOn a block => Sys2Proof.Machine.execGateClockOn a block s
  | .gatePowerOff a block => Sys2Proof.Machine.execGatePowerOff a block s
  | .gatePowerOn a block => Sys2Proof.Machine.execGatePowerOn a block s
  | .gateDrainDone secure => Sys2Proof.Machine.execGateDrainDone secure s
  | .gateDrainTimeout secure => Sys2Proof.Machine.execGateDrainTimeout secure s
  | .gatePowerUpDone secure => Sys2Proof.Machine.execGatePowerUpDone secure s
  | .dipEntry => Sys2Proof.Machine.execDipEntry s
  | .dipExit => Sys2Proof.Machine.execDipExit s
  | .dipExtended => Sys2Proof.Machine.execDipExtended s
  | .holdupEntry => Sys2Proof.Machine.execHoldupEntry s
  | .holdupFlushDone kept => Sys2Proof.Machine.execHoldupFlushDone kept s
  | .channelStateRecordDone => Sys2Proof.Machine.execChannelStateRecordDone s
  | .holdupTimeout => Sys2Proof.Machine.execHoldupTimeout s
  | .vholdExhausted => Sys2Proof.Machine.execVholdExhausted s
  | .vsUndervoltageEntry group => Sys2Proof.Machine.execVsUndervoltageEntry group s
  | .vsUndervoltageExit group => Sys2Proof.Machine.execVsUndervoltageExit group s
  | .holdupCapMeasure => Sys2Proof.Machine.execHoldupCapMeasure s
  | .holdupCapMeasureDone uf => Sys2Proof.Machine.execHoldupCapMeasureDone uf s
  | .voltageUpdate vaux vhold vs => Sys2Proof.Machine.execVoltageUpdate vaux vhold vs s
  | .tempConversion ctl bp ps => Sys2Proof.Machine.execTempConversion ctl bp ps s
  | .memoryWipeDone => Sys2Proof.Machine.execMemoryWipeDone s
  | .startupSelftestDone missed falseFlags cores hash modular => Sys2Proof.Machine.execStartupSelftestDone missed falseFlags cores hash modular s
  | .imageCandidateCheckDone readError => Sys2Proof.Machine.execImageCandidateCheckDone readError s
  | .bootRetry => Sys2Proof.Machine.execBootRetry s
  | .bootWatchdogExpiry => Sys2Proof.Machine.execBootWatchdogExpiry s
  | .channelInitialStates => Sys2Proof.Machine.execChannelInitialStates s
  | .lcReqProvisioned a v => Sys2Proof.Machine.execLcReqProvisioned a v s
  | .lcReqField a v => Sys2Proof.Machine.execLcReqField a v s
  | .lcReqFieldDebug a v => Sys2Proof.Machine.execLcReqFieldDebug a v s
  | .lcReqReturn a v => Sys2Proof.Machine.execLcReqReturn a v s
  | .lcReqEnd a v => Sys2Proof.Machine.execLcReqEnd a v s
  | .lcReqManufacture a v => Sys2Proof.Machine.execLcReqManufacture a v s
  | .lcOtpProgramDone => Sys2Proof.Machine.execLcOtpProgramDone s
  | .dbgGrantExpiry => Sys2Proof.Machine.execDbgGrantExpiry s
  | .ownerSlotRevoke a v => Sys2Proof.Machine.execOwnerSlotRevoke a v s
  | .sweepSlotSample x => Sys2Proof.Machine.execSweepSlotSample x s
  | .sweepBoundary missed => Sys2Proof.Machine.execSweepBoundary missed s
  | .vsRefRefill g => Sys2Proof.Machine.execVsRefRefill g s
  | .fastShort c => Sys2Proof.Machine.execFastShort c s
  | .thermalShutdown c => Sys2Proof.Machine.execThermalShutdown c s
  | .thermalLatchClear c => Sys2Proof.Machine.execThermalLatchClear c s
  | .clusterWarnSet g k => Sys2Proof.Machine.execClusterWarnSet g k s
  | .clusterWarnClear g k => Sys2Proof.Machine.execClusterWarnClear g k s
  | .wireModelStep tj => Sys2Proof.Machine.execWireModelStep tj s
  | .groupEvaluation => Sys2Proof.Machine.execGroupEvaluation s
  | .groupLossEstimate => Sys2Proof.Machine.execGroupLossEstimate s
  | .reverseSwitchOff c => Sys2Proof.Machine.execReverseSwitchOff c s
  | .reverseSwitchOn c => Sys2Proof.Machine.execReverseSwitchOn c s
  | .reverseSwitchTest c => Sys2Proof.Machine.execReverseSwitchTest c s
  | .reverseSwitchTestEnd c mv => Sys2Proof.Machine.execReverseSwitchTestEnd c mv s
  | .turnOffComplete c => Sys2Proof.Machine.execTurnOffComplete c s
  | .turnOnComplete c => Sys2Proof.Machine.execTurnOnComplete c s
  | .diagCycleStart c => Sys2Proof.Machine.execDiagCycleStart c s
  | .supplyCheckEnd c => Sys2Proof.Machine.execSupplyCheckEnd c s
  | .openLoadCheckEnd c openReading => Sys2Proof.Machine.execOpenLoadCheckEnd c openReading s
  | .undercurrentTimer c => Sys2Proof.Machine.execUndercurrentTimer c s
  | .inrushWindowEnd c => Sys2Proof.Machine.execInrushWindowEnd c s
  | .limitEngage c => Sys2Proof.Machine.execLimitEngage c s
  | .limitRelease c => Sys2Proof.Machine.execLimitRelease c s
  | .fwMissing c => Sys2Proof.Machine.execFwMissing c s
  | .backoffExpiry c => Sys2Proof.Machine.execBackoffExpiry c s
  | .retryReload c => Sys2Proof.Machine.execRetryReload c s
  | .channelRestart c => Sys2Proof.Machine.execChannelRestart c s
  | .pwmOnEdge c ns => Sys2Proof.Machine.execPwmOnEdge c ns s
  | .pwmOffEdge c => Sys2Proof.Machine.execPwmOffEdge c s
  | .chOn a inst chan resv seq => Sys2Proof.Machine.execChOn a inst chan resv seq s
  | .chOff a inst chan resv seq => Sys2Proof.Machine.execChOff a inst chan resv seq s
  | .chPwm a inst chan resv seq => Sys2Proof.Machine.execChPwm a inst chan resv seq s
  | .chSetProfile a inst chan resv seq => Sys2Proof.Machine.execChSetProfile a inst chan resv seq s
  | .chClearFault a inst chan resv seq => Sys2Proof.Machine.execChClearFault a inst chan resv seq s
  | .chHold a inst chan resv seq => Sys2Proof.Machine.execChHold a inst chan resv seq s
  | .chCalibrate a inst chan resv seq => Sys2Proof.Machine.execChCalibrate a inst chan resv seq s
  | .watchdogKick a inst v => Sys2Proof.Machine.execWatchdogKick a inst v s
  | .instanceExpiry inst => Sys2Proof.Machine.execInstanceExpiry inst s
  | .chiCplRead a inst => Sys2Proof.Machine.execChiCplRead a inst s
  | .ucLoad a v => Sys2Proof.Machine.execUcLoad a v s
  | .ucLoadDone => Sys2Proof.Machine.execUcLoadDone s
  | .ucSwap a v => Sys2Proof.Machine.execUcSwap a v s
  | .calibrationPhaseEnd gain offset span => Sys2Proof.Machine.execCalibrationPhaseEnd gain offset span s
  | .uinFrame xs => Sys2Proof.Machine.execUinFrame xs s
  | .uinCfgWrite a n v => Sys2Proof.Machine.execUinCfgWrite a n v s
  | .uinNtcWrite a k isB v => Sys2Proof.Machine.execUinNtcWrite a k isB v s
  | .shuntOpen n => Sys2Proof.Machine.execShuntOpen n s
  | .shuntReclose n => Sys2Proof.Machine.execShuntReclose n s
  | .windowCompare w => Sys2Proof.Machine.execWindowCompare w s
  | .windowTimeout pair => Sys2Proof.Machine.execWindowTimeout pair s
  | .amoToView pair op addr data mB aB => Sys2Proof.Machine.execAmoToView pair op addr data mB aB s
  | .committedWriteError pair addr status => Sys2Proof.Machine.execCommittedWriteError pair addr status s
  | .migrationComplete ns => Sys2Proof.Machine.execMigrationComplete ns s
  | .lssSelftest a v => Sys2Proof.Machine.execLssSelftest a v s
  | .lssRestore a v => Sys2Proof.Machine.execLssRestore a v s
  | .lssMove a v => Sys2Proof.Machine.execLssMove a v s
  | .lssSplit a v => Sys2Proof.Machine.execLssSplit a v s
  | .lssLoan a v => Sys2Proof.Machine.execLssLoan a v s
  | .lssAdopt a v => Sys2Proof.Machine.execLssAdopt a v s
  | .lssReturn a v => Sys2Proof.Machine.execLssReturn a v s
  | .injectionDone pair missed falseFlag => Sys2Proof.Machine.execInjectionDone pair missed falseFlag s
  | .periodicInjection => Sys2Proof.Machine.execPeriodicInjection s
  | .worldEntry core cause ctx => Sys2Proof.Machine.execWorldEntry core cause ctx s
  | .worldExit core ctx => Sys2Proof.Machine.execWorldExit core ctx s
  | .vmidWrite a e v => Sys2Proof.Machine.execVmidWrite a e v s
  | .mapLoad a v => Sys2Proof.Machine.execMapLoad a v s
  | .worldLockSet a v => Sys2Proof.Machine.execWorldLockSet a v s
  | .holdInc a v => Sys2Proof.Machine.execHoldInc a v s
  | .holdDec a v => Sys2Proof.Machine.execHoldDec a v s
  | .deferCancel a v => Sys2Proof.Machine.execDeferCancel a v s
  | .swdtKick a v => Sys2Proof.Machine.execSwdtKick a v s
  | .swdtExpiry digestMatches svc => Sys2Proof.Machine.execSwdtExpiry digestMatches svc s
  | .secReady a v => Sys2Proof.Machine.execSecReady a v s
  | .restartsClear => Sys2Proof.Machine.execRestartsClear s
  | .imgAssign a v => Sys2Proof.Machine.execImgAssign a v s
  | .imgUnassign a v => Sys2Proof.Machine.execImgUnassign a v s
  | .imgReset a v => Sys2Proof.Machine.execImgReset a v s
  | .imgQuiesce a v => Sys2Proof.Machine.execImgQuiesce a v s
  | .imgResume a v => Sys2Proof.Machine.execImgResume a v s
  | .imgSetShare a v => Sys2Proof.Machine.execImgSetShare a v s
  | .imgSetWeight a v => Sys2Proof.Machine.execImgSetWeight a v s
  | .instResetRequest a page v => Sys2Proof.Machine.execInstResetRequest a page v s
  | .fenceRelease page => Sys2Proof.Machine.execFenceRelease page s
  | .fenceForced page => Sys2Proof.Machine.execFenceForced page s
  | .frameParse port head age err => Sys2Proof.Machine.execFrameParse port head age err s
  | .frameEnd port rest err => Sys2Proof.Machine.execFrameEnd port rest err s
  | .copyTransmitStart port parity => Sys2Proof.Machine.execCopyTransmitStart port parity s
  | .copyTransmitEnd port parity => Sys2Proof.Machine.execCopyTransmitEnd port parity s
  | .queueAgeCheck => Sys2Proof.Machine.execQueueAgeCheck s
  | .agingScan => Sys2Proof.Machine.execAgingScan s
  | .linkDown port localFault remoteFault => Sys2Proof.Machine.execLinkDown port localFault remoteFault s
  | .tblWrite a table index item => Sys2Proof.Machine.execTblWrite a table index item s
  | .tblRead a table index => Sys2Proof.Machine.execTblRead a table index s
  | .tblDelete a table index => Sys2Proof.Machine.execTblDelete a table index s
  | .tblInsert a table => Sys2Proof.Machine.execTblInsert a table s
  | .tblLookup a table => Sys2Proof.Machine.execTblLookup a table s
  | .tblFlush a table => Sys2Proof.Machine.execTblFlush a table s
  | .drainRequest a v => Sys2Proof.Machine.execDrainRequest a v s
  | .swcDrained => Sys2Proof.Machine.execSwcDrained s
  | .swcCntSelWrite a v => Sys2Proof.Machine.execSwcCntSelWrite a v s
  | .sporeRecordWrite => Sys2Proof.Machine.execSporeRecordWrite s
  | .sporeFail status => Sys2Proof.Machine.execSporeFail status s
  | .streamRecoveryReset inst => Sys2Proof.Machine.execStreamRecoveryReset inst s
  | .pauseReceive port quanta => Sys2Proof.Machine.execPauseReceive port quanta s
  | .pfcReceive port enable quanta => Sys2Proof.Machine.execPfcReceive port enable quanta s
  | .pauseHoldExpiry port cls => Sys2Proof.Machine.execPauseHoldExpiry port cls s
  | .pauseFrameSend port => Sys2Proof.Machine.execPauseFrameSend port s
  | .pauseRefresh port => Sys2Proof.Machine.execPauseRefresh port s
  | .pauseWdt port cls => Sys2Proof.Machine.execPauseWdt port cls s
  | .pauseIgnoreEnd port => Sys2Proof.Machine.execPauseIgnoreEnd port s
  | .phyLinkUp port => Sys2Proof.Machine.execPhyLinkUp port s
  | .sqiLow port sqi => Sys2Proof.Machine.execSqiLow port sqi s
  | .phyFwLoadDone kind => Sys2Proof.Machine.execPhyFwLoadDone kind s
  | .macCntSelWrite a port v => Sys2Proof.Machine.execMacCntSelWrite a port v s
  | .hqTxTailWrite a q v => Sys2Proof.Machine.execHqTxTailWrite a q v s
  | .hqRxTailWrite a q v => Sys2Proof.Machine.execHqRxTailWrite a q v s
  | .ringEnableWrite a q tx v => Sys2Proof.Machine.execRingEnableWrite a q tx v s
  | .descriptorFetch q tx => Sys2Proof.Machine.execDescriptorFetch q tx s
  | .txFrameHandoff q => Sys2Proof.Machine.execTxFrameHandoff q s
  | .launchTime q => Sys2Proof.Machine.execLaunchTime q s
  | .txTimestampStore port => Sys2Proof.Machine.execTxTimestampStore port s
  | .rxFrameDeliver => Sys2Proof.Machine.execRxFrameDeliver s
  | .parkResume q => Sys2Proof.Machine.execParkResume q s
  | .parkStallTimeout q => Sys2Proof.Machine.execParkStallTimeout q s
  | .dmaError q tx addr status => Sys2Proof.Machine.execDmaError q tx addr status s
  | .hdmaCntSelWrite a v => Sys2Proof.Machine.execHdmaCntSelWrite a v s
  | .tmuSet a v => Sys2Proof.Machine.execTmuSet a v s
  | .tmuAdj a v => Sys2Proof.Machine.execTmuAdj a v s
  | .servoEnWrite a v => Sys2Proof.Machine.execServoEnWrite a v s
  | .offsetSample a v => Sys2Proof.Machine.execOffsetSample a v s
  | .ppsInEdge => Sys2Proof.Machine.execPpsInEdge s
  | .ppsMiss => Sys2Proof.Machine.execPpsMiss s
  | .tmuHoldover => Sys2Proof.Machine.execTmuHoldover s
  | .reselect a v => Sys2Proof.Machine.execReselect a v s
  | .srvReset a v => Sys2Proof.Machine.execSrvReset a v s
  | .ppsOutRise => Sys2Proof.Machine.execPpsOutRise s
  | .ppsOutFall => Sys2Proof.Machine.execPpsOutFall s
  | .evtInEdge k falling => Sys2Proof.Machine.execEvtInEdge k falling s
  | .eviNsRead a k => Sys2Proof.Machine.execEviNsRead a k s
  | .evoArm a k v => Sys2Proof.Machine.execEvoArm a k v s
  | .evoEdge k => Sys2Proof.Machine.execEvoEdge k s
  | .tmrLoad a n v => Sys2Proof.Machine.execTmrLoad a n v s
  | .tmrExpiry n => Sys2Proof.Machine.execTmrExpiry n s
  | .canOpen a c obj => Sys2Proof.Machine.execCanOpen a c obj s
  | .canClose a c obj => Sys2Proof.Machine.execCanClose a c obj s
  | .txReq a c obj => Sys2Proof.Machine.execTxReq a c obj s
  | .canCancel a c obj => Sys2Proof.Machine.execCanCancel a c obj s
  | .xtxCancel a c obj => Sys2Proof.Machine.execXtxCancel a c obj s
  | .canRecover a c obj => Sys2Proof.Machine.execCanRecover a c obj s
  | .canModeWrite a c v => Sys2Proof.Machine.execCanModeWrite a c v s
  | .canSynced c => Sys2Proof.Machine.execCanSynced c s
  | .canTxAttempt c delay => Sys2Proof.Machine.execCanTxAttempt c delay s
  | .canTxEnd c how => Sys2Proof.Machine.execCanTxEnd c how s
  | .canFrameValid c f own age => Sys2Proof.Machine.execCanFrameValid c f own age s
  | .canBusOff c => Sys2Proof.Machine.execCanBusOff c s
  | .canRecovered c => Sys2Proof.Machine.execCanRecovered c s
  | .canDomTimeout c => Sys2Proof.Machine.execCanDomTimeout c s
  | .xlTxFetch c => Sys2Proof.Machine.execXlTxFetch c s
  | .xlRxFrame c f age => Sys2Proof.Machine.execXlRxFrame c f age s
  | .xlRxWriteback c => Sys2Proof.Machine.execXlRxWriteback c s
  | .canDmaError c tx addr status => Sys2Proof.Machine.execCanDmaError c tx addr status s
  | .npmRest a seg key => Sys2Proof.Machine.execNpmRest a seg key s
  | .npmWake a seg key => Sys2Proof.Machine.execNpmWake a seg key s
  | .clearStorm a seg key => Sys2Proof.Machine.execClearStorm a seg key s
  | .restProposalSent seg => Sys2Proof.Machine.execRestProposalSent seg s
  | .restProposal seg seq => Sys2Proof.Machine.execRestProposal seg seq s
  | .restVote seg seq => Sys2Proof.Machine.execRestVote seg seq s
  | .restCommit seg => Sys2Proof.Machine.execRestCommit seg s
  | .restCommitSent seg => Sys2Proof.Machine.execRestCommitSent seg s
  | .restWaitExpiry seg => Sys2Proof.Machine.execRestWaitExpiry seg s
  | .restGraceExpiry seg => Sys2Proof.Machine.execRestGraceExpiry seg s
  | .restRoundTimeout seg => Sys2Proof.Machine.execRestRoundTimeout seg s
  | .busActivity seg => Sys2Proof.Machine.execBusActivity seg s
  | .wakeTimeoutExpiry seg => Sys2Proof.Machine.execWakeTimeoutExpiry seg s
  | .idleTimeout seg => Sys2Proof.Machine.execIdleTimeout seg s
  | .wakeInPulse k => Sys2Proof.Machine.execWakeInPulse k s
  | .wakeTimerConfig a n v => Sys2Proof.Machine.execWakeTimerConfig a n v s
  | .cpiSubmit a inst v => Sys2Proof.Machine.execCpiSubmit a inst v s
  | .jobDispatch inst core more => Sys2Proof.Machine.execJobDispatch inst core more s
  | .jobEnd unit recomputes => Sys2Proof.Machine.execJobEnd unit recomputes s
  | .quarantineZeroingDone q => Sys2Proof.Machine.execQuarantineZeroingDone q s
  | .coreFenced unit => Sys2Proof.Machine.execCoreFenced unit s
  | .cpiCplRead a inst => Sys2Proof.Machine.execCpiCplRead a inst s
  | .cpeCntSelWrite a v => Sys2Proof.Machine.execCpeCntSelWrite a v s
  | .kstLockTake a agent => Sys2Proof.Machine.execKstLockTake a agent s
  | .kstLockRelease a agent => Sys2Proof.Machine.execKstLockRelease a agent s
  | .lockRevoked => Sys2Proof.Machine.execLockRevoked s
  | .loadUnwrap a slot src agent item => Sys2Proof.Machine.execLoadUnwrap a slot src agent item s
  | .deriveRoot a slot src agent item => Sys2Proof.Machine.execDeriveRoot a slot src agent item s
  | .deriveSlot a slot src agent item => Sys2Proof.Machine.execDeriveSlot a slot src agent item s
  | .erase a slot src agent => Sys2Proof.Machine.execErase a slot src agent s
  | .glitchAlarm detectors => Sys2Proof.Machine.execGlitchAlarm detectors s
  | .glitchClear => Sys2Proof.Machine.execGlitchClear s
  | .meshErase => Sys2Proof.Machine.execMeshErase s
  | .meshClose => Sys2Proof.Machine.execMeshClose s
  | .duplexRecordApply => Sys2Proof.Machine.execDuplexRecordApply s
  | .step9Begin => Sys2Proof.Machine.execStep9Begin s
  | .unit1ListenTimeout => Sys2Proof.Machine.execUnit1ListenTimeout s
  | .heartbeatTx path => Sys2Proof.Machine.execHeartbeatTx path s
  | .heartbeatRx path x => Sys2Proof.Machine.execHeartbeatRx path x s
  | .mirrorRx path x => Sys2Proof.Machine.execMirrorRx path x s
  | .handoverOffer path head sweep => Sys2Proof.Machine.execHandoverOffer path head sweep s
  | .handoverTaken path head sweep cycle => Sys2Proof.Machine.execHandoverTaken path head sweep cycle s
  | .handoverAbort path head => Sys2Proof.Machine.execHandoverAbort path head s
  | .handoverRequest path head => Sys2Proof.Machine.execHandoverRequest path head s
  | .peerWake segs => Sys2Proof.Machine.execPeerWake segs s
  | .collarInChange asserted => Sys2Proof.Machine.execCollarInChange asserted s
  | .pathLost path => Sys2Proof.Machine.execPathLost path s
  | .pathRestored path => Sys2Proof.Machine.execPathRestored path s
  | .supKick a v => Sys2Proof.Machine.execSupKick a v s
  | .supWatchdogExpiry => Sys2Proof.Machine.execSupWatchdogExpiry s
  | .takeover => Sys2Proof.Machine.execTakeover s
  | .handoverEngage => Sys2Proof.Machine.execHandoverEngage s
  | .handoverTimeout => Sys2Proof.Machine.execHandoverTimeout s
  | .handover a v => Sys2Proof.Machine.execHandover a v s
  | .clearDistrust a v => Sys2Proof.Machine.execClearDistrust a v s
  | .coldStart => Sys2Proof.Machine.execColdStart s
  | .collarConflict => Sys2Proof.Machine.execCollarConflict s
  | .hemConflict => Sys2Proof.Machine.execHemConflict s
  | .collarOpen => Sys2Proof.Machine.execCollarOpen s
  | .cycleBoundary => Sys2Proof.Machine.execCycleBoundary s
  | .snapReadyWrite a v => Sys2Proof.Machine.execSnapReadyWrite a v s
  | .snapCopyDone region => Sys2Proof.Machine.execSnapCopyDone region s
  | .snapDone cycle => Sys2Proof.Machine.execSnapDone cycle s
  | .onPulse c => Sys2Proof.Machine.execOnPulse c s
  | .onPulseEnd c => Sys2Proof.Machine.execOnPulseEnd c s
  | .pairRotation => Sys2Proof.Machine.execPairRotation s
  | .revert => Sys2Proof.Machine.execRevert s
  | .helloTx => Sys2Proof.Machine.execHelloTx s
  | .hello x => Sys2Proof.Machine.execHello x s
  | .pbrEnableWrite a v => Sys2Proof.Machine.execPbrEnableWrite a v s
  | .windowRead a addr size => Sys2Proof.Machine.execWindowRead a addr size s
  | .windowWrite a addr data => Sys2Proof.Machine.execWindowWrite a addr data s
  | .windowAtomic a op addr data => Sys2Proof.Machine.execWindowAtomic a op addr data s
  | .windowLr a addr => Sys2Proof.Machine.execWindowLr a addr s
  | .windowSc a addr data => Sys2Proof.Machine.execWindowSc a addr data s
  | .bridgeRead x => Sys2Proof.Machine.execBridgeRead x s
  | .bridgeWrite x => Sys2Proof.Machine.execBridgeWrite x s
  | .bridgeAtomic x => Sys2Proof.Machine.execBridgeAtomic x s
  | .readData x => Sys2Proof.Machine.execReadData x s
  | .writeDone x => Sys2Proof.Machine.execWriteDone x s
  | .atomicData x => Sys2Proof.Machine.execAtomicData x s
  | .doorbell x => Sys2Proof.Machine.execDoorbell x s
  | .commitRx x => Sys2Proof.Machine.execCommitRx x s
  | .bridgeDiscard x => Sys2Proof.Machine.execBridgeDiscard x s
  | .ackOnly x => Sys2Proof.Machine.execAckOnly x s
  | .inboundExecutionDone tag => Sys2Proof.Machine.execInboundExecutionDone tag s
  | .resendTimeout => Sys2Proof.Machine.execResendTimeout s
  | .linkLost => Sys2Proof.Machine.execLinkLost s
  | .bridgeBlocked => Sys2Proof.Machine.execBridgeBlocked s
  | .blockedHelloTx => Sys2Proof.Machine.execBlockedHelloTx s
  | .retryQueueRestore => Sys2Proof.Machine.execRetryQueueRestore s
  | .semaphoreTimeout no => Sys2Proof.Machine.execSemaphoreTimeout no s
  | .prefetchExpiry addr => Sys2Proof.Machine.execPrefetchExpiry addr s
  | .prefetchLoss addr => Sys2Proof.Machine.execPrefetchLoss addr s
  | .doorbellSend a v => Sys2Proof.Machine.execDoorbellSend a v s
  | .chunkSubmit a v => Sys2Proof.Machine.execChunkSubmit a v s
  | .chunkDone same => Sys2Proof.Machine.execChunkDone same s
  | .stgDone readError => Sys2Proof.Machine.execStgDone readError s
  | .hoReady a v => Sys2Proof.Machine.execHoReady a v s
  | .hoTimeout => Sys2Proof.Machine.execHoTimeout s
  | .probationEnd comp => Sys2Proof.Machine.execProbationEnd comp s
  | .probationFail comp => Sys2Proof.Machine.execProbationFail comp s
  | .mbxQuery a win v => Sys2Proof.Machine.execMbxQuery a win v s
  | .mbxSuspend a win v => Sys2Proof.Machine.execMbxSuspend a win v s
  | .mbxResume a win v => Sys2Proof.Machine.execMbxResume a win v s
  | .mbxCancel a win v => Sys2Proof.Machine.execMbxCancel a win v s
  | .mbxRelease a win v => Sys2Proof.Machine.execMbxRelease a win v s
  | .stageBundle a win v => Sys2Proof.Machine.execStageBundle a win v s
  | .activateNext a win v => Sys2Proof.Machine.execActivateNext a win v s
  | .activateRollback a win v => Sys2Proof.Machine.execActivateRollback a win v s
  | .mbxCommit a win v => Sys2Proof.Machine.execMbxCommit a win v s
  | .mbxSelftest a win v => Sys2Proof.Machine.execMbxSelftest a win v s
  | .mbxScrub a win v => Sys2Proof.Machine.execMbxScrub a win v s
  | .wipeStaging a win v => Sys2Proof.Machine.execWipeStaging a win v s
  | .wipeHoldupLog a win v => Sys2Proof.Machine.execWipeHoldupLog a win v s
  | .calibrateChannels a win v => Sys2Proof.Machine.execCalibrateChannels a win v s
  | .exportLog a win v => Sys2Proof.Machine.execExportLog a win v s
  | .handleStart lane => Sys2Proof.Machine.execHandleStart lane s
  | .suspendPoint lane => Sys2Proof.Machine.execSuspendPoint lane s
  | .longOpEnd lane tests => Sys2Proof.Machine.execLongOpEnd lane tests s
  | .rollbackComplete lane status tests => Sys2Proof.Machine.execRollbackComplete lane status tests s
  | .handleExpiry slot => Sys2Proof.Machine.execHandleExpiry slot s
  | .mbxCplRead a win => Sys2Proof.Machine.execMbxCplRead a win s
  | .lichenReport => Sys2Proof.Machine.execLichenReport s
  | .sealDone a v => Sys2Proof.Machine.execSealDone a v s
  | .sealLate => Sys2Proof.Machine.execSealLate s
  | .canRxError c lec dataPhase primary => Sys2Proof.Machine.execCanRxError c lec dataPhase primary s
  | .blockLock port => Sys2Proof.Machine.execBlockLock port s
  | .wfiWake pair => Sys2Proof.Machine.execWfiWake pair s

end Sys2Proof.Machine
end

