-- ==== Sys2Proof/Machine/Tick.lean ====
section
/-!
DEFINITION. What one µs does whatever is commanded: the counters that run (R161, R167, R242, R285, R328, R422, R544, R553,
R578, R667, R694, R697, R789), and the conditions on which NVC waits. The ends of the intervals are commands of their own.
-/
namespace Sys2Proof.Machine

namespace Module

/-- Field `f` counts down, and stays at 0 (log entry 3). -/
def countDown (m : Module) (f : Fam) (i : Nat := 0) : Module := m.wr f (m.rd f i - 1) i

/-- The debug grant loses a minute each 60 s (R161). -/
def grantTick (m : Module) : Module :=
  if m.rd F.SYSCTL_DBG_GRANT_MINUTES_LEFT = 0 then m
  else if m.boot.grantUs ≤ 1 then
    (m.countDown F.SYSCTL_DBG_GRANT_MINUTES_LEFT).when true (fun m => { m with boot := { m.boot with grantUs := 60000000 } })
  else { m with boot := { m.boot with grantUs := m.boot.grantUs - 1 } }

/-- The watchdogs of the command instances (R285, R286): on a unit that drives, and not while quiesced (log entry 3). -/
def chiTick (m : Module) : Module :=
  if ! m.drives || ! m.running 4 then m else
  forEach (List.range 16) (fun i m =>
    if ! m.chiQuiesced i ∧ (m.chi i).leftUs ≠ 0 then
      m.setChi i { m.chi i with leftUs := (m.chi i).leftUs - 1 }
    else m) m

/-- The PWM counters of the groups (R242). -/
def pwmTick (m : Module) : Module :=
  if ! m.running 4 then m else forEach (List.range 4) (fun g m => m.setGrp g { m.grp g with pwmUs := (m.grp g).pwmUs + 1 }) m

/-- The timers of TMU (R578), and the time counter (log entry 3). -/
def timeTick (m : Module) : Module :=
  if ! m.running 9 then m else
  forEach (bitsSet 16 m.tmu.timers) (fun n m => m.countDown F.TMU_TMR_REMAIN_US n) m.tmuTick

/-- A path from which no valid frame has come for 10 ms is heard no more (R689, R725). -/
def heardTick (m : Module) : Module :=
  let stale := (List.range 3).filter (fun k => m.flag F.DPX_PATH_HEARD k && decide (10000 ≤ m.rd F.DPX_PATH_AGE_US k))
  m.when (stale != []) (fun m => (forEach stale (fun k m => m.lower F.DPX_PATH_HEARD k) m).showDpx)

/-- DPX: the ages of the paths, the time since the cycle boundary and since the decision, and the supervisor's watchdog
(R694, R697, R703; log entry 3). -/
def dpxTick (m : Module) : Module :=
  if ! m.flag F.DPX_CFG_EN then m else
  let m := (forEach (List.range 3) (fun k m => m.addS F.DPX_PATH_AGE_US 1 k) m).heardTick
  let m := m.setDpx (fun d =>
    { d with phaseUs := sat 16 (d.phaseUs + 1), sinceUs := if d.engage || d.engaging then sat 12 (d.sinceUs + 1) else d.sinceUs })
  m.when (m.role != 0 && m.role != 7) (·.countDown F.DPX_SUP_STAT_REMAIN_US)

/-- The probation of the activated components, and for how long the unit has been unfit (R789); the ends are PROBATION_END and
PROBATION_FAIL (log entry 3). -/
def nvcTick (m : Module) : Module :=
  let unfit := m.rd F.DPX_FIT_OWN % 64 != 63 && (m.role == 2 || m.role == 5)
  m.setNvc (fun n => { n with
    unfitUs := if unfit then sat 20 (n.unfitUs + 1) else 0
    done := n.done.map (fun d => if 1 < d.leftUs then { d with leftUs := d.leftUs - 1 } else d) })

/-- The stall timers of parked frames (R544), the holding time of the KST lock (R667), the ignore periods of R518 and the
secure watchdog (R422). -/
def holdTick (m : Module) : Module :=
  let m := forEach (List.range 32) (fun q m => m.when (m.hq q).park.isSome (·.addS F.HQ_STAT_STALL_US 1 q)) m
  let m := m.when (m.flag F.KST_LOCK_STAT_HOLDER) (·.addS F.KST_LOCK_STAT_HELD_US 1)
  let m := m.when (m.rd F.LSS_MTIME_US % 1000 == 0) (fun m => forEach (List.range 15) (fun p m => m.countDown F.MAC_PAUSE_IGN_REMAIN_MS p) m)
  m.when m.wct.swdtRun (·.countDown F.WCT_SWDT_REMAIN_US)

/-- One µs passes; while module reset is held, nothing runs (log entry 3). -/
def tick (m : Module) : Module :=
  if m.sys.resetHeld then m else
  let m := ({ m with boot := { m.boot with us := m.boot.us + 1 } } : Module).addW F.LSS_MTIME_US 1
  m.timeTick.grantTick.chiTick.pwmTick.dpxTick.nvcTick.holdTick

end Module

/-- One µs of an idle block: the counters run, and NVC finds what it waits for (R776–R784, R790; log entry 3). -/
def State.tick (s : State) : State :=
  if s.m.sys.resetHeld then s else
  let r := Module.actPoll s.otp s.m.tick.trialPoll.moduleBack
  { s with otp := r.1, m := r.2 }

end Sys2Proof.Machine
end

