-- ==== Sys2Proof/WellFormed.lean ====
section
/-!
DEFINITION. When a command is well formed: each operand lies in the range that the manual gives it. The block may be sent
any command; the meanings are total, and a command that is not well formed is one that no sender can issue.
-/
namespace Sys2Proof

/-- `v` fits in `w` bits. -/
def below (w v : Nat) : Bool := decide (v < 2 ^ w)

/-- A physical address has 40 bits (R20). -/
def address (a : Nat) : Bool := below 40 a

/-- A register is 32 or 64 bits wide (R9); an access has 4 or 8 bytes, and a byte or a half word is refused there. -/
def accessSize (n : Nat) : Bool := n == 1 || n == 2 || n == 4 || n == 8

/-- The offset of an item in a record of the image, where secure firmware applies one (R145). -/
def offset : Option Nat → Bool
  | none => true
  | some o => below 32 o

/-- A signed 16-bit value (R122). -/
def sixteen (x : Int) : Bool := decide (-32768 ≤ x) && decide (x < 32768)

/-- No number stands in the list twice. -/
def distinct : List Nat → Bool
  | [] => true
  | a :: r => ! r.contains a && distinct r

/-- The initiator identifiers that are issued, a partition of four bits, and a VMID of 14 bits (R38, R39, R398). -/
def Access.wf (a : Access) : Bool :=
  (decide (a.ini ≤ 3) || decide (0x10 ≤ a.ini ∧ a.ini ≤ 0x13) || decide (0x20 ≤ a.ini ∧ a.ini ≤ 0x27) || a.ini == 0x3F)
    && below 4 a.part && a.vm.all (below 14)

/-- Where a guarded memory begins and its size in bytes: SRAM, DRAM, the L2, whose lines are named by their place in DRAM,
and pair-local memory, by offset (R20, R31, R324, R364). -/
def memBase (mem : Fin 7) : Nat := if mem.val = 0 then 0x10000000 else if mem.val ≤ 2 then 0x800000000 else 0

/-- The size in bytes of what `memBase` begins. -/
def memSize (mem : Fin 7) : Nat := if mem.val = 0 then 0x1000000 else if mem.val ≤ 2 then 0x100000000 else 0x20000

/-- The `n` bytes from `a` lie in the memory. -/
def memRange (mem : Fin 7) (a n : Nat) : Bool :=
  decide (memBase mem ≤ a) && decide (a + n ≤ memBase mem + memSize mem) && decide (1 ≤ n)

/-- A read of `n` bytes at `a` lies in the memory, or among the pair-local registers (R324, R330). -/
def readRange (mem : Fin 7) (a n : Nat) : Bool :=
  memRange mem a n || (decide (3 ≤ mem.val) && decide (0xFFFF0000 ≤ a) && decide (a + n ≤ 0xFFFF0100) && decide (1 ≤ n))

/-- Line `l` lies in the memory: a line is 256 bytes (R366). -/
def memLine (mem : Fin 7) (l : Nat) : Bool := memRange mem (l * 256) 256

/-- An upset flips bits of 32-bit words (R365). -/
def Upset.wf (mem : Fin 7) : Upset → Bool
  | .word a mask _ => memRange mem a 1 && below 32 mask
  | .seam a mask _ => memRange mem a 1 && below 32 mask
  | .transient a _ => memRange mem a 1

/-- A core's context (R402): at most 31 integer registers, 32 floating-point registers and seven CSRs, 64 bits each. -/
def CoreCtx.wf (c : CoreCtx) : Bool :=
  below 64 c.pc && decide (c.x.length ≤ 31) && decide (c.f.length ≤ 32) && decide (c.csr.length ≤ 7) && below 32 c.fcsr
    && c.x.all (below 64) && c.f.all (below 64) && c.csr.all (below 64)

/-- A sample lies between −512 and 4 095 LSB (R184); a hem or supply conversion, in 10 mV, has 16 bits. -/
def SlotSample.wf : SlotSample → Bool
  | .current _ x _ _ v => decide (-512 ≤ x) && decide (x ≤ 4095) && below 16 v
  | .supply _ vs => below 16 vs

/-- An entry of the commit buffer (R337): the address of a word, and the bytes of one store of a 32-bit core. -/
def HeldStore.wf (x : HeldStore) : Bool :=
  address x.addr && x.addr % 4 == 0 && [1, 2, 4, 8, 3, 12, 15].contains x.mask.toNat

/-- A window's end (R335, R337, R339): checkpoints of 96 words, and no more stores than the commit buffer holds. -/
def WindowEnd.wf (w : WindowEnd) : Bool :=
  w.cpA.length == 96 && w.cpB.length == 96 && w.cpA.all (below 32) && w.cpB.all (below 32)
    && decide (w.stores.length ≤ 64) && decide (w.next.length ≤ 64) && w.stores.all HeldStore.wf && w.next.all HeldStore.wf

/-- A Classical or FD frame: identifier, data length and data (R597). -/
def CanFrame.wf (f : CanFrame) : Bool := below 29 f.id && decide (f.dlc ≤ 15) && decide (f.data.length ≤ 64)

/-- An XL frame: 1 to 2 048 bytes of data, and the widths of its descriptor's fields (R607). -/
def XlFrame.wf (f : XlFrame) : Bool :=
  below 11 f.prio && below 8 f.sdt && below 8 f.vcid && below 32 f.af && decide (1 ≤ f.data.length)
    && decide (f.data.length ≤ 2048)

/-- The error kinds of CAN_ERR (R595). -/
def CanEnd.wf : CanEnd → Bool
  | .error lec _ _ => decide (1 ≤ lec) && decide (lec ≤ 6)
  | _ => true

/-- The common fields of a DPX frame (R697). -/
def DuplexHead.wf (h : DuplexHead) : Bool := below 8 h.version && below 1 h.unit && below 3 h.role && below 32 h.pairId

/-- A heartbeat (R697). -/
def Heartbeat.wf (x : Heartbeat) : Bool := x.head.wf && below 16 x.fit && below 32 x.sweep && below 32 x.cycle && below 16 x.phaseUs

/-- A mirror (R706): 128 commands and samples, at most 36 entries. -/
def Mirror.wf (x : Mirror) : Bool :=
  x.head.wf && below 32 x.sweep && below 32 x.pwmUs && decide (x.cmd.length ≤ 128) && x.cmd.all (below 2)
    && below 128 x.cond && decide (x.samples.length ≤ 128) && x.samples.all sixteen && decide (x.entries.length ≤ 36)
    && x.entries.all (fun e => below 4 e.profile && below 12 e.inom && below 32 e.arg)

/-- A message of the pair bridge: the widths of its header's fields, and LEN bytes of data (R731). -/
def BridgeMsg.wf (x : BridgeMsg) : Bool :=
  below 8 x.version && below 8 x.kind && below 1 x.unit && below 1 x.path && below 8 x.tag && below 16 x.seq
    && below 16 x.ack && below 16 x.session && decide (x.len ≤ 256) && below 4 x.part && below 2 x.commit && below 8 x.op
    && below 4 x.firstBe && below 4 x.lastBe && below 8 x.ini && address x.addr && below 8 x.cid
    && decide (x.data.length ≤ 256) && below 64 x.skipped && below 64 x.held && below 64 x.want

/-- The command's operands lie in their ranges. -/
def Instr.wf : Instr → Bool
  | .registerWrite a addr size v item => a.wf && address addr && accessSize size && below (8 * size) v && offset item
  | .countClearRead a addr served => a.wf && address addr && served.all (below 64)
  | .hstVauxMvRead a => a.wf
  | .guardedRead a _ mem addr count ups => a.wf && readRange mem addr count && ups.all (Upset.wf mem)
  | .guardedWrite a mem addr data ups => a.wf && memRange mem addr data.length && ups.all (Upset.wf mem)
  | .scrubLineVisit mem line ups _ => memLine mem line && ups.all (Upset.wf mem)
  | .l2Eviction line => memLine 2 line
  | .scrubRequest a _ => a.wf
  | .scrubPassDone _ => true
  | .firewallCommit a _ recOffset => a.wf && offset recOffset
  | .enforceSet a _ => a.wf
  | .fabLogBaseWrite a _ => a.wf
  | .powerOnReset _ => true
  | .tcxoFail => true
  | .syspllLossOfLock => true
  | .serpllLossOfLock => true
  | .serpllRelock => true
  | .pllLock _ => true
  | .clkAcDivWrite a _ => a.wf
  | .moduleResetRequest a _ => a.wf
  | .bootRomStart => true
  | .dbgReset => true
  | .blockReset a _ => a.wf
  | .blockResetDone => true
  | .partitionReset a _ => a.wf
  | .partitionResetDone => true
  | .gateClockOff a _ => a.wf
  | .gateClockOn a _ => a.wf
  | .gatePowerOff a _ => a.wf
  | .gatePowerOn a _ => a.wf
  | .gateDrainDone _ => true
  | .gateDrainTimeout _ => true
  | .gatePowerUpDone _ => true
  | .dipEntry => true
  | .dipExit => true
  | .dipExtended => true
  | .holdupEntry => true
  | .holdupFlushDone kept => distinct (kept.map Fin.val)
  | .channelStateRecordDone => true
  | .holdupTimeout => true
  | .vholdExhausted => true
  | .vsUndervoltageEntry _ => true
  | .vsUndervoltageExit _ => true
  | .holdupCapMeasure => true
  | .holdupCapMeasureDone uf => below 16 uf
  | .voltageUpdate vaux vhold vs => below 16 vaux && below 16 vhold && vs.length == 4 && vs.all (below 16)
  | .tempConversion ctl bp ps => sixteen ctl && sixteen bp && ps.length == 4 && ps.all sixteen
  | .memoryWipeDone => true
  | .startupSelftestDone _ _ _ _ _ => true
  | .imageCandidateCheckDone _ => true
  | .bootRetry => true
  | .bootWatchdogExpiry => true
  | .channelInitialStates => true
  | .lcReqProvisioned a _ => a.wf
  | .lcReqField a _ => a.wf
  | .lcReqFieldDebug a _ => a.wf
  | .lcReqReturn a _ => a.wf
  | .lcReqEnd a _ => a.wf
  | .lcReqManufacture a _ => a.wf
  | .lcOtpProgramDone => true
  | .dbgGrantExpiry => true
  | .ownerSlotRevoke a _ => a.wf
  | .sweepSlotSample x => x.wf
  | .sweepBoundary _ => true
  | .vsRefRefill _ => true
  | .fastShort _ => true
  | .thermalShutdown _ => true
  | .thermalLatchClear _ => true
  | .clusterWarnSet _ _ => true
  | .clusterWarnClear _ _ => true
  | .wireModelStep tj => tj.length == 128 && tj.all sixteen
  | .groupEvaluation => true
  | .groupLossEstimate => true
  | .reverseSwitchOff _ => true
  | .reverseSwitchOn _ => true
  | .reverseSwitchTest _ => true
  | .reverseSwitchTestEnd _ mv => below 16 mv
  | .turnOffComplete _ => true
  | .turnOnComplete _ => true
  | .diagCycleStart _ => true
  | .supplyCheckEnd _ => true
  | .openLoadCheckEnd _ _ => true
  | .undercurrentTimer _ => true
  | .inrushWindowEnd _ => true
  | .limitEngage _ => true
  | .limitRelease _ => true
  | .fwMissing _ => true
  | .backoffExpiry _ => true
  | .retryReload _ => true
  | .channelRestart _ => true
  | .pwmOnEdge _ ns => decide (ns < 8000)
  | .pwmOffEdge _ => true
  | .chOn a _ _ _ _ => a.wf
  | .chOff a _ _ _ _ => a.wf
  | .chPwm a _ _ _ _ => a.wf
  | .chSetProfile a _ _ _ _ => a.wf
  | .chClearFault a _ _ _ _ => a.wf
  | .chHold a _ _ _ _ => a.wf
  | .chCalibrate a _ _ _ _ => a.wf
  | .watchdogKick a _ _ => a.wf
  | .instanceExpiry _ => true
  | .chiCplRead a _ => a.wf
  | .ucLoad a _ => a.wf
  | .ucLoadDone => true
  | .ucSwap a _ => a.wf
  | .calibrationPhaseEnd _ _ _ => true
  | .uinFrame xs => distinct (xs.map (fun x => x.n.val))
  | .uinCfgWrite a _ _ => a.wf
  | .uinNtcWrite a _ _ _ => a.wf
  | .shuntOpen _ => true
  | .shuntReclose _ => true
  | .windowCompare w => w.wf
  | .windowTimeout _ => true
  | .amoToView _ _ _ _ _ _ => true
  | .committedWriteError _ addr _ => address addr
  | .migrationComplete _ => true
  | .lssSelftest a _ => a.wf
  | .lssRestore a _ => a.wf
  | .lssMove a _ => a.wf
  | .lssSplit a _ => a.wf
  | .lssLoan a _ => a.wf
  | .lssAdopt a _ => a.wf
  | .lssReturn a _ => a.wf
  | .injectionDone _ _ _ => true
  | .periodicInjection => true
  | .worldEntry _ _ ctx => ctx.wf
  | .worldExit _ ctx => ctx.wf
  | .vmidWrite a _ _ => a.wf
  | .mapLoad a _ => a.wf
  | .worldLockSet a _ => a.wf
  | .holdInc a _ => a.wf
  | .holdDec a _ => a.wf
  | .deferCancel a _ => a.wf
  | .swdtKick a _ => a.wf
  | .swdtExpiry _ svc => svc.wf
  | .secReady a _ => a.wf
  | .restartsClear => true
  | .imgAssign a _ => a.wf
  | .imgUnassign a _ => a.wf
  | .imgReset a _ => a.wf
  | .imgQuiesce a _ => a.wf
  | .imgResume a _ => a.wf
  | .imgSetShare a _ => a.wf
  | .imgSetWeight a _ => a.wf
  | .instResetRequest a _ _ => a.wf
  | .fenceRelease _ => true
  | .fenceForced _ => true
  | .frameParse _ head _ _ => decide (head.length ≤ 64)
  | .frameEnd _ rest _ => decide (rest.length ≤ 9216)
  | .copyTransmitStart _ _ => true
  | .copyTransmitEnd _ _ => true
  | .queueAgeCheck => true
  | .agingScan => true
  | .linkDown _ _ _ => true
  | .tblWrite a _ _ item => a.wf && offset item
  | .tblRead a _ _ => a.wf
  | .tblDelete a _ _ => a.wf
  | .tblInsert a _ => a.wf
  | .tblLookup a _ => a.wf
  | .tblFlush a _ => a.wf
  | .drainRequest a _ => a.wf
  | .swcDrained => true
  | .swcCntSelWrite a _ => a.wf
  | .sporeRecordWrite => true
  | .sporeFail status => below 8 status
  | .streamRecoveryReset _ => true
  | .pauseReceive _ _ => true
  | .pfcReceive _ _ quanta => quanta.length == 8
  | .pauseHoldExpiry _ _ => true
  | .pauseFrameSend _ => true
  | .pauseRefresh _ => true
  | .pauseWdt _ _ => true
  | .pauseIgnoreEnd _ => true
  | .phyLinkUp _ => true
  | .sqiLow _ _ => true
  | .phyFwLoadDone _ => true
  | .macCntSelWrite a _ _ => a.wf
  | .hqTxTailWrite a _ _ => a.wf
  | .hqRxTailWrite a _ _ => a.wf
  | .ringEnableWrite a _ _ _ => a.wf
  | .descriptorFetch _ _ => true
  | .txFrameHandoff _ => true
  | .launchTime _ => true
  | .txTimestampStore _ => true
  | .rxFrameDeliver => true
  | .parkResume _ => true
  | .parkStallTimeout _ => true
  | .dmaError _ _ addr status => address addr && below 8 status
  | .hdmaCntSelWrite a _ => a.wf
  | .tmuSet a _ => a.wf
  | .tmuAdj a _ => a.wf
  | .servoEnWrite a _ => a.wf
  | .offsetSample a _ => a.wf
  | .ppsInEdge => true
  | .ppsMiss => true
  | .tmuHoldover => true
  | .reselect a _ => a.wf
  | .srvReset a _ => a.wf
  | .ppsOutRise => true
  | .ppsOutFall => true
  | .evtInEdge _ _ => true
  | .eviNsRead a _ => a.wf
  | .evoArm a _ _ => a.wf
  | .evoEdge _ => true
  | .tmrLoad a _ _ => a.wf
  | .tmrExpiry _ => true
  | .canOpen a _ _ => a.wf
  | .canClose a _ _ => a.wf
  | .txReq a _ _ => a.wf
  | .canCancel a _ _ => a.wf
  | .xtxCancel a _ _ => a.wf
  | .canRecover a _ _ => a.wf
  | .canModeWrite a _ _ => a.wf
  | .canSynced _ => true
  | .canTxAttempt _ _ => true
  | .canTxEnd _ how => how.wf
  | .canFrameValid _ f _ _ => f.wf
  | .canBusOff _ => true
  | .canRecovered _ => true
  | .canDomTimeout _ => true
  | .xlTxFetch _ => true
  | .xlRxFrame _ f _ => f.wf
  | .xlRxWriteback _ => true
  | .canDmaError _ _ addr status => address addr && below 8 status
  | .npmRest a _ _ => a.wf
  | .npmWake a _ _ => a.wf
  | .clearStorm a _ _ => a.wf
  | .restProposalSent _ => true
  | .restProposal _ _ => true
  | .restVote _ _ => true
  | .restCommit _ => true
  | .restCommitSent _ => true
  | .restWaitExpiry _ => true
  | .restGraceExpiry _ => true
  | .restRoundTimeout _ => true
  | .busActivity _ => true
  | .wakeTimeoutExpiry _ => true
  | .idleTimeout _ => true
  | .wakeInPulse _ => true
  | .wakeTimerConfig a _ _ => a.wf
  | .cpiSubmit a _ _ => a.wf
  | .jobDispatch _ core more => distinct (core.val :: more.map Fin.val)
  | .jobEnd _ _ => true
  | .quarantineZeroingDone _ => true
  | .coreFenced _ => true
  | .cpiCplRead a _ => a.wf
  | .cpeCntSelWrite a _ => a.wf
  | .kstLockTake a _ => a.wf
  | .kstLockRelease a _ => a.wf
  | .lockRevoked => true
  | .loadUnwrap a _ _ _ item => a.wf && offset item
  | .deriveRoot a _ _ _ item => a.wf && offset item
  | .deriveSlot a _ _ _ item => a.wf && offset item
  | .erase a _ _ _ => a.wf
  | .glitchAlarm _ => true
  | .glitchClear => true
  | .meshErase => true
  | .meshClose => true
  | .duplexRecordApply => true
  | .step9Begin => true
  | .unit1ListenTimeout => true
  | .heartbeatTx _ => true
  | .heartbeatRx _ x => x.wf
  | .mirrorRx _ x => x.wf
  | .handoverOffer _ head sweep => head.wf && below 32 sweep
  | .handoverTaken _ head sweep cycle => head.wf && below 32 sweep && below 32 cycle
  | .handoverAbort _ head => head.wf
  | .handoverRequest _ head => head.wf
  | .peerWake _ => true
  | .collarInChange _ => true
  | .pathLost _ => true
  | .pathRestored _ => true
  | .supKick a _ => a.wf
  | .supWatchdogExpiry => true
  | .takeover => true
  | .handoverEngage => true
  | .handoverTimeout => true
  | .handover a _ => a.wf
  | .clearDistrust a _ => a.wf
  | .coldStart => true
  | .collarConflict => true
  | .hemConflict => true
  | .collarOpen => true
  | .cycleBoundary => true
  | .snapReadyWrite a _ => a.wf
  | .snapCopyDone _ => true
  | .snapDone cycle => below 32 cycle
  | .onPulse _ => true
  | .onPulseEnd _ => true
  | .pairRotation => true
  | .revert => true
  | .helloTx => true
  | .hello x => x.wf && x.kind == 0x10
  | .pbrEnableWrite a _ => a.wf
  | .windowRead a addr size => a.wf && address addr && decide (1 ≤ size) && decide (size ≤ 256)
  | .windowWrite a addr data => a.wf && address addr && decide (1 ≤ data.length) && decide (data.length ≤ 256)
  | .windowAtomic a _ addr _ => a.wf && address addr
  | .windowLr a addr => a.wf && address addr
  | .windowSc a addr _ => a.wf && address addr
  | .bridgeRead x => x.wf && x.kind == 0x11
  | .bridgeWrite x => x.wf && x.kind == 0x13
  | .bridgeAtomic x => x.wf && x.kind == 0x15
  | .readData x => x.wf && x.kind == 0x12
  | .writeDone x => x.wf && x.kind == 0x14
  | .atomicData x => x.wf && x.kind == 0x16
  | .doorbell x => x.wf && x.kind == 0x17
  | .commitRx x => x.wf && x.kind == 0x18
  | .bridgeDiscard x => x.wf && x.kind == 0x19
  | .ackOnly x => x.wf && x.kind == 0x1A
  | .inboundExecutionDone _ => true
  | .resendTimeout => true
  | .linkLost => true
  | .bridgeBlocked => true
  | .blockedHelloTx => true
  | .retryQueueRestore => true
  | .semaphoreTimeout _ => true
  | .prefetchExpiry addr => address addr && addr % 64 == 0
  | .prefetchLoss addr => address addr && addr % 4 == 0
  | .doorbellSend a _ => a.wf
  | .chunkSubmit a _ => a.wf
  | .chunkDone _ => true
  | .stgDone _ => true
  | .hoReady a _ => a.wf
  | .hoTimeout => true
  | .probationEnd _ => true
  | .probationFail _ => true
  | .mbxQuery a _ _ => a.wf
  | .mbxSuspend a _ _ => a.wf
  | .mbxResume a _ _ => a.wf
  | .mbxCancel a _ _ => a.wf
  | .mbxRelease a _ _ => a.wf
  | .stageBundle a _ _ => a.wf
  | .activateNext a _ _ => a.wf
  | .activateRollback a _ _ => a.wf
  | .mbxCommit a _ _ => a.wf
  | .mbxSelftest a _ _ => a.wf
  | .mbxScrub a _ _ => a.wf
  | .wipeStaging a _ _ => a.wf
  | .wipeHoldupLog a _ _ => a.wf
  | .calibrateChannels a _ _ => a.wf
  | .exportLog a _ _ => a.wf
  | .handleStart _ => true
  | .suspendPoint _ => true
  | .longOpEnd _ _ => true
  | .rollbackComplete _ _ _ => true
  | .handleExpiry _ => true
  | .mbxCplRead a _ => a.wf
  | .lichenReport => true
  | .sealDone a _ => a.wf
  | .sealLate => true
  | .canRxError _ lec _ _ => decide (1 ≤ lec) && decide (lec ≤ 6)
  | .blockLock _ => true
  | .wfiWake _ => true

end Sys2Proof
end

