-- ==== Sys2Proof/Safety.lean ====
section
/-!
DEFINITION. The terms that claims about the block use: what it means that an access is admitted, that a command leaves the
rest of the module alone, that fuses only blow, and that a run never stops.
-/
namespace Sys2Proof.Machine

/-- The attributes of `a` are those with which its initiator issues an access of type `kind` now (R38, R39, R398). -/
abbrev State.genuine (s : State) (a : Access) (kind : Nat) : Prop := s.m.issued a kind = some a

/-- A write of the 32-bit register at `addr` is issued as it stands, and passes every check of the fabric and of the block (R32,
R38, R53–R55, R63, R165, R325, R382, R387, R410, R434). -/
abbrev State.admitsWrite (s : State) (a : Access) (addr : Nat) : Prop :=
  s.genuine a 1 ∧ s.m.accessDeny a addr 4 1 = none

/-- The same for a read. -/
abbrev State.admitsRead (s : State) (a : Access) (addr : Nat) : Prop :=
  s.genuine a 0 ∧ s.m.accessDeny a addr 4 0 = none

/-- An access of `n` bytes of a memory is issued as it stands, and passes every check of the fabric (R38, R325, R382, R387,
R410). -/
abbrev State.admitsMem (s : State) (a : Access) (addr n kind : Nat) : Prop :=
  s.genuine a kind ∧ s.m.pairBars a addr n kind = none ∧ s.m.fabricDeny a addr n kind = none

/-- The read commits as it completes: it is neither speculative nor a lock-step pair's (R378, R380). -/
abbrev commitsAtOnce (a : Access) : Prop := a.spec = false ∧ Module.pairOf a = none

/-- The next state when the module becomes `m`: the OTP and the waiting commands stay. -/
abbrev State.to (s : State) (m : Module) : Host.Outcome State Fault Refusal := .next { s with m := m }

/-- Every register field reads as before, but those at the keys of `K`. -/
def Module.regsBut (K : List Nat) (m n : Module) : Prop := ∀ f i j k, f.key i j k ∉ K → n.rd f i j k = m.rd f i j k

/-- Nothing but the register fields at the keys of `K`, and the response, differs. -/
def Module.onlyRegs (K : List Nat) (m n : Module) : Prop :=
  n = { m with regs := n.regs, resp := n.resp } ∧ Module.regsBut K m n

/-- The code of the check of candidate bank `b` (R148): 1 where it could not be read. -/
def Module.candCode (m : Module) (o : Otp) (readError : Bool) (b : Nat) : Nat :=
  if readError then 1 else imageCheck o (m.rd F.SYSCTL_LC_STATE_STATE) (m.rd F.SYSCTL_SECVER_COUNTER) (m.bankSource b)

/-- The field of SYSCTL_GATE_STAT that world `sec` sees (R417). -/
def gateField (sec : Bool) (fs fn : Fam) : Fam := if sec then fs else fn

/-- The fields of SYSCTL_GATE_STAT that world `sec` sees. -/
def gateKeys (sec : Bool) : List Nat :=
  [(gateField sec F.SYSCTL_GATE_STAT_S_STATUS F.SYSCTL_GATE_STAT_N_STATUS).key 0 0 0,
    (gateField sec F.SYSCTL_GATE_STAT_S_BLOCK F.SYSCTL_GATE_STAT_N_BLOCK).key 0 0 0,
    (gateField sec F.SYSCTL_GATE_STAT_S_PEND F.SYSCTL_GATE_STAT_N_PEND).key 0 0 0]

/-- Nothing refuses, discards or defers the request of operation `op` for block `b` (R57, R60, R418, R420). -/
abbrev Module.mayGate (m : Module) (a : Access) (b op : Nat) : Prop :=
  m.rd (gateField a.world F.SYSCTL_GATE_STAT_S_PEND F.SYSCTL_GATE_STAT_N_PEND) = 0 ∧ m.gateRefusal b op = none
    ∧ (a.world = true ∨ (m.gateOf b ≠ 1 ∧ (op % 2 = 1 ∨ m.gateOf b ≠ 2 ∨ m.rd F.WCT_HOLD_COUNT b = 0)))

/-- The request `j` of world `sec` is pending: its block drains or powers up (R61, R62, R66). -/
def Module.gateWaits (m : Module) (sec : Bool) (j : GateJob) : Module :=
  { m.wr (gateField sec F.SYSCTL_GATE_STAT_S_PEND F.SYSCTL_GATE_STAT_N_PEND) 1 with
    sys := if sec then { m.sys with gateS := some j } else { m.sys with gateN := some j } }

/-- Power and clock of block `b` are on (R62). -/
def Module.powered (m : Module) (b : Nat) : Module := (m.setMap F.SYSCTL_PWR_STATE_ON b).setMap F.SYSCTL_CLK_STATE_RUN b

/-- The reset of block `b` is in progress, with its clock running (R53, R54). -/
def Module.blockHeld (m : Module) (b : Nat) : Module :=
  { m with sys := { m.sys with blkRst := some b, regate := ! bit (m.rd F.SYSCTL_CLK_STATE_RUN) b } }.setMap F.SYSCTL_CLK_STATE_RUN b

/-- The window that `w` ends has entered the commit buffer: an early end is counted, and a store that no view admits raises its
fault (R324, R332, R337). -/
def Module.windowEntered (m : Module) (w : WindowEnd) : Module :=
  let m := m.when w.early.isSome (·.addW F.LSS_PAIR_EARLY_COUNT 1 w.pair.val)
  ((m.admitStores w.pair.val w.stores).1.admitStores w.pair.val w.next).1

/-- One more replay of pair `n` in the present second stays below REPLAY_LIMIT (R343). -/
abbrev Module.replayAllowed (m : Module) (n : Nat) : Prop :=
  m.rd F.LSS_CFG_REPLAY_LIMIT = 0
    ∨ (if (m.pair n).secNo = m.rd F.LSS_MTIME_US / 1000000 then (m.pair n).secCount + 1 else 1) < m.rd F.LSS_CFG_REPLAY_LIMIT

/-- The test of pair `n` waits for the start of partitions, or for the end of a partition's reset (R349, R351). -/
def Module.testHeld (m : Module) (n : Nat) : Bool :=
  match (m.pair n).after with
  | .startUp => true
  | .start p => m.sys.partRst == some p
  | _ => false

/-- Pair `n` has passed its test: the result stands, and what the test was for follows (R351, R355, R357). -/
def Module.testPassed (m : Module) (n : Nat) : Module :=
  let t := (m.injectionResult n 0 false).afterPass n
  t.when (m.pair n).answers (fun t => (t.lssDone 0).setPair n { t.pair n with answers := false })

/-- The way in which INSERT of the staging words places its entry: where its address stands already, else a free way of its
bucket, else, for a static entry, that of its oldest dynamic one (R493). -/
def Module.insertPlace (m : Module) : Option Nat :=
  let b := fwdBucket (entryMac m.staging) (entryVid m.staging)
  match m.fwdFind (entryMac m.staging) (entryVid m.staging) with
  | some i => some i
  | none =>
    match ((List.range 4).map (4 * b + ·)).find? (fun i => ! fwdValid (m.fwdEntry i)) with
    | some i => some i
    | none => if bit (wordAt m.staging 2) 4 then m.insertVictim b else none

/-- FLUSH of the staging words removes entry `e`: a dynamic one, of their port and VID where they name them (R493). -/
def Module.flushes (m : Module) (e : Nat × List Nat) : Bool :=
  let w2 := wordAt m.staging 2
  fwdValid e.2 && ! fwdStatic e.2 && (! bit w2 12 || fwdPort e.2 == w2 % 16) && (! bit w2 13 || entryVid e.2 == entryVid m.staging)

/-- The entry for `kind` of the PHY_FW record (R528). -/
def Module.phyEntry (m : Module) (kind : Nat) : List Nat := (m.phyEntries.1.find? (fun w => w.getD 0 0 % 256 == kind)).getD []

/-- That entry has no range or CRC fault (R528). -/
def Module.phyGood (m : Module) (kind : Nat) : Bool :=
  let w := m.phyEntry kind
  let l := m.phyEntries.2
  decide (1024 ≤ w.getD 3 0) && decide (w.getD 3 0 ≤ 65536) && w.getD 3 0 % 16 == 0 && w.getD 4 0 % 16 == 0
    && decide (w.getD 4 0 + w.getD 3 0 ≤ l.length) && crc32 ((l.drop (w.getD 4 0)).take (w.getD 3 0)) == w.getD 5 0

/-- Copy `c` of frame `f` as HDMA begins to deliver it (R539). -/
def Module.rxFrame (m : Module) (f : SwFrame) (c : Copy) : RxFrame :=
  let untag := m.vlanUntag f.vid
  { id := f.id, data := f.out c untag, ts := f.ts
    w1 := f.inPort + c.cls * 2 ^ 4 + b2n (! bit untag 15) * 2 ^ 7 + f.vid * 2 ^ 8 + f.pcp * 2 ^ 20 + b2n f.rule.isSome * 2 ^ 23
    w2 := f.rule.getD 0 + b2n f.stream.isSome * 2 ^ 16 + f.stream.getD 0 * 2 ^ 24 }

/-- The keys of the event words of channel `n` and of its owner's EVT interrupt (R289, R292). -/
def Module.eventKeys (m : Module) (n : Nat) : List Nat :=
  [F.CHC_CH_EVT_EVT.key n 0 0, F.CHI_CH_EVT_EVT.key (m.chan n).owner n 0, F.CHI_IRQ_STAT_EVT.key (m.chan n).owner 0 0]

/-- Nothing but channel `n`, and the registers in which it latches its events, differs. -/
def Module.onlyChannel (n : Nat) (m t : Module) : Prop :=
  t = { m with regs := t.regs, chc := { m.chc with chans := t.chc.chans } } ∧ (∀ k, k ≠ n → t.chan k = m.chan k)
    ∧ Module.regsBut (m.eventKeys n) m t

/-- Command `c` joins the queue of CHIi (R274, R275, R277, R285): it stands last, the next sequence number follows, outside
HOLD the instance is ACTIVE with its full watchdog, and nothing but registers and this instance changes. -/
abbrev Module.queues (m : Module) (i : Nat) (c : ChiCmd) (t : Module) : Prop :=
  t = { m.ok with regs := t.regs, chc := { m.chc with insts := t.chc.insts } }
    ∧ (t.chi i).queue = (m.chi i).queue ++ [c] ∧ (t.chi i).fifo = (m.chi i).fifo ∧ (t.chi i).cal = (m.chi i).cal
    ∧ (∀ k ∈ List.range 16, k ≠ i → t.chi k = m.chi k)
    ∧ t.rd F.CHI_SEQ_NEXT_SEQ i = (m.rd F.CHI_SEQ_NEXT_SEQ i + 1) % 2 ^ 16
    ∧ (m.rd F.CHI_STATE_STATE i ≠ 1 → t.rd F.CHI_STATE_STATE i = 0 ∧ (t.chi i).leftUs = m.wdtUs i)
    ∧ (m.rd F.CHI_STATE_STATE i = 1 → t.rd F.CHI_STATE_STATE i = 1 ∧ (t.chi i).leftUs = (m.chi i).leftUs)

/-- The registers of IMG that every request writes (R458). -/
def imgKeys : List Nat :=
  [F.IMG_CTRL_STAT_PAGE.key 0 0 0, F.IMG_CTRL_STAT_PEND.key 0 0 0, F.IMG_CTRL_STAT_STATUS.key 0 0 0, F.IMG_EVT_DONE.key 0 0 0]

/-- A request for page `p` has completed with `st` (R458). -/
abbrev Module.imgCompletes (t : Module) (st p : Nat) : Prop :=
  t.rd F.IMG_CTRL_STAT_PEND = 0 ∧ t.rd F.IMG_CTRL_STAT_STATUS = st ∧ t.rd F.IMG_EVT_DONE = 1 ∧ t.rd F.IMG_CTRL_STAT_PAGE = p
    ∧ t.resp = {}

/-- The registers in which controller `c` shows its last command (R601). -/
def canKeys (c : Nat) : List Nat :=
  [F.CAN_CMD_STAT_STATUS.key c 0 0, F.CAN_CMD_STAT_OBJ.key c 0 0, F.CAN_CMD_STAT_OP.key c 0 0]

/-- Controller `c` has completed command `op` for object `o` with OK (R601). -/
abbrev Module.canDone (t : Module) (c op o : Nat) : Prop :=
  t.rd F.CAN_CMD_STAT_STATUS c = 0 ∧ t.rd F.CAN_CMD_STAT_OBJ c = o ∧ t.rd F.CAN_CMD_STAT_OP c = op ∧ t.resp = {}

/-- The first job of CPIi, as it waits (R651). -/
def Module.firstJob (m : Module) (i : Nat) : CpeJob :=
  ((m.cpi i).queue.head?).getD { inst := i, tag := 0, addr := 0, world := false, part := 0 }

/-- That job with the descriptor `l` (R652). -/
def Module.fetched (m : Module) (i : Nat) (l : List Byte) : CpeJob :=
  { m.firstJob i with w := words l, cls := CpeJob.outClass { m.firstJob i with w := words l } }

/-- The job that a write of `v` to CPI_SUBMIT of CPIi admits (R651). -/
def Module.submitted (m : Module) (i v : Nat) : CpeJob :=
  { inst := i, tag := v / 2 ^ 16, addr := m.rd F.CPI_SUB_ADDR_ADDR i * 64 + v % 2 ^ 8 * 2 ^ 32, world := m.pageWorld i,
    part := m.rd F.IMG_INST_CFG_PART i }

/-- That job with a copy of its slot's key, as it begins (R668). -/
def Module.fetchedKey (m : Module) (i : Nat) (l : List Byte) : CpeJob :=
  { m.fetched i l with key := if (m.fetched i l).keyed then m.slotKey (m.fetched i l).slot else [] }

/-- The module after the read of that job's descriptor (R654). -/
def Module.afterFetch (m : Module) (i : Nat) : Module :=
  (m.busRead (Module.jobAccess (m.firstJob i)) (m.firstJob i).addr 64 (some i)).1

/-- The unit that takes the job where the scheduler names core `c` (R647). -/
def CpeJob.onUnit (j : CpeJob) (c : Nat) : Nat := if j.kind = 0 then c else j.kind

/-- Agent `g` holds the lock of KST, and no alarm bars its operations (R667, R669). -/
abbrev Module.kstReady (m : Module) (g : Nat) : Prop :=
  g ≠ 0 ∧ m.rd F.KST_LOCK_STAT_HOLDER = g ∧ m.flag F.KST_STAT_GLITCH = false ∧ m.flag F.KST_STAT_MESH_OPEN = false

/-- Slot `x` holds a 256-bit key that bit `use` of its USAGE lets serve (R669). -/
abbrev Module.keyUse (m : Module) (x use : Nat) : Prop :=
  m.flag F.KST_SLOT_ATTR_VALID x = true ∧ m.flag F.KST_SLOT_ATTR_KSIZE x = true ∧ bit (m.rd F.KST_SLOT_ATTR_USAGE x) use = true

/-- From `m` to `t` slot `x` has taken key `k` with the attributes of KST_ATTR and KST_OWNER and its next generation (R664, R666,
R669). -/
abbrev Module.tookKey (t m : Module) (x : Nat) (k : List Byte) (source : Nat) : Prop :=
  t.slotKey x = k ∧ t.rd F.KST_SLOT_ATTR_VALID x = 1 ∧ t.rd F.KST_SLOT_ATTR_KSIZE x = m.rd F.KST_ATTR_KSIZE
    ∧ t.rd F.KST_SLOT_ATTR_USAGE x = m.rd F.KST_ATTR_USAGE ∧ t.rd F.KST_SLOT_ATTR_MODES x = m.rd F.KST_ATTR_MODES
    ∧ t.rd F.KST_SLOT_ATTR_WORLD x = m.rd F.KST_ATTR_WORLD ∧ t.rd F.KST_SLOT_ATTR_SOURCE x = source
    ∧ t.rd F.KST_SLOT_OWN_LO_MASK x = m.rd F.KST_OWNER_LO_MASK ∧ t.rd F.KST_SLOT_OWN_HI_MASK x = m.rd F.KST_OWNER_HI_MASK
    ∧ t.rd F.KST_SLOT_GEN_GEN x = Module.nextGen (m.rd F.KST_SLOT_GEN_GEN x)
    ∧ t.rd F.KST_OP_STAT_STATUS = 0 ∧ t.rd F.KST_OP_STAT_GEN = t.rd F.KST_SLOT_GEN_GEN x

/-- Slot `x` is as it was in `m`. -/
abbrev Module.sameSlot (t m : Module) (x : Nat) : Prop :=
  t.slotKey x = m.slotKey x ∧ t.rd F.KST_SLOT_GEN_GEN x = m.rd F.KST_SLOT_GEN_GEN x
    ∧ t.rd F.KST_SLOT_ATTR_VALID x = m.rd F.KST_SLOT_ATTR_VALID x ∧ t.rd F.KST_SLOT_ATTR_KSIZE x = m.rd F.KST_SLOT_ATTR_KSIZE x
    ∧ t.rd F.KST_SLOT_ATTR_USAGE x = m.rd F.KST_SLOT_ATTR_USAGE x ∧ t.rd F.KST_SLOT_ATTR_MODES x = m.rd F.KST_SLOT_ATTR_MODES x
    ∧ t.rd F.KST_SLOT_ATTR_WORLD x = m.rd F.KST_SLOT_ATTR_WORLD x ∧ t.rd F.KST_SLOT_ATTR_SOURCE x = m.rd F.KST_SLOT_ATTR_SOURCE x
    ∧ t.rd F.KST_SLOT_OWN_LO_MASK x = m.rd F.KST_SLOT_OWN_LO_MASK x ∧ t.rd F.KST_SLOT_OWN_HI_MASK x = m.rd F.KST_SLOT_OWN_HI_MASK x

/-- The bridge message of an emission. -/
def Emission.msg : Emission → Option BridgeMsg
  | .bridge x => some x
  | _ => none

/-- One message has left since `n` emissions had, and `p` holds of it. -/
abbrev Module.sends (t : Module) (n : Nat) (p : BridgeMsg → Prop) : Prop :=
  t.out.length = n + 1 ∧ (∃ y, t.out.head?.bind Emission.msg = some y ∧ p y)

/-- The link is UP and the channel free: what joins it leaves at once (R491, R734, R735, R744). -/
abbrev Module.bridgeFree (m : Module) : Prop :=
  m.bridgeUp = true ∧ m.pathOpen m.bridgePath = true ∧ m.pbr.queue = [] ∧ m.pbr.unacked.length < 64 ∧ m.outstanding < 32
    ∧ m.flag F.PBR_STAT_RETRACTED = false

/-- Message `x` comes over a path whose link is up, is of the established session, and is next in sequence where its kind stands in
the sequence (R732, R734, R823). -/
abbrev Module.accepts (m : Module) (x : BridgeMsg) : Prop :=
  x.version = 1 ∧ m.pathOpen x.path = true ∧ m.bridgeUp = true ∧ x.session = m.rd F.PBR_SESSION_PEER
    ∧ (sequenced x.kind = true → x.seq = (m.pbr.lastSeq + 1) % 2 ^ 16)

/-- From `m` to `t` a request of kind `kind` has joined those that wait, under the free tag, and has been sent (R735). -/
abbrev Module.asks (t m : Module) (kind : Nat) (a : Access) (addr n : Nat) : Prop :=
  t.pbr.reqs.length = m.pbr.reqs.length + 1 ∧ t.pbr.reqs.take m.pbr.reqs.length = m.pbr.reqs
    ∧ ∃ q, t.pbr.reqs.getLast? = some q ∧ q.tag = m.freeTag ∧ q.kind = kind ∧ q.acc = a ∧ q.addr = addr ∧ q.size = n
      ∧ q.waits = true ∧ q.sent = true

/-- The argument words of window `r` of the mailbox (R798). -/
def Module.mbxArgs (m : Module) (r : Nat) : List Nat := (List.range 8).map (fun k => m.rd F.MBX_ARG_ARG r k)

/-- The slot that ARG0 of window `r` names (R800). -/
def Module.target (m : Module) (r : Nat) : Nat := m.rd F.MBX_ARG_ARG r 0 % 2 ^ 8

/-- The write of `v` to MBX_GO of window `r` is its requester's, submits operation `op`, and passes every check of R799. -/
abbrev State.maySubmit (s : State) (a : Access) (r : Nat) (v : Word) (op : Nat) : Prop :=
  s.admitsWrite a (Module.winAddr r 0x20) ∧ Module.requester a = r ∧ v.toNat % 2 ^ 8 = op
    ∧ s.m.submitRefusal r op (s.m.mbxArgs r) = none

/-- Every slot but `n` is as it was in `m`. -/
abbrev Module.otherSlots (t m : Module) (n : Nat) : Prop := ∀ k ∈ List.range 256, k ≠ n → t.slot k = m.slot k

/-- From `m` to `t` entry `e` has been posted to window `r` (R801). -/
abbrev Module.posts (m t : Module) (r : Nat) (e : MbxCpl) : Prop := tget [] t.mbx.fifos r = tget [] m.mbx.fifos r ++ [e]

/-- The entry posted last to window `r`. -/
def Module.lastPost (m : Module) (r : Nat) : Option MbxCpl := (tget [] m.mbx.fifos r).getLast?

/-- The final entry of the handle of slot `n` (R807). -/
def Module.finalEntry (m : Module) (n st status : Nat) : MbxCpl :=
  ⟨(m.slot n).session, status, (m.slot n).op, m.handleOf n, st, (m.slot n).r0, (m.slot n).r1⟩

/-- The handle of a long operation that a write of `v` to MBX_GO of window `r` submits, in a slot of generation `gen`
(R801–R803). -/
def Module.newSlot (m : Module) (r v gen : Nat) : Slot :=
  { gen := if gen = 255 then 1 else gen + 1, state := 0, owner := r, op := v % 2 ^ 8, session := v / 2 ^ 16, args := m.mbxArgs r
    order := m.mbx.next }

/-- A write of `v` to MBX_GO of window `r` has taken one free slot for its handle, and has posted it as QUEUED (R801, R802). -/
abbrev Module.queued (t m : Module) (r : Nat) (v : Word) : Prop :=
  ∃ n ∈ List.range 256, (m.slot n).state = 7 ∧ t.slot n = m.newSlot r v.toNat (m.slot n).gen ∧ t.otherSlots m n
    ∧ m.posts t r ⟨v.toNat / 2 ^ 16, 0, v.toNat % 2 ^ 8, t.handleOf n, 0, 0, 0⟩ ∧ t.resp = {} ∧ t.mem = m.mem ∧ t.nvc = m.nvc

/-- The code of the check of the staged image (R770). -/
def Module.imageCode (m : Module) (o : Otp) : Nat :=
  imageCheck o (m.rd F.SYSCTL_LC_STATE_STATE) (m.rd F.SYSCTL_SECVER_COUNTER) m.payload

/-- SEQ and SECVER of the staged image are those of its manifest (R770). -/
abbrev Module.stagedMatches (m : Module) : Prop :=
  Source.seq m.payload = Source.manSeq m.staged ∧ Source.secver m.payload = Source.manSecver m.staged

/-- Where the next report is written (R810). -/
def Module.reportAddr (m : Module) : Nat :=
  m.rd F.HST_LR_BASE_ADDR * 4096 + 256 * (m.rd F.HST_LR_WR_IDX % 2 ^ m.rd F.HST_LR_SIZE_LOG2)

/-- No word of memory fails parity, no line is poisoned, and no seam word differs from its line (R365, R366). -/
abbrev MemSt.clean (s : MemSt) : Prop := s.perr = [] ∧ s.sperr = [] ∧ s.seam = [] ∧ s.poison = []

/-- Every bit of `x` is a bit of `y`. -/
def within (x y : Nat) : Prop := ∀ n, x.testBit n = true → y.testBit n = true

/-- A patch slot after some fuses have blown: none comes back, and what was programmed stays (R786). -/
def BromSlot.grows (x y : BromSlot) : Prop :=
  (x.used = true → y.used = true ∧ y.block = x.block) ∧ (x.valid = true → y.valid = true)
    ∧ (x.revoked = true → y.revoked = true)

/-- Fuses only blow (R153, R158, R159, R786): from `x` to `y` every state fuse, revoke fuse and increment stays, and the
owners' digests and the programmed patches are as they were. -/
def Otp.grows (x y : Otp) : Prop :=
  within x.lc0 y.lc0 ∧ within x.lc1 y.lc1 ∧ within x.lc2 y.lc2 ∧ within x.revoked y.revoked ∧ x.counter ≤ y.counter
    ∧ y.ecdsa = x.ecdsa ∧ y.hss = x.hss ∧ ∀ i, BromSlot.grows (tget {} x.brom i) (tget {} y.brom i)

/-- The block never stops: from `s`, every number of steps answers a next state. -/
def State.runsOn (s : State) : Prop := ∀ n, ∃ t, Host.Core.run Sys2Proof.core n s = .next t

end Sys2Proof.Machine
end

