-- ==== Sys2Proof/Certificates/Slice0/Obligations.lean ====
section
/-!
DEFINITION. The statements about the block, for the provers.
-/
open Sys2Proof Sys2Proof.Machine

/-- The block takes its commands first in, first out; on an empty queue one µs passes (DESIGN CHOICE, log entry 3). -/
def Obligations.StepRunsTheFrontCommand : Prop :=
  (∀ (c : Instr) (rest : List Instr) (s : State),
      step { s with pending := c :: rest } = exec c { s with pending := rest })
      ∧ (∀ s : State, s.pending = [] → step s = .next s.tick ∧ s.tick.pending = [])

/-- No command stops the block: an access that a check refuses is answered by an error response (R17, R388, R820), an event whose condition fails changes nothing. -/
def Obligations.EveryCommandAnswersAndKeepsTheQueue : Prop :=
  ∀ (c : Instr) (s : State), ∃ t, exec c s = .next t ∧ t.pending = s.pending

/-- The block never stops (R17: every refusal is a status; R388, R820: error responses). -/
def Obligations.BlockNeverStops : Prop :=
  ∀ s : State, s.runsOn

/-- R153, R158, R159, R786: what stands in OTP stays; an invariant of every step in every state. -/
def Obligations.FusesOnlyBlow : Prop :=
  ∀ (o : Otp) (s t : State), Otp.grows o s.otp → step s = .next t → Otp.grows o t.otp

/-- R14, R15, R131: the state right after reset. A blank OTP and the values of fields without a Reset value are the model's choices (log entries 2 and 5). -/
def Obligations.ResetState : Prop :=
  State.reset.pending = [] ∧ Otp.grows {} State.reset.otp ∧ State.reset.m.mem.wf = true ∧ State.reset.m.mem.clean
      ∧ (∀ a, State.reset.m.mem.byte a = 0) ∧ (∀ f ∈ F.all, ∀ i j k, State.reset.m.rd f i j k = f.reset)

/-- R52. -/
def Obligations.SoftResetRequest : Prop :=
  (∀ (s : State) (a : Access) (v : Word),
    s.admitsWrite a 0x20000060 →
    a.world = true ∧ v.toNat.testBit 0 = true ∧ v.toNat / 2 ^ 16 = 0xA5C3 →
    exec (.moduleResetRequest a v) s = s.to (s.m.ok.moduleReset F.SYSCTL_RST_CAUSE_SOFT))
  ∧ (∀ (s : State) (a : Access) (v : Word),
    s.admitsWrite a 0x20000060 →
    (a.world = false ∨ v.toNat.testBit 0 = false ∨ v.toNat / 2 ^ 16 ≠ 0xA5C3) →
    exec (.moduleResetRequest a v) s = s.to (s.m.ok))

/-- R57; each world has a SYSCTL_GATE_REQ of its own (R417). -/
def Obligations.OneRequestAtATime : Prop :=
  (∀ (s : State) (a : Access) (v : Word),
    s.admitsWrite a 0x20000064 →
    s.m.sys.blkRst ≠ none →
    exec (.blockReset a v) s = s.to (s.m.ok))
  ∧ (∀ (s : State) (a : Access) (v : Word),
    s.admitsWrite a 0x20000068 →
    s.m.sys.partRst ≠ none →
    exec (.partitionReset a v) s = s.to (s.m.ok))
  ∧ (∀ (s : State) (a : Access) (b : Fin 256),
    s.admitsWrite a 0x20000040 →
    (if a.world then s.m.flag F.SYSCTL_GATE_STAT_S_PEND else s.m.flag F.SYSCTL_GATE_STAT_N_PEND) = true →
    exec (.gateClockOff a b) s = s.to (s.m.ok))
  ∧ (∀ (s : State) (a : Access) (b : Fin 256),
    s.admitsWrite a 0x20000040 →
    (if a.world then s.m.flag F.SYSCTL_GATE_STAT_S_PEND else s.m.flag F.SYSCTL_GATE_STAT_N_PEND) = true →
    exec (.gateClockOn a b) s = s.to (s.m.ok))
  ∧ (∀ (s : State) (a : Access) (b : Fin 256),
    s.admitsWrite a 0x20000040 →
    (if a.world then s.m.flag F.SYSCTL_GATE_STAT_S_PEND else s.m.flag F.SYSCTL_GATE_STAT_N_PEND) = true →
    exec (.gatePowerOff a b) s = s.to (s.m.ok))
  ∧ (∀ (s : State) (a : Access) (b : Fin 256),
    s.admitsWrite a 0x20000040 →
    (if a.world then s.m.flag F.SYSCTL_GATE_STAT_S_PEND else s.m.flag F.SYSCTL_GATE_STAT_N_PEND) = true →
    exec (.gatePowerOn a b) s = s.to (s.m.ok))

/-- R9, R11: REGISTER_WRITE of a RW field, of a W1C field and of a RO register. Where the manual leaves its words open, the statement takes the model's reading (log entry 49). -/
def Obligations.RegisterWriteFollowsAccessCode : Prop :=
  (∀ (s : State) (a : Access) (v : Nat),
    v < 2 ^ 32 →
    a.world = true →
    s.admitsWrite a 0x20100214 →
    exec (.registerWrite a 0x20100214 4 v none) s = s.to (s.m.ok.wr F.FAB_STG_PART_MASK v))
  ∧ (∀ (s : State) (a : Access) (v : Nat),
    v < 2 ^ 32 →
    s.admitsWrite a 0x20000014 →
    ∃ t, exec (.registerWrite a 0x20000014 4 v none) s = s.to t
      ∧ t.resp = {}
      ∧ t.rd F.SYSCTL_PLL_EVT_SER_LOL = (if v.testBit 1 then 0 else s.m.rd F.SYSCTL_PLL_EVT_SER_LOL % 2)
      ∧ Module.onlyRegs [F.SYSCTL_PLL_EVT_SER_LOL.key 0 0 0] s.m t)
  ∧ (∀ (s : State) (a : Access) (v : Nat),
    v < 2 ^ 32 →
    s.admitsWrite a 0x20000000 →
    exec (.registerWrite a 0x20000000 4 v none) s = s.to (s.m.ok))
  ∧ (∀ (s : State) (a : Access) (addr n v : Nat) (item : Option Nat),
    v < 2 ^ (8 * n) ∧ Module.isWindow addr = false ∧ Module.blockOf addr ≠ some 0 ∧ Module.memOf addr = none →
    s.genuine a 1 ∧ s.m.accessDeny a addr n 1 = none ∧ Module.misfit addr n = none ∧ Module.writerDeny a addr = none →
    (ownCommand a addr v s).isNone = true ∧ (item = none ∨ s.m.itemBarred addr v = false) →
    exec (.registerWrite a addr n v item) s = s.to (if item.isSome then (s.m.ok.registerSet a addr v).itemKeep addr else s.m.ok.registerSet a addr v))

/-- R377: COUNT_CLEAR_READ of two counts, and HST_VAUX_MV_READ. Where the manual leaves its words open, the statement takes the model's reading (log entry 49). -/
def Obligations.CountReadTakesTheCount : Prop :=
  (∀ (s : State) (a : Access) (n served : Nat),
    n < 64 →
    commitsAtOnce a →
    s.admitsRead a (0x20300600 + 4 * n) →
    ∃ t, exec (.countClearRead a (0x20300600 + 4 * n) (some served)) s = s.to t
      ∧ t.resp.status = 0
      ∧ t.resp.data % 2 ^ 32 = served % 2 ^ 32
      ∧ t.rd F.UIN_PULSE_COUNT n = (s.m.rd F.UIN_PULSE_COUNT n + 2 ^ 32 - served % 2 ^ 32) % 2 ^ 32
      ∧ Module.onlyRegs [F.UIN_PULSE_COUNT.key n 0 0] s.m t)
  ∧ (∀ (s : State) (a : Access),
    commitsAtOnce a →
    s.admitsRead a 0x2040001C →
    exec (.countClearRead a 0x2040001C none) s = s.to ((s.m.wr F.SWC_LEARN_FULL_COUNT 0).ok (s.m.rd F.SWC_LEARN_FULL_COUNT)))
  ∧ (∀ (s : State) (a : Access),
    commitsAtOnce a →
    s.admitsRead a 0x21200408 →
    exec (.hstVauxMvRead a) s = s.to ((s.m.wr F.HST_VAUX_MV_MIN (s.m.rd F.HST_VAUX_MV_NOW)).ok
      (s.m.rd F.HST_VAUX_MV_NOW + s.m.rd F.HST_VAUX_MV_MIN * 2 ^ 16)))
  ∧ (∀ (s : State) (a : Access) (addr : Nat) (served : Option Nat),
    s.genuine a 0 →
    exec (.countClearRead a addr served) s = s.to (((s.m.countRead a addr served).forwarded s.m a addr).pairFault a 0))
  ∧ (∀ (s : State) (a : Access),
    s.genuine a 0 →
    exec (.hstVauxMvRead a) s = s.to ((s.m.vauxRead a).pairFault a 0))

/-- R367, R368: GUARDED_READ and GUARDED_WRITE of memory in which nothing fails. Where the manual leaves its words open, the statement takes the model's reading (log entry 10). -/
def Obligations.GuardedAccessOfCleanMemory : Prop :=
  (∀ (s : State) (a : Access) (kind : ReadKind) (mem : Fin 7) (addr n : Nat),
    s.m.mem.clean →
    1 ≤ n →
    mem.val ≤ 1 ∧ Module.memOf addr = some mem.val ∧ Module.memOf (addr + n - 1) = some mem.val →
    s.admitsMem a addr n (readCode kind) →
    (s.m.forwards a mem.val addr n (readCode kind)).1 = [] →
    exec (.guardedRead a kind mem addr n []) s = s.to (s.m.ok (ofBytes (s.m.mem.bytes addr n))))
  ∧ (∀ (s : State) (a : Access) (mem : Fin 7) (addr : Nat) (data : List Byte),
    s.m.mem.clean →
    1 ≤ data.length →
    mem.val ≤ 1 ∧ Module.memOf addr = some mem.val ∧ Module.memOf (addr + data.length - 1) = some mem.val →
    s.admitsMem a addr data.length 1 →
    ∃ t, exec (.guardedWrite a mem addr data []) s = s.to t
      ∧ t = { (s.m.semWrite addr data.length).ok with mem := s.m.mem.putBytes addr data }
      ∧ (∀ i, (h : i < data.length) → t.mem.byte (addr + i) = data[i])
      ∧ (∀ b, b < addr ∨ addr + data.length ≤ b → t.mem.byte b = s.m.mem.byte b))
  ∧ (∀ (s : State) (a : Access) (mem : Fin 7) (addr : Nat) (data : List Byte) (ups : List Upset),
    s.genuine a 1 →
    exec (.guardedWrite a mem addr data ups) s = s.to (s.m.guardedWriteAt a mem.val addr data ups))
  ∧ (∀ (s : State) (a : Access) (kind : ReadKind) (mem : Fin 7) (addr n : Nat) (ups : List Upset),
    s.genuine a (readCode kind) →
    exec (.guardedRead a kind mem addr n ups) s = s.to ((s.m.guardedReadAt a mem.val addr n (readCode kind) ups).pairFault a (readCode kind)))

/-- R366, R368, R370: GUARDED_READ of a word whose upset can be rebuilt, and where two words of the line fail. Where the manual leaves its words open, the statement takes the model's reading (log entry 11). -/
def Obligations.BadWordsOfALine : Prop :=
  (∀ (s : State) (a : Access) (addr mask : Nat),
    s.m.mem.clean →
    0x10000000 ≤ addr →
    addr < 0x11000000 →
    addr % 4 = 0 →
    mask < 2 ^ 32 →
    popCount 32 mask % 2 = 1 →
    s.admitsMem a addr 4 0 →
    (s.m.forwards a 0 addr 4 0).1 = [] →
    ∃ t, exec (.guardedRead a .data 0 addr 4 [.word addr mask false]) s = s.to t
      ∧ t.resp = { status := 0, data := s.m.mem.word addr }
      ∧ t.rd F.FAB_MG_CNT_REBUILT 0 = (s.m.rd F.FAB_MG_CNT_REBUILT 0 + 1) % 2 ^ 16
      ∧ t.mem.poison = s.m.mem.poison)
  ∧ (∀ (s : State) (a : Access) (addr other : Nat),
    s.m.mem.clean →
    0x10000000 ≤ addr →
    addr < 0x11000000 →
    addr % 4 = 0 →
    other % 4 = 0 →
    other / 256 = addr / 256 →
    other ≠ addr →
    s.admitsMem a addr 4 0 →
    (s.m.forwards a 0 addr 4 0).1 = [] →
    Module.pairOf a = none →
    ∃ t, exec (.guardedRead a .data 0 addr 4 [.word addr 1 false, .word other 1 false]) s = s.to t
      ∧ t.resp = { status := 0x0D }
      ∧ addr / 256 ∈ t.mem.poison)

/-- R372, R373, R375: SCRUB_LINE_VISIT, SCRUB_REQUEST, SCRUB_PASS_DONE and L2_EVICTION. Where the manual leaves its words open, the statement takes the model's reading (log entry 11). -/
def Obligations.ScrubberAndEviction : Prop :=
  (∀ (s : State) (mem : Fin 7) (line : Nat) (last : Bool),
    s.m.mem.clean →
    mem.val ≠ 2 →
    Module.lineIndex mem.val line + 1 < Module.memLines mem.val →
    exec (.scrubLineVisit mem line [] last) s = s.to (s.m.wr F.FAB_SCRUB_STAT_PROGRESS (Module.lineIndex mem.val line * 256 / Module.memLines mem.val) mem.val))
  ∧ (∀ (s : State) (a : Access) (v : Word),
    a.world = true →
    s.admitsWrite a 0x2010007C →
    ∃ t, exec (.scrubRequest a v) s = s.to t
      ∧ t.resp = {}
      ∧ (∀ k ∈ List.range 7, t.rd F.FAB_SCRUB_STAT_REQ_BUSY k = if bit v.toNat k then 1 else s.m.rd F.FAB_SCRUB_STAT_REQ_BUSY k)
      ∧ Module.onlyRegs ((List.range 7).flatMap (fun k => [F.FAB_SCRUB_STAT_REQ_BUSY.key k 0 0,
      F.FAB_SCRUB_STAT_PROGRESS.key k 0 0])) s.m t)
  ∧ (∀ (s : State) (mem : Fin 7),
    s.m.rd F.FAB_SCRUB_STAT_REQ_BUSY mem.val = 1 →
    ∃ t, exec (.scrubPassDone mem) s = s.to t
      ∧ t.rd F.FAB_SCRUB_STAT_REQ_BUSY mem.val = 0
      ∧ t.rd F.FAB_SCRUB_STAT_PROGRESS mem.val = 255
      ∧ t.rd F.FAB_SCRUB_STAT_PASSES mem.val = (s.m.rd F.FAB_SCRUB_STAT_PASSES mem.val + 1) % 2 ^ 16
      ∧ t = { s.m with regs := t.regs, dpx := { s.m.dpx with cov := t.dpx.cov } }
      ∧ Module.regsBut [F.FAB_SCRUB_STAT_REQ_BUSY.key mem.val 0 0, F.FAB_SCRUB_STAT_PROGRESS.key mem.val 0 0,
      F.FAB_SCRUB_STAT_PASSES.key mem.val 0 0] s.m t)
  ∧ (∀ (s : State) (l : Nat),
    s.m.mem.clean →
    l < 0x9000000 →
    (s.m.l2Line l).held = true →
    (s.m.l2Line l).dirty = true →
    ∃ t, exec (.l2Eviction l) s = s.to t
      ∧ t = { s.m with mem := t.mem }
      ∧ t.mem.bytes (l * 256) 256 = s.m.mem.bytes (MemSt.l2Base + l * 256) 256
      ∧ t.l2Line l = {}
      ∧ (∀ b, b < l * 256 ∨ l * 256 + 256 ≤ b → b < MemSt.l2Base → t.mem.byte b = s.m.mem.byte b))
  ∧ (∀ (s : State) (line : Nat),
    exec (.l2Eviction line) s = s.to (s.m.evictLine line))
  ∧ (∀ (s : State) (mem : Fin 7) (line : Nat) (ups : List Upset) (last : Bool),
    mem.val ≠ 2 →
    exec (.scrubLineVisit mem line ups last) s = s.to ((fun m : Module => if Module.lineIndex mem.val line + 1 = Module.memLines mem.val ∧ m.flag F.FAB_SCRUB_STAT_REQ_BUSY mem.val = false
      then m.scrubPassed mem.val else m) ((s.m.scrubVisit mem.val line ups).wr F.FAB_SCRUB_STAT_PROGRESS
      (Module.lineIndex mem.val line * 256 / Module.memLines mem.val) mem.val)))
  ∧ (∀ (s : State) (line : Nat) (ups : List Upset) (last : Bool),
    exec (.scrubLineVisit 2 line ups last) s = s.to ((fun m : Module => if last = true ∧ m.flag F.FAB_SCRUB_STAT_REQ_BUSY 2 = false then m.scrubPassed 2 else m)
      (((s.m.draw 256).1.scrubVisit 2 line ups).wr F.FAB_SCRUB_STAT_PROGRESS (s.m.draw 256).2 2)))

/-- R384, R385, R395: FIREWALL_COMMIT, ENFORCE_SET and FAB_LOG_BASE_WRITE. -/
def Obligations.FirewallCommands : Prop :=
  (∀ (s : State) (a : Access) (v : Word),
    a.world = true →
    s.admitsWrite a 0x20100218 →
    bits v.toNat 31 16 = 0x4657 →
    s.m.rd F.FAB_COMMIT_STAT_PEND = 0 →
    s.m.commitStatus (bits v.toNat 7 0) (bits v.toNat 11 8) = 0 →
    exec (.firewallCommit a v none) s = s.to (((((s.m.ok.wr F.FAB_COMMIT_STAT_STATUS 0).wr F.FAB_RGN_BASE_BASE (s.m.rd F.FAB_STG_BASE_BASE)
      (bits v.toNat 7 0) (bits v.toNat 11 8)).wr F.FAB_RGN_LIMIT_LIMIT (s.m.rd F.FAB_STG_LIMIT_LIMIT) (bits v.toNat 7 0)
      (bits v.toNat 11 8)).wr F.FAB_RGN_KEY_KEY s.m.stagedKey (bits v.toNat 7 0) (bits v.toNat 11 8)).wr F.FAB_RGN_PART_MASK
      (s.m.rd F.FAB_STG_PART_MASK) (bits v.toNat 7 0) (bits v.toNat 11 8)))
  ∧ (∀ (s : State) (a : Access) (v : Word),
    a.world = true →
    s.admitsWrite a 0x20100000 →
    bit v.toNat 0 = true →
    exec (.enforceSet a v) s = s.to (s.m.ok.wr F.FAB_CTRL_ENFORCE 1))
  ∧ (∀ (s : State) (a : Access) (v : DWord),
    a.world = true →
    s.admitsWrite a 0x20100008 →
    s.m.rd F.FAB_CTRL_ENFORCE = 0 →
    0x8000 ≤ bits v.toNat 39 13 →
    bits v.toNat 39 13 < 0x8800 →
    exec (.fabLogBaseWrite a v) s = s.to (((s.m.ok.wr F.FAB_LOG_BASE_ADDR (bits v.toNat 39 13)).wr F.FAB_LOG_WR_IDX 0).wr F.FAB_LOG_RD_IDX 0))
  ∧ (∀ (s : State) (a : Access) (v : Word) (recOffset : Option Nat),
    s.admitsWrite a 0x20100218 ∧ a.world = true →
    exec (.firewallCommit a v recOffset) s = s.to (s.m.ok.firewallCommit a v.toNat recOffset))
  ∧ (∀ (s : State) (a : Access) (v : DWord),
    s.admitsWrite a 0x20100008 ∧ a.world = true →
    exec (.fabLogBaseWrite a v) s = s.to (s.m.ok.writeLogBase a v.toNat))

/-- R49, R51: the module reset, as one operation. Where the manual leaves its words open, the statement takes the model's reading (log entry 18). -/
def Obligations.ModuleResetKeepsOnlyWhatItsRulesName : Prop :=
  ∀ (m : Module) (cause : Fam) (requested entry : Bool),
      cause ∈ [F.SYSCTL_RST_CAUSE_SOFT, F.SYSCTL_RST_CAUSE_SYSPLL_LOL, F.SYSCTL_RST_CAUSE_TCXO_FAIL, F.SYSCTL_RST_CAUSE_DEBUG,
      F.SYSCTL_RST_CAUSE_LC_CHANGE, F.SYSCTL_RST_CAUSE_BOOT_WDT, F.SYSCTL_RST_CAUSE_BOOT_RETRY, F.SYSCTL_RST_CAUSE_UPDATE] →
      (m.moduleReset cause requested entry).rd cause = 1
      ∧ (∀ (f : Fam) (i j k : Nat), f.lo < 64 → f.key i j k ≠ cause.key 0 0 0 →
      (m.moduleReset cause requested entry).rd f i j k
      = if Module.keptByReset (f.addr i j k) then m.rd f i j k else f.reset)
      ∧ m.moduleReset cause requested entry
      = { ({} : Module) with
      regs := (m.moduleReset cause requested entry).regs
      mem := m.mem
      fresh := m.fresh
      nvm := m.nvm
      out := m.out
      nvc := Module.nvcAfterReset m.nvc requested
      boot := { wdtBank := m.boot.wdtBank, grant := m.boot.grant, entry := entry } }

/-- R46–R49, R52, R86: the events of clocks and resets. Where the manual leaves its words open, the statement takes the model's reading (log entry 18). -/
def Obligations.ResetAndClockEvents : Prop :=
  (∀ (s : State),
    exec (.tcxoFail) s = s.to (s.m.moduleReset F.SYSCTL_RST_CAUSE_TCXO_FAIL))
  ∧ (∀ (s : State),
    s.m.sys.sysLock = true →
    exec (.syspllLossOfLock) s = s.to (s.m.moduleReset F.SYSCTL_RST_CAUSE_SYSPLL_LOL))
  ∧ (∀ (s : State) (a : Access) (v : Word),
    a.world = true →
    s.admitsWrite a 0x20000060 →
    bit v.toNat 0 = true →
    bits v.toNat 31 16 = 0xA5C3 →
    exec (.moduleResetRequest a v) s = s.to (s.m.ok.moduleReset F.SYSCTL_RST_CAUSE_SOFT))
  ∧ (∀ (s : State),
    s.m.lifeCycle s.otp ≠ 2 ∧ s.m.lifeCycle s.otp ≠ 5 →
    exec (.dbgReset) s = s.to (s.m.moduleReset F.SYSCTL_RST_CAUSE_DEBUG))
  ∧ (∀ (s : State) (serial : Bool),
    s.m.sys.resetHeld = false →
    ∃ t, exec (.pllLock serial) s = s.to t
      ∧ t = { s.m with regs := t.regs, sys := if serial then { s.m.sys with serLock := true } else { s.m.sys with sysLock := true } }
      ∧ t.rd F.SYSCTL_PLL_STAT_SYS_LOCK = b2n t.sys.sysLock ∧ t.rd F.SYSCTL_PLL_STAT_SER_LOCK = b2n t.sys.serLock
      ∧ t.rd F.SYSCTL_BOOT_STAT_STAGE = (if s.m.rd F.SYSCTL_BOOT_STAT_STAGE = 0 ∧ t.sys.sysLock = true ∧ t.sys.serLock = true then 1
      else s.m.rd F.SYSCTL_BOOT_STAT_STAGE)
      ∧ Module.regsBut [F.SYSCTL_PLL_STAT_SYS_LOCK.key 0 0 0, F.SYSCTL_PLL_STAT_SER_LOCK.key 0 0 0,
      F.SYSCTL_PLL_STAT_BYPASS.key 0 0 0, F.SYSCTL_BOOT_STAT_STAGE.key 0 0 0] s.m t)
  ∧ (∀ (s : State),
    s.m.sys.serLock = true →
    ∃ t, exec (.serpllLossOfLock) s = s.to t
      ∧ t.sys = { s.m.sys with serLock := false }
      ∧ t.rd F.SYSCTL_PLL_STAT_SER_LOCK = 0
      ∧ t.rd F.SYSCTL_PLL_EVT_SER_LOL = 1
      ∧ t.rd F.SYSCTL_PLL_STAT_BYPASS = s.m.rd F.SYSCTL_PLL_STAT_BYPASS
      ∧ (∀ p ∈ List.range 15, t.rd F.MAC_STAT_LINK p = 0)
      ∧ t.mem = s.m.mem ∧ t.chc = s.m.chc)
  ∧ (∀ (s : State),
    s.m.sys.serLock = true →
    (∀ p ∈ List.range 15, s.m.rd F.MAC_STAT_LINK p = 0) →
    ∃ t, exec (.serpllLossOfLock) s = s.to t
      ∧ t = { s.m with regs := t.regs, sys := { s.m.sys with serLock := false } }
      ∧ Module.regsBut [F.SYSCTL_PLL_STAT_SYS_LOCK.key 0 0 0, F.SYSCTL_PLL_STAT_SER_LOCK.key 0 0 0,
      F.SYSCTL_PLL_EVT_SER_LOL.key 0 0 0] s.m t)
  ∧ (∀ (s : State),
    s.m.rd F.SYSCTL_PLL_CTRL_SER_EN = 1 →
    ∃ t, exec (.serpllRelock) s = s.to t
      ∧ t = { s.m with regs := t.regs, sys := { s.m.sys with serLock := true } }
      ∧ t.rd F.SYSCTL_PLL_STAT_SER_LOCK = 1)
  ∧ (∀ (s : State) (a : Access) (v : Word),
    s.admitsWrite a 0x20000020 →
    ∃ t, exec (.clkAcDivWrite a v) s = s.to t
      ∧ t.rd F.SYSCTL_CLK_AC_DIV_DIV = bits v.toNat 1 0
      ∧ t.rd F.SYSCTL_CLK_AC_DIV_ACT = (if s.m.clkForced then 2 else bits v.toNat 1 0)
      ∧ Module.onlyRegs [F.SYSCTL_CLK_AC_DIV_DIV.key 0 0 0, F.SYSCTL_CLK_AC_DIV_ACT.key 0 0 0,
      F.HST_SUP_STAT_THROTTLE.key 0 0 0] s.m t)

/-- R49–R51, R85, R99: POWER_ON_RESET and BOOT_ROM_START. Where the manual leaves its words open, the statement takes the model's reading (log entry 18). -/
def Obligations.PowerOnAndRomStart : Prop :=
  (∀ (s : State) (unitSel : Bool),
    ∃ t, exec (.powerOnReset unitSel) s = s.to t
      ∧ t.rd F.SYSCTL_ID_UNIT = b2n unitSel
      ∧ t.rd F.SYSCTL_RST_CAUSE_POR = 1
      ∧ t.rd F.SYSCTL_RST_CAUSE_LOWV = b2n s.m.boot.lowv
      ∧ t.rd F.SYSCTL_BOOT_STAT_STAGE = 0
      ∧ t.nvm = s.m.nvm
      ∧ t.mem = s.m.mem
      ∧ t.sys = {}
      ∧ t.chc = {})
  ∧ (∀ (s : State),
    s.m.sys.resetHeld = true →
    ∃ t, exec (.bootRomStart) s = s.to t
      ∧ t.sys = { s.m.sys with resetHeld := false }
      ∧ t.rd F.SYSCTL_LC_STATE_STATE = (if s.m.boot.entry && s.m.boot.grant.isSome then 3 else s.otp.lcState % 2 ^ 3)
      ∧ t.rd F.SYSCTL_SECVER_COUNTER = s.otp.counter % 2 ^ F.SYSCTL_SECVER_COUNTER.width
      ∧ t.rd F.SYSCTL_PLL_CTRL_SWITCH = 1
      ∧ (t.core 0).secure = true
      ∧ t.boot.us = 0
      ∧ t.mem = s.m.mem)

/-- R57–R62, R66, R418, R420: the gating requests of both worlds and their ends. Where the manual leaves its words open, the statement takes the model's reading (log entry 16). -/
def Obligations.GateRequests : Prop :=
  (∀ (s : State) (a : Access) (block : Fin 256),
    s.admitsWrite a 0x20000040 →
    s.m.mayGate a block.val 0 →
    exec (.gateClockOff a block) s = s.to (s.m.ok.gateWaits a.world ⟨block.val, 0⟩))
  ∧ (∀ (s : State) (a : Access) (block : Fin 256),
    s.admitsWrite a 0x20000040 →
    s.m.mayGate a block.val 1 →
    bit (s.m.rd F.SYSCTL_PWR_STATE_ON) block.val = true →
    ∃ t, exec (.gateClockOn a block) s = s.to t
      ∧ bit (t.rd F.SYSCTL_CLK_STATE_RUN) block.val = true
      ∧ t.rd (gateField a.world F.SYSCTL_GATE_STAT_S_STATUS F.SYSCTL_GATE_STAT_N_STATUS) = 0
      ∧ t.rd (gateField a.world F.SYSCTL_GATE_STAT_S_BLOCK F.SYSCTL_GATE_STAT_N_BLOCK) = block.val
      ∧ t.rd (gateField a.world F.SYSCTL_GATE_STAT_S_PEND F.SYSCTL_GATE_STAT_N_PEND) = 0
      ∧ t = { s.m with regs := t.regs, resp := {}, sys := t.sys }
      ∧ t.sys = (if a.world then { s.m.sys with gateS := none } else { s.m.sys with gateN := none })
      ∧ Module.regsBut (F.SYSCTL_CLK_STATE_RUN.key 0 0 0 :: gateKeys a.world) s.m t)
  ∧ (∀ (s : State) (a : Access) (block : Fin 256),
    s.admitsWrite a 0x20000040 →
    s.m.mayGate a block.val 2 →
    exec (.gatePowerOff a block) s = s.to (s.m.ok.gateWaits a.world ⟨block.val, 2⟩))
  ∧ (∀ (s : State) (a : Access) (block : Fin 256),
    s.admitsWrite a 0x20000040 →
    s.m.mayGate a block.val 3 →
    bit (s.m.rd F.SYSCTL_PWR_STATE_ON) block.val = false →
    exec (.gatePowerOn a block) s = s.to (s.m.ok.gateWaits a.world ⟨block.val, 3⟩))
  ∧ (∀ (s : State) (sec : Bool) (b op : Nat),
    s.m.gateJob sec = some ⟨b, op⟩ →
    (op = 0 ∨ op = 2) →
    b < 32 →
    s.m.drainHeld b = false →
    (sec = false ∨ s.m.rd F.WCT_DEFER_PEND = 0 ∨ s.m.rd F.WCT_DEFER_BLOCK ≠ b) →
    ∃ t, exec (.gateDrainDone sec) s = s.to t
      ∧ bit (t.rd F.SYSCTL_CLK_STATE_RUN) b = false
      ∧ bit (t.rd F.SYSCTL_PWR_STATE_ON) b = (bit (s.m.rd F.SYSCTL_PWR_STATE_ON) b && op != 2)
      ∧ t.rd (gateField sec F.SYSCTL_GATE_STAT_S_STATUS F.SYSCTL_GATE_STAT_N_STATUS) = 0
      ∧ t.rd (gateField sec F.SYSCTL_GATE_STAT_S_BLOCK F.SYSCTL_GATE_STAT_N_BLOCK) = b
      ∧ t.rd (gateField sec F.SYSCTL_GATE_STAT_S_PEND F.SYSCTL_GATE_STAT_N_PEND) = 0
      ∧ t = { s.m with regs := t.regs, sys := t.sys }
      ∧ t.sys = (if sec then { s.m.sys with gateS := none } else { s.m.sys with gateN := none })
      ∧ Module.regsBut (F.SYSCTL_CLK_STATE_RUN.key 0 0 0 :: F.SYSCTL_PWR_STATE_ON.key 0 0 0 :: gateKeys sec) s.m t)
  ∧ (∀ (s : State) (sec : Bool) (b op : Nat),
    s.m.gateJob sec = some ⟨b, op⟩ →
    (op = 0 ∨ op = 2) →
    ∃ t, exec (.gateDrainTimeout sec) s = s.to t
      ∧ t.rd (gateField sec F.SYSCTL_GATE_STAT_S_STATUS F.SYSCTL_GATE_STAT_N_STATUS) = 0x0E
      ∧ t.rd (gateField sec F.SYSCTL_GATE_STAT_S_PEND F.SYSCTL_GATE_STAT_N_PEND) = 0
      ∧ t = { s.m with regs := t.regs, sys := t.sys }
      ∧ t.sys = (if sec then { s.m.sys with gateS := none } else { s.m.sys with gateN := none })
      ∧ Module.regsBut (gateKeys sec) s.m t)
  ∧ (∀ (s : State) (sec : Bool) (b op : Nat),
    s.m.gateJob sec = some ⟨b, op⟩ →
    (op = 1 ∨ op = 3) →
    exec (.gatePowerUpDone sec) s = .next ({ s with
      otp := (Module.blockClear s.otp (s.m.powered b) b).1
      m := ((Module.blockClear s.otp (s.m.powered b) b).2.blockRestart b).gateDone sec b 0 }))
  ∧ (∀ (s : State) (op : Nat),
    s.m.sys.gateS = some ⟨0x14, op⟩ →
    (op = 1 ∨ op = 3) →
    ∃ t, exec (.gatePowerUpDone true) s = s.to t
      ∧ bit (t.rd F.SYSCTL_CLK_STATE_RUN) 0x14 = true
      ∧ bit (t.rd F.SYSCTL_PWR_STATE_ON) 0x14 = true
      ∧ t.rd F.SYSCTL_GATE_STAT_S_STATUS = 0
      ∧ t.rd F.SYSCTL_GATE_STAT_S_PEND = 0
      ∧ t.sys = { s.m.sys with gateS := none }
      ∧ t.mem = s.m.mem)
  ∧ (∀ (s : State) (a : Access) (block : Fin 256),
    s.admitsWrite a 0x20000040 →
    exec (.gateClockOff a block) s = s.to (s.m.ok.gateRequest a block.val 0))
  ∧ (∀ (s : State) (a : Access) (block : Fin 256),
    s.admitsWrite a 0x20000040 →
    exec (.gateClockOn a block) s = s.to (s.m.ok.gateRequest a block.val 1))
  ∧ (∀ (s : State) (a : Access) (block : Fin 256),
    s.admitsWrite a 0x20000040 →
    exec (.gatePowerOff a block) s = s.to (s.m.ok.gateRequest a block.val 2))
  ∧ (∀ (s : State) (a : Access) (block : Fin 256),
    s.admitsWrite a 0x20000040 →
    exec (.gatePowerOn a block) s = s.to (s.m.ok.gateRequest a block.val 3))
  ∧ (∀ (s : State) (secure : Bool),
    exec (.gateDrainDone secure) s = s.to (s.m.gateDrained secure))
  ∧ (∀ (s : State) (secure : Bool),
    exec (.gateDrainTimeout secure) s = s.to (s.m.gateTimedOut secure))
  ∧ (∀ (s : State) (secure : Bool),
    exec (.gatePowerUpDone secure) s = .next ({ s with
      otp := (Module.powerUpEnd s.otp s.m secure).1
      m := (Module.powerUpEnd s.otp s.m secure).2 }))

/-- R53–R57: BLOCK_RESET, BLOCK_RESET_DONE, PARTITION_RESET and PARTITION_RESET_DONE. Where the manual leaves its words open, the statement takes the model's reading (log entry 17). -/
def Obligations.BlockAndPartitionReset : Prop :=
  (∀ (s : State) (a : Access) (v : Word),
    s.admitsWrite a 0x20000064 →
    s.m.sys.blkRst = none →
    Module.coreDomain (bits v.toNat 7 0) = false →
    bit (s.m.rd F.SYSCTL_PWR_STATE_ON) (bits v.toNat 7 0) = true →
    exec (.blockReset a v) s = .next ({ s with
      otp := (Module.blockClear s.otp (s.m.ok.blockHeld (bits v.toNat 7 0)) (bits v.toNat 7 0)).1
      m := (Module.blockClear s.otp (s.m.ok.blockHeld (bits v.toNat 7 0)) (bits v.toNat 7 0)).2 }))
  ∧ (∀ (s : State) (a : Access) (v : Word),
    s.admitsWrite a 0x20000064 →
    bits v.toNat 7 0 = 5 →
    s.m.sys.blkRst = none →
    bit (s.m.rd F.SYSCTL_PWR_STATE_ON) 5 = true →
    ∃ t, exec (.blockReset a v) s = s.to t
      ∧ t.sys = { s.m.sys with blkRst := some 5, regate := ! bit (s.m.rd F.SYSCTL_CLK_STATE_RUN) 5 }
      ∧ t.uin = { keptResv := s.m.uin.keptResv }
      ∧ t.mem = s.m.mem
      ∧ t.chc = s.m.chc
      ∧ (∀ (f : Fam) (i j k : Nat), f.lo < 64 → 0x20300000 ≤ f.addr i j k → f.addr i j k < 0x20400000 →
      t.rd f i j k = f.reset)
      ∧ (∀ (f : Fam) (i j k : Nat), f.lo < 64 → ¬ (0x20300000 ≤ f.addr i j k ∧ f.addr i j k < 0x20400000) →
      f.key i j k ≠ F.SYSCTL_CLK_STATE_RUN.key 0 0 0 → t.rd f i j k = s.m.rd f i j k))
  ∧ (∀ (s : State) (b : Nat),
    s.m.sys.blkRst = some b →
    exec (.blockResetDone) s = s.to (({ s.m with sys := { s.m.sys with blkRst := none, regate := false } }.blockRestart b).when s.m.sys.regate
      (·.setMap F.SYSCTL_CLK_STATE_RUN b false)))
  ∧ (∀ (s : State),
    s.m.sys.blkRst = some 7 →
    s.m.sys.regate = false →
    ∃ t, exec (.blockResetDone) s = s.to t
      ∧ t.sys = { s.m.sys with blkRst := none }
      ∧ t = { s.m with regs := t.regs, sys := t.sys }
      ∧ (∀ (f : Fam) (i j k : Nat), f.lo < 64 → ¬ (0x20500000 ≤ f.addr i j k ∧ f.addr i j k < 0x20600000) →
      t.rd f i j k = s.m.rd f i j k))
  ∧ (∀ (s : State) (a : Access) (v : Word),
    s.admitsWrite a 0x20000068 →
    s.m.sys.partRst = none →
    ∃ t, exec (.partitionReset a v) s = s.to t
      ∧ t.sys.partRst = some (bits v.toNat 3 0)
      ∧ t = { ((s.m.ok.partitionHeld (bits v.toNat 3 0)).partInstResets (bits v.toNat 3 0)).windowReset (bits v.toNat 3 0) with sys := t.sys }
      ∧ tget [] t.mbx.fifos (bits v.toNat 3 0) = []
      ∧ (s.m.rd F.LSS_PART_STATE (bits v.toNat 3 0) ∈ [1, 2, 3] →
      t.rd F.LSS_PART_STATE (bits v.toNat 3 0) = 5 ∧ t.rd F.LSS_PART_SAFE_VALID (bits v.toNat 3 0) = 1))
  ∧ (∀ (s : State) (p : Nat),
    s.m.sys.partRst = some p →
    exec (.partitionResetDone) s = s.to ({ s.m with sys := { s.m.sys with partRst := none } }.partitionRestart p))
  ∧ (∀ (s : State) (p : Nat),
    s.m.sys.partRst = some p →
    s.m.rd F.LSS_PART_STATE p ≠ 5 →
    exec (.partitionResetDone) s = s.to ({ s.m with sys := { s.m.sys with partRst := none } }))
  ∧ (∀ (s : State) (a : Access) (v : Word),
    s.admitsWrite a 0x20000068 →
    exec (.partitionReset a v) s = s.to (s.m.ok.partResetWrite v.toNat))
  ∧ (∀ (s : State),
    exec (.blockResetDone) s = s.to (s.m.blockResetEnd))
  ∧ (∀ (s : State),
    exec (.partitionResetDone) s = s.to (s.m.partResetEnd))
  ∧ (∀ (s : State) (a : Access) (v : Word),
    s.admitsWrite a 0x20000064 →
    exec (.blockReset a v) s = .next ({ s with
      otp := (Module.blockResetWrite s.otp s.m.ok v.toNat).1
      m := (Module.blockResetWrite s.otp s.m.ok v.toNat).2 }))

/-- R91, R92, R95: DIP_ENTRY, DIP_EXIT and DIP_EXTENDED. Where the manual leaves its words open, the statement takes the model's reading (log entry 19). -/
def Obligations.DipAndItsEnd : Prop :=
  (∀ (s : State),
    s.m.sys.resetHeld = false →
    s.m.rd F.HST_SUP_STAT_VAUX_STATE = 0 →
    ∃ t, exec (.dipEntry) s = s.to t
      ∧ t.rd F.HST_SUP_STAT_VAUX_STATE = 1
      ∧ t.rd F.HST_SUP_EVT_DIP = 1
      ∧ t.rd F.SYSCTL_CLK_AC_DIV_ACT = 2
      ∧ t.rd F.HST_SUP_STAT_THROTTLE = 1
      ∧ (∀ n ∈ List.range 128, t.chan n = { s.m.chan n with diag := .none })
      ∧ Module.regsBut [F.HST_SUP_STAT_VAUX_STATE.key 0 0 0, F.HST_SUP_EVT_DIP.key 0 0 0,
      F.SYSCTL_CLK_AC_DIV_ACT.key 0 0 0, F.HST_SUP_STAT_THROTTLE.key 0 0 0] s.m t
      ∧ t.mem = s.m.mem)
  ∧ (∀ (s : State),
    s.m.rd F.HST_SUP_STAT_VAUX_STATE = 1 →
    ∃ t, exec (.dipExit) s = s.to t
      ∧ t.rd F.HST_SUP_STAT_VAUX_STATE = 0
      ∧ t.rd F.HST_SUP_STAT_DIP_EXT = 0
      ∧ t.rd F.SYSCTL_CLK_AC_DIV_ACT = (if s.m.sys.tempForce then 2 else s.m.rd F.SYSCTL_CLK_AC_DIV_DIV % 4)
      ∧ t.rd F.HST_SUP_STAT_THROTTLE = b2n s.m.sys.tempForce
      ∧ t = { s.m with regs := t.regs })
  ∧ (∀ (s : State),
    s.m.rd F.HST_SUP_STAT_VAUX_STATE = 1 →
    ∃ t, exec (.dipExtended) s = s.to t
      ∧ t.rd F.HST_SUP_STAT_DIP_EXT = 1
      ∧ t.rd F.HST_SUP_EVT_DIP_EXT = 1
      ∧ t.hst.sup = setBit s.m.hst.sup 1 true
      ∧ t.chc = s.m.chc)
  ∧ (∀ (s : State),
    exec (.dipEntry) s = s.to (s.m.dipBegins))
  ∧ (∀ (s : State),
    exec (.dipExit) s = s.to (s.m.dipEnds))
  ∧ (∀ (s : State),
    exec (.dipExtended) s = s.to (s.m.dipLong))

/-- R96–R100, R115, R825: the hold-up sequence. Where the manual leaves its words open, the statement takes the model's reading (log entry 19). -/
def Obligations.HoldupKeepsWhatItMust : Prop :=
  (∀ (s : State),
    s.m.sys.resetHeld = false →
    s.m.rd F.HST_SUP_STAT_VAUX_STATE ≠ 2 →
    s.m.rd F.WCT_LOCK_WORLD_LOCK = 0 →
    exec (.holdupEntry) s = s.to (s.m.lowVoltageReset))
  ∧ (∀ (s : State),
    s.m.sys.resetHeld = false →
    s.m.rd F.HST_SUP_STAT_VAUX_STATE ≠ 2 →
    s.m.rd F.WCT_LOCK_WORLD_LOCK = 1 →
    ∃ t, exec (.holdupEntry) s = s.to t
      ∧ t.rd F.HST_SUP_STAT_VAUX_STATE = 2
      ∧ t.rd F.SYSCTL_CLK_AC_DIV_ACT = 2
      ∧ t.sup = { s.m.sup with flush := some s.m.logCopy, flushed := false }
      ∧ t.mem = s.m.mem
      ∧ t.nvm = s.m.nvm)
  ∧ (∀ (s : State) (f : HoldupLog) (kept : List (Fin 256)),
    s.m.sup.flush = some f →
    ∃ t, exec (.holdupFlushDone kept) s = s.to t
      ∧ t = { s.m with nvm := t.nvm, sup := { s.m.sup with flush := none, flushed := true } }
      ∧ t.nvm = { s.m.nvm with log := t.nvm.log }
      ∧ t.nvm.log.map (fun l => (l.wr, l.rd, l.seq)) = some (f.wr, f.rd, f.seq)
      ∧ (∀ i ∈ List.range 256, t.nvm.log.map (fun l => tget [] l.slots i) = some (if kept.any (fun k => k.val == i)
      then tget [] f.slots i else s.m.mem.bytes (s.m.logSlot i) 32)))
  ∧ (∀ (s : State),
    s.m.sup.flushed = true →
    s.m.rd F.HST_SUP_STAT_VAUX_STATE = 2 →
    ∃ t, exec (.channelStateRecordDone) s = s.to t
      ∧ t.nvm = { s.m.nvm with record := t.nvm.record }
      ∧ t.nvm.record.map ChanRecord.used = some false
      ∧ (∀ n ∈ List.range 128, t.nvm.record.map (fun r => (tget .off r.cmds n, tget 0 r.thetas n))
      = some ((s.m.chan n).cmd, (s.m.chan n).theta))
      ∧ t.rd F.SYSCTL_RST_CAUSE_LOWV = 1
      ∧ t.chc = {}
      ∧ t.boot = { lowv := true })
  ∧ (∀ (s : State),
    s.m.rd F.HST_SUP_STAT_VAUX_STATE = 2 →
    ∃ t, exec (.holdupTimeout) s = s.to t
      ∧ t.rd F.SYSCTL_RST_CAUSE_LOWV = 1
      ∧ t.chc = {}
      ∧ t.nvm = s.m.nvm
      ∧ t.boot = { lowv := true })
  ∧ (∀ (s : State),
    s.m.rd F.HST_SUP_STAT_VAUX_STATE = 2 →
    ∃ t, exec (.vholdExhausted) s = s.to t
      ∧ t.rd F.SYSCTL_RST_CAUSE_LOWV = 1
      ∧ t.chc = {}
      ∧ t.nvm = s.m.nvm
      ∧ t.boot = { lowv := true })
  ∧ (∀ (s : State),
    exec (.holdupEntry) s = s.to (s.m.holdupBegins))
  ∧ (∀ (s : State) (kept : List (Fin 256)),
    exec (.holdupFlushDone kept) s = s.to (s.m.flushEnds (kept.map Fin.val)))
  ∧ (∀ (s : State),
    exec (.channelStateRecordDone) s = s.to (s.m.recordDone))
  ∧ (∀ (s : State),
    exec (.holdupTimeout) s = s.to (s.m.holdupEnds))
  ∧ (∀ (s : State),
    exec (.vholdExhausted) s = s.to (s.m.holdupEnds))

/-- R109: VS_UNDERVOLTAGE_ENTRY and VS_UNDERVOLTAGE_EXIT. Where the manual leaves its words open, the statement takes the model's reading (log entry 19). -/
def Obligations.LoadSupplyUndervoltage : Prop :=
  (∀ (s : State) (group : Fin 4),
    s.m.sys.resetHeld = false →
    bit (s.m.rd F.HST_SUP_STAT_VS_UV) group.val = false →
    ∃ t, exec (.vsUndervoltageEntry group) s = s.to t
      ∧ bit (t.rd F.HST_SUP_STAT_VS_UV) group.val = true
      ∧ bit (t.rd F.HST_SUP_EVT_VS_UV) group.val = true
      ∧ (∀ p ∈ List.range 32, (t.chan (32 * group.val + p)).phase = .off
      ∨ (t.chan (32 * group.val + p)).phase = .turningOff true)
      ∧ t.mem = s.m.mem)
  ∧ (∀ (s : State) (group : Fin 4),
    s.m.sys.resetHeld = false →
    bit (s.m.rd F.HST_SUP_STAT_VS_UV) group.val = true →
    ∃ t, exec (.vsUndervoltageExit group) s = s.to t
      ∧ bit (t.rd F.HST_SUP_STAT_VS_UV) group.val = false
      ∧ (t.grp group.val).vsConv = []
      ∧ t.mem = s.m.mem)
  ∧ (∀ (s : State) (group : Fin 4),
    exec (.vsUndervoltageEntry group) s = s.to (s.m.uvEnters group.val))
  ∧ (∀ (s : State) (group : Fin 4),
    exec (.vsUndervoltageExit group) s = s.to (s.m.uvLeaves group.val))

/-- R102, R119, R122: VOLTAGE_UPDATE, TEMP_CONVERSION and the capacitance measurement. Where the manual leaves its words open, the statement takes the model's reading (log entry 19). -/
def Obligations.MonitorConversions : Prop :=
  (∀ (s : State) (vaux vhold v0 v1 v2 v3 : Nat),
    s.m.sys.resetHeld = false →
    vaux < 2 ^ 16 ∧ vhold < 2 ^ 16 ∧ v0 < 2 ^ 16 ∧ v1 < 2 ^ 16 ∧ v2 < 2 ^ 16 ∧ v3 < 2 ^ 16 →
    ∃ t, exec (.voltageUpdate vaux vhold [v0, v1, v2, v3]) s = s.to t
      ∧ t.rd F.HST_VAUX_MV_NOW = vaux ∧ t.rd F.HST_VHOLD_MV_NOW = vhold
      ∧ t.rd F.HST_VS_MV_A_NOW = v0 ∧ t.rd F.HST_VS_MV_B_NOW = v1
      ∧ t.rd F.HST_VS_MV_C_NOW = v2 ∧ t.rd F.HST_VS_MV_D_NOW = v3
      ∧ t.rd F.HST_VAUX_MV_MIN = min vaux (s.m.rd F.HST_VAUX_MV_MIN)
      ∧ t.chc = s.m.chc ∧ t.mem = s.m.mem)
  ∧ (∀ (s : State) (ctl bp p0 p1 p2 p3 : Int),
    s.m.sys.resetHeld = false →
    ∃ t, exec (.tempConversion ctl bp [p0, p1, p2, p3]) s = s.to t
      ∧ t.rd F.HST_TEMP_CTL_DEG = unsigned 16 ctl ∧ t.rd F.HST_TEMP_BP_DEG = unsigned 16 bp
      ∧ t.rd F.HST_TEMP_PS_A_DEG = unsigned 16 p0 ∧ t.rd F.HST_TEMP_PS_B_DEG = unsigned 16 p1
      ∧ t.rd F.HST_TEMP_PS_C_DEG = unsigned 16 p2 ∧ t.rd F.HST_TEMP_PS_D_DEG = unsigned 16 p3
      ∧ t.rd F.HST_SUP_STAT_TEMP_WARN = b2n (decide (115 * 16 ≤ ctl))
      ∧ t.sys = { s.m.sys with tempForce := decide (120 * 16 ≤ ctl) || (s.m.sys.tempForce && decide (110 * 16 ≤ ctl)) }
      ∧ t.rd F.SYSCTL_CLK_AC_DIV_ACT = (if t.clkForced then 2 else s.m.rd F.SYSCTL_CLK_AC_DIV_DIV % 4))
  ∧ (∀ (s : State),
    s.m.sys.resetHeld = false →
    exec (.holdupCapMeasure) s = s.to ({ s.m with sup := { s.m.sup with measuring := true } }))
  ∧ (∀ (s : State) (uf : Nat),
    s.m.sup.measuring = true →
    uf < 2 ^ 16 →
    ∃ t, exec (.holdupCapMeasureDone uf) s = s.to t
      ∧ t.rd F.HST_HOLDUP_CAP_UF = uf ∧ t.rd F.HST_HOLDUP_CAP_VALID = 1
      ∧ t.rd F.HST_SUP_STAT_HOLDUP_WEAK = b2n (decide (s.m.rd F.HST_VHOLD_MV_NOW < 29000) || decide (uf < 2000))
      ∧ t.sup = { s.m.sup with measuring := false, measured := true })
  ∧ (∀ (s : State) (vaux : Nat) (vhold : Nat) (vs : List Nat),
    exec (.voltageUpdate vaux vhold vs) s = s.to (s.m.voltages vaux vhold vs))
  ∧ (∀ (s : State) (uf : Nat),
    exec (.holdupCapMeasureDone uf) s = s.to (s.m.capMeasured uf))

/-- R131–R152, R273: the events of the start. Where the manual leaves its words open, the statement takes the model's reading (log entry 20). -/
def Obligations.BootStages : Prop :=
  (∀ (s : State),
    s.m.rd F.SYSCTL_BOOT_STAT_STAGE = 1 →
    exec (.memoryWipeDone) s = s.to (({ s.m with mem := {} } : Module).wr F.SYSCTL_BOOT_STAT_STAGE
      (if s.m.rd F.SYSCTL_LC_STATE_STATE = 5 then 0xF else 2)))
  ∧ (∀ (s : State) (missed : List (Fin 256)) (ff cores : Fin 16) (hash modular : Bool),
    s.m.rd F.SYSCTL_BOOT_STAT_STAGE = 2 →
    ∃ t, exec (.startupSelftestDone missed ff cores hash modular) s = s.to t
      ∧ (∀ n ∈ List.range 4, bit (t.rd F.SYSCTL_SELFTEST_PAIR_FAIL) n
      = (bit (s.m.rd F.SYSCTL_SELFTEST_PAIR_FAIL) n || (missed.map Fin.val).getD n 0 != 0 || bit ff.val n))
      ∧ (∀ n ∈ List.range 4, ((missed.map Fin.val).getD n 0 != 0 || bit ff.val n) = true → t.rd F.LSS_PAIR_STAT_STATE n = 5)
      ∧ t.rd F.SYSCTL_SELFTEST_CORE_FAIL = cores.val ∧ t.rd F.CPE_STAT_FENCED = cores.val
      ∧ t.rd F.SYSCTL_SELFTEST_HASH_FAIL = b2n hash ∧ t.rd F.CPE_STAT_HASH_FAIL = b2n hash
      ∧ t.rd F.SYSCTL_SELFTEST_MOD_FAIL = b2n modular ∧ t.rd F.CPE_STAT_MA_FAIL = b2n modular
      ∧ t.rd F.SYSCTL_BOOT_STAT_SW_CRYPTO = b2n (hash || modular)
      ∧ (t.rd F.SYSCTL_BOOT_STAT_STAGE = 3 ∨ t.rd F.SYSCTL_BOOT_STAT_STAGE = 0xF))
  ∧ (∀ (s : State) (e trial : Bool) (b : Nat) (rest : List (Nat × Bool)),
    s.m.rd F.SYSCTL_BOOT_STAT_STAGE = 3 →
    s.m.boot.cands = (b, trial) :: rest →
    exec (.imageCandidateCheckDone e) s = s.to (if s.m.candCode s.otp e b = 0 then (s.m.bootErr b 0).runImage b trial
      else { (s.m.bootErr b (s.m.candCode s.otp e b)).when trial (·.programState b stRejected) with
      boot := { s.m.boot with cands := rest } }.nextCandidate))
  ∧ (∀ (s : State),
    s.m.rd F.SYSCTL_BOOT_STAT_STAGE = 0xF →
    s.m.rd F.SYSCTL_LC_STATE_STATE ≠ 5 →
    exec (.bootRetry) s = s.to (s.m.moduleReset F.SYSCTL_RST_CAUSE_BOOT_RETRY))
  ∧ (∀ (s : State),
    s.m.sys.resetHeld = false ∧ 1800000 ≤ s.m.boot.us →
    (s.m.rd F.SYSCTL_BOOT_STAT_STAGE < 5 ∨ (s.m.rd F.SYSCTL_BOOT_STAT_STAGE < 7 ∧ s.m.rd F.SYSCTL_BOOT_STAT_TRIAL = 1)) →
    exec (.bootWatchdogExpiry) s = s.to (s.m.moduleReset F.SYSCTL_RST_CAUSE_BOOT_WDT))
  ∧ (∀ (s : State),
    s.m.sys.resetHeld = false ∧ 1800000 ≤ s.m.boot.us →
    (s.m.rd F.SYSCTL_BOOT_STAT_STAGE = 5 ∨ s.m.rd F.SYSCTL_BOOT_STAT_STAGE = 6) →
    s.m.rd F.SYSCTL_BOOT_STAT_TRIAL = 0 →
    ∃ t, exec (.bootWatchdogExpiry) s = s.to t
      ∧ t.rd F.SYSCTL_RST_CAUSE_BOOT_WDT = 1
      ∧ (if s.m.boot.wdtBank = some (s.m.rd F.SYSCTL_BOOT_STAT_BANK) ∧ 2 ≤ s.m.rd F.SYSCTL_BOOT_WDT_COUNT
      then t.rd F.SYSCTL_BOOT_WDT_COUNT = 0 ∧ t.boot.wdtBank = none
      ∧ t.rd (if s.m.rd F.SYSCTL_BOOT_STAT_BANK = 0 then F.SYSCTL_BOOT_WDT_BAR_A else F.SYSCTL_BOOT_WDT_BAR_B) = 1
      else t.rd F.SYSCTL_BOOT_WDT_COUNT = (if s.m.boot.wdtBank = some (s.m.rd F.SYSCTL_BOOT_STAT_BANK)
      then s.m.rd F.SYSCTL_BOOT_WDT_COUNT + 1 else 1) ∧ t.boot.wdtBank = some (s.m.rd F.SYSCTL_BOOT_STAT_BANK))
      ∧ t.nvm = s.m.nvm ∧ t.mem = s.m.mem)
  ∧ (∀ (s : State),
    s.m.rd F.SYSCTL_BOOT_STAT_STAGE = 7 →
    s.m.boot.chanDone = false →
    ∃ t, exec (.channelInitialStates) s = s.to t
      ∧ t.boot = { s.m.boot with chanDone := true, region := false }
      ∧ t.rd F.CHC_STAT_RUN = 1
      ∧ t.rd F.SYSCTL_BOOT_T_CHAN_US = sat 32 s.m.boot.us
      ∧ t.mem = s.m.mem.wipe 0x800000000 0x804000000
      ∧ (∀ b, 0x800000000 ≤ b → b < 0x804000000 → t.mem.byte b = 0))
  ∧ (∀ (s : State),
    exec (.memoryWipeDone) s = s.to (s.m.wipeDone))
  ∧ (∀ (s : State) (missed : List (Fin 256)) (falseFlags : Fin 16) (cores : Fin 16) (hash : Bool) (modular : Bool),
    exec (.startupSelftestDone missed falseFlags cores hash modular) s = s.to (s.m.selftestEnd (missed.map Fin.val) falseFlags.val cores.val hash modular))
  ∧ (∀ (s : State) (readError : Bool),
    exec (.imageCandidateCheckDone readError) s = s.to (s.m.candidateDone s.otp readError))
  ∧ (∀ (s : State),
    exec (.bootRetry) s = s.to (s.m.bootRetry))
  ∧ (∀ (s : State),
    exec (.bootWatchdogExpiry) s = s.to (s.m.bootWatchdog))
  ∧ (∀ (s : State),
    exec (.channelInitialStates) s = s.to (s.m.channelsStart))

/-- R160–R164: the writes of SYSCTL_LC_REQ. Where the manual leaves its words open, the statement takes the model's reading (log entry 21). -/
def Obligations.LifeCycleRequests : Prop :=
  (∀ (s : State) (a : Access) (v : Word),
    a.world = true ∧ s.admitsWrite a 0x20000804 ∧ bits v.toNat 31 16 = 0x5A3C ∧ bits v.toNat 2 0 = 1 →
    s.m.rd F.SYSCTL_LC_STAT_PEND = 0 ∧ s.m.rd F.HST_SUP_STAT_VAUX_STATE = 0 ∧ s.m.rd F.HST_SUP_STAT_HOLDUP_WEAK = 0 →
    s.m.activeInDuplex = false →
    s.m.rd F.SYSCTL_LC_STATE_STATE = 0 →
    s.otp.trustedMap ≠ 0 →
    exec (.lcReqProvisioned a v) s = s.to ({ s.m.ok.wr F.SYSCTL_LC_STAT_PEND 1 with boot := { s.m.boot with lcNext := some 1 } }))
  ∧ (∀ (s : State) (a : Access) (v : Word),
    a.world = true ∧ s.admitsWrite a 0x20000804 ∧ bits v.toNat 31 16 = 0x5A3C ∧ bits v.toNat 2 0 = 2 →
    s.m.rd F.SYSCTL_LC_STAT_PEND = 0 ∧ s.m.rd F.HST_SUP_STAT_VAUX_STATE = 0 ∧ s.m.rd F.HST_SUP_STAT_HOLDUP_WEAK = 0 →
    s.m.activeInDuplex = false →
    s.m.rd F.SYSCTL_LC_STATE_STATE = 1 →
    exec (.lcReqField a v) s = s.to ({ s.m.ok.wr F.SYSCTL_LC_STAT_PEND 1 with boot := { s.m.boot with lcNext := some 2 } }))
  ∧ (∀ (s : State) (a : Access) (v : Word),
    s.admitsWrite a 0x20000804 ∧ bits v.toNat 31 16 = 0x5A3C ∧ bits v.toNat 2 0 = 2 →
    s.m.rd F.SYSCTL_LC_STAT_PEND = 0 ∧ s.m.rd F.HST_SUP_STAT_VAUX_STATE = 0 ∧ s.m.rd F.HST_SUP_STAT_HOLDUP_WEAK = 0 →
    s.m.activeInDuplex = false →
    s.m.rd F.SYSCTL_LC_STATE_STATE = 3 →
    exec (.lcReqField a v) s = s.to (s.m.moduleReset F.SYSCTL_RST_CAUSE_LC_CHANGE))
  ∧ (∀ (s : State) (a : Access) (v : Word),
    (a.world = true ∨ a.ini = 0x3F) →
    s.admitsWrite a 0x20000804 ∧ bits v.toNat 31 16 = 0x5A3C ∧ bits v.toNat 2 0 = 5 →
    s.m.rd F.SYSCTL_LC_STAT_PEND = 0 ∧ s.m.rd F.HST_SUP_STAT_VAUX_STATE = 0 ∧ s.m.rd F.HST_SUP_STAT_HOLDUP_WEAK = 0 →
    s.m.activeInDuplex = false →
    (s.m.rd F.SYSCTL_LC_STATE_STATE = 0 ∨ s.m.rd F.SYSCTL_LC_STATE_STATE = 4) →
    exec (.lcReqEnd a v) s = s.to ({ s.m.ok.wr F.SYSCTL_LC_STAT_PEND 1 with boot := { s.m.boot with lcNext := some 5 } }))
  ∧ (∀ (s : State) (a : Access) (v : Word),
    a.world = true ∧ s.admitsWrite a 0x20000804 ∧ bits v.toNat 31 16 = 0x5A3C ∧ bits v.toNat 2 0 = 5 →
    s.m.rd F.SYSCTL_LC_STAT_PEND = 0 ∧ s.m.rd F.HST_SUP_STAT_VAUX_STATE = 0 ∧ s.m.rd F.HST_SUP_STAT_HOLDUP_WEAK = 0 →
    s.m.activeInDuplex = false →
    (s.m.rd F.SYSCTL_LC_STATE_STATE = 1 ∨ s.m.rd F.SYSCTL_LC_STATE_STATE = 2) →
    exec (.lcReqEnd a v) s = s.to ({ s.m.ok.wr F.SYSCTL_LC_STAT_PEND 1 with boot := { s.m.boot with lcNext := some 5 } }))
  ∧ (∀ (s : State) (a : Access) (v : Word),
    a.world = true ∧ s.admitsWrite a 0x20000804 ∧ bits v.toNat 31 16 = 0x5A3C ∧ bits v.toNat 2 0 = 4 →
    s.m.rd F.SYSCTL_LC_STAT_PEND = 0 ∧ s.m.rd F.HST_SUP_STAT_VAUX_STATE = 0 ∧ s.m.rd F.HST_SUP_STAT_HOLDUP_WEAK = 0 →
    s.m.activeInDuplex = false →
    (s.m.rd F.SYSCTL_LC_STATE_STATE = 1 ∨ s.m.rd F.SYSCTL_LC_STATE_STATE = 2) →
    ∃ t, exec (.lcReqReturn a v) s = s.to t
      ∧ (if (s.m.tokenRead s.otp).any (fun w => bit (w.getD 10 0) 16) then t.rd F.SYSCTL_LC_STAT_PEND = 1
      ∧ t.boot = { s.m.boot with lcNext := some 4 } else t.rd F.SYSCTL_LC_STAT_STATUS = 2 ∧ t.boot = s.m.boot)
      ∧ t.fresh = s.m.fresh + 8
      ∧ t = { s.m with regs := t.regs, resp := {}, boot := t.boot, fresh := t.fresh })
  ∧ (∀ (s : State) (a : Access) (v : Word),
    s.admitsWrite a 0x20000804 ∧ bits v.toNat 31 16 = 0x5A3C ∧ bits v.toNat 2 0 = 3 →
    s.m.rd F.SYSCTL_LC_STAT_PEND = 0 ∧ s.m.rd F.HST_SUP_STAT_VAUX_STATE = 0 ∧ s.m.rd F.HST_SUP_STAT_HOLDUP_WEAK = 0 →
    s.m.activeInDuplex = false →
    s.m.rd F.SYSCTL_LC_STATE_STATE = 2 →
    ∃ t, exec (.lcReqFieldDebug a v) s = s.to t
      ∧ (if (s.m.tokenRead s.otp).isSome then t.rd F.SYSCTL_RST_CAUSE_LC_CHANGE = 1 ∧ t.boot.entry = true
      ∧ t.boot.grant = (s.m.tokenRead s.otp).map (fun w => (bits (w.getD 10 0) 15 0, bits (w.getD 11 0) 10 0))
      else t.rd F.SYSCTL_LC_STAT_STATUS = 2 ∧ t.boot = s.m.boot)
      ∧ t.fresh = s.m.fresh + 8
      ∧ t.nvm = s.m.nvm)
  ∧ (∀ (s : State) (a : Access) (v : Word),
    s.admitsWrite a 0x20000804 ∧ bits v.toNat 31 16 = 0x5A3C ∧ bits v.toNat 2 0 = 0 →
    s.m.rd F.SYSCTL_LC_STAT_PEND = 0 ∧ s.m.rd F.HST_SUP_STAT_VAUX_STATE = 0 ∧ s.m.rd F.HST_SUP_STAT_HOLDUP_WEAK = 0 →
    s.m.activeInDuplex = false →
    exec (.lcReqManufacture a v) s = s.to (s.m.ok.wr F.SYSCTL_LC_STAT_STATUS 2))
  ∧ (∀ (s : State) (a : Access) (v : Word),
    s.genuine a 1 →
    exec (.lcReqProvisioned a v) s = s.to (s.m.lcAccess s.otp a v.toNat))
  ∧ (∀ (s : State) (a : Access) (v : Word),
    s.genuine a 1 →
    exec (.lcReqField a v) s = s.to (s.m.lcAccess s.otp a v.toNat))
  ∧ (∀ (s : State) (a : Access) (v : Word),
    s.genuine a 1 →
    exec (.lcReqEnd a v) s = s.to (s.m.lcAccess s.otp a v.toNat))
  ∧ (∀ (s : State) (a : Access) (v : Word),
    s.genuine a 1 →
    exec (.lcReqReturn a v) s = s.to (s.m.lcAccess s.otp a v.toNat))
  ∧ (∀ (s : State) (a : Access) (v : Word),
    s.genuine a 1 →
    exec (.lcReqFieldDebug a v) s = s.to (s.m.lcAccess s.otp a v.toNat))
  ∧ (∀ (s : State) (a : Access) (v : Word),
    s.genuine a 1 →
    exec (.lcReqManufacture a v) s = s.to (s.m.lcAccess s.otp a v.toNat))

/-- R158, R159, R161: LC_OTP_PROGRAM_DONE, DBG_GRANT_EXPIRY and OWNER_SLOT_REVOKE. Where the manual leaves its words open, the statement takes the model's reading (log entry 21). -/
def Obligations.FusesOfTheLifeCycle : Prop :=
  (∀ (s : State) (x b : Nat),
    s.m.boot.lcNext = some x →
    ((x = 1 ∧ b = 1) ∨ (x = 2 ∧ b = 2) ∨ (x = 4 ∧ b = 4) ∨ (x = 5 ∧ b = 8)) →
    exec (.lcOtpProgramDone) s = .next ({ s with
      otp := { s.otp with lc0 := s.otp.lc0 ||| b, lc1 := s.otp.lc1 ||| b, lc2 := s.otp.lc2 ||| b }
      m := s.m.moduleReset F.SYSCTL_RST_CAUSE_LC_CHANGE }))
  ∧ (∀ (s : State),
    s.m.rd F.SYSCTL_LC_STATE_STATE = 3 →
    s.m.rd F.SYSCTL_DBG_GRANT_MINUTES_LEFT = 0 →
    exec (.dbgGrantExpiry) s = s.to (s.m.moduleReset F.SYSCTL_RST_CAUSE_LC_CHANGE))
  ∧ (∀ (s : State) (a : Access) (v : Word),
    a.world = true →
    s.admitsWrite a 0x20000838 →
    s.m.rd F.SYSCTL_LC_STATE_STATE ≠ 5 →
    (s.otp.trustedMap = 0 ∨ ({ s.otp with revoked := s.otp.revoked ||| bits v.toNat 11 8 } : Otp).trustedMap ≠ 0) →
    exec (.ownerSlotRevoke a v) s = .next ({ s with
      otp := { s.otp with revoked := s.otp.revoked ||| bits v.toNat 11 8 }
      m := s.m.ok.showOwner { s.otp with revoked := s.otp.revoked ||| bits v.toNat 11 8 } }))
  ∧ (∀ (s : State),
    exec (.lcOtpProgramDone) s = .next ({ s with
      otp := (Module.lcProgramDone s.otp s.m).1
      m := (Module.lcProgramDone s.otp s.m).2 }))
  ∧ (∀ (s : State) (a : Access) (v : Word),
    s.genuine a 1 →
    exec (.ownerSlotRevoke a v) s = .next ({ s with
      otp := (Module.ownerRevoke s.otp s.m a v.toNat).1
      m := (Module.ownerRevoke s.otp s.m a v.toNat).2 }))

/-- R187, R190, R250: FAST_SHORT and THERMAL_SHUTDOWN of a conducting channel. Where the manual leaves its words open, the statement takes the model's reading (log entry 8). -/
def Obligations.ProtectionTripsTurnOff : Prop :=
  (∀ (s : State) (c : Fin 128),
    (s.m.chan c.val).conducting = true →
    ∃ t, exec (.fastShort c) s = s.to t
      ∧ (t.chan c.val).phase = .turningOff true ∧ (t.chan c.val).cause = 1 ∧ (t.chan c.val).protOff = true
      ∧ (t.chan c.val).window = none ∧ (t.chan c.val).pwm = none
      ∧ (t.chan c.val).retryLeft = (s.m.chan c.val).retryLeft - 1
      ∧ (t.chan c.val).exhausted = ((s.m.chan c.val).exhausted || (s.m.chan c.val).retryLeft == 0)
      ∧ (t.chan c.val).backoff = ((s.m.chan c.val).backoff || (s.m.chan c.val).retryLeft != 0)
      ∧ (t.chan c.val).cmd = (if (s.m.chan c.val).retryLeft = 0 then .off else (s.m.chan c.val).cmd)
      ∧ bit (t.rd F.CHC_CH_EVT_EVT c.val) 16 = true
      ∧ Module.onlyChannel c.val { s.m with hst := t.hst } t)
  ∧ (∀ (s : State) (c : Fin 128),
    (s.m.chan c.val).conducting = true →
    ∃ t, exec (.thermalShutdown c) s = s.to t
      ∧ (t.chan c.val).phase = .turningOff false ∧ (t.chan c.val).cause = 3 ∧ (t.chan c.val).protOff = true
      ∧ (t.chan c.val).thermLatch = true ∧ (t.chan c.val).window = none ∧ (t.chan c.val).pwm = none
      ∧ (t.chan c.val).retryLeft = (s.m.chan c.val).retryLeft ∧ (t.chan c.val).exhausted = (s.m.chan c.val).exhausted
      ∧ bit (t.rd F.CHC_CH_EVT_EVT c.val) 16 = true
      ∧ Module.onlyChannel c.val { s.m with hst := t.hst } t)
  ∧ (∀ (s : State) (c : Fin 128),
    (s.m.chan c.val).conducting = false ∧ (s.m.chan c.val).pwm ≠ none →
    ∃ t, exec (.thermalShutdown c) s = s.to t
      ∧ (t.chan c.val).phase = (s.m.chan c.val).phase ∧ (t.chan c.val).cause = 3 ∧ (t.chan c.val).protOff = true
      ∧ (t.chan c.val).thermLatch = true ∧ (t.chan c.val).window = none ∧ (t.chan c.val).pwm = none
      ∧ bit (t.rd F.CHC_CH_EVT_EVT c.val) 16 = true
      ∧ Module.onlyChannel c.val { s.m with hst := t.hst } t)
  ∧ (∀ (s : State) (c : Fin 128),
    exec (.fastShort c) s = s.to (s.m.trip c.val 1 true))
  ∧ (∀ (s : State) (c : Fin 128),
    exec (.thermalShutdown c) s = s.to ((s.m.setChan c.val (fun c => { c with thermLatch := true })).trip c.val 3 false))

/-- R175, R177, R190, R191: the latches and the reverse switch. Where the manual leaves its words open, the statement takes the model's reading (log entry 8). -/
def Obligations.LatchesAndReverseSwitch : Prop :=
  (∀ (s : State) (c : Fin 128),
    ∃ t, exec (.thermalLatchClear c) s = s.to t
      ∧ t.chan c.val = { s.m.chan c.val with thermLatch := false }
      ∧ Module.onlyChannel c.val s.m t)
  ∧ (∀ (s : State) (g : Fin 4) (k : Fin 8),
    ∃ t, exec (.clusterWarnSet g k) s = s.to t
      ∧ (∀ n ∈ List.range 128, t.chan n = (if n / 4 = 8 * g.val + k.val then { s.m.chan n with clusterWarn := true }
      else s.m.chan n))
      ∧ t = { s.m with regs := t.regs, chc := { s.m.chc with chans := t.chc.chans } })
  ∧ (∀ (s : State) (g : Fin 4) (k : Fin 8),
    ∃ t, exec (.clusterWarnClear g k) s = s.to t
      ∧ (∀ n ∈ List.range 128, t.chan n = (if n / 4 = 8 * g.val + k.val then { s.m.chan n with clusterWarn := false }
      else s.m.chan n))
      ∧ t = { s.m with regs := t.regs, chc := { s.m.chc with chans := t.chc.chans } })
  ∧ (∀ (s : State) (c : Fin 128),
    (s.m.chan c.val).conducting = true →
    ∃ t, exec (.reverseSwitchOff c) s = s.to t
      ∧ t.chan c.val = { s.m.chan c.val with reverse := true, swTest := false }
      ∧ Module.onlyChannel c.val s.m t)
  ∧ (∀ (s : State) (c : Fin 128),
    ∃ t, exec (.reverseSwitchOn c) s = s.to t
      ∧ t.chan c.val = { s.m.chan c.val with reverse := false }
      ∧ Module.onlyChannel c.val s.m t)
  ∧ (∀ (s : State) (c : Fin 128),
    (s.m.chan c.val).phase = .on ∧ (s.m.chan c.val).pwm = none ∧ (s.m.chan c.val).reverse = false →
    Module.tenPercent c.val (s.m.chan c.val) = true →
    s.m.rd F.HST_SUP_STAT_VAUX_STATE ≠ 1 →
    (s.m.chan c.val).onAt + 10000 ≤ s.m.now →
    ∃ t, exec (.reverseSwitchTest c) s = s.to t
      ∧ t.chan c.val = { s.m.chan c.val with swTest := true }
      ∧ Module.onlyChannel c.val s.m t)
  ∧ (∀ (s : State) (c : Fin 128) (mv : Nat),
    (s.m.chan c.val).swTest = true →
    ∃ t, exec (.reverseSwitchTestEnd c mv) s = s.to t
      ∧ t.chan c.val = { s.m.chan c.val with swTest := false, swFail := decide (mv < 300) }
      ∧ Module.onlyChannel c.val s.m t)

/-- R212, R227, R234, R238, R248, R251, R252: the timers and comparators of a channel. Where the manual leaves its words open, the statement takes the model's reading (log entry 8). -/
def Obligations.ChannelTimersAndComparators : Prop :=
  (∀ (s : State) (c : Fin 128) (h : Bool),
    (s.m.chan c.val).phase = .turningOff h →
    ∃ t, exec (.turnOffComplete c) s = s.to t
      ∧ t.chan c.val = { s.m.chan c.val with
      phase := .off
      offAt := s.m.now
      backoffFrom := if (s.m.chan c.val).backoff then some ((s.m.chan c.val).backoffFrom.getD s.m.now) else none }
      ∧ Module.onlyChannel c.val s.m t)
  ∧ (∀ (s : State) (c : Fin 128),
    (s.m.chan c.val).phase = .turningOn →
    s.m.dpx.engaging = false →
    ∃ t, exec (.turnOnComplete c) s = s.to t
      ∧ t.chan c.val = { s.m.chan c.val with phase := .on, onAt := s.m.now }
      ∧ Module.onlyChannel c.val s.m t)
  ∧ (∀ (s : State) (c : Fin 128),
    (s.m.chan c.val).phase = .turningOn →
    exec (.turnOnComplete c) s = s.to ((s.m.setChan c.val (fun x => { x with phase := .on, onAt := s.m.now })).engageEnd))
  ∧ (∀ (s : State) (c : Fin 128),
    (s.m.chan c.val).conducting = true ∧ (s.m.chan c.val).pwm = none ∧ (s.m.chan c.val).iUc ≠ 0 →
    12500 ≤ (s.m.chan c.val).ucRun →
    ∃ t, exec (.undercurrentTimer c) s = s.to t
      ∧ t.chan c.val = { s.m.chan c.val with undercurrent := (s.m.chan c.val).ucLow }
      ∧ Module.onlyChannel c.val s.m t)
  ∧ (∀ (s : State) (c : Fin 128) (w : InrushWindow),
    (s.m.chan c.val).window = some w →
    (Module.envEnd w.profile : Int) ≤ Module.envTime w 8000 ∧ Module.limitReached c.val w = false →
    ∃ t, exec (.inrushWindowEnd c) s = s.to t
      ∧ t.chan c.val = { s.m.chan c.val with window := none, limiting := false, steadyAt := some s.m.now }
      ∧ Module.onlyChannel c.val s.m t)
  ∧ (∀ (s : State) (c : Fin 128) (w : InrushWindow),
    (s.m.chan c.val).window = some w ∧ (s.m.chan c.val).conducting = true →
    (Module.envEnd w.profile : Int) ≤ Module.envTime w 8000 ∧ Module.limitReached c.val w = true →
    ∃ t, exec (.inrushWindowEnd c) s = s.to t
      ∧ (t.chan c.val).phase = .turningOff false ∧ (t.chan c.val).cause = 2 ∧ (t.chan c.val).limitEnd = true
      ∧ (t.chan c.val).window = none ∧ (t.chan c.val).limiting = false
      ∧ Module.onlyChannel c.val { s.m with hst := t.hst } t)
  ∧ (∀ (s : State) (c : Fin 128) (w : InrushWindow),
    (s.m.chan c.val).window = some w →
    w.profile.limit = true ∧ classOf c.val ≠ .l ∧ (s.m.chan c.val).conducting = true →
    ∃ t, exec (.limitEngage c) s = s.to t
      ∧ t.chan c.val = { s.m.chan c.val with limiting := true }
      ∧ Module.onlyChannel c.val s.m t)
  ∧ (∀ (s : State) (c : Fin 128),
    ∃ t, exec (.limitRelease c) s = s.to t
      ∧ t.chan c.val = { s.m.chan c.val with limiting := false }
      ∧ Module.onlyChannel c.val s.m t)
  ∧ (∀ (s : State) (c : Fin 128),
    (s.m.chan c.val).fwWatch = true →
    ((s.m.chan c.val).phase = .turningOff true ∨ (s.m.chan c.val).phase = .turningOff false
      ∨ ((s.m.chan c.val).phase = .off ∧ s.m.now ≤ (s.m.chan c.val).offAt + 1000)) →
    ∃ t, exec (.fwMissing c) s = s.to t
      ∧ t.chan c.val = { s.m.chan c.val with fwMissing := true, cmd := .off, pwm := none, firstEdge := false, window := none, steadyAt := none }
      ∧ Module.onlyChannel c.val s.m t)
  ∧ (∀ (s : State) (c : Fin 128) (f : Nat),
    (s.m.chan c.val).backoffFrom = some f ∧ f + (s.m.chan c.val).backoffUs ≤ s.m.now →
    ∃ t, exec (.backoffExpiry c) s = s.to t
      ∧ t.chan c.val = { s.m.chan c.val with backoff := false, backoffFrom := none }
      ∧ Module.onlyChannel c.val s.m t)
  ∧ (∀ (s : State) (c : Fin 128) (f : Nat),
    (s.m.chan c.val).cmd ≠ .off ∧ (s.m.chan c.val).window = none →
    (s.m.chan c.val).steadyAt = some f ∧ f + 10000000 ≤ s.m.now →
    ∃ t, exec (.retryReload c) s = s.to t
      ∧ t.chan c.val = { s.m.chan c.val with retryLeft := (s.m.chan c.val).retryMax }
      ∧ Module.onlyChannel c.val s.m t)

/-- R208–R211: DIAG_CYCLE_START, SUPPLY_CHECK_END and OPEN_LOAD_CHECK_END. Where the manual leaves its words open, the statement takes the model's reading (log entries 8 and 44). -/
def Obligations.DiagnosticsOfAnOffChannel : Prop :=
  (∀ (s : State) (c : Fin 128),
    s.m.diagEligible c.val = true →
    ∃ t, exec (.diagCycleStart c) s = s.to t
      ∧ t.chan c.val = { s.m.chan c.val with diag := .supply true 0 }
      ∧ Module.onlyChannel c.val s.m t)
  ∧ (∀ (s : State) (c : Fin 128) (e : Bool) (k : Nat),
    (s.m.chan c.val).diag = .supply e k ∧ 25 ≤ k →
    ∃ t, exec (.supplyCheckEnd c) s = s.to t
      ∧ t.chan c.val = { Module.supplyReading (s.m.chan c.val) e (! s.m.inDuplex || (s.m.dpx.mirrored && tget 0 s.m.dpx.peerCmd c.val == 0)) with diag := if e = false ∧ (s.m.chan c.val).olDiag = true then .openLoad s.m.now else .none }
      ∧ Module.onlyChannel c.val { s.m with dpx := t.dpx } t)
  ∧ (∀ (s : State) (c : Fin 128) (k : Nat),
    (s.m.chan c.val).diag = .supply true k ∧ 25 ≤ k →
    (s.m.chan c.val).shortToSupply = false ∧ (s.m.chan c.val).stsRun = 2 →
    s.m.rd F.DPX_CFG_EN = 0 →
    ∃ t, exec (.supplyCheckEnd c) s = s.to t
      ∧ t.chan c.val = { s.m.chan c.val with shortToSupply := true, stsRun := 0, diag := .none }
      ∧ Module.onlyChannel c.val { s.m with dpx := t.dpx } t)
  ∧ (∀ (s : State) (c : Fin 128) (openReading : Bool) (f : Nat),
    (s.m.chan c.val).diag = .openLoad f ∧ f + 1000 ≤ s.m.now →
    ∃ t, exec (.openLoadCheckEnd c openReading) s = s.to t
      ∧ t.chan c.val = (if openReading = (s.m.chan c.val).openLoad
      then { s.m.chan c.val with olRun := 0, diag := .none } else if 2 ≤ (s.m.chan c.val).olRun
      then { s.m.chan c.val with openLoad := openReading, olRun := 0, diag := .none }
      else { s.m.chan c.val with olRun := (s.m.chan c.val).olRun + 1, diag := .none })
      ∧ Module.onlyChannel c.val { s.m with dpx := t.dpx } t)

/-- R241, R242, R254: CHANNEL_RESTART, PWM_ON_EDGE and PWM_OFF_EDGE. Where the manual leaves its words open, the statement takes the model's reading (log entries 8 and 24). -/
def Obligations.RestartAndPwmEdges : Prop :=
  (∀ (s : State) (c : Fin 128),
    (s.m.chan c.val).cmd = .on ∧ (s.m.chan c.val).phase = .off ∧ (s.m.chan c.val).pwm = none →
    s.m.mayTurnOn c.val = true →
    ∃ t, exec (.channelRestart c) s = s.to t
      ∧ (t.chan c.val).phase = .turningOn ∧ (t.chan c.val).window = some (s.m.newWindow c.val 0)
      ∧ (t.chan c.val).protOff = false ∧ (t.chan c.val).cmd = .on
      ∧ Module.onlyChannel c.val s.m t)
  ∧ (∀ (s : State) (c : Fin 128) (p d ns : Nat),
    (s.m.chan c.val).cmd = .pwm p d ∧ (s.m.chan c.val).phase = .off ∧ (s.m.chan c.val).pwm = some (p, d) →
    Module.effDuty (s.m.profileOf (s.m.chan c.val)).slew p d ≠ 0 ∧ s.m.onGrid c.val p = true →
    s.m.drives = true ∧ s.m.vsUv c.val = false →
    (s.m.chan c.val).exhausted = false ∧ (s.m.chan c.val).fwMissing = false ∧ (s.m.chan c.val).latched = false →
    ∃ t, exec (.pwmOnEdge c ns) s = s.to t
      ∧ (t.chan c.val).phase = .turningOn ∧ (t.chan c.val).pwm = some (p, d)
      ∧ Module.onlyChannel c.val s.m t)
  ∧ (∀ (s : State) (c : Fin 128) (p d ns : Nat),
    (s.m.chan c.val).cmd = .pwm p d ∧ (s.m.chan c.val).phase = .off ∧ (s.m.chan c.val).pwm = none →
    Module.effDuty (s.m.profileOf (s.m.chan c.val)).slew p d ≠ 0 ∧ s.m.onGrid c.val p = true →
    s.m.mayTurnOn c.val = true →
    ∃ t, exec (.pwmOnEdge c ns) s = s.to t
      ∧ (t.chan c.val).phase = .turningOn ∧ (t.chan c.val).pwm = some (p, d)
      ∧ (t.chan c.val).window = some (s.m.newWindow c.val ns)
      ∧ Module.onlyChannel c.val s.m t)
  ∧ (∀ (s : State) (c : Fin 128) (p d q ns : Nat),
    (s.m.chan c.val).cmd = .pwm p d ∧ (s.m.chan c.val).conducting = true ∧ (s.m.chan c.val).pwm = some (q, d) →
    Module.effDuty (s.m.profileNow (s.m.chan c.val)).slew p d ≠ 0 ∧ s.m.onGrid c.val q = true →
    ∃ t, exec (.pwmOnEdge c ns) s = s.to t
      ∧ (t.chan c.val).phase = (s.m.chan c.val).phase ∧ (t.chan c.val).pwm = some (p, d)
      ∧ Module.onlyChannel c.val s.m t)
  ∧ (∀ (s : State) (c : Fin 128) (p d ns : Nat),
    (s.m.chan c.val).cmd = .on ∧ (s.m.chan c.val).conducting = true ∧ (s.m.chan c.val).pwm = some (p, d) →
    s.m.onGrid c.val p = true →
    ∃ t, exec (.pwmOnEdge c ns) s = s.to t
      ∧ t.chan c.val = { s.m.chan c.val with pwm := none }
      ∧ Module.onlyChannel c.val s.m t)
  ∧ (∀ (s : State) (c : Fin 128) (p d : Nat),
    (s.m.chan c.val).pwm = some (p, d) ∧ (s.m.chan c.val).conducting = true →
    Module.effDuty (s.m.profileNow (s.m.chan c.val)).slew p d < 1000 →
    (s.m.chan c.val).edgeAt + p * d / 1000 ≤ s.m.now →
    ∃ t, exec (.pwmOffEdge c) s = s.to t
      ∧ (t.chan c.val).phase = .turningOff false ∧ (t.chan c.val).window = (s.m.chan c.val).window
      ∧ (t.chan c.val).pwm = some (p, d)
      ∧ Module.onlyChannel c.val s.m t)
  ∧ (∀ (s : State) (c : Fin 128),
    exec (.channelRestart c) s = s.to (s.m.restart c.val))
  ∧ (∀ (s : State) (c : Fin 128) (ns : Nat),
    exec (.pwmOnEdge c ns) s = s.to (s.m.pwmEdge c.val ns))
  ∧ (∀ (s : State) (c : Fin 128),
    exec (.pwmOffEdge c) s = s.to (s.m.pwmOffEdge c.val))

/-- R183–R219, R262: SWEEP_SLOT_SAMPLE, WIRE_MODEL_STEP, GROUP_EVALUATION, GROUP_LOSS_ESTIMATE, VS_REF_REFILL and SWEEP_BOUNDARY. Where the manual leaves its words open, the statement takes the model's reading (log entries 22 and 23). -/
def Obligations.SamplesAndModels : Prop :=
  (∀ (s : State) (c : Fin 128) (x : Int) (energised low : Bool) (vout : Nat),
    ((s.m.chan c.val).ocCount < 2 ∨ s.m.overThreshold c.val x (decide (4095 ≤ x) || decide (x ≤ -512)) = false) →
    (s.m.chan c.val).ocCount < 3 →
    ∃ t, exec (.sweepSlotSample (.current c x energised low vout)) s = s.to t
      ∧ (t.chan c.val).sample = x ∧ (t.chan c.val).sat = (decide (4095 ≤ x) || decide (x ≤ -512))
      ∧ (t.chan c.val).energised = energised ∧ (t.chan c.val).low = low
      ∧ (t.chan c.val).vout = (if c.val % 32 / 16 = s.m.rd F.CHC_SWEEP_NUM % 2 then vout else (s.m.chan c.val).vout)
      ∧ (t.chan c.val).sqOwn = (s.m.chan c.val).sqOwn + (if (s.m.chan c.val).phase = .off then 0 else x.natAbs * x.natAbs)
      ∧ (t.chan c.val).phase = (s.m.chan c.val).phase ∧ (t.chan c.val).window = (s.m.chan c.val).window
      ∧ Module.onlyChannel c.val s.m t)
  ∧ (∀ (s : State) (c : Fin 128) (x : Int) (energised low : Bool) (vout : Nat),
    -512 < x ∧ x < 4095 →
    (s.m.chan c.val).phase = .on ∧ (s.m.chan c.val).pwm = none ∧ (s.m.chan c.val).window = none →
    (s.m.chan c.val).ocCount = 2 ∧ Module.exceeds c.val (s.m.chan c.val) x none 0 = true →
    ∃ t, exec (.sweepSlotSample (.current c x energised low vout)) s = s.to t
      ∧ (t.chan c.val).phase = .turningOff false ∧ (t.chan c.val).cause = 2 ∧ (t.chan c.val).protOff = true
      ∧ Module.onlyChannel c.val { s.m with hst := t.hst } t)
  ∧ (∀ (s : State) (g : Fin 4) (vs : Nat),
    (∀ p ∈ List.range 32, (s.m.chan (32 * g.val + p)).window = none) →
    ∃ t, exec (.sweepSlotSample (.supply g vs)) s = s.to t
      ∧ (t.grp g.val).vs = vs ∧ (t.grp g.val).droop = Module.isDroop (s.m.grp g.val).vsConv vs
      ∧ t = { s.m with chc := { s.m.chc with groups := t.chc.groups } })
  ∧ (∀ (s : State) (g : Fin 4) (vs : Nat),
    ∃ t, exec (.sweepSlotSample (.supply g vs)) s = s.to t
      ∧ (t.grp g.val).vs = vs ∧ (t.grp g.val).droop = Module.isDroop (s.m.grp g.val).vsConv vs
      ∧ (∀ n ∈ List.range 128, n / 32 ≠ g.val → t.chan n = s.m.chan n)
      ∧ t.mem = s.m.mem)
  ∧ (∀ (s : State) (tj : List Int),
    s.m.rd F.CHC_STAT_RUN = 0 →
    exec (.wireModelStep tj) s = s.to (s.m.diagUpdate))
  ∧ (∀ (s : State) (tj : List Int),
    s.m.rd F.CHC_STAT_RUN = 1 →
    ∃ t, exec (.wireModelStep tj) s = s.to t
      ∧ (∀ n ∈ List.range 128, (t.chan n).theta = wireStep (s.m.chan n).wireXs (s.m.chan n).theta
      (s.m.ambient (s.m.chan n)).1 (s.m.chan n).sq.toNat (lsbOf (classOf n)))
      ∧ (∀ n ∈ List.range 128, (t.chan n).sq = min (s.m.chan n).sq 0 ∧ (t.chan n).tj = tj.getD n 0)
      ∧ t.mem = s.m.mem)
  ∧ (∀ (s : State),
    ∃ t, exec (.groupEvaluation) s = s.to t
      ∧ (∀ g ∈ List.range 4, t.rd F.CHC_GRP_RMS_RMS_1S g
      = sat 16 (isqrt (meanOf 1000 (((s.m.grp g).sq :: (s.m.grp g).sqMs).take 1000) / 125) / 160))
      ∧ (∀ g ∈ List.range 4, t.rd F.CHC_GRP_RMS_RMS_10MS g
      = sat 16 (isqrt (meanOf 10 (((s.m.grp g).sq :: (s.m.grp g).sqMs).take 1000) / 125) / 160))
      ∧ (∀ g ∈ List.range 4, (t.grp g).sq = 0))
  ∧ (∀ (s : State),
    ∃ t, exec (.groupLossEstimate) s = s.to t
      ∧ (∀ g ∈ List.range 4, t.rd F.CHC_GRP_LOSS_MW g = sat 16 (s.m.groupLossMw g))
      ∧ (∀ g ∈ List.range 4, (t.grp g).loss = decide (7500 < s.m.groupLossMw g))
      ∧ (∀ n ∈ List.range 128, t.chan n = { s.m.chan n with grpLoss := decide (7500 < s.m.groupLossMw (n / 32)) }))
  ∧ (∀ (s : State) (g : Fin 4),
    1250 ≤ (s.m.grp g.val).droopRun →
    exec (.vsRefRefill g) s = s.to (s.m.setGrp g.val { s.m.grp g.val with vsConv := [], droopRun := 0, droop := false }))
  ∧ (∀ (s : State),
    s.m.running 4 = true →
    ∃ t, exec (.sweepBoundary false) s = s.to t
      ∧ t.rd F.CHC_SWEEP_NUM = (s.m.rd F.CHC_SWEEP_NUM + 1) % 2 ^ F.CHC_SWEEP_NUM.width)
  ∧ (∀ (s : State) (tj : List Int),
    exec (.wireModelStep tj) s = s.to ((s.m.wireStepAll tj).diagUpdate))
  ∧ (∀ (s : State) (missed : Bool),
    exec (.sweepBoundary missed) s = s.to (s.m.sweepEnd missed))

/-- R274–R277, R284, R285: the submission of each of the seven commands. Where the manual leaves its words open, the statement takes the model's reading (log entry 24). -/
def Obligations.ChannelCommandsAreQueued : Prop :=
  (∀ (s : State) (a : Access) (i : Fin 16) (chan : Fin 128) (resv : Fin 32) (seq : BitVec 16),
    s.admitsWrite a (Module.chiAddr i.val 4) →
    s.m.chiRefusal i.val seq.toNat = none →
    ∃ t, exec (.chOn a i chan resv seq) s = s.to t
      ∧ s.m.queues i.val ⟨1, chan.val, resv.val, seq.toNat, s.m.rd F.CHI_CMD_ARG_ARG i.val⟩ t
      ∧ Module.regsBut [F.CHI_SEQ_NEXT_SEQ.key i.val 0 0, F.CHI_STATE_STATE.key i.val 0 0] s.m t)
  ∧ (∀ (s : State) (a : Access) (i : Fin 16) (chan : Fin 128) (resv : Fin 32) (seq : BitVec 16),
    s.admitsWrite a (Module.chiAddr i.val 4) →
    s.m.chiRefusal i.val seq.toNat = none →
    ∃ t, exec (.chOff a i chan resv seq) s = s.to t
      ∧ s.m.queues i.val ⟨2, chan.val, resv.val, seq.toNat, s.m.rd F.CHI_CMD_ARG_ARG i.val⟩ t
      ∧ Module.regsBut [F.CHI_SEQ_NEXT_SEQ.key i.val 0 0, F.CHI_STATE_STATE.key i.val 0 0] s.m t)
  ∧ (∀ (s : State) (a : Access) (i : Fin 16) (chan : Fin 128) (resv : Fin 32) (seq : BitVec 16),
    s.admitsWrite a (Module.chiAddr i.val 4) →
    s.m.chiRefusal i.val seq.toNat = none →
    ∃ t, exec (.chPwm a i chan resv seq) s = s.to t
      ∧ s.m.queues i.val ⟨3, chan.val, resv.val, seq.toNat, s.m.rd F.CHI_CMD_ARG_ARG i.val⟩ t
      ∧ Module.regsBut [F.CHI_SEQ_NEXT_SEQ.key i.val 0 0, F.CHI_STATE_STATE.key i.val 0 0] s.m t)
  ∧ (∀ (s : State) (a : Access) (i : Fin 16) (chan : Fin 128) (resv : Fin 32) (seq : BitVec 16),
    s.admitsWrite a (Module.chiAddr i.val 4) →
    s.m.chiRefusal i.val seq.toNat = none →
    ∃ t, exec (.chSetProfile a i chan resv seq) s = s.to t
      ∧ s.m.queues i.val ⟨4, chan.val, resv.val, seq.toNat, s.m.rd F.CHI_CMD_ARG_ARG i.val⟩ t
      ∧ Module.regsBut [F.CHI_SEQ_NEXT_SEQ.key i.val 0 0, F.CHI_STATE_STATE.key i.val 0 0] s.m t)
  ∧ (∀ (s : State) (a : Access) (i : Fin 16) (chan : Fin 128) (resv : Fin 32) (seq : BitVec 16),
    s.admitsWrite a (Module.chiAddr i.val 4) →
    s.m.chiRefusal i.val seq.toNat = none →
    ∃ t, exec (.chClearFault a i chan resv seq) s = s.to t
      ∧ s.m.queues i.val ⟨5, chan.val, resv.val, seq.toNat, s.m.rd F.CHI_CMD_ARG_ARG i.val⟩ t
      ∧ Module.regsBut [F.CHI_SEQ_NEXT_SEQ.key i.val 0 0, F.CHI_STATE_STATE.key i.val 0 0] s.m t)
  ∧ (∀ (s : State) (a : Access) (i : Fin 16) (chan : Fin 128) (resv : Fin 32) (seq : BitVec 16),
    s.admitsWrite a (Module.chiAddr i.val 4) →
    s.m.chiRefusal i.val seq.toNat = none →
    ∃ t, exec (.chHold a i chan resv seq) s = s.to t
      ∧ s.m.queues i.val ⟨6, chan.val, resv.val, seq.toNat, s.m.rd F.CHI_CMD_ARG_ARG i.val⟩ t
      ∧ Module.regsBut [F.CHI_SEQ_NEXT_SEQ.key i.val 0 0, F.CHI_STATE_STATE.key i.val 0 0] s.m t)
  ∧ (∀ (s : State) (a : Access) (i : Fin 16) (chan : Fin 128) (resv : Fin 32) (seq : BitVec 16),
    s.admitsWrite a (Module.chiAddr i.val 4) →
    s.m.chiRefusal i.val seq.toNat = none →
    ∃ t, exec (.chCalibrate a i chan resv seq) s = s.to t
      ∧ s.m.queues i.val ⟨7, chan.val, resv.val, seq.toNat, s.m.rd F.CHI_CMD_ARG_ARG i.val⟩ t
      ∧ Module.regsBut [F.CHI_SEQ_NEXT_SEQ.key i.val 0 0, F.CHI_STATE_STATE.key i.val 0 0] s.m t)
  ∧ (∀ (s : State) (a : Access) (i : Fin 16) (chan : Fin 128) (resv : Fin 32) (seq : BitVec 16),
    s.genuine a 1 →
    exec (.chOn a i chan resv seq) s = s.to (s.m.chiCommand a i.val 1 chan.val resv.val seq.toNat))
  ∧ (∀ (s : State) (a : Access) (i : Fin 16) (chan : Fin 128) (resv : Fin 32) (seq : BitVec 16),
    s.genuine a 1 →
    exec (.chOff a i chan resv seq) s = s.to (s.m.chiCommand a i.val 2 chan.val resv.val seq.toNat))
  ∧ (∀ (s : State) (a : Access) (i : Fin 16) (chan : Fin 128) (resv : Fin 32) (seq : BitVec 16),
    s.genuine a 1 →
    exec (.chPwm a i chan resv seq) s = s.to (s.m.chiCommand a i.val 3 chan.val resv.val seq.toNat))
  ∧ (∀ (s : State) (a : Access) (i : Fin 16) (chan : Fin 128) (resv : Fin 32) (seq : BitVec 16),
    s.genuine a 1 →
    exec (.chSetProfile a i chan resv seq) s = s.to (s.m.chiCommand a i.val 4 chan.val resv.val seq.toNat))
  ∧ (∀ (s : State) (a : Access) (i : Fin 16) (chan : Fin 128) (resv : Fin 32) (seq : BitVec 16),
    s.genuine a 1 →
    exec (.chClearFault a i chan resv seq) s = s.to (s.m.chiCommand a i.val 5 chan.val resv.val seq.toNat))
  ∧ (∀ (s : State) (a : Access) (i : Fin 16) (chan : Fin 128) (resv : Fin 32) (seq : BitVec 16),
    s.genuine a 1 →
    exec (.chHold a i chan resv seq) s = s.to (s.m.chiCommand a i.val 6 chan.val resv.val seq.toNat))
  ∧ (∀ (s : State) (a : Access) (i : Fin 16) (chan : Fin 128) (resv : Fin 32) (seq : BitVec 16),
    s.genuine a 1 →
    exec (.chCalibrate a i chan resv seq) s = s.to (s.m.chiCommand a i.val 7 chan.val resv.val seq.toNat))

/-- R283, R285, R287, R305: WATCHDOG_KICK, INSTANCE_EXPIRY and CHI_CPL_READ. Where the manual leaves its words open, the statement takes the model's reading (log entries 8 and 24). -/
def Obligations.CommandWatchdogAndCompletions : Prop :=
  (∀ (s : State) (a : Access) (i : Fin 16) (v : Word),
    s.admitsWrite a (Module.chiAddr i.val 0x1C) →
    v.toNat % 2 ^ 16 = 0x4B1C →
    s.m.rd F.CHI_STATE_STATE i.val ≠ 1 →
    s.m.chiQuiesced i.val = false →
    exec (.watchdogKick a i v) s = s.to (s.m.ok.setChi i.val { s.m.chi i.val with leftUs := s.m.rd F.CHI_WDT_TIMEOUT i.val * 1000 }))
  ∧ (∀ (s : State) (i : Fin 16),
    s.m.chiQuiesced i.val = false ∧ s.m.rd F.CHI_STATE_STATE i.val ≠ 3 ∧ s.m.drives = true →
    (s.m.chi i.val).leftUs = 0 ∧ s.m.rd F.CHC_STAT_RUN = 1 →
    ∃ t, exec (.instanceExpiry i) s = s.to t
      ∧ t.rd F.CHI_STATE_STATE i.val = 3 ∧ (t.chi i.val).leftUs = 0 ∧ t.flag F.CHI_IRQ_STAT_EXPIRED i.val = true
      ∧ (∀ n ∈ List.range 128, (s.m.chan n).owned = false ∨ (s.m.chan n).owner ≠ i.val → t.chan n = s.m.chan n)
      ∧ (∀ n ∈ List.range 128, (s.m.chan n).owned = true → (s.m.chan n).owner = i.val → (s.m.chan n).failState = 1
      → (t.chan n).cmd = .off ∧ (t.chan n).conducting = false)
      ∧ t.mem = s.m.mem)
  ∧ (∀ (s : State) (a : Access) (i : Fin 16) (e : ChiCpl) (r : List ChiCpl),
    s.admitsRead a (Module.chiAddr i.val 0x10) →
    commitsAtOnce a →
    (s.m.chi i.val).fifo = e :: r →
    ∃ t, exec (.chiCplRead a i) s = s.to t
      ∧ t.resp = { status := 0, data := e.seq + e.status * 2 ^ 16 + e.op % 16 * 2 ^ 24 + 2 ^ 31 }
      ∧ (t.chi i.val) = { s.m.chi i.val with fifo := r }
      ∧ t.rd F.CHI_CPL_X_CHANNEL i.val = e.chan % 2 ^ F.CHI_CPL_X_CHANNEL.width
      ∧ t.rd F.CHI_CPL_X_DETAIL i.val = e.detail % 2 ^ F.CHI_CPL_X_DETAIL.width
      ∧ t.rd F.CHI_CPL_X_SWEEP i.val = e.sweep % 2 ^ F.CHI_CPL_X_SWEEP.width
      ∧ Module.regsBut [F.CHI_CPL_X_CHANNEL.key i.val 0 0, F.CHI_CPL_X_DETAIL.key i.val 0 0, F.CHI_CPL_X_SWEEP.key i.val 0 0]
      s.m t
      ∧ t = { s.m with resp := t.resp, regs := t.regs, chc := { s.m.chc with insts := t.chc.insts } })
  ∧ (∀ (s : State) (a : Access) (i : Fin 16),
    s.admitsRead a (Module.chiAddr i.val 0x10) →
    commitsAtOnce a →
    (s.m.chi i.val).fifo = [] →
    exec (.chiCplRead a i) s = s.to (s.m.ok))
  ∧ (∀ (s : State) (i : Fin 16),
    exec (.instanceExpiry i) s = s.to (s.m.chiExpire i.val))
  ∧ (∀ (s : State) (a : Access) (i : Fin 16),
    s.genuine a 0 →
    exec (.chiCplRead a i) s = s.to ((s.m.cplRead a i.val).pairFault a 0))

/-- R279, R280: the execution of a queued command at a sweep boundary (a statement about the operation that SWEEP_BOUNDARY uses). Where the manual leaves its words open, the statement takes the model's reading (log entry 24). -/
def Obligations.SweepExecutesACommand : Prop :=
  ∀ (m : Module) (i : Nat) (c : ChiCmd) (r : List ChiCmd), i < 16 → c.chan < 128 →
      (m.chi i).queue = c :: r → m.chiFree i = true → m.drives = true →
      let t := (m.chiExecute i).1
      (m.chiExecute i).2 = true ∧ (t.chi i).queue = r
      ∧ (∀ st d, m.cmdFails i c = some (st, d) →
      t.chc.chans = m.chc.chans
      ∧ (t.chi i).fifo = (m.chi i).fifo ++ [⟨c.seq, st, c.op, c.chan, d, m.rd F.CHC_SWEEP_NUM % 2 ^ 20⟩])
      ∧ (c.op = 2 → m.cmdFails i c = none →
      (t.chan c.chan).cmd = .off ∧ (t.chan c.chan).conducting = false
      ∧ (t.chi i).fifo = (m.chi i).fifo ++ [⟨c.seq, 0, 2, c.chan, 0, m.rd F.CHC_SWEEP_NUM % 2 ^ 20⟩])
      ∧ (c.op = 1 → m.cmdFails i c = none →
      (t.chan c.chan).cmd = .on
      ∧ (t.chi i).fifo = (m.chi i).fifo ++ [⟨c.seq, 0, 1, c.chan, 0, m.rd F.CHC_SWEEP_NUM % 2 ^ 20⟩])

/-- R296, R297, R299, R302: LOAD, LOAD_DONE, SWAP and CALIBRATION_PHASE_END. Where the manual leaves its words open, the statement takes the model's reading (log entry 25). -/
def Obligations.MicrocodeAndCalibration : Prop :=
  (∀ (s : State) (a : Access) (v : Word),
    s.admitsWrite a 0x20200030 →
    a.world = true →
    v.toNat / 2 ^ 16 = 0x6D31 ∧ v.toNat.testBit 0 = true ∧ v.toNat.testBit 1 = false →
    s.m.rd F.CHC_UC_STAT_PEND = 0 →
    ∃ t, exec (.ucLoad a v) s = s.to t
      ∧ t.flag F.CHC_STAT_LOADED = false ∧ t.rd F.CHC_UC_STAT_PEND = 1 ∧ t.chc = { s.m.chc with ucJob := .load }
      ∧ Module.regsBut [F.CHC_STAT_LOADED.key 0 0 0, F.CHC_UC_STAT_PEND.key 0 0 0] s.m t
      ∧ t = { s.m.ok with regs := t.regs, chc := t.chc })
  ∧ (∀ (s : State),
    s.m.chc.ucJob = .load →
    ∃ t, exec (.ucLoadDone) s = s.to t
      ∧ t.rd F.CHC_UC_STAT_PEND = 0 ∧ t.rd F.CHC_EVT_LOAD_DONE = 1 ∧ t.chc.ucJob = .none
      ∧ t.rd F.CHC_STAT_BANK = s.m.rd F.CHC_STAT_BANK
      ∧ t.chc.chans = s.m.chc.chans ∧ t.chc.insts = s.m.chc.insts
      ∧ (if s.m.rd F.CHC_STAT_BANK = 0 then t.chc.code0 = s.m.chc.code0 else t.chc.code1 = s.m.chc.code1))
  ∧ (∀ (s : State) (a : Access) (v : Word),
    s.admitsWrite a 0x20200030 →
    a.world = true →
    v.toNat / 2 ^ 16 = 0x6D31 ∧ v.toNat.testBit 0 = false ∧ v.toNat.testBit 1 = true →
    s.m.rd F.CHC_UC_STAT_PEND = 0 →
    exec (.ucSwap a v) s = s.to (if s.m.flag F.CHC_STAT_LOADED
      then { s.m.ok.wr F.CHC_UC_STAT_PEND 1 with chc := { s.m.chc with ucJob := .swap } }
      else s.m.ok.wr F.CHC_UC_STAT_STATUS 0x10))
  ∧ (∀ (s : State) (gain offset : Int) (span : Nat),
    s.m.rd F.CHC_CAL_STAT_CAL_ADC < 8 ∧ s.m.flag F.CHC_STAT_CAL_STOPPED = false →
    s.m.chc.calShadow = false →
    exec (.calibrationPhaseEnd gain offset span) s = s.to ({ s.m with chc := { s.m.chc with calShadow := true } }))
  ∧ (∀ (s : State) (gain offset : Int) (span : Nat),
    s.m.rd F.CHC_CAL_STAT_CAL_ADC < 8 ∧ s.m.flag F.CHC_STAT_CAL_STOPPED = false →
    s.m.chc.calShadow = true →
    (4 * span < 4095 ∨ (gain - signed 16 (s.m.rd F.CHC_CAL_CORR_GAIN (s.m.rd F.CHC_CAL_STAT_CAL_ADC))).natAbs ≤ 5242) →
    (offset - signed 16 (s.m.rd F.CHC_CAL_CORR_OFFSET (s.m.rd F.CHC_CAL_STAT_CAL_ADC))).natAbs ≤ 64 →
    ∃ t, exec (.calibrationPhaseEnd gain offset span) s = s.to t
      ∧ t.rd F.CHC_CAL_CORR_GAIN (s.m.rd F.CHC_CAL_STAT_CAL_ADC) = (if 4095 ≤ 4 * span then unsigned 16 gain % 2 ^ 16
      else s.m.rd F.CHC_CAL_CORR_GAIN (s.m.rd F.CHC_CAL_STAT_CAL_ADC))
      ∧ t.rd F.CHC_CAL_CORR_OFFSET (s.m.rd F.CHC_CAL_STAT_CAL_ADC) = unsigned 16 offset % 2 ^ 16
      ∧ t.rd F.CHC_CAL_STAT_FAULT = s.m.rd F.CHC_CAL_STAT_FAULT ∧ t.chc.calShadow = false
      ∧ t.chc.chans = s.m.chc.chans)
  ∧ (∀ (s : State) (gain offset : Int) (span : Nat),
    s.m.rd F.CHC_CAL_STAT_CAL_ADC < 8 ∧ s.m.flag F.CHC_STAT_CAL_STOPPED = false →
    s.m.chc.calShadow = true →
    64 < (offset - signed 16 (s.m.rd F.CHC_CAL_CORR_OFFSET (s.m.rd F.CHC_CAL_STAT_CAL_ADC))).natAbs →
    ∃ t, exec (.calibrationPhaseEnd gain offset span) s = s.to t
      ∧ t.rd F.CHC_CAL_CORR_GAIN (s.m.rd F.CHC_CAL_STAT_CAL_ADC) = s.m.rd F.CHC_CAL_CORR_GAIN (s.m.rd F.CHC_CAL_STAT_CAL_ADC)
      ∧ (t.rd F.CHC_CAL_STAT_FAULT).testBit (s.m.rd F.CHC_CAL_STAT_CAL_ADC) = true
      ∧ t.rd F.CHC_STAT_CAL_STOPPED = 1 ∧ t.rd F.CHC_EVT_CAL_FAULT = 1 ∧ t.chc.chans = s.m.chc.chans)
  ∧ (∀ (s : State) (a : Access) (v : Word),
    s.admitsWrite a 0x20200030 ∧ a.world = true →
    exec (.ucLoad a v) s = s.to (s.m.ok.ucControl (bit v.toNat 0) (bit v.toNat 1) (bits v.toNat 31 16)))
  ∧ (∀ (s : State),
    exec (.ucLoadDone) s = s.to (s.m.ucLoadEnd))
  ∧ (∀ (s : State) (a : Access) (v : Word),
    s.admitsWrite a 0x20200030 ∧ a.world = true →
    exec (.ucSwap a v) s = s.to (s.m.ok.ucControl (bit v.toNat 0) (bit v.toNat 1) (bits v.toNat 31 16)))
  ∧ (∀ (s : State) (gain : Int) (offset : Int) (span : Nat),
    exec (.calibrationPhaseEnd gain offset span) s = s.to (s.m.calPhaseEnd gain offset span))

/-- R309, R313, R316, R826, R827: UIN_FRAME, UIN_CFG_WRITE, UIN_NTC_WRITE, SHUNT_OPEN and SHUNT_RECLOSE. Where the manual leaves its words open, the statement takes the model's reading (log entry 26). -/
def Obligations.UniversalInputs : Prop :=
  (∀ (s : State) (a : Access) (n : Fin 64) (v : Word),
    s.admitsWrite a (0x20300000 + 4 * n.val) →
    ∃ t, exec (.uinCfgWrite a n v) s = s.to t
      ∧ t.rd F.UIN_CFG_MODE n.val = v.toNat % 8 ∧ t.rd F.UIN_CFG_THRESH n.val = v.toNat / 2 ^ 3 % 2 ^ 9
      ∧ t.rd F.UIN_CFG_HYST n.val = v.toNat / 2 ^ 12 % 2 ^ 5 ∧ t.rd F.UIN_CFG_FILT n.val = v.toNat / 2 ^ 17 % 2 ^ 4
      ∧ t.rd F.UIN_CFG_DEBOUNCE n.val = v.toNat / 2 ^ 21 % 2 ^ 7 ∧ t.rd F.UIN_CFG_INVERT n.val = v.toNat / 2 ^ 28 % 2
      ∧ t.rd F.UIN_CFG_NTC_SET n.val = v.toNat / 2 ^ 30 ∧ t.rd F.UIN_VAL_VALID n.val = 0
      ∧ t.uinIn n.val = { s.m.uinIn n.val with resv := v.toNat.testBit 29, changed := true }
      ∧ (∀ k ∈ List.range 64, k ≠ n.val → t.uinIn k = s.m.uinIn k)
      ∧ t = { s.m.ok with regs := t.regs, uin := { s.m.uin with ins := t.uin.ins } })
  ∧ (∀ (s : State) (a : Access) (k : Fin 4) (isB : Bool) (v : Word),
    s.admitsWrite a (0x20300800 + 8 * k.val + 4 * b2n isB) →
    exec (.uinNtcWrite a k isB v) s = s.to (if isB then s.m.ok.wr F.UIN_NTC_B_KELVIN (v.toNat % 2 ^ 16) k.val
      else s.m.ok.wr F.UIN_NTC_R25_OHM (v.toNat % 2 ^ 24) k.val))
  ∧ (∀ (s : State) (xs : List UinSample),
    s.m.running 5 = true ∧ s.m.sys.blkRst ≠ some 5 →
    ∃ t, exec (.uinFrame xs) s = s.to t
      ∧ t.rd F.UIN_STAT_FRAME = (s.m.rd F.UIN_STAT_FRAME + 1) % 2 ^ F.UIN_STAT_FRAME.width
      ∧ (∀ n ∈ List.range 64, (t.uinIn n).word = s.m.uinWord n ∧ (t.uinIn n).changed = false)
      ∧ t = { s.m with regs := t.regs, uin := t.uin })
  ∧ (∀ (s : State) (x : UinSample),
    s.m.running 5 = true ∧ s.m.sys.blkRst ≠ some 5 →
    (Module.uinMode (s.m.uinIn x.n.val) = 1 ∨ Module.uinMode (s.m.uinIn x.n.val) = 6) →
    ∃ t, exec (.uinFrame [x]) s = s.to t
      ∧ t.rd F.UIN_PULSE_COUNT x.n.val = (s.m.rd F.UIN_PULSE_COUNT x.n.val + x.edges) % 2 ^ F.UIN_PULSE_COUNT.width)
  ∧ (∀ (s : State) (n : Fin 64),
    s.m.flag F.UIN_STAT_EXCITE = true →
    Module.uinMode (s.m.uinIn n.val) = 5 →
    exec (.shuntOpen n) s = s.to (s.m.setUin n.val { s.m.uinIn n.val with shuntOpen := true }))
  ∧ (∀ (s : State) (n : Fin 64),
    s.m.flag F.UIN_STAT_EXCITE = true →
    exec (.shuntReclose n) s = s.to (s.m.setUin n.val { s.m.uinIn n.val with shuntOpen := false }))
  ∧ (∀ (s : State) (xs : List UinSample),
    exec (.uinFrame xs) s = s.to (s.m.uinFrame xs))

/-- R329, R335, R338, R342, R343: WINDOW_COMPARE, WINDOW_TIMEOUT and WFI_WAKE. Where the manual leaves its words open, the statement takes the model's reading (log entry 27). -/
def Obligations.WindowsCommitOrReplay : Prop :=
  (∀ (s : State) (w : WindowEnd) (p : Nat),
    s.m.hosted w.pair.val = some p →
    s.m.rd F.LSS_PART_STATE p = 1 ∧ (s.m.pair w.pair.val).wfi = false ∧ s.m.windowOk w.pair.val w = true →
    (s.m.pairState w.pair.val = 6 ∨ (signature w.sigA = signature w.sigB ∧ w.cpA = w.cpB)) →
    exec (.windowCompare w) s = .next (({ s with m := s.m.windowEntered w }).windowCommit w.pair.val (some p)
      ((s.m.pair w.pair.val).held ++ w.stores.filter (s.m.storeAllowed w.pair.val)) (w.next.filter (s.m.storeAllowed w.pair.val)) w))
  ∧ (∀ (s : State) (w : WindowEnd),
    s.m.hosted w.pair.val = none ∧ s.m.pairState w.pair.val = 6 →
    (s.m.pair w.pair.val).wfi = false ∧ s.m.windowOk w.pair.val w = true →
    exec (.windowCompare w) s = .next (({ s with m := s.m.windowEntered w }).windowCommit w.pair.val none
      ((s.m.pair w.pair.val).held ++ w.stores.filter (s.m.storeAllowed w.pair.val)) (w.next.filter (s.m.storeAllowed w.pair.val)) w))
  ∧ (∀ (s : State) (w : WindowEnd) (p : Nat),
    s.m.hosted w.pair.val = some p →
    s.m.rd F.LSS_PART_STATE p = 1 ∧ (s.m.pair w.pair.val).wfi = false ∧ s.m.windowOk w.pair.val w = true →
    signature w.sigA = signature w.sigB ∧ w.cpA = w.cpB →
    ((s.m.pair w.pair.val).held ++ w.stores).all (fun x => x.kind == .pairLocal || x.kind == .pairReg) = true →
    ∃ t, exec (.windowCompare w) s = s.to t
      ∧ (t.pair w.pair.val).seq = ((s.m.pair w.pair.val).seq + 1) % 2 ^ 32
      ∧ (t.pair w.pair.val).restore = w.cpA ∧ (t.pair w.pair.val).other = (s.m.pair w.pair.val).restore
      ∧ (t.pair w.pair.val).replaying = false ∧ (t.pair w.pair.val).wfi = (w.early == some .wfi)
      ∧ (t.pair w.pair.val).held = w.next.filter (s.m.storeAllowed w.pair.val)
      ∧ t.rd F.LSS_PAIR_EARLY_COUNT w.pair.val
      = (s.m.rd F.LSS_PAIR_EARLY_COUNT w.pair.val + b2n w.early.isSome) % 2 ^ F.LSS_PAIR_EARLY_COUNT.width
      ∧ (∀ k ∈ List.range 4, k ≠ w.pair.val → t.pair k = s.m.pair k)
      ∧ (w.stores = [] → (s.m.pair w.pair.val).held = [] → t.mem = s.m.mem)
      ∧ (∀ r ∈ t.reads, r.pair ≠ w.pair.val))
  ∧ (∀ (s : State) (w : WindowEnd) (p : Nat) (x : HeldStore),
    s.m.hosted w.pair.val = some p →
    s.m.rd F.LSS_PART_STATE p = 1 ∧ (s.m.pair w.pair.val).wfi = false ∧ s.m.windowOk w.pair.val w = true →
    signature w.sigA = signature w.sigB ∧ w.cpA = w.cpB →
    (s.m.pair w.pair.val).held = [] ∧ w.stores = [x] ∧ w.next = [] →
    x.kind = .memView ∧ x.mask = 0xF ∧ s.m.storeAllowed w.pair.val x = true →
    0x10000000 ≤ x.addr ∧ x.addr + 4 ≤ 0x11000000 ∧ x.addr % 4 = 0 ∧ s.m.mem.clean →
    s.admitsMem (Module.pairAccess w.pair.val p) x.addr 4 1 →
    ∃ t, exec (.windowCompare w) s = s.to t
      ∧ t.mem = s.m.mem.putBytes x.addr (toBytes 4 x.data.toNat)
      ∧ (t.pair w.pair.val).seq = ((s.m.pair w.pair.val).seq + 1) % 2 ^ 32 ∧ (t.pair w.pair.val).restore = w.cpA)
  ∧ (∀ (s : State) (w : WindowEnd) (p : Nat),
    s.m.hosted w.pair.val = some p →
    s.m.rd F.LSS_PART_STATE p = 1 ∧ (s.m.pair w.pair.val).wfi = false ∧ s.m.windowOk w.pair.val w = true →
    s.m.pairState w.pair.val = 3 →
    (signature w.sigA ≠ signature w.sigB ∨ w.cpA ≠ w.cpB) →
    p < 16 ∧ (s.m.pair w.pair.val).replaying = false ∧ s.m.replayAllowed w.pair.val →
    ∃ t, exec (.windowCompare w) s = s.to t
      ∧ (t.pair w.pair.val).seq = (s.m.pair w.pair.val).seq ∧ (t.pair w.pair.val).restore = (s.m.pair w.pair.val).restore
      ∧ (t.pair w.pair.val).replaying = true ∧ (t.pair w.pair.val).held = [] ∧ (t.pair w.pair.val).other = w.cpA
      ∧ t.rd F.LSS_PAIR_REPLAY_TOTAL w.pair.val
      = (s.m.rd F.LSS_PAIR_REPLAY_TOTAL w.pair.val + 1) % 2 ^ F.LSS_PAIR_REPLAY_TOTAL.width
      ∧ t.rd F.LSS_LOC_EVT_REPLAYED p = 1
      ∧ (∀ k ∈ List.range 4, k ≠ w.pair.val → t.pair k = s.m.pair k)
      ∧ (s.m.reads = [] → t = { s.m with regs := t.regs, lss := { s.m.lss with pairs := t.lss.pairs }, hst := t.hst }))
  ∧ (∀ (s : State) (pair : Fin 4) (p : Nat),
    s.m.hosted pair.val = some p →
    s.m.pairState pair.val = 3 ∧ (s.m.pair pair.val).wfi = false →
    p < 16 ∧ (s.m.pair pair.val).replaying = false ∧ s.m.replayAllowed pair.val →
    ∃ t, exec (.windowTimeout pair) s = s.to t
      ∧ (t.pair pair.val).seq = (s.m.pair pair.val).seq ∧ (t.pair pair.val).restore = (s.m.pair pair.val).restore
      ∧ (t.pair pair.val).replaying = true ∧ (t.pair pair.val).held = [] ∧ t.rd F.LSS_LOC_EVT_REPLAYED p = 1
      ∧ (∀ k ∈ List.range 4, k ≠ pair.val → t.pair k = s.m.pair k))
  ∧ (∀ (s : State) (pair : Fin 4) (p : Nat),
    s.m.hosted pair.val = some p →
    s.m.pairState pair.val = 3 ∧ (s.m.pair pair.val).wfi = false →
    p < 16 ∧ (s.m.pair pair.val).replaying = true →
    ∃ t, exec (.windowTimeout pair) s = s.to t
      ∧ t.rd F.LSS_PAIR_STAT_FAIL_CAUSE pair.val = 1 ∧ (t.rd F.LSS_EVT_FAULT).testBit pair.val = true
      ∧ (s.m.lss.mig = none → ∀ k ∈ List.range 4, k ≠ pair.val → t.pair k = s.m.pair k)
      ∧ (s.m.reads = [] → t = { s.m with regs := t.regs, lss := t.lss, hst := t.hst }))
  ∧ (∀ (s : State) (pair : Fin 4),
    exec (.wfiWake pair) s = s.to (s.m.setPair pair.val { s.m.pair pair.val with wfi := false }))
  ∧ (∀ (s : State) (pair : Fin 4),
    exec (.windowTimeout pair) s = s.to (s.m.mismatch pair.val))
  ∧ (∀ (s : State) (w : WindowEnd),
    exec (.windowCompare w) s = .next (s.windowCompare w))

/-- R327, R336, R341: AMO_TO_VIEW and COMMITTED_WRITE_ERROR. Where the manual leaves its words open, the statement takes the model's reading (log entry 27). -/
def Obligations.PairAtomicsAndWriteErrors : Prop :=
  (∀ (s : State) (pair : Fin 4) (p : Nat) (op : AmoOp) (addr x : Word) (mB aB : DWord) (u : PView) (pa : Nat),
    s.m.hosted pair.val = some p →
    addr.toNat % 4 = 0 ∧ 0x20000 < addr.toNat + 4 →
    (s.m.pairViews pair.val).find? (fun u => decide (u.vbase ≤ addr.toNat) && decide (addr.toNat + 4 ≤ u.vbase + u.size)) = some u →
    u.perm.testBit 1 = true ∧ (u.perm.testBit 0 = true ∨ op = .sc true ∨ op = .sc false) →
    (s.m.pairState pair.val ≠ 3 ∨ (mB = reqWordM (Module.amoRequest op addr x u.device) ∧ aB = reqWordA (Module.amoRequest op addr x u.device))) →
    pa = u.pbase + (addr.toNat - u.vbase) →
    s.m.mem.clean ∧ s.m.pbr.sems = [] →
    0x10000000 ≤ pa ∧ pa + 4 ≤ 0x11000000 ∧ pa % 4 = 0 →
    s.admitsMem (Module.pairAccess pair.val p) pa 4 0 ∧ s.admitsMem (Module.pairAccess pair.val p) pa 4 1 →
    ∃ t, exec (.amoToView pair op addr x mB aB) s = s.to t
      ∧ t.mem = (match Module.amoResult op (BitVec.ofNat 32 (s.m.mem.word pa)) x with
      | some v => s.m.mem.putBytes pa (toBytes 4 v.toNat)
      | none => s.m.mem)
      ∧ t.resp = { status := 0, data := (match op with
      | .sc held => if held then 0 else 1
      | _ => s.m.mem.word pa) }
      ∧ t = { s.m with mem := t.mem, resp := t.resp })
  ∧ (∀ (s : State) (pair : Fin 4) (p : Nat) (op : AmoOp) (addr x : Word) (mB aB : DWord) (u : PView),
    s.m.hosted pair.val = some p →
    addr.toNat % 4 = 0 ∧ 0x20000 < addr.toNat + 4 →
    (s.m.pairViews pair.val).find? (fun u => decide (u.vbase ≤ addr.toNat) && decide (addr.toNat + 4 ≤ u.vbase + u.size)) = some u →
    u.perm.testBit 1 = true ∧ (u.perm.testBit 0 = true ∨ op = .sc true ∨ op = .sc false) →
    (s.m.pairState pair.val ≠ 3 ∨ (mB = reqWordM (Module.amoRequest op addr x u.device) ∧ aB = reqWordA (Module.amoRequest op addr x u.device))) →
    Module.isWindow (u.pbase + (addr.toNat - u.vbase)) = true →
    exec (.amoToView pair op addr x mB aB) s = s.to (s.m.windowAtomic (Module.pairAccess pair.val p) (Module.bridgeOp op) (u.pbase + (addr.toNat - u.vbase)) (toBytes 4 x.toNat)))
  ∧ (∀ (s : State) (pair : Fin 4) (p : Nat) (op : AmoOp) (addr x : Word) (mB aB : DWord) (u : PView),
    s.m.hosted pair.val = some p ∧ s.m.pairState pair.val = 3 →
    addr.toNat % 4 = 0 ∧ 0x20000 < addr.toNat + 4 →
    (s.m.pairViews pair.val).find? (fun u => decide (u.vbase ≤ addr.toNat) && decide (addr.toNat + 4 ≤ u.vbase + u.size)) = some u →
    u.perm.testBit 1 = true ∧ (u.perm.testBit 0 = true ∨ op = .sc true ∨ op = .sc false) →
    (Module.isWindow (u.pbase + (addr.toNat - u.vbase)) = true ∨ Module.memOf (u.pbase + (addr.toNat - u.vbase)) ≠ none) →
    (mB ≠ reqWordM (Module.amoRequest op addr x u.device) ∨ aB ≠ reqWordA (Module.amoRequest op addr x u.device)) →
    exec (.amoToView pair op addr x mB aB) s = s.to (s.m.mismatch pair.val))
  ∧ (∀ (s : State) (pair : Fin 4) (p : Nat) (op : AmoOp) (addr x : Word) (mB aB : DWord),
    s.m.hosted pair.val = some p ∧ addr.toNat % 4 = 0 ∧ addr.toNat + 4 ≤ 0x20000 →
    exec (.amoToView pair op addr x mB aB) s = s.to (s.m.amoLocal pair.val (Module.pairAccess pair.val p) op addr.toNat x))
  ∧ (∀ (s : State) (pair : Fin 4) (p addr : Nat) (status : Fin 256),
    s.m.hosted pair.val = some p ∧ p < 16 →
    ∃ t, exec (.committedWriteError pair addr status) s = s.to t
      ∧ t.rd F.LSS_WERR_ADDR_ADDR = addr % 2 ^ F.LSS_WERR_ADDR_ADDR.width ∧ t.rd F.LSS_WERR_INFO_STATUS = status.val
      ∧ t.rd F.LSS_WERR_INFO_PAIR = pair.val ∧ t.rd F.LSS_WERR_INFO_PART = p % 2 ^ F.LSS_WERR_INFO_PART.width
      ∧ t.rd F.LSS_WERR_INFO_COUNT = sat F.LSS_WERR_INFO_COUNT.width (s.m.rd F.LSS_WERR_INFO_COUNT + 1)
      ∧ t.rd F.LSS_LOC_EVT_WERR p = 1 ∧ t.rd F.LSS_EVT_WERR = 1
      ∧ t = { s.m with regs := t.regs, hst := t.hst }
      ∧ Module.regsBut [F.LSS_WERR_ADDR_ADDR.key 0 0 0, F.LSS_WERR_INFO_STATUS.key 0 0 0, F.LSS_WERR_INFO_PAIR.key 0 0 0,
      F.LSS_WERR_INFO_PART.key 0 0 0, F.LSS_WERR_INFO_COUNT.key 0 0 0, F.LSS_LOC_EVT_WERR.key p 0 0,
      F.LSS_EVT_WERR.key 0 0 0] s.m t)
  ∧ (∀ (s : State) (pair : Fin 4) (op : AmoOp) (addr : Word) (data : Word) (mB : DWord) (aB : DWord),
    exec (.amoToView pair op addr data mB aB) s = s.to (s.m.amoToView pair.val op addr data mB aB))
  ∧ (∀ (s : State) (pair : Fin 4) (addr : Nat) (status : Fin 256),
    exec (.committedWriteError pair addr status) s = s.to (match s.m.hosted pair.val with | some p => s.m.writeError pair.val p addr status.val | none => s.m))

/-- R351, R357, R358: the seven requests of LSS_CTRL. Where the manual leaves its words open, the statement takes the model's reading (log entry 28). -/
def Obligations.PairRequests : Prop :=
  (∀ (s : State) (a : Access) (v : Word) (n : Fin 4),
    s.admitsWrite a 0x20F00050 →
    a.world = true ∧ a.ini ≠ 0x3F →
    v.toNat / 2 ^ 16 = 0x4C53 ∧ v.toNat % 2 ^ 4 = 1 ∧ v.toNat / 2 ^ 4 % 4 = n.val →
    s.m.flag F.LSS_CTRL_STAT_PEND = false →
    (s.m.pairState n.val = 1 ∨ s.m.pairState n.val = 2 ∨ s.m.pairState n.val = 5) →
    s.m.lss.mig.any (fun g => g.dst == n.val || g.src == n.val) = false →
    exec (.lssSelftest a v) s = s.to ((s.m.ok.wr F.LSS_CTRL_STAT_PEND 1).toTest n.val (if s.m.pairState n.val = 5 then .selftestFailed else .settle) true))
  ∧ (∀ (s : State) (a : Access) (v : Word) (n : Fin 4),
    s.admitsWrite a 0x20F00050 →
    a.world = true ∧ a.ini ≠ 0x3F →
    v.toNat / 2 ^ 16 = 0x4C53 ∧ v.toNat % 2 ^ 4 = 2 ∧ v.toNat / 2 ^ 4 % 4 = n.val →
    s.m.flag F.LSS_CTRL_STAT_PEND = false →
    (s.m.pairState n.val = 5 ∨ (s.m.pairState n.val = 6 ∧ s.m.hosted n.val = none)) →
    ∃ t, exec (.lssRestore a v) s = s.to t
      ∧ t.pairState n.val = 0 ∧ (t.pair n.val).after = .restore ∧ (t.pair n.val).answers = true
      ∧ t.rd F.LSS_PAIR_STAT_FAIL_CAUSE n.val = 0 ∧ t.rd F.LSS_PAIR_STAT_LOCKSTEP_BROKEN n.val = 0
      ∧ t.rd F.LSS_CTRL_STAT_PEND = 1
      ∧ (∀ k ∈ List.range 4, k ≠ n.val → t.pair k = s.m.pair k)
      ∧ (∀ o, o < 0x20000 → t.mem.byte (MemSt.lpBase n.val + o) = 0))
  ∧ (∀ (s : State) (a : Access) (v : Word) (p : Fin 16),
    s.admitsWrite a 0x20F00050 →
    a.world = true ∧ a.ini ≠ 0x3F →
    v.toNat / 2 ^ 16 = 0x4C53 ∧ v.toNat % 2 ^ 4 = 3 ∧ v.toNat / 2 ^ 8 % 16 = p.val →
    s.m.flag F.LSS_CTRL_STAT_PEND = false →
    s.m.movable p.val = true ∧ s.m.sparePair.isSome = true →
    exec (.lssMove a v) s = s.to (if (s.m.pair (s.m.rd F.LSS_PART_PAIR p.val)).wfi = false
      then { s.m.ok.wr F.LSS_CTRL_STAT_PEND 1 with lss := { s.m.lss with moveReq := some (1, p.val) } }
      else ({ s.m.ok.wr F.LSS_CTRL_STAT_PEND 1 with lss := { s.m.lss with moveReq := some (1, p.val) } }).moveStart p.val
      (s.m.rd F.LSS_PART_PAIR p.val)))
  ∧ (∀ (s : State) (a : Access) (v : Word) (n : Fin 4),
    s.admitsWrite a 0x20F00050 →
    a.world = true ∧ a.ini ≠ 0x3F →
    v.toNat / 2 ^ 16 = 0x4C53 ∧ v.toNat % 2 ^ 4 = 4 ∧ v.toNat / 2 ^ 4 % 4 = n.val →
    s.m.flag F.LSS_CTRL_STAT_PEND = false →
    s.m.splitRefusal n.val = none →
    ∃ t, exec (.lssSplit a v) s = s.to t
      ∧ t.pairState n.val = 6 ∧ t.rd F.LSS_PAIR_STAT_LOCKSTEP_BROKEN n.val = 1
      ∧ t.rd F.LSS_EVT_SPLIT = 1 ∧ t.rd F.LSS_CTRL_STAT_PEND = 0 ∧ t.rd F.LSS_CTRL_STAT_STATUS = 0
      ∧ t = { s.m.ok with regs := t.regs })
  ∧ (∀ (s : State) (a : Access) (v : Word) (f : Nat),
    s.admitsWrite a 0x20F00050 →
    a.world = true ∧ a.ini ≠ 0x3F →
    v.toNat / 2 ^ 16 = 0x4C53 ∧ v.toNat % 2 ^ 4 = 5 →
    s.m.flag F.LSS_CTRL_STAT_PEND = false →
    s.m.sparePair = some f ∧ s.m.lss.mig = none →
    ∃ t, exec (.lssLoan a v) s = s.to t
      ∧ t.pairState f = 4 ∧ t.rd F.LSS_CTRL_STAT_PEND = 0 ∧ t.rd F.LSS_CTRL_STAT_STATUS = 0
      ∧ Module.onlyRegs [F.LSS_CTRL_STAT_PEND.key 0 0 0, F.LSS_CTRL_STAT_STATUS.key 0 0 0,
      F.LSS_PAIR_STAT_STATE.key f 0 0, F.LSS_PAIR_STAT_PART.key f 0 0, F.LSS_PAIR_STAT_WINDOW.key f 0 0] s.m t)
  ∧ (∀ (s : State) (a : Access) (v : Word) (p : Fin 16),
    s.admitsWrite a 0x20F00050 →
    a.world = true ∧ a.ini ≠ 0x3F →
    v.toNat / 2 ^ 16 = 0x4C53 ∧ v.toNat % 2 ^ 4 = 6 ∧ v.toNat / 2 ^ 8 % 16 = p.val →
    s.m.flag F.LSS_CTRL_STAT_PEND = false →
    s.m.movable p.val = true ∧ ((List.range 4).find? (fun k => s.m.pairState k == 4)).isSome = true →
    exec (.lssAdopt a v) s = s.to (if (s.m.pair (s.m.rd F.LSS_PART_PAIR p.val)).wfi = false
      then { s.m.ok.wr F.LSS_CTRL_STAT_PEND 1 with lss := { s.m.lss with moveReq := some (2, p.val) } }
      else ({ s.m.ok.wr F.LSS_CTRL_STAT_PEND 1 with lss := { s.m.lss with moveReq := some (2, p.val) } }).moveStart p.val
      (s.m.rd F.LSS_PART_PAIR p.val)))
  ∧ (∀ (s : State) (a : Access) (v : Word) (f : Nat),
    s.admitsWrite a 0x20F00050 →
    a.world = true ∧ a.ini ≠ 0x3F →
    v.toNat / 2 ^ 16 = 0x4C53 ∧ v.toNat % 2 ^ 4 = 7 →
    s.m.flag F.LSS_CTRL_STAT_PEND = false →
    (List.range 4).find? (fun k => s.m.pairState k == 4) = some f ∧ s.m.lss.mig.any (fun g => g.dst == f) = false →
    ∃ t, exec (.lssReturn a v) s = s.to t
      ∧ t.pairState f = 0 ∧ (t.pair f).after = .settle ∧ (t.pair f).answers = true
      ∧ t.rd F.LSS_CTRL_STAT_PEND = 1 ∧ (∀ k ∈ List.range 4, k ≠ f → t.pair k = s.m.pair k)
      ∧ (∀ o, o < 0x20000 → t.mem.byte (MemSt.lpBase f + o) = 0))
  ∧ (∀ (s : State) (a : Access) (v : Word),
    s.genuine a 1 →
    exec (.lssSelftest a v) s = s.to (s.m.lssControl a v.toNat))
  ∧ (∀ (s : State) (a : Access) (v : Word),
    s.genuine a 1 →
    exec (.lssRestore a v) s = s.to (s.m.lssControl a v.toNat))
  ∧ (∀ (s : State) (a : Access) (v : Word),
    s.genuine a 1 →
    exec (.lssMove a v) s = s.to (s.m.lssControl a v.toNat))
  ∧ (∀ (s : State) (a : Access) (v : Word),
    s.genuine a 1 →
    exec (.lssSplit a v) s = s.to (s.m.lssControl a v.toNat))
  ∧ (∀ (s : State) (a : Access) (v : Word),
    s.genuine a 1 →
    exec (.lssLoan a v) s = s.to (s.m.lssControl a v.toNat))
  ∧ (∀ (s : State) (a : Access) (v : Word),
    s.genuine a 1 →
    exec (.lssAdopt a v) s = s.to (s.m.lssControl a v.toNat))
  ∧ (∀ (s : State) (a : Access) (v : Word),
    s.genuine a 1 →
    exec (.lssReturn a v) s = s.to (s.m.lssControl a v.toNat))

/-- R344, R351, R355, R356: INJECTION_DONE, PERIODIC_INJECTION and MIGRATION_COMPLETE. Where the manual leaves its words open, the statement takes the model's reading (log entry 28). -/
def Obligations.PairTestsAndMigration : Prop :=
  (∀ (s : State) (pair : Fin 4),
    s.m.pairState pair.val = 0 ∧ s.m.lss.mig.any (fun g => g.dst == pair.val && ! g.tested) = false →
    ((s.m.pair pair.val).after = .settle ∨ (s.m.pair pair.val).after = .periodic) ∧ (s.m.pair pair.val).answers = false →
    ∃ t, exec (.injectionDone pair 0 false) s = s.to t
      ∧ t.pairState pair.val = (if s.m.fiddlehead = some pair.val then 2 else 1)
      ∧ t.rd F.LSS_INJ_RES_PASS pair.val = 1 ∧ t.rd F.LSS_INJ_RES_MISSED pair.val = 0
      ∧ t.rd F.LSS_INJ_RES_RUNS pair.val = (s.m.rd F.LSS_INJ_RES_RUNS pair.val + 1) % 2 ^ F.LSS_INJ_RES_RUNS.width
      ∧ t.lss = s.m.lss ∧ t.mem = s.m.mem ∧ t.out = s.m.out)
  ∧ (∀ (s : State) (pair : Fin 4) (missed : Fin 256) (falseFlag : Bool),
    s.m.pairState pair.val = 0 ∧ s.m.lss.mig.any (fun g => g.dst == pair.val && ! g.tested) = false →
    s.m.testHeld pair.val = false →
    (missed ≠ 0 ∨ falseFlag = true) →
    ∃ t, exec (.injectionDone pair missed falseFlag) s = s.to t
      ∧ t.pairState pair.val = 5 ∧ t.rd F.LSS_PAIR_STAT_FAIL_CAUSE pair.val = 3 ∧ t.rd F.LSS_EVT_SELFTEST_FAIL = 1
      ∧ t.rd F.LSS_INJ_RES_PASS pair.val = 0 ∧ t.rd F.LSS_INJ_RES_MISSED pair.val = missed.val
      ∧ t.rd F.LSS_INJ_RES_FALSE_FLAG pair.val = b2n falseFlag
      ∧ t.mem = s.m.mem ∧ (∀ k ∈ List.range 4, k ≠ pair.val → t.pair k = s.m.pair k))
  ∧ (∀ (s : State) (pair : Fin 4),
    s.m.pairState pair.val = 0 ∧ s.m.lss.mig.any (fun g => g.dst == pair.val && ! g.tested) = false →
    s.m.testHeld pair.val = false →
    exec (.injectionDone pair 0 false) s = s.to (s.m.testPassed pair.val))
  ∧ (∀ (s : State) (pair : Fin 4) (g : Migration),
    s.m.lss.mig = some g ∧ g.dst = pair.val ∧ g.tested = false →
    ∃ t, exec (.injectionDone pair 0 false) s = s.to t
      ∧ t.pairState pair.val = 3 ∧ t.lss = { s.m.lss with mig := some { g with tested := true } }
      ∧ t.rd F.LSS_INJ_RES_PASS pair.val = 1 ∧ t.mem = s.m.mem)
  ∧ (∀ (s : State),
    ∃ t, exec (.periodicInjection) s = s.to t
      ∧ (∀ k ∈ List.range 4, t.pairState k
      = (if (s.m.pairState k = 1 ∨ s.m.pairState k = 2) ∧ s.m.lss.mig.any (fun g => g.dst == k) = false then 0 else s.m.pairState k))
      ∧ t = { s.m with regs := t.regs, lss := { s.m.lss with pairs := t.lss.pairs } })
  ∧ (∀ (s : State) (g : Migration) (ns : Nat),
    s.m.lss.mig = some g →
    g.tested = true ∧ g.kind = 0 ∧ g.src < 4 ∧ g.dst < 4 ∧ g.src ≠ g.dst ∧ g.part < 16 →
    s.m.mem.clean →
    ∃ t, exec (.migrationComplete ns) s = s.to t
      ∧ t.rd F.LSS_PART_PAIR g.part = g.dst ∧ t.rd F.LSS_PART_STATE g.part = 1 ∧ t.pairState g.dst = 3
      ∧ t.pair g.dst = { (s.m.pair g.dst).idle with seq := (s.m.pair g.src).seq, restore := (s.m.pair g.src).restore, mtimeHi := (s.m.pair g.src).mtimeHi, fault := (s.m.pair g.src).fault }
      ∧ t.pairState g.src = 5 ∧ t.lss.mig = none
      ∧ t.rd F.LSS_MIG_LOG0_FROM = g.src ∧ t.rd F.LSS_MIG_LOG0_TO = g.dst ∧ t.rd F.LSS_EVT_MIGRATED = 1
      ∧ t.rd F.LSS_LOC_EVT_MIGRATED g.part = 1
      ∧ (∀ o, o < 0x20000 → t.mem.byte (MemSt.lpBase g.dst + o) = s.m.mem.byte (MemSt.lpBase g.src + o)))
  ∧ (∀ (s : State) (g : Migration) (ns : Nat),
    s.m.lss.mig = some g →
    g.tested = true ∧ (g.kind = 1 ∨ g.kind = 2) ∧ g.src < 4 ∧ g.dst < 4 ∧ g.src ≠ g.dst ∧ g.part < 16 →
    ∃ t, exec (.migrationComplete ns) s = s.to t
      ∧ t.rd F.LSS_PART_PAIR g.part = g.dst ∧ t.rd F.LSS_PART_STATE g.part = 1 ∧ t.pairState g.dst = 3
      ∧ (t.pair g.dst).seq = (s.m.pair g.src).seq ∧ t.pairState g.src = 0 ∧ (t.pair g.src).after = .moved ∧ t.lss.mig = none
      ∧ t.rd F.LSS_MIG_LOG0_FROM = g.src ∧ t.rd F.LSS_MIG_LOG0_TO = g.dst ∧ t.rd F.LSS_MIG_LOG0_KIND = g.kind
      ∧ t.rd F.LSS_EVT_MIGRATED = 1 ∧ t.rd F.LSS_LOC_EVT_MIGRATED g.part = 1
      ∧ (∀ o, o < 0x20000 → t.mem.byte (MemSt.lpBase g.src + o) = 0))
  ∧ (∀ (s : State) (pair : Fin 4) (missed : Fin 256) (falseFlag : Bool),
    exec (.injectionDone pair missed falseFlag) s = s.to (s.m.injectionDone pair.val missed.val falseFlag))
  ∧ (∀ (s : State) (ns : Nat),
    exec (.migrationComplete ns) s = s.to (s.m.migrationDone ns))

/-- R402, R422–R426: WORLD_ENTRY, WORLD_EXIT, SWDT_KICK, SWDT_EXPIRY, SEC_READY and RESTARTS_CLEAR. Where the manual leaves its words open, the statement takes the model's reading (log entry 30). -/
def Obligations.WorldsAndTheSecureWatchdog : Prop :=
  (∀ (s : State) (core : Fin 4) (cause : EntryCause) (ctx : CoreCtx),
    (s.m.core core.val).secure = false →
    s.m.rd F.WCT_STAT_SEC_STATE < 2 →
    cause ≠ .mInterrupt →
    ∃ t, exec (.worldEntry core cause ctx) s = s.to t
      ∧ t.core core.val = { s.m.core core.val with
      ctx := { ctx with mode := .m }
      secure := true
      frame := some ⟨ctx, true⟩ }
      ∧ (∀ k ∈ List.range 4, k ≠ core.val → t.core k = s.m.core k)
      ∧ t = { s.m with regs := t.regs, wct := { s.m.wct with cores := t.wct.cores } }
      ∧ Module.regsBut [F.WCT_STAT_FRAME_HELD.key 0 0 0] s.m t)
  ∧ (∀ (s : State) (core : Fin 4) (ctx : CoreCtx),
    (s.m.core core.val).secure = false →
    s.m.rd F.WCT_STAT_SEC_STATE < 2 →
    ∃ t, exec (.worldEntry core .mInterrupt ctx) s = s.to t
      ∧ t.core core.val = { s.m.core core.val with
      ctx := { ctx with mode := .m }
      secure := true
      irqPend := false
      frame := some ⟨ctx, false⟩ }
      ∧ (∀ k ∈ List.range 4, k ≠ core.val → t.core k = s.m.core k)
      ∧ t = { s.m with regs := t.regs, wct := { s.m.wct with cores := t.wct.cores } }
      ∧ Module.regsBut [F.WCT_STAT_FRAME_HELD.key 0 0 0] s.m t)
  ∧ (∀ (s : State) (core : Fin 4) (ctx : CoreCtx),
    ctx.mode ≠ .m →
    ∃ t, exec (.worldExit core ctx) s = s.to t
      ∧ t.core core.val = { s.m.core core.val with
      ctx := ctx
      secure := false
      frame := none }
      ∧ (∀ k ∈ List.range 4, k ≠ core.val → t.core k = s.m.core k)
      ∧ Module.regsBut [F.WCT_STAT_FRAME_HELD.key 0 0 0] s.m t
      ∧ t = { s.m with regs := t.regs, wct := { s.m.wct with cores := t.wct.cores } })
  ∧ (∀ (s : State) (core : Fin 4) (ctx : CoreCtx),
    ctx.mode = .m →
    exec (.worldExit core ctx) s = s.to (s.m.setCore core.val { s.m.core core.val with ctx := ctx }))
  ∧ (∀ (s : State) (a : Access) (v : Word),
    s.admitsWrite a 0x21000014 →
    a.world = true ∧ v.toNat % 2 ^ 16 = 0x5EC1 ∧ s.m.wct.swdtRun = true →
    exec (.swdtKick a v) s = s.to (s.m.ok.wr F.WCT_SWDT_REMAIN_US 10000))
  ∧ (∀ (s : State) (svc : CoreCtx),
    s.m.wct.swdtRun = true ∧ s.m.rd F.WCT_STAT_RESTARTS < 3 ∧ s.m.rd F.WCT_SWDT_REMAIN_US = 0 →
    ∃ t, exec (.swdtExpiry true svc) s = s.to t
      ∧ t.rd F.WCT_STAT_SEC_STATE = 2 ∧ t.rd F.WCT_STAT_RESTARTS = s.m.rd F.WCT_STAT_RESTARTS + 1
      ∧ t.rd F.WCT_EVT_SWDT_EXPIRED = 1 ∧ t.rd F.WCT_SWDT_REMAIN_US = 50000 ∧ t.wct.swdtRun = true
      ∧ t.rd F.WCT_RESTART_CNT_TOTAL = (s.m.rd F.WCT_RESTART_CNT_TOTAL + 1) % 2 ^ F.WCT_RESTART_CNT_TOTAL.width
      ∧ (∀ b ∈ List.range 22, t.rd F.WCT_HOLD_COUNT b = 0)
      ∧ (t.core (s.m.rd F.WCT_CFG_SVC_CORE)).secure = true
      ∧ (∀ k ∈ List.range 4, k ≠ s.m.rd F.WCT_CFG_SVC_CORE → s.m.captured k = true → (t.core k).secure = false))
  ∧ (∀ (s : State) (svc : CoreCtx),
    s.m.wct.swdtRun = true ∧ s.m.rd F.WCT_STAT_RESTARTS < 3 ∧ s.m.rd F.WCT_SWDT_REMAIN_US = 0 →
    ∃ t, exec (.swdtExpiry false svc) s = s.to t
      ∧ t.rd F.WCT_STAT_SEC_STATE = 3 ∧ t.rd F.WCT_EVT_SEC_FAILED = 1 ∧ t.rd F.WCT_EVT_SWDT_EXPIRED = 1 ∧ t.wct.swdtRun = false
      ∧ (∀ b ∈ List.range 22, t.rd F.WCT_HOLD_COUNT b = 0))
  ∧ (∀ (s : State) (d : Bool) (svc : CoreCtx),
    s.m.wct.swdtRun = true ∧ s.m.rd F.WCT_STAT_RESTARTS = 3 ∧ s.m.rd F.WCT_SWDT_REMAIN_US = 0 →
    ∃ t, exec (.swdtExpiry d svc) s = s.to t
      ∧ t.rd F.WCT_STAT_SEC_STATE = 3 ∧ t.rd F.WCT_EVT_SEC_FAILED = 1 ∧ t.wct.swdtRun = false
      ∧ (∀ k ∈ List.range 4, s.m.captured k = true → (t.core k).secure = false))
  ∧ (∀ (s : State) (a : Access) (v : Word),
    s.admitsWrite a 0x21000010 →
    a.world = true ∧ v.toNat / 2 ^ 16 = 0x5EC0 ∧ v.toNat.testBit 0 = true →
    (s.m.rd F.WCT_STAT_SEC_STATE = 0 ∨ s.m.rd F.WCT_STAT_SEC_STATE = 2) →
    ∃ t, exec (.secReady a v) s = s.to t
      ∧ t.rd F.WCT_STAT_SEC_STATE = 1 ∧ t.rd F.WCT_EVT_SEC_READY = 1 ∧ t.rd F.WCT_SWDT_REMAIN_US = 10000
      ∧ t.core (s.m.rd F.WCT_CFG_SVC_CORE) = (match (s.m.core (s.m.rd F.WCT_CFG_SVC_CORE)).frame with
      | none => s.m.core (s.m.rd F.WCT_CFG_SVC_CORE)
      | some f => { s.m.core (s.m.rd F.WCT_CFG_SVC_CORE) with ctx := f.ctx, secure := false, frame := none })
      ∧ (∀ k ∈ List.range 4, k ≠ s.m.rd F.WCT_CFG_SVC_CORE → t.core k = s.m.core k)
      ∧ t = { s.m.ok with regs := t.regs, wct := { s.m.wct with swdtRun := true, readyAt := s.m.now, cores := t.wct.cores } }
      ∧ Module.regsBut [F.WCT_STAT_SEC_STATE.key 0 0 0, F.WCT_EVT_SEC_READY.key 0 0 0, F.WCT_SWDT_REMAIN_US.key 0 0 0,
      F.WCT_STAT_FRAME_HELD.key 0 0 0] s.m t)
  ∧ (∀ (s : State),
    s.m.rd F.WCT_STAT_SEC_STATE = 1 ∧ s.m.wct.readyAt + 60000000 ≤ s.m.now →
    exec (.restartsClear) s = s.to (s.m.wr F.WCT_STAT_RESTARTS 0))
  ∧ (∀ (s : State) (core : Fin 4) (cause : EntryCause) (ctx : CoreCtx),
    exec (.worldEntry core cause ctx) s = s.to (s.m.worldEntry core.val cause ctx))
  ∧ (∀ (s : State) (core : Fin 4) (ctx : CoreCtx),
    exec (.worldExit core ctx) s = s.to (s.m.worldExit core.val ctx))
  ∧ (∀ (s : State) (digestMatches : Bool) (svc : CoreCtx),
    exec (.swdtExpiry digestMatches svc) s = s.to (s.m.swdtExpire digestMatches svc))
  ∧ (∀ (s : State) (a : Access) (v : Word),
    s.admitsWrite a 0x21000010 ∧ a.world = true →
    exec (.secReady a v) s = s.to (s.m.ok.secReady v.toNat))

/-- R409, R411, R414, R416, R419, R420: MAP_LOAD, WORLD_LOCK_SET, VMID_WRITE, HOLD_INC, HOLD_DEC and DEFER_CANCEL. Where the manual leaves its words open, the statement takes the model's reading (log entry 30). -/
def Obligations.WorldMapAndHolds : Prop :=
  (∀ (s : State) (a : Access) (v : Word) (src : Nat),
    s.admitsWrite a 0x21000038 →
    a.world = true ∧ v.toNat.testBit 0 = true ∧ s.m.flag F.WCT_LOCK_WORLD_LOCK = false →
    s.m.rd F.WCT_MAP_SRC_ADDR = src ∧ s.m.mem.clean ∧ 0x10000000 ≤ src ∧ src + 176 ≤ 0x11000000 →
    s.admitsMem a src 176 0 →
    ∃ t, exec (.mapLoad a v) s = s.to t
      ∧ t.rd F.WCT_MAP_STAT_STATUS = (if Module.worldMapOk (Module.words (s.m.mem.bytes src 176)) then 0 else 0x10)
      ∧ (Module.worldMapOk (Module.words (s.m.mem.bytes src 176)) = true → (∀ b ∈ List.range 22,
      t.rd F.WCT_BLK_WORLD b = Module.effWorld b ((Module.words (s.m.mem.bytes src 176)).getD (2 + b) 0)
      ∧ t.rd F.WCT_BLK_GATE b = Module.effGate b ((Module.words (s.m.mem.bytes src 176)).getD (2 + b) 0)))
      ∧ (Module.worldMapOk (Module.words (s.m.mem.bytes src 176)) = true → (∀ k ∈ List.range 4,
      t.rd F.WCT_INST_WORLD_SECURE k = (Module.words (s.m.mem.bytes src 176)).getD (40 + k) 0 % 2 ^ 32))
      ∧ t = { s.m.ok with regs := t.regs })
  ∧ (∀ (s : State) (a : Access) (v : Word),
    s.admitsWrite a 0x21000038 →
    a.world = true ∧ s.m.flag F.WCT_LOCK_WORLD_LOCK = true →
    ∃ t, exec (.mapLoad a v) s = s.to t
      ∧ t.resp.status = 2
      ∧ (∀ b ∈ List.range 22, t.rd F.WCT_BLK_WORLD b = s.m.rd F.WCT_BLK_WORLD b ∧ t.rd F.WCT_BLK_GATE b = s.m.rd F.WCT_BLK_GATE b)
      ∧ (∀ k ∈ List.range 4, t.rd F.WCT_INST_WORLD_SECURE k = s.m.rd F.WCT_INST_WORLD_SECURE k))
  ∧ (∀ (s : State) (a : Access) (v : Word),
    s.admitsWrite a 0x21000000 →
    a.world = true ∧ v.toNat.testBit 0 = true →
    exec (.worldLockSet a v) s = s.to (s.m.ok.wr F.WCT_LOCK_WORLD_LOCK 1))
  ∧ (∀ (s : State) (a : Access) (e : Fin 32) (v : Word),
    s.admitsWrite a (0x21000600 + 4 * e.val) →
    v.toNat.testBit 31 = true ∧ (s.m.rd F.WCT_CFG_AC_PARTS).testBit (v.toNat / 2 ^ 16 % 16) = true →
    s.m.vmidHolder e.val (v.toNat % 2 ^ 14) = none →
    ∃ t, exec (.vmidWrite a e v) s = s.to t
      ∧ t.rd F.WCT_VMID_VMID e.val = v.toNat % 2 ^ 14 ∧ t.rd F.WCT_VMID_PART e.val = v.toNat / 2 ^ 16 % 16
      ∧ t.rd F.WCT_VMID_VALID e.val = 1 ∧ t.resp = {}
      ∧ Module.onlyRegs [F.WCT_VMID_VMID.key e.val 0 0, F.WCT_VMID_PART.key e.val 0 0, F.WCT_VMID_VALID.key e.val 0 0] s.m t)
  ∧ (∀ (s : State) (a : Access) (e : Fin 32) (v : Word),
    s.admitsWrite a (0x21000600 + 4 * e.val) →
    v.toNat.testBit 31 = false →
    ∃ t, exec (.vmidWrite a e v) s = s.to t
      ∧ t.rd F.WCT_VMID_VMID e.val = v.toNat % 2 ^ 14 ∧ t.rd F.WCT_VMID_PART e.val = v.toNat / 2 ^ 16 % 16
      ∧ t.rd F.WCT_VMID_VALID e.val = 0 ∧ t.resp = {}
      ∧ Module.onlyRegs [F.WCT_VMID_VMID.key e.val 0 0, F.WCT_VMID_PART.key e.val 0 0, F.WCT_VMID_VALID.key e.val 0 0] s.m t)
  ∧ (∀ (s : State) (a : Access) (v : Word) (b : Nat),
    s.admitsWrite a 0x21000300 →
    a.world = true ∧ b < 256 ∧ v.toNat % 2 ^ 10 = b + 256 →
    s.m.gateOf b = 2 ∧ s.m.normalDrains b = false ∧ s.m.rd F.WCT_HOLD_COUNT b < 255 →
    ∃ t, exec (.holdInc a v) s = s.to t
      ∧ t.rd F.WCT_HOLD_COUNT b = s.m.rd F.WCT_HOLD_COUNT b + 1 ∧ t.rd F.WCT_HOLD_STAT_STATUS = 0 ∧ t.resp = {}
      ∧ Module.onlyRegs [F.WCT_HOLD_COUNT.key b 0 0, F.WCT_HOLD_STAT_STATUS.key 0 0 0] s.m t)
  ∧ (∀ (s : State) (a : Access) (v : Word) (b : Nat),
    s.admitsWrite a 0x21000300 →
    a.world = true ∧ b < 256 ∧ v.toNat % 2 ^ 10 = b + 512 →
    s.m.gateOf b = 2 ∧ 1 < s.m.rd F.WCT_HOLD_COUNT b ∧ s.m.rd F.WCT_DEFER_BLOCK = b →
    ∃ t, exec (.holdDec a v) s = s.to t
      ∧ t.rd F.WCT_HOLD_COUNT b = s.m.rd F.WCT_HOLD_COUNT b - 1 ∧ t.rd F.WCT_HOLD_STAT_STATUS = 0 ∧ t.resp = {}
      ∧ Module.onlyRegs [F.WCT_HOLD_COUNT.key b 0 0, F.WCT_HOLD_STAT_STATUS.key 0 0 0] s.m t)
  ∧ (∀ (s : State) (a : Access) (v : Word) (b : Nat),
    s.admitsWrite a 0x21000300 →
    a.world = true ∧ b < 256 ∧ v.toNat % 2 ^ 10 = b + 512 →
    s.m.gateOf b = 2 ∧ 1 ≤ s.m.rd F.WCT_HOLD_COUNT b →
    exec (.holdDec a v) s = s.to (((s.m.ok.wr F.WCT_HOLD_COUNT (s.m.rd F.WCT_HOLD_COUNT b - 1) b).wr F.WCT_HOLD_STAT_STATUS 0).deferLeave))
  ∧ (∀ (s : State) (a : Access) (v : Word),
    s.admitsWrite a 0x21000314 →
    v.toNat.testBit 0 = true ∧ s.m.flag F.WCT_DEFER_PEND = true →
    ∃ t, exec (.deferCancel a v) s = s.to t
      ∧ t.rd F.WCT_DEFER_PEND = 0 ∧ t.rd F.WCT_EVT_DEFER_END = 1
      ∧ t.rd F.SYSCTL_GATE_STAT_N_STATUS = 0x0A ∧ t.rd F.SYSCTL_GATE_STAT_N_PEND = 0
      ∧ t = { s.m.ok with regs := t.regs, sys := { s.m.sys with gateN := none } })
  ∧ (∀ (s : State) (a : Access) (v : Word),
    s.admitsWrite a 0x21000038 ∧ a.world = true →
    exec (.mapLoad a v) s = s.to (s.m.ok.mapLoad a v.toNat))
  ∧ (∀ (s : State) (a : Access) (e : Fin 32) (v : Word),
    s.admitsWrite a (0x21000600 + 4 * e.val) →
    exec (.vmidWrite a e v) s = s.to (s.m.ok.vmidWrite a e.val v.toNat))
  ∧ (∀ (s : State) (a : Access) (v : Word),
    s.admitsWrite a 0x21000300 ∧ a.world = true →
    exec (.holdInc a v) s = s.to (s.m.ok.holdControl v.toNat))
  ∧ (∀ (s : State) (a : Access) (v : Word),
    s.admitsWrite a 0x21000300 ∧ a.world = true →
    exec (.holdDec a v) s = s.to (s.m.ok.holdControl v.toNat))

/-- R440–R458: the requests of IMG_CTRL, INST_RESET, FENCE_RELEASE and FENCE_FORCED. Where the manual leaves its words open, the statement takes the model's reading (log entry 31). -/
def Obligations.InstanceRequests : Prop :=
  (∀ (s : State) (a : Access) (v : Word) (p : Nat),
    s.admitsWrite a 0x20E00000 →
    v.toNat / 2 ^ 16 = 0x494D ∧ v.toNat % 2 ^ 4 = 1 ∧ v.toNat / 2 ^ 4 % 2 ^ 7 = p ∧ 96 ≤ p ∧ p < 112 ∧ s.m.flag F.IMG_CTRL_STAT_PEND = false →
    s.m.pageWorld p = (s.m.rd F.IMG_ARG_PART == s.m.rd F.WCT_CFG_SEC_PART) →
    s.m.ownsSafety p = false ∧ s.m.quiescedPage p = true →
    ∃ t, exec (.imgAssign a v) s = s.to t
      ∧ t.rd F.IMG_INST_CFG_ASSIGNED p = 1 ∧ t.rd F.IMG_INST_CFG_PART p = s.m.rd F.IMG_ARG_PART % 2 ^ F.IMG_INST_CFG_PART.width
      ∧ t.imgCompletes 0 p
      ∧ Module.onlyRegs ([F.IMG_INST_CFG_ASSIGNED.key p 0 0, F.IMG_INST_CFG_PART.key p 0 0] ++ imgKeys) s.m t)
  ∧ (∀ (s : State) (a : Access) (v : Word) (p : Nat),
    s.admitsWrite a 0x20E00000 →
    v.toNat / 2 ^ 16 = 0x494D ∧ v.toNat % 2 ^ 4 = 1 ∧ v.toNat / 2 ^ 4 % 2 ^ 7 = p ∧ p < 96 ∧ s.m.flag F.IMG_CTRL_STAT_PEND = false →
    s.m.pageWorld p = (s.m.rd F.IMG_ARG_PART == s.m.rd F.WCT_CFG_SEC_PART) →
    exec (.imgAssign a v) s = s.to (((((s.m.ok.wr F.IMG_CTRL_STAT_PAGE p).raise F.IMG_CTRL_STAT_PEND).raise F.IMG_INST_CFG_ASSIGNED p).wr F.IMG_INST_CFG_PART (s.m.rd F.IMG_ARG_PART) p).instReset p true false))
  ∧ (∀ (s : State) (a : Access) (v : Word) (p : Nat),
    s.admitsWrite a 0x20E00000 →
    v.toNat / 2 ^ 16 = 0x494D ∧ v.toNat % 2 ^ 4 = 2 ∧ v.toNat / 2 ^ 4 % 2 ^ 7 = p ∧ 96 ≤ p ∧ p < 112 ∧ s.m.flag F.IMG_CTRL_STAT_PEND = false →
    s.m.quiescedPage p = true →
    ∃ t, exec (.imgUnassign a v) s = s.to t
      ∧ t.rd F.IMG_INST_CFG_ASSIGNED p = 0
      ∧ t.imgCompletes 0 p
      ∧ Module.onlyRegs ([F.IMG_INST_CFG_ASSIGNED.key p 0 0] ++ imgKeys) s.m t)
  ∧ (∀ (s : State) (a : Access) (v : Word) (p : Nat),
    s.admitsWrite a 0x20E00000 →
    v.toNat / 2 ^ 16 = 0x494D ∧ v.toNat % 2 ^ 4 = 2 ∧ v.toNat / 2 ^ 4 % 2 ^ 7 = p ∧ p < 96 ∧ s.m.flag F.IMG_CTRL_STAT_PEND = false →
    exec (.imgUnassign a v) s = s.to ((((s.m.ok.wr F.IMG_CTRL_STAT_PAGE p).raise F.IMG_CTRL_STAT_PEND).lower F.IMG_INST_CFG_ASSIGNED p).instReset p true false))
  ∧ (∀ (s : State) (a : Access) (v : Word) (p : Nat),
    s.admitsWrite a 0x20E00000 →
    v.toNat / 2 ^ 16 = 0x494D ∧ v.toNat % 2 ^ 4 = 3 ∧ v.toNat / 2 ^ 4 % 2 ^ 7 = p ∧ 96 ≤ p ∧ p < 112 ∧ s.m.flag F.IMG_CTRL_STAT_PEND = false →
    s.m.quiescedPage p = true →
    ∃ t, exec (.imgReset a v) s = s.to t
      ∧ (t.chi (p - 96)).queue = [] ∧ (t.chi (p - 96)).fifo = [] ∧ (t.chi (p - 96)).cal = []
      ∧ t.rd F.IMG_INST_STALE_RESETS p = (s.m.rd F.IMG_INST_STALE_RESETS p + 1) % 2 ^ F.IMG_INST_STALE_RESETS.width
      ∧ t.rd F.INST_EVT_RESET p = 1
      ∧ t.imgCompletes 0 p
      ∧ t.chc.chans = s.m.chc.chans ∧ t = { s.m.ok with regs := t.regs, chc := t.chc })
  ∧ (∀ (s : State) (a : Access) (v : Word) (p : Nat),
    s.admitsWrite a 0x20E00000 →
    v.toNat / 2 ^ 16 = 0x494D ∧ v.toNat % 2 ^ 4 = 3 ∧ v.toNat / 2 ^ 4 % 2 ^ 7 = p ∧ p < 96 ∧ s.m.flag F.IMG_CTRL_STAT_PEND = false →
    s.m.flag F.IMG_INST_CFG_ASSIGNED p = true →
    exec (.imgReset a v) s = s.to (((s.m.ok.wr F.IMG_CTRL_STAT_PAGE p).raise F.IMG_CTRL_STAT_PEND).instReset p true false))
  ∧ (∀ (s : State) (a : Access) (v : Word) (p : Nat),
    s.admitsWrite a 0x20E00000 →
    v.toNat / 2 ^ 16 = 0x494D ∧ v.toNat % 2 ^ 4 = 4 ∧ v.toNat / 2 ^ 4 % 2 ^ 7 = p ∧ 96 ≤ p ∧ p < 112 ∧ s.m.flag F.IMG_CTRL_STAT_PEND = false →
    s.m.flag F.IMG_INST_CFG_ASSIGNED p = true ∧ s.m.quiescedPage p = false ∧ s.m.chiOcc (p - 96) ≠ 0 →
    ∃ t, exec (.imgQuiesce a v) s = s.to t
      ∧ t.rd F.IMG_INST_STAT_QUIESCE p = 1 ∧ t.rd F.INST_EVT_QUIESCE p = 1
      ∧ t.rd F.IMG_CTRL_STAT_PEND = 1 ∧ t.rd F.IMG_CTRL_STAT_PAGE = p ∧ t.rd F.CHI_STATE_STATE (p - 96) = 2
      ∧ Module.onlyRegs [F.IMG_INST_STAT_QUIESCE.key p 0 0, F.CHI_STATE_STATE.key (p - 96) 0 0, F.INST_EVT_QUIESCE.key p 0 0, F.IMG_CTRL_STAT_PEND.key 0 0 0,
      F.IMG_CTRL_STAT_PAGE.key 0 0 0] s.m t)
  ∧ (∀ (s : State) (a : Access) (v : Word) (p : Nat),
    s.admitsWrite a 0x20E00000 →
    v.toNat / 2 ^ 16 = 0x494D ∧ v.toNat % 2 ^ 4 = 4 ∧ v.toNat / 2 ^ 4 % 2 ^ 7 = p ∧ 96 ≤ p ∧ p < 112 ∧ s.m.flag F.IMG_CTRL_STAT_PEND = false →
    s.m.flag F.IMG_INST_CFG_ASSIGNED p = true ∧ (s.m.quiescedPage p = true ∨ s.m.chiOcc (p - 96) = 0) →
    ∃ t, exec (.imgQuiesce a v) s = s.to t
      ∧ t.rd F.IMG_INST_STAT_QUIESCE p = 1 ∧ t.rd F.INST_EVT_QUIESCE p = 1 ∧ t.rd F.IMG_INST_STAT_QUIESCE_DONE p = 1
      ∧ t.imgCompletes 0 p ∧ t.rd F.CHI_STATE_STATE (p - 96) = 2 ∧ t.chc = s.m.chc)
  ∧ (∀ (s : State) (a : Access) (v : Word) (p : Nat),
    s.admitsWrite a 0x20E00000 →
    v.toNat / 2 ^ 16 = 0x494D ∧ v.toNat % 2 ^ 4 = 5 ∧ v.toNat / 2 ^ 4 % 2 ^ 7 = p ∧ 96 ≤ p ∧ p < 112 ∧ s.m.flag F.IMG_CTRL_STAT_PEND = false →
    s.m.flag F.IMG_INST_STAT_QUIESCE p = true →
    ∃ t, exec (.imgResume a v) s = s.to t
      ∧ t.rd F.IMG_INST_STAT_QUIESCE p = 0 ∧ t.rd F.IMG_INST_STAT_QUIESCE_DONE p = 0 ∧ t.rd F.INST_EVT_RESUME p = 1
      ∧ t.rd F.CHI_STATE_STATE (p - 96) = 0 ∧ t.chi (p - 96) = { s.m.chi (p - 96) with leftUs := s.m.wdtUs (p - 96) }
      ∧ t.imgCompletes 0 p
      ∧ t = { s.m.ok with regs := t.regs, chc := { s.m.chc with insts := t.chc.insts } })
  ∧ (∀ (s : State) (a : Access) (v : Word) (p : Nat),
    s.admitsWrite a 0x20E00000 →
    v.toNat / 2 ^ 16 = 0x494D ∧ v.toNat % 2 ^ 4 = 6 ∧ v.toNat / 2 ^ 4 % 2 ^ 7 = p ∧ p < 112 ∧ s.m.flag F.IMG_CTRL_STAT_PEND = false →
    s.m.rd F.IMG_ARG_SHARE ≤ Module.shareMax (Module.classOfPage p) →
    s.m.rd F.IMG_ARG_SHARE + (((Module.classPages (Module.classOfPage p)).filter (fun q => q != p)).map
      (fun q => max (s.m.instShare q) (s.m.instOcc q))).sum ≤ Module.pool (Module.classOfPage p) →
    ∃ t, exec (.imgSetShare a v) s = s.to t
      ∧ t.rd F.IMG_INST_SHARE_SHARE p = s.m.rd F.IMG_ARG_SHARE % 2 ^ F.IMG_INST_SHARE_SHARE.width ∧ t.rd F.INST_EVT_SHARE p = 1
      ∧ t.imgCompletes 0 p
      ∧ Module.onlyRegs ([F.IMG_INST_SHARE_SHARE.key p 0 0, F.INST_EVT_SHARE.key p 0 0] ++ imgKeys) s.m t)
  ∧ (∀ (s : State) (a : Access) (v : Word) (p : Nat),
    s.admitsWrite a 0x20E00000 →
    v.toNat / 2 ^ 16 = 0x494D ∧ v.toNat % 2 ^ 4 = 7 ∧ v.toNat / 2 ^ 4 % 2 ^ 7 = p ∧ p < 112 ∧ s.m.flag F.IMG_CTRL_STAT_PEND = false →
    s.m.rd F.IMG_ARG_WEIGHT ≠ 0 →
    ∃ t, exec (.imgSetWeight a v) s = s.to t
      ∧ t.rd F.IMG_INST_SHARE_WEIGHT p = s.m.rd F.IMG_ARG_WEIGHT % 2 ^ F.IMG_INST_SHARE_WEIGHT.width ∧ t.rd F.INST_EVT_SHARE p = 1
      ∧ t.imgCompletes 0 p
      ∧ Module.onlyRegs ([F.IMG_INST_SHARE_WEIGHT.key p 0 0, F.INST_EVT_SHARE.key p 0 0] ++ imgKeys) s.m t)
  ∧ (∀ (s : State) (a : Access) (page : Fin 112) (v : Word),
    s.admitsWrite a (Module.pageBase page.val + 0x720) →
    96 ≤ page.val ∧ v.toNat % 2 ^ 16 = 0x1E5A →
    exec (.instResetRequest a page v) s = s.to (s.m.ok.wr F.INST_RESET_STAT_STATUS 2 page.val))
  ∧ (∀ (s : State) (a : Access) (page : Fin 112) (v : Word),
    s.admitsWrite a (Module.pageBase page.val + 0x720) →
    64 ≤ page.val ∧ page.val < 96 ∧ v.toNat % 2 ^ 16 = 0x1E5A →
    (tget {} s.m.inst page.val) = {} ∧ s.m.rd F.IMG_INST_STAT_GEN page.val < 4095 →
    ∃ t, exec (.instResetRequest a page v) s = s.to t
      ∧ t.rd F.IMG_INST_STAT_GEN page.val = s.m.rd F.IMG_INST_STAT_GEN page.val + 1
      ∧ t.rd F.INST_RESET_STAT_PEND page.val = 0 ∧ t.rd F.INST_RESET_STAT_STATUS page.val = 0
      ∧ t.rd F.INST_EVT_RESET page.val = 1
      ∧ t.mem = s.m.mem ∧ t.chc = s.m.chc)
  ∧ (∀ (s : State) (a : Access) (page : Fin 112) (v : Word),
    s.admitsWrite a (Module.pageBase page.val + 0x720) →
    page.val < 96 ∧ v.toNat % 2 ^ 16 = 0x1E5A →
    exec (.instResetRequest a page v) s = s.to (s.m.ok.instReset page.val false true))
  ∧ (∀ (s : State) (page : Fin 96),
    (tget {} s.m.inst page.val).fence = true ∧ s.m.instInFlight page.val = 0 →
    ∃ t, exec (.fenceRelease page) s = s.to t
      ∧ t.rd F.IMG_INST_STAT_GEN page.val = 1 ∧ t.rd F.INST_EVT_RESET page.val = 1 ∧ tget {} t.inst page.val = {}
      ∧ t.rd F.IMG_INST_STALE_RESETS page.val
      = (s.m.rd F.IMG_INST_STALE_RESETS page.val + 1) % 2 ^ F.IMG_INST_STALE_RESETS.width
      ∧ t = { s.m with regs := t.regs, inst := t.inst })
  ∧ (∀ (s : State) (page : Fin 96),
    (tget {} s.m.inst page.val).fence = true ∧ (tget {} s.m.inst page.val).since + 100000 ≤ s.m.now →
    ∃ t, exec (.fenceForced page) s = s.to t
      ∧ t.rd F.IMG_INST_STAT_GEN page.val = 1 ∧ t.rd F.INST_EVT_FENCE_FORCED page.val = 1
      ∧ t.rd F.IMG_EVT_FENCE_FORCED = 1 ∧ tget {} t.inst page.val = {})
  ∧ (∀ (s : State) (a : Access) (v : Word),
    s.genuine a 1 →
    exec (.imgAssign a v) s = s.to (s.m.imgControl a v.toNat))
  ∧ (∀ (s : State) (a : Access) (v : Word),
    s.genuine a 1 →
    exec (.imgUnassign a v) s = s.to (s.m.imgControl a v.toNat))
  ∧ (∀ (s : State) (a : Access) (v : Word),
    s.genuine a 1 →
    exec (.imgReset a v) s = s.to (s.m.imgControl a v.toNat))
  ∧ (∀ (s : State) (a : Access) (v : Word),
    s.genuine a 1 →
    exec (.imgQuiesce a v) s = s.to (s.m.imgControl a v.toNat))
  ∧ (∀ (s : State) (a : Access) (v : Word),
    s.genuine a 1 →
    exec (.imgResume a v) s = s.to (s.m.imgControl a v.toNat))
  ∧ (∀ (s : State) (a : Access) (v : Word),
    s.genuine a 1 →
    exec (.imgSetShare a v) s = s.to (s.m.imgControl a v.toNat))
  ∧ (∀ (s : State) (a : Access) (v : Word),
    s.genuine a 1 →
    exec (.imgSetWeight a v) s = s.to (s.m.imgControl a v.toNat))
  ∧ (∀ (s : State) (a : Access) (page : Fin 112) (v : Word),
    s.admitsWrite a (Module.pageBase page.val + 0x720) →
    exec (.instResetRequest a page v) s = s.to (s.m.ok.tenantReset page.val v.toNat))
  ∧ (∀ (s : State) (page : Fin 96),
    exec (.fenceRelease page) s = s.to (s.m.fenceRelease page.val))
  ∧ (∀ (s : State) (page : Fin 96),
    exec (.fenceForced page) s = s.to (s.m.fenceForce page.val))

/-- R475, R493, R494: TBL_WRITE, TBL_READ, TBL_DELETE, TBL_INSERT, TBL_LOOKUP, TBL_FLUSH and AGING_SCAN. Where the manual leaves its words open, the statement takes the model's reading (log entry 34). -/
def Obligations.SwitchTables : Prop :=
  (∀ (s : State) (a : Access) (table : Fin 4) (index : Fin 8192) (item : Option Nat),
    s.admitsWrite a tblCmdAddr →
    Module.writeRefused table.val index.val s.m.staging = false →
    ∃ t, exec (.tblWrite a table index item) s = s.to t
      ∧ t.tableEntry table.val index.val = (if (Module.writable table.val s.m.staging).all (· == 0) then []
      else Module.writable table.val s.m.staging)
      ∧ t.tableBad table.val index.val = false
      ∧ t.rd F.SWC_EPOCH_EPOCH = (s.m.rd F.SWC_EPOCH_EPOCH + 1) % 2 ^ 32 ∧ t.rd F.SWC_TBL_EPOCH_EPOCH = t.rd F.SWC_EPOCH_EPOCH
      ∧ t.rd F.SWC_TBL_STAT_STATUS = 0 ∧ t.rd F.SWC_EVT_TBL_DONE = 1
      ∧ t = { s.m.ok with regs := t.regs, swc := t.swc, hst := t.hst } ∧ t.swc.frames = s.m.swc.frames
      ∧ (∀ (k : Fin 4) (j : Nat), k ≠ table ∨ j ≠ index.val → t.tableEntry k.val j = s.m.tableEntry k.val j))
  ∧ (∀ (s : State) (a : Access) (table : Fin 4) (index : Fin 8192),
    s.admitsWrite a tblCmdAddr →
    index.val < Module.tableSize table.val →
    ∃ t, exec (.tblRead a table index) s = s.to t
      ∧ (∀ k ∈ List.range 16, t.rd F.SWC_TBL_DATA_DATA k = wordAt (s.m.tableEntry table.val index.val) k % 2 ^ 32)
      ∧ t.rd F.SWC_TBL_STAT_STATUS = 0 ∧ t.rd F.SWC_EVT_TBL_DONE = 1
      ∧ t = { s.m.ok with regs := t.regs, hst := t.hst })
  ∧ (∀ (s : State) (a : Access) (table : Fin 4) (index : Fin 8192),
    s.admitsWrite a tblCmdAddr →
    index.val < Module.tableSize table.val →
    ∃ t, exec (.tblDelete a table index) s = s.to t
      ∧ (wordAt (t.tableEntry table.val index.val) (Module.validAt table.val).1).testBit (Module.validAt table.val).2 = false
      ∧ t.rd F.SWC_EPOCH_EPOCH = (s.m.rd F.SWC_EPOCH_EPOCH + 1) % 2 ^ 32 ∧ t.rd F.SWC_TBL_STAT_STATUS = 0
      ∧ t = { s.m.ok with regs := t.regs, swc := t.swc, hst := t.hst } ∧ t.swc.frames = s.m.swc.frames
      ∧ (∀ (k : Fin 4) (j : Nat), k ≠ table ∨ j ≠ index.val → t.tableEntry k.val j = s.m.tableEntry k.val j))
  ∧ (∀ (s : State) (a : Access) (i : Nat),
    s.admitsWrite a tblCmdAddr →
    s.m.insertPlace = some i →
    ∃ t, exec (.tblInsert a 0) s = s.to t
      ∧ t.fwdEntry i = (if (Module.writable 0 s.m.staging).all (· == 0) then [] else Module.writable 0 s.m.staging)
      ∧ t.rd F.SWC_TBL_STAT_INDEX = i % 2 ^ F.SWC_TBL_STAT_INDEX.width ∧ t.rd F.SWC_TBL_STAT_STATUS = 0
      ∧ t.rd F.SWC_EPOCH_EPOCH = (s.m.rd F.SWC_EPOCH_EPOCH + 1) % 2 ^ 32
      ∧ (∀ j, j ≠ i → t.fwdEntry j = s.m.fwdEntry j))
  ∧ (∀ (s : State) (a : Access) (i : Nat),
    s.admitsWrite a tblCmdAddr →
    s.m.fwdFind (entryMac s.m.staging) (entryVid s.m.staging) = some i →
    ∃ t, exec (.tblLookup a 0) s = s.to t
      ∧ (∀ k ∈ List.range 16, t.rd F.SWC_TBL_DATA_DATA k = wordAt (s.m.fwdEntry i) k % 2 ^ 32)
      ∧ t.rd F.SWC_TBL_STAT_INDEX = i % 2 ^ F.SWC_TBL_STAT_INDEX.width ∧ t.rd F.SWC_TBL_STAT_STATUS = 0
      ∧ t = { s.m.ok with regs := t.regs, hst := t.hst })
  ∧ (∀ (s : State) (a : Access),
    s.admitsWrite a tblCmdAddr →
    s.m.fwdFind (entryMac s.m.staging) (entryVid s.m.staging) = none →
    ∃ t, exec (.tblLookup a 0) s = s.to t
      ∧ (t.rd F.SWC_TBL_DATA_DATA 2).testBit 6 = false ∧ t.rd F.SWC_TBL_STAT_STATUS = 0
      ∧ (∀ k ∈ List.range 16, k ≠ 2 → t.rd F.SWC_TBL_DATA_DATA k = s.m.rd F.SWC_TBL_DATA_DATA k)
      ∧ t = { s.m.ok with regs := t.regs, hst := t.hst })
  ∧ (∀ (s : State) (a : Access),
    s.admitsWrite a tblCmdAddr →
    ∃ t, exec (.tblFlush a 0) s = s.to t
      ∧ t.swc.fwd = s.m.swc.fwd.filter (fun e => ! s.m.flushes e)
      ∧ t.rd F.SWC_EPOCH_EPOCH = (s.m.rd F.SWC_EPOCH_EPOCH + (s.m.swc.fwd.filter s.m.flushes).length) % 2 ^ 32
      ∧ t.rd F.SWC_TBL_COUNT_REMOVED = (s.m.swc.fwd.filter s.m.flushes).length % 2 ^ F.SWC_TBL_COUNT_REMOVED.width
      ∧ t.rd F.SWC_TBL_STAT_STATUS = 0
      ∧ t = { s.m.ok with regs := t.regs, swc := { s.m.swc with fwd := t.swc.fwd }, hst := t.hst })
  ∧ (∀ (s : State),
    s.m.works 6 = true →
    s.m.flag F.SWC_AGING_EN = false →
    exec (.agingScan) s = s.to (s.m))
  ∧ (∀ (s : State),
    s.m.works 6 = true →
    s.m.flag F.SWC_AGING_EN = true ∧ s.m.swc.scanUs + s.m.rd F.SWC_AGING_SECONDS * 250000 ≤ s.m.now →
    ∃ t, exec (.agingScan) s = s.to t
      ∧ (∀ e ∈ s.m.swc.fwd, fwdValid e.2 = false ∨ fwdStatic e.2 = true → e ∈ t.swc.fwd)
      ∧ (∀ e ∈ s.m.swc.fwd, fwdValid e.2 = true → fwdStatic e.2 = false → fwdAge e.2 < 4
      → (e.1, withAge e.2 (fwdAge e.2 + 1)) ∈ t.swc.fwd)
      ∧ (∀ e ∈ t.swc.fwd, ∃ d ∈ s.m.swc.fwd, e.1 = d.1 ∧ (fwdValid d.2 = false ∨ fwdStatic d.2 = true ∨ fwdAge d.2 < 4))
      ∧ t = { s.m with swc := { s.m.swc with fwd := t.swc.fwd, scanUs := s.m.now } })
  ∧ (∀ (s : State) (a : Access) (v : Word),
    s.admitsWrite a 0x20400038 →
    ∃ t, exec (.drainRequest a v) s = s.to t
      ∧ t.rd F.SWC_DRAIN_REQ_EPOCH = v.toNat ∧ t.rd F.SWC_DRAIN_STAT_DRAINED = 0 ∧ t.resp = {}
      ∧ Module.onlyRegs [F.SWC_DRAIN_REQ_EPOCH.key 0 0 0, F.SWC_DRAIN_STAT_DRAINED.key 0 0 0] s.m t)
  ∧ (∀ (s : State),
    s.m.works 6 = true →
    s.m.flag F.SWC_DRAIN_STAT_DRAINED = false →
    Module.epochReached s.m.epochOldest (s.m.rd F.SWC_DRAIN_REQ_EPOCH) = true →
    ∃ t, exec (.swcDrained) s = s.to t
      ∧ t.rd F.SWC_DRAIN_STAT_DRAINED = 1 ∧ t.rd F.SWC_EVT_DRAINED = 1 ∧ t = { s.m with regs := t.regs, hst := t.hst }
      ∧ Module.regsBut [F.SWC_DRAIN_STAT_DRAINED.key 0 0 0, F.SWC_EVT_DRAINED.key 0 0 0] s.m t)
  ∧ (∀ (s : State) (a : Access) (v : Word),
    s.admitsWrite a 0x20400070 →
    ∃ t, exec (.swcCntSelWrite a v) s = s.to t
      ∧ t.rd F.SWC_CNT_SEL_PORT = v.toNat % 16 ∧ t.rd F.SWC_CNT_SEL_KIND = v.toNat / 2 ^ 8 % 2 ^ 5
      ∧ t.rd F.SWC_CNT_VAL_VALUE = tget 0 s.m.swc.cnt (v.toNat % 16 * 64 + v.toNat / 2 ^ 8 % 2 ^ 5) % 2 ^ 64
      ∧ Module.onlyRegs [F.SWC_CNT_SEL_PORT.key 0 0 0, F.SWC_CNT_SEL_KIND.key 0 0 0, F.SWC_CNT_VAL_VALUE.key 0 0 0] s.m t)
  ∧ (∀ (s : State) (a : Access) (table : Fin 4) (index : Fin 8192),
    s.admitsWrite a tblCmdAddr →
    exec (.tblRead a table index) s = s.to (s.m.ok.tblCommand 2 table.val index.val))
  ∧ (∀ (s : State) (a : Access) (table : Fin 4) (index : Fin 8192),
    s.admitsWrite a tblCmdAddr →
    exec (.tblDelete a table index) s = s.to (s.m.ok.tblCommand 3 table.val index.val))
  ∧ (∀ (s : State) (a : Access) (table : Fin 4),
    s.admitsWrite a tblCmdAddr →
    exec (.tblInsert a table) s = s.to (s.m.ok.tblCommand 4 table.val 0))
  ∧ (∀ (s : State) (a : Access) (table : Fin 4),
    s.admitsWrite a tblCmdAddr →
    exec (.tblLookup a table) s = s.to (s.m.ok.tblCommand 5 table.val 0))
  ∧ (∀ (s : State),
    s.m.works 6 = true →
    exec (.agingScan) s = s.to (s.m.agingScan))
  ∧ (∀ (s : State),
    s.m.works 6 = true →
    exec (.swcDrained) s = s.to (s.m.drained))
  ∧ (∀ (s : State) (a : Access) (table : Fin 4) (index : Fin 8192),
    s.admitsWrite a tblCmdAddr →
    exec (.tblWrite a table index none) s = s.to (s.m.ok.tblWrite table.val index.val))

/-- R464–R503: FRAME_PARSE, FRAME_END, COPY_TRANSMIT_START, COPY_TRANSMIT_END, QUEUE_AGE_CHECK, LINK_DOWN, SPORE_RECORD_WRITE, SPORE_FAIL and STREAM_RECOVERY_RESET. Where the manual leaves its words open, the statement takes the model's reading (log entries 32 and 33). -/
def Obligations.SwitchFrames : Prop :=
  (∀ (s : State) (port : Fin 15) (head : List Byte) (age : Nat),
    s.m.works 7 = true →
    s.m.linkUp port.val = true ∧ s.m.flag F.MAC_CTRL_RX_EN port.val = true ∧ s.m.receiving port.val = none →
    head.length = 64 ∧ Module.isMacControl head = false ∧ s.m.swFrame s.m.swc.nextId = none →
    (s.m.decideFrame port.val head none 0 0).2.kind = .forwarded ∧ (s.m.decideFrame port.val head none 0 0).2.reason = 0 →
    ∃ t, exec (.frameParse port head age none) s = s.to t
      ∧ t.swc.nextId = s.m.swc.nextId + 1
      ∧ (t.swFrame s.m.swc.nextId).map (fun f => (f.inPort, f.bytes, f.vid, f.cls, f.intended)) = some (port.val, head,
      (s.m.decideFrame port.val head none 0 0).2.vid, (s.m.decideFrame port.val head none 0 0).2.cls,
      (s.m.decideFrame port.val head none 0 0).2.mask)
      ∧ (t.swFrame s.m.swc.nextId).map (fun f => f.copies.all (fun c =>
      (s.m.decideFrame port.val head none 0 0).2.mask.testBit c.port)) = some true)
  ∧ (∀ (s : State) (port : Fin 15) (head : List Byte) (age : Nat),
    s.m.works 7 = true →
    s.m.linkUp port.val = true ∧ s.m.flag F.MAC_CTRL_RX_EN port.val = true ∧ s.m.receiving port.val = none →
    head.length = 64 ∧ (hdrOf head).da = 0xFFFFFFFFFFFF ∧ (hdrOf head).etype ≠ 0x88B5 ∧ s.m.swFrame s.m.swc.nextId = none →
    s.m.flag F.SWC_CTRL_FWD_EN = true ∧ s.m.flag F.SWC_PORT_A_EN port.val = true ∧ s.m.swc.rules = [] ∧ s.m.swc.streams = [] →
    s.m.tableBad 1 (s.m.resolve port.val (hdrOf head)).vid = false →
    s.m.vlanRefuses port.val (s.m.resolve port.val (hdrOf head)) = false →
    setBit (s.m.vlanMembers (s.m.resolve port.val (hdrOf head)).vid) port.val false ≠ 0 →
    ∃ t, exec (.frameParse port head age none) s = s.to t
      ∧ (t.swFrame s.m.swc.nextId).map (·.intended)
      = some (setBit (s.m.vlanMembers (s.m.resolve port.val (hdrOf head)).vid) port.val false))
  ∧ (∀ (s : State) (port : Fin 15) (head : List Byte) (age : Nat) (err : Option (Fin 4 × Fin 8192)),
    s.m.works 7 = true →
    exec (.frameParse port head age err) s = s.to (s.m.framePars port.val head age (err.map (fun e => (e.1.val, e.2.val)))))
  ∧ (∀ (s : State) (port : Fin 15) (rest : List Byte) (err : Bool),
    s.m.works 7 = true →
    exec (.frameEnd port rest err) s = s.to (s.m.frameEnds port.val rest err))
  ∧ (∀ (s : State) (port : Fin 15) (rest : List Byte) (f : SwFrame),
    s.m.works 7 = true →
    s.m.linkUp port.val = true ∧ s.m.flag F.MAC_CTRL_RX_EN port.val = true →
    s.m.receiving port.val = some f ∧ s.m.swFrame f.id = some f →
    f.kind = .forwarded ∧ f.copies ≠ [] ∧ f.genSeq = none ∧ s.m.macJudge port.val (f.bytes ++ rest) false = (0, 0) →
    ∃ t, exec (.frameEnd port rest false) s = s.to t
      ∧ (t.swFrame f.id).map (fun g => (g.bytes, g.ended)) = some (f.bytes ++ rest, true)
      ∧ tget 0 (tget {} t.mac port.val).cnt 0 = (tget 0 (tget {} s.m.mac port.val).cnt 0 + 1) % 2 ^ 64)
  ∧ (∀ (s : State) (port : Fin 16) (e : SwFrame × Copy),
    s.m.works 6 = true →
    s.m.portSends port.val = true ∧ s.m.portBusy port.val = false →
    (s.m.pickClass port.val).2.bind (fun c => (s.m.pickClass port.val).1.queueHead port.val c) = some e →
    ∃ t, exec (.copyTransmitStart port none) s = s.to t
      ∧ t.portBusy port.val = true ∧ t.swc.frames.map (·.id) = s.m.swc.frames.map (·.id)
      ∧ t = { s.m with swc := t.swc })
  ∧ (∀ (s : State) (port : Fin 15) (f : SwFrame) (c : Copy),
    s.m.works 6 = true →
    s.m.sendingCopy port.val = some (f, c) →
    f.ended = true →
    ∃ t, exec (.copyTransmitEnd port none) s = s.to t
      ∧ t.out = .frame port.val (withFcs (s.m.residence f c (f.out c (s.m.vlanUntag f.vid)))) :: s.m.out
      ∧ tget 0 t.swc.cnt (port.val * 64 + 2) = (tget 0 s.m.swc.cnt (port.val * 64 + 2) + 1) % 2 ^ 64)
  ∧ (∀ (s : State),
    s.m.works 6 = true →
    (∀ f ∈ s.m.swc.frames, f.tx = none) →
    s.m.swc.ageUs + 1000 ≤ s.m.now →
    ∃ t, exec (.queueAgeCheck) s = s.to t
      ∧ (∀ q ∈ List.range 128, t.headAged (q / 8) (q % 8) = none))
  ∧ (∀ (s : State),
    s.m.works 6 = true →
    s.m.swc.ageUs + 1000 ≤ s.m.now →
    exec (.queueAgeCheck) s = s.to (forEach (List.range 128) (fun q m => m.ageQueue (q / 8) (q % 8) m.swc.frames.length)
      { s.m with swc := { s.m.swc with ageUs := s.m.now } }))
  ∧ (∀ (s : State) (port : Fin 15) (lf rf : Bool),
    s.m.works 7 = true ∧ s.m.phyAlways port.val = false →
    exec (.linkDown port lf rf) s = s.to (s.m.linkLost port.val lf rf))
  ∧ (∀ (s : State) (port : Fin 15) (lf rf : Bool),
    s.m.works 7 = true ∧ s.m.phyAlways port.val = false →
    (∀ f ∈ s.m.swc.frames, f.tx = none) →
    s.m.receiving port.val = none →
    ∃ t, exec (.linkDown port lf rf) s = s.to t
      ∧ (∀ f ∈ t.swc.frames, ∀ c ∈ f.copies, c.port ≠ port.val)
      ∧ t.rd F.SWC_PORT_STAT_LINK port.val = 0 ∧ t.rd F.MAC_STAT_LINK port.val = 0
      ∧ (port.val < 3 → t.rd F.MAC_STAT_LOCAL_FAULT port.val = b2n lf ∧ t.rd F.MAC_STAT_REMOTE_FAULT port.val = b2n rf))
  ∧ (∀ (s : State) (r : List Byte) (rest : List (List Byte)) (at_ : Nat),
    s.m.works 6 = true →
    s.m.swc.stage = r :: rest ∧ r.length = 128 ∧ s.m.flag F.SWC_CTRL_SPORE_EN = true ∧ s.m.sporeFull = false →
    at_ = s.m.rd F.SWC_SPORE_BASE_ADDR * 0x1000 + s.m.rd F.SWC_SPORE_WR_IDX * 128 →
    0x10000000 ≤ at_ ∧ at_ + 128 ≤ 0x11000000 ∧ s.m.mem.clean ∧ s.m.pbr.sems = [] →
    s.admitsMem (s.m.iattr 0x22) at_ 128 1 →
    ∃ t, exec (.sporeRecordWrite) s = s.to t
      ∧ t.mem = s.m.mem.putBytes at_ (r.take 0x18 ++ toBytes 2 (s.m.rd F.SWC_SPORE_WR_SEQ) ++ r.drop 0x1A)
      ∧ t.swc = { s.m.swc with stage := rest }
      ∧ t.rd F.SWC_SPORE_WR_IDX = (s.m.rd F.SWC_SPORE_WR_IDX + 1) % 2 ^ s.m.rd F.SWC_SPORE_SIZE_LOG2 % 2 ^ F.SWC_SPORE_WR_IDX.width
      ∧ t.rd F.SWC_SPORE_WR_SEQ = (s.m.rd F.SWC_SPORE_WR_SEQ + 1) % 2 ^ 16
      ∧ Module.regsBut [F.SWC_SPORE_WR_IDX.key 0 0 0, F.SWC_SPORE_WR_SEQ.key 0 0 0] s.m t)
  ∧ (∀ (s : State) (st : Nat),
    s.m.works 6 = true →
    s.m.flag F.SWC_CTRL_SPORE_EN = true ∧ s.m.swc.stage ≠ [] →
    ∃ t, exec (.sporeFail st) s = s.to t
      ∧ t.rd F.SWC_CTRL_SPORE_EN = 0 ∧ t.swc = { s.m.swc with stage := [] } ∧ t.rd F.SWC_EVT_SPORE_FAIL = 1)
  ∧ (∀ (s : State) (i : Fin 256),
    s.m.works 6 = true →
    (wordAt (tget [] s.m.swc.streams i.val) 1).testBit 29 = true ∧ (wordAt (tget [] s.m.swc.streams i.val) 2).testBit 17 = true →
    (tget {} s.m.swc.recov i.val).inReset = false →
    (tget {} s.m.swc.recov i.val).last + wordAt (tget [] s.m.swc.streams i.val) 3 / 2 ^ 16 * 1000 ≤ s.m.now →
    ∃ t, exec (.streamRecoveryReset i) s = s.to t
      ∧ tget {} t.swc.recov i.val = {} ∧ (∀ k ∈ List.range 256, k ≠ i.val → tget {} t.swc.recov k = tget {} s.m.swc.recov k)
      ∧ t = { s.m with swc := { s.m.swc with recov := t.swc.recov, streams := t.swc.streams } })
  ∧ (∀ (s : State),
    s.m.works 6 = true →
    exec (.queueAgeCheck) s = s.to (s.m.ageCheck))
  ∧ (∀ (s : State),
    s.m.works 6 = true →
    exec (.sporeRecordWrite) s = s.to (s.m.sporeWrite))
  ∧ (∀ (s : State) (i : Fin 256),
    s.m.works 6 = true →
    exec (.streamRecoveryReset i) s = s.to (s.m.recovReset i.val))
  ∧ (∀ (s : State) (port : Fin 16) (parity : Option (Fin 8192)),
    s.m.works 6 = true →
    exec (.copyTransmitStart port parity) s = s.to (s.m.transmitStart port.val (parity.map Fin.val)))
  ∧ (∀ (s : State) (port : Fin 15) (parity : Option (Fin 8192)),
    s.m.works 6 = true →
    exec (.copyTransmitEnd port parity) s = s.to (s.m.transmitEnd port.val (parity.map Fin.val)))

/-- R514–R518, R525, R528, R550: flow control, links, PHY firmware and counters of the MACs. Where the manual leaves its words open, the statement takes the model's reading (log entry 35). -/
def Obligations.PortMacs : Prop :=
  (∀ (s : State) (port : Fin 15) (quanta : Fin 65536),
    s.m.works 7 = true →
    s.m.pauseActs port.val 1 = true →
    ∃ t, exec (.pauseReceive port quanta) s = s.to t
      ∧ (quanta ≠ 0 → (∀ c ∈ List.range 8, ¬ (port.val < 3 ∧ c = 7) → (t.classHold port.val c).ns = Module.quantaNs port.val quanta.val))
      ∧ (∀ c ∈ List.range 8, (t.rd F.MAC_STAT_HELD port.val).testBit c
      = (if port.val < 3 ∧ c = 7 then (s.m.rd F.MAC_STAT_HELD port.val).testBit c else decide (quanta ≠ 0)))
      ∧ tget 0 (tget {} t.mac port.val).cnt 4 = (tget 0 (tget {} s.m.mac port.val).cnt 4 + 1) % 2 ^ 64
      ∧ Module.regsBut [F.MAC_STAT_HELD.key port.val 0 0] s.m t
      ∧ t = { s.m with regs := t.regs, mac := t.mac })
  ∧ (∀ (s : State) (port : Fin 15) (enable : Fin 256) (quanta : List (Fin 65536)),
    s.m.works 7 = true →
    s.m.pauseActs port.val 2 = true →
    ∃ t, exec (.pfcReceive port enable quanta) s = s.to t
      ∧ (∀ c ∈ List.range 8, (t.rd F.MAC_STAT_HELD port.val).testBit c
      = (if (port.val < 3 ∧ c = 7) ∨ enable.val.testBit c = false then (s.m.rd F.MAC_STAT_HELD port.val).testBit c
      else decide ((quanta.map (·.val)).getD c 0 ≠ 0)))
      ∧ Module.regsBut [F.MAC_STAT_HELD.key port.val 0 0] s.m t
      ∧ t = { s.m with regs := t.regs, mac := t.mac })
  ∧ (∀ (s : State) (port : Fin 15) (cls : Fin 8) (f : Nat),
    s.m.works 7 = true →
    (s.m.classHold port.val cls.val).start = some f ∧ (s.m.rd F.MAC_STAT_HELD port.val).testBit cls.val = true →
    f * 1000 + (s.m.classHold port.val cls.val).ns ≤ s.m.now * 1000 →
    ∃ t, exec (.pauseHoldExpiry port cls) s = s.to t
      ∧ (∀ c ∈ List.range 8, (t.rd F.MAC_STAT_HELD port.val).testBit c
      = ((s.m.rd F.MAC_STAT_HELD port.val).testBit c && decide (c ≠ cls.val)))
      ∧ t.classHold port.val cls.val = {}
      ∧ Module.regsBut [F.MAC_STAT_HELD.key port.val 0 0] s.m t ∧ t = { s.m with regs := t.regs, mac := t.mac })
  ∧ (∀ (s : State) (port : Fin 15),
    s.m.works 7 = true →
    s.m.fcOn port.val = true ∧ s.m.portBusy port.val = false →
    s.m.rd F.SWC_PORT_STAT_XOFF port.val ≠ (tget {} s.m.mac port.val).told →
    ∃ t, exec (.pauseFrameSend port) s = s.to t
      ∧ t.out = .frame port.val (s.m.pauseFrame port.val (s.m.rd F.SWC_PORT_STAT_XOFF port.val)
      (tget {} s.m.mac port.val).told) :: s.m.out
      ∧ (tget {} t.mac port.val).told = s.m.rd F.SWC_PORT_STAT_XOFF port.val ∧ (tget {} t.mac port.val).sentUs = s.m.now ∧ t = { s.m with mac := t.mac, out := t.out })
  ∧ (∀ (s : State) (port : Fin 15),
    s.m.works 7 = true →
    s.m.fcOn port.val = true ∧ s.m.portBusy port.val = false →
    s.m.rd F.SWC_PORT_STAT_XOFF port.val ≠ 0 →
    Module.quantaNs port.val (s.m.rd F.MAC_PAUSE_CFG_REFRESH port.val) ≤ (s.m.now - (tget {} s.m.mac port.val).sentUs) * 1000 →
    ∃ t, exec (.pauseRefresh port) s = s.to t
      ∧ t.out = .frame port.val (s.m.pauseFrame port.val (s.m.rd F.SWC_PORT_STAT_XOFF port.val)
      (tget {} s.m.mac port.val).told) :: s.m.out
      ∧ t = { s.m with mac := t.mac, out := t.out })
  ∧ (∀ (s : State) (port : Fin 15) (cls : Fin 8),
    s.m.works 7 = true →
    s.m.rd F.MAC_PAUSE_WDT_MS port.val ≠ 0 →
    (s.m.rd F.MAC_STAT_HELD port.val).testBit cls.val = true →
    (s.m.classHold port.val cls.val).since + s.m.rd F.MAC_PAUSE_WDT_MS port.val * 1000 ≤ s.m.now →
    ∃ t, exec (.pauseWdt port cls) s = s.to t
      ∧ t.rd F.MAC_STAT_HELD port.val = 0 ∧ t.rd F.MAC_STAT_PAUSE_IGN port.val = 1
      ∧ t.rd F.MAC_PAUSE_IGN_REMAIN_MS port.val = 1000 ∧ t.rd F.MAC_EVT_PAUSE_WDT port.val = 1)
  ∧ (∀ (s : State) (port : Fin 15),
    s.m.works 7 = true →
    s.m.rd F.MAC_PAUSE_IGN_REMAIN_MS port.val = 0 →
    ∃ t, exec (.pauseIgnoreEnd port) s = s.to t
      ∧ t.rd F.MAC_STAT_PAUSE_IGN port.val = 0 ∧ t = { s.m with regs := t.regs }
      ∧ Module.regsBut [F.MAC_STAT_PAUSE_IGN.key port.val 0 0] s.m t)
  ∧ (∀ (s : State) (port : Fin 12) (g : Nat),
    s.m.works 7 = true →
    s.m.sys.serLock = true ∧ s.m.flag F.MAC_PHY_CTRL_EN (port.val + 3) = true →
    portSeg (port.val + 3) = some g ∧ s.m.segState g ≠ 2 ∧ (s.m.seg g).wakeDue = false →
    s.m.phyLoading (Module.phyKind (port.val + 3)) = false →
    ∃ t, exec (.phyLinkUp port) s = s.to t
      ∧ t.rd F.MAC_STAT_LINK (port.val + 3) = 1 ∧ t.rd F.SWC_PORT_STAT_LINK (port.val + 3) = 1
      ∧ t.rd F.MAC_PHY_STAT_LINK (port.val + 3) = 1 ∧ t.rd F.MAC_PHY_STAT_ENERGY (port.val + 3) = 1
      ∧ t = { s.m with regs := t.regs })
  ∧ (∀ (s : State) (port : Fin 12) (g : Nat),
    s.m.works 7 = true →
    s.m.sys.serLock = true ∧ s.m.flag F.MAC_PHY_CTRL_EN (port.val + 3) = true →
    portSeg (port.val + 3) = some g ∧ s.m.segState g ≠ 2 ∧ (s.m.seg g).wakeDue = true →
    s.m.phyLoading (Module.phyKind (port.val + 3)) = false →
    exec (.phyLinkUp port) s = s.to (((s.m.setLink (port.val + 3) true).setSeg g (fun x => { x with wakeDue := false })).sendWake g))
  ∧ (∀ (s : State) (port : Fin 3),
    s.m.works 7 = true →
    s.m.sys.serLock = true →
    ∃ t, exec (.blockLock port) s = s.to t
      ∧ t.rd F.MAC_STAT_LINK port.val = 1 ∧ t.rd F.SWC_PORT_STAT_LINK port.val = 1
      ∧ t.rd F.MAC_STAT_LOCAL_FAULT port.val = 0 ∧ t.rd F.MAC_STAT_REMOTE_FAULT port.val = 0 ∧ t = { s.m with regs := t.regs })
  ∧ (∀ (s : State) (port : Fin 8) (sqi : Fin 8),
    s.m.works 7 = true →
    ∃ t, exec (.sqiLow port sqi) s = s.to t
      ∧ t.rd F.MAC_PHY_STAT_SQI (port.val + 3) = sqi.val
      ∧ (sqi.val ≤ s.m.rd F.MAC_PHY_CTRL_SQI_WARN (port.val + 3) → t.rd F.MAC_EVT_SQI_LOW (port.val + 3) = 1)
      ∧ Module.regsBut [F.MAC_PHY_STAT_SQI.key (port.val + 3) 0 0, F.MAC_EVT_SQI_LOW.key (port.val + 3) 0 0] s.m t
      ∧ t = { s.m with regs := t.regs })
  ∧ (∀ (s : State) (kind : Fin 256),
    s.m.works 7 = true →
    s.m.phyLoading kind.val = true →
    ∃ t, exec (.phyFwLoadDone kind) s = s.to t
      ∧ (s.m.phyGood kind.val = true → (∀ p ∈ List.range 15, t.rd F.MAC_PHY_STAT_FW_VER p = (if p ∈ Module.physOf kind.val
      then (s.m.phyEntry kind.val).getD 1 0 % 2 ^ F.MAC_PHY_STAT_FW_VER.width else s.m.rd F.MAC_PHY_STAT_FW_VER p)))
      ∧ (s.m.phyGood kind.val = true → (∀ p ∈ Module.physOf kind.val, t.rd F.MAC_PHY_STAT_ROM_FW p = 0))
      ∧ (s.m.phyGood kind.val = false → (∀ p ∈ Module.physOf kind.val, t.rd F.MAC_EVT_PHY_FW_BAD p = 1)
      ∧ (∀ p ∈ List.range 15, t.rd F.MAC_PHY_STAT_FW_VER p = s.m.rd F.MAC_PHY_STAT_FW_VER p))
      ∧ t = { s.m with regs := t.regs, boot := { s.m.boot with phyDone := setBit s.m.boot.phyDone kind.val true } })
  ∧ (∀ (s : State) (a : Access) (port : Fin 16) (v : Word),
    s.admitsWrite a (Module.macAddr port.val 0x70) →
    ∃ t, exec (.macCntSelWrite a port v) s = s.to t
      ∧ t.rd F.MAC_CNT_SEL_KIND port.val = v.toNat % 32
      ∧ t.rd F.MAC_CNT_VAL_VALUE port.val = tget 0 (tget {} s.m.mac port.val).cnt (v.toNat % 32) % 2 ^ 64 ∧ t.resp = {}
      ∧ Module.onlyRegs [F.MAC_CNT_SEL_KIND.key port.val 0 0, F.MAC_CNT_VAL_VALUE.key port.val 0 0] s.m t)
  ∧ (∀ (s : State) (port : Fin 15) (quanta : Fin 65536),
    s.m.works 7 = true →
    exec (.pauseReceive port quanta) s = s.to (s.m.pauseIn port.val quanta.val))
  ∧ (∀ (s : State) (port : Fin 15) (cls : Fin 8),
    s.m.works 7 = true →
    exec (.pauseHoldExpiry port cls) s = s.to (s.m.holdEnds port.val cls.val))
  ∧ (∀ (s : State) (port : Fin 15),
    s.m.works 7 = true →
    exec (.pauseFrameSend port) s = s.to (s.m.pauseSend port.val))
  ∧ (∀ (s : State) (port : Fin 15),
    s.m.works 7 = true →
    exec (.pauseRefresh port) s = s.to (s.m.pauseAgain port.val))
  ∧ (∀ (s : State) (port : Fin 15) (cls : Fin 8),
    s.m.works 7 = true →
    exec (.pauseWdt port cls) s = s.to (s.m.pauseWatch port.val cls.val))
  ∧ (∀ (s : State) (port : Fin 12),
    s.m.works 7 = true →
    exec (.phyLinkUp port) s = s.to (s.m.phyUp (port.val + 3)))
  ∧ (∀ (s : State) (port : Fin 3),
    s.m.works 7 = true →
    exec (.blockLock port) s = s.to (s.m.blockLock port.val))
  ∧ (∀ (s : State) (kind : Fin 256),
    s.m.works 7 = true →
    exec (.phyFwLoadDone kind) s = s.to (s.m.phyFw kind.val))
  ∧ (∀ (s : State) (port : Fin 15) (enable : Fin 256) (quanta : List (Fin 65536)),
    s.m.works 7 = true →
    exec (.pfcReceive port enable quanta) s = s.to (s.m.pfcIn port.val enable.val (quanta.map Fin.val)))

/-- R529–R551: the commands of HDMA. Where the manual leaves its words open, the statement takes the model's reading (log entry 36). -/
def Obligations.HostDma : Prop :=
  (∀ (s : State) (a : Access) (q : Fin 32) (v : Word),
    s.admitsWrite a (Module.hqAddr q.val 0x24) →
    exec (.hqTxTailWrite a q v) s = s.to (s.m.ok.wr F.HQ_TX_TAIL_IDX v.toNat q.val))
  ∧ (∀ (s : State) (a : Access) (q : Fin 32) (v : Word),
    s.admitsWrite a (Module.hqAddr q.val 0x0C) →
    exec (.hqRxTailWrite a q v) s = s.to (s.m.ok.wr F.HQ_RX_TAIL_IDX v.toNat q.val))
  ∧ (∀ (s : State) (a : Access) (q : Fin 32) (v : Word),
    s.admitsWrite a (Module.hqAddr q.val 0x08) →
    4 ≤ v.toNat % 16 ∧ v.toNat % 16 ≤ 12 ∧ v.toNat.testBit 16 = true ∧ s.m.flag F.HQ_RX_CFG_EN q.val = false →
    ∃ t, exec (.ringEnableWrite a q false v) s = s.to t
      ∧ t.rd F.HQ_RX_CFG_EN q.val = 1 ∧ t.rd F.HQ_RX_CFG_LOG2SZ q.val = v.toNat % 16
      ∧ t.hq q.val = { s.m.hq q.val with
      rx := []
      rxNext := s.m.rd F.HQ_RX_HEAD_IDX q.val }
      ∧ Module.regsBut [F.HQ_RX_CFG_EN.key q.val 0 0, F.HQ_RX_CFG_LOG2SZ.key q.val 0 0] s.m t
      ∧ t = { s.m.ok with regs := t.regs, hdma := { s.m.hdma with hqs := t.hdma.hqs } })
  ∧ (∀ (s : State) (a : Access) (q : Fin 32) (tx : Bool) (v : Word),
    s.admitsWrite a (Module.hqAddr q.val (if tx then 0x20 else 0x08)) →
    exec (.ringEnableWrite a q tx v) s = s.to (s.m.ok.ringConfig q.val tx v.toNat))
  ∧ (∀ (s : State) (q : Fin 32) (tx : Bool),
    s.m.works 8 = true →
    exec (.descriptorFetch q tx) s = s.to (if tx then (s.m.fetchSome q.val true 16).formFrames q.val 80 else s.m.fetchSome q.val false 16))
  ∧ (∀ (s : State) (q : Fin 32) (i : Nat),
    s.m.works 8 = true →
    (s.m.hq q.val).rxNext = i ∧ s.m.ringEn q.val false = true ∧ s.m.mayFetch q.val = true ∧ (s.m.hq q.val).rx.length < 16 →
    i ≠ s.m.ringTail q.val false % s.m.ringSize q.val false →
    (i + 1) % s.m.ringSize q.val false = s.m.ringTail q.val false % s.m.ringSize q.val false →
    s.m.mem.clean ∧ 0x10000000 ≤ s.m.ringDesc q.val false i ∧ s.m.ringDesc q.val false i + 32 ≤ 0x11000000 →
    s.admitsMem (s.m.hqAccess q.val true) (s.m.ringDesc q.val false i) 32 0 →
    ∃ t, exec (.descriptorFetch q false) s = s.to t
      ∧ t.hq q.val = { s.m.hq q.val with
      rx := (s.m.hq q.val).rx ++ [(i, Module.words (s.m.mem.bytes (s.m.ringDesc q.val false i) 32))]
      rxNext := (i + 1) % s.m.ringSize q.val false }
      ∧ t = { s.m with resp := t.resp, hdma := { s.m.hdma with hqs := t.hdma.hqs } })
  ∧ (∀ (s : State) (q : Fin 32) (f : TxFrame),
    s.m.works 8 = true →
    s.m.txReady q.val = some f ∧ s.m.txSync.txTurn = some q.val →
    exec (.txFrameHandoff q) s = s.to (s.m.txSync.passFrame q.val f false))
  ∧ (∀ (s : State) (q : Fin 32) (f : TxFrame),
    s.m.works 8 = true →
    s.m.txReady q.val = some f ∧ s.m.txSync.txTurn = some q.val →
    (s.m.txSync.readBuffers q.val f.descs).2.2 = none →
    ∃ t, exec (.txFrameHandoff q) s = s.to t
      ∧ tget 0 t.hdma.cnt (q.val * 16 + 2) = (tget 0 s.m.hdma.cnt (q.val * 16 + 2) + 1) % 2 ^ 64
      ∧ t.swc.nextId = s.m.swc.nextId + 1)
  ∧ (∀ (s : State) (q : Fin 32) (f : TxFrame) (due : Nat),
    s.m.works 8 = true →
    s.m.txNextFrame q.val = some f ∧ launchNs s.m.tai f.descs = some due ∧ due < s.m.tai + 1000 →
    s.m.flag F.HQ_TX_CFG_EN q.val = true →
    exec (.launchTime q) s = s.to (s.m.passFrame q.val f (decide (due + 100 < s.m.tai))))
  ∧ (∀ (s : State) (q : Fin 32) (f : TxFrame) (due : Nat),
    s.m.works 8 = true →
    s.m.txNextFrame q.val = some f ∧ launchNs s.m.tai f.descs = some due ∧ due < s.m.tai + 1000 →
    s.m.flag F.HQ_TX_CFG_EN q.val = true ∧ (s.m.readBuffers q.val f.descs).2.2 = none →
    ∃ t, exec (.launchTime q) s = s.to t
      ∧ tget 0 t.hdma.cnt (q.val * 16 + 2) = (tget 0 s.m.hdma.cnt (q.val * 16 + 2) + 1) % 2 ^ 64
      ∧ t.swc.nextId = s.m.swc.nextId + 1)
  ∧ (∀ (s : State) (port : Fin 15) (e : Nat × Nat × Nat × Nat),
    s.m.works 7 = true →
    s.m.swc.tsDue.find? (fun e => e.1 == port.val) = some e →
    (s.m.hq e.2.1).frames.any (fun f => f.no == e.2.2.1) = true ∧ s.m.rd F.MAC_TXTS_STAT_OCC port.val < 64 →
    ∃ t, exec (.txTimestampStore port) s = s.to t
      ∧ t.swc = { s.m.swc with tsDue := s.m.swc.tsDue.erase e }
      ∧ t.rd F.MAC_TXTS_STAT_LOST_PEND port.val = 0
      ∧ t.rd F.MAC_TXTS_LOST_COUNT port.val = s.m.rd F.MAC_TXTS_LOST_COUNT port.val)
  ∧ (∀ (s : State) (port : Fin 15) (e : Nat × Nat × Nat × Nat),
    s.m.works 7 = true →
    s.m.swc.tsDue.find? (fun e => e.1 == port.val) = some e →
    (s.m.hq e.2.1).frames.any (fun f => f.no == e.2.2.1) = true ∧ 64 ≤ s.m.rd F.MAC_TXTS_STAT_OCC port.val →
    ∃ t, exec (.txTimestampStore port) s = s.to t
      ∧ t.swc = { s.m.swc with tsDue := s.m.swc.tsDue.erase e } ∧ t.rd F.MAC_EVT_TS_LOST port.val = 1
      ∧ t.rd F.MAC_TXTS_LOST_COUNT port.val = sat F.MAC_TXTS_LOST_COUNT.width (s.m.rd F.MAC_TXTS_LOST_COUNT port.val + 1))
  ∧ (∀ (s : State) (f : SwFrame) (c : Copy) (q : Nat),
    s.m.works 8 = true →
    s.m.sendingCopy 15 = some (f, c) ∧ f.ended = true ∧ s.m.rxQueue f = q →
    s.m.flag F.IMG_INST_CFG_ASSIGNED (64 + q) = true ∧ s.m.flag F.HQ_RX_CFG_EN q = true ∧ (s.m.hq q).park = none →
    ((s.m.hq q).rx ≠ [] ∨ (s.m.hq q).rxNext ≠ s.m.rd F.HQ_RX_TAIL_IDX q % s.m.ringSize q false) →
    exec (.rxFrameDeliver) s = s.to (s.m.rxRun q (s.m.rxFrame f c) 256))
  ∧ (∀ (s : State) (f : SwFrame) (c : Copy) (q i : Nat) (w : List Nat) (data : List Byte),
    s.m.works 8 = true →
    s.m.sendingCopy 15 = some (f, c) ∧ f.ended = true ∧ s.m.rxQueue f = q ∧ q < 32 →
    s.m.flag F.IMG_INST_CFG_ASSIGNED (64 + q) = true ∧ s.m.flag F.HQ_RX_CFG_EN q = true ∧ (s.m.hq q).park = none →
    (s.m.hq q).rx = [(i, w)] ∧ data = f.out c (s.m.vlanUntag f.vid) ∧ 0 < data.length ∧ data.length ≤ w.getD 2 0 % 2 ^ 15 →
    s.m.mem.clean ∧ s.m.pbr.sems = [] ∧ 0x10000000 ≤ descAddr w ∧ descAddr w + data.length ≤ 0x11000000 →
    s.admitsMem (s.m.hqAccess q false) (descAddr w) data.length 1 →
    s.admitsMem (s.m.hqAccess q false) (s.m.ringDesc q false i) 32 1 →
    descAddr w + data.length ≤ s.m.ringDesc q false i ∧ s.m.ringDesc q false i + 32 ≤ 0x11000000 →
    ∃ t, exec (.rxFrameDeliver) s = s.to t
      ∧ t.mem.bytes (descAddr w) data.length = data
      ∧ t.rd F.HQ_IRQ_STAT_RX q = 1 ∧ t.rd F.HQ_RX_HEAD_IDX q = (i + 1) % s.m.ringSize q false % 2 ^ F.HQ_RX_HEAD_IDX.width
      ∧ tget 0 t.hdma.cnt (q * 16) = (tget 0 s.m.hdma.cnt (q * 16) + 1) % 2 ^ 64
      ∧ (t.hq q).rx = [] ∧ (t.hq q).park = none)
  ∧ (∀ (s : State) (q : Fin 32) (r : RxFrame),
    s.m.works 8 = true →
    (s.m.hq q.val).park = some r ∧ s.m.rd F.HQ_STAT_STALL_US q.val < 1000 →
    exec (.parkResume q) s = s.to (s.m.rxRun q.val r 256))
  ∧ (∀ (s : State) (q : Fin 32) (r : RxFrame),
    s.m.works 8 = true →
    (s.m.hq q.val).park = some r ∧ s.m.rd F.HQ_STAT_STALL_US q.val < 1000 →
    r.data.length ≤ r.off ∧ r.filled = [] →
    ∃ t, exec (.parkResume q) s = s.to t
      ∧ (t.hq q.val).park = none ∧ t.rd F.HQ_IRQ_STAT_RX q.val = 1 ∧ t.rd F.HQ_STAT_STALL_US q.val = 0
      ∧ tget 0 t.hdma.cnt (q.val * 16) = (tget 0 s.m.hdma.cnt (q.val * 16) + 1) % 2 ^ 64)
  ∧ (∀ (s : State) (q : Fin 32) (r : RxFrame),
    s.m.works 8 = true →
    (s.m.hq q.val).park = some r ∧ 1000 ≤ s.m.rd F.HQ_STAT_STALL_US q.val →
    ∃ t, exec (.parkStallTimeout q) s = s.to t
      ∧ (t.hq q.val).park = none ∧ t.rd F.HQ_IRQ_STAT_RX_PARTIAL q.val = 1 ∧ t.rd F.HDMA_EVT_RX_PARTIAL = 1
      ∧ t.rd F.HQ_RX_PARTIAL_COUNT q.val = sat F.HQ_RX_PARTIAL_COUNT.width (s.m.rd F.HQ_RX_PARTIAL_COUNT q.val + 1)
      ∧ tget 0 t.hdma.cnt (q.val * 16 + 5) = (tget 0 s.m.hdma.cnt (q.val * 16 + 5) + 1) % 2 ^ 64)
  ∧ (∀ (s : State) (q : Fin 32) (addr status : Nat),
    s.m.works 8 = true →
    status < 256 →
    ∃ t, exec (.dmaError q true addr status) s = s.to t
      ∧ t.rd F.HQ_TX_CFG_EN q.val = 0 ∧ t.rd F.HQ_ERR_STATUS q.val = status ∧ t.rd F.HQ_ERR_TX q.val = 1
      ∧ t.rd F.HQ_IRQ_STAT_ERR q.val = 1 ∧ t.rd F.HDMA_EVT_DMA_ERR = 1
      ∧ t.hq q.val = { s.m.hq q.val with
      tx := []
      frames := (s.m.hq q.val).frames.filter (·.passed) }
      ∧ t.swc = s.m.swc ∧ (∀ k ∈ List.range 32, k ≠ q.val → t.hq k = s.m.hq k))
  ∧ (∀ (s : State) (q : Fin 32) (addr status : Nat),
    s.m.works 8 = true →
    exec (.dmaError q false addr status) s = s.to ((s.m.ringStop q.val false addr status).parkEnd q.val))
  ∧ (∀ (s : State) (a : Access) (v : Word),
    s.admitsWrite a 0x20600100 →
    ∃ t, exec (.hdmaCntSelWrite a v) s = s.to t
      ∧ t.rd F.HDMA_CNT_SEL_HQ = v.toNat % 32 ∧ t.rd F.HDMA_CNT_SEL_KIND = v.toNat / 2 ^ 8 % 16 ∧ t.resp = {}
      ∧ t.rd F.HDMA_CNT_VAL_VALUE = tget 0 s.m.hdma.cnt (v.toNat % 32 * 16 + v.toNat / 2 ^ 8 % 16) % 2 ^ 64
      ∧ Module.onlyRegs [F.HDMA_CNT_SEL_HQ.key 0 0 0, F.HDMA_CNT_SEL_KIND.key 0 0 0, F.HDMA_CNT_VAL_VALUE.key 0 0 0] s.m t)
  ∧ (∀ (s : State) (q : Fin 32),
    s.m.works 8 = true →
    exec (.txFrameHandoff q) s = s.to (s.m.handoff q.val))
  ∧ (∀ (s : State) (q : Fin 32),
    s.m.works 8 = true →
    exec (.launchTime q) s = s.to (s.m.launch q.val))
  ∧ (∀ (s : State) (port : Fin 15),
    s.m.works 7 = true →
    exec (.txTimestampStore port) s = s.to (s.m.tsStore port.val))
  ∧ (∀ (s : State),
    s.m.works 8 = true →
    exec (.rxFrameDeliver) s = s.to (s.m.deliver))
  ∧ (∀ (s : State) (q : Fin 32),
    s.m.works 8 = true →
    exec (.parkResume q) s = s.to (s.m.parkResume q.val))

/-- R559–R578: the commands of TMU. Where the manual leaves its words open, the statement takes the model's reading (log entry 37). -/
def Obligations.TimeUnit : Prop :=
  (∀ (s : State) (a : Access) (v : Word),
    s.admitsWrite a 0x2070004C →
    v.toNat / 2 ^ 16 = 0x544D ∧ v.toNat % 4 = 1 ∧ s.m.rd F.TMU_SET_NS_NS < 1000000000 →
    s.m.rd F.TMU_SET_SEC_HI_SEC < 2 ^ 16 ∧ s.m.rd F.TMU_SET_SEC_LO_SEC < 2 ^ 32 →
    ∃ t, exec (.tmuSet a v) s = s.to t
      ∧ t.tmu.t = ((s.m.rd F.TMU_SET_SEC_LO_SEC + s.m.rd F.TMU_SET_SEC_HI_SEC * 2 ^ 32) * 1000000000
      + s.m.rd F.TMU_SET_NS_NS) * 2 ^ 32
      ∧ t.rd F.TMU_SET_STAT_STATUS = 0 ∧ t.rd F.TMU_EVT_SET_DONE = 1 ∧ t.rd F.TMU_EVT_STEPPED = 1
      ∧ (t.rd F.TMU_STAT_STATE = if s.m.rd F.TMU_STAT_STATE = 2 then 1 else s.m.rd F.TMU_STAT_STATE))
  ∧ (∀ (s : State) (a : Access) (v : Word),
    s.admitsWrite a 0x2070004C →
    exec (.tmuSet a v) s = s.to (s.m.ok.setCommand v.toNat))
  ∧ (∀ (s : State) (a : Access) (v : Word),
    s.admitsWrite a 0x2070004C →
    v.toNat / 2 ^ 16 = 0x544D ∧ v.toNat % 4 = 2 →
    0 ≤ (s.m.tmu.t : Int) + signed 64 (s.m.rd F.TMU_ADJ_NS_NS) * 4294967296 →
    ∃ t, exec (.tmuAdj a v) s = s.to t
      ∧ t.tmu.t = ((s.m.tmu.t : Int) + signed 64 (s.m.rd F.TMU_ADJ_NS_NS) * 4294967296).toNat % (2 ^ 48 * 1000000000 * 2 ^ 32)
      ∧ t.rd F.TMU_SET_STAT_STATUS = 0 ∧ t.rd F.TMU_EVT_SET_DONE = 1 ∧ t.rd F.TMU_EVT_STEPPED = 1
      ∧ (t.rd F.TMU_STAT_STATE = if s.m.rd F.TMU_STAT_STATE = 2 then 1 else s.m.rd F.TMU_STAT_STATE))
  ∧ (∀ (s : State) (a : Access) (v : Word),
    s.admitsWrite a 0x2070004C →
    exec (.tmuAdj a v) s = s.to (s.m.ok.setCommand v.toNat))
  ∧ (∀ (s : State) (a : Access) (v : Word),
    s.admitsWrite a 0x20700000 →
    v.toNat.testBit 0 = true ∧ s.m.flag F.TMU_CTRL_SERVO_EN = false →
    ∃ t, exec (.servoEnWrite a v) s = s.to t
      ∧ t.rd F.TMU_CTRL_SERVO_EN = 1 ∧ t.rd F.TMU_CTRL_SRC = v.toNat / 2 % 2 ∧ t.rd F.TMU_CTRL_STEP_EN = v.toNat / 4 % 2
      ∧ t.rd F.TMU_STAT_STATE = 1 ∧ t.rd F.TMU_STAT_LOCK_RUN = 0
      ∧ t.tmu = { s.m.tmu with
      miss := 0
      sampleUs := s.m.boot.us
      ppsUs := if v.toNat.testBit 1 = true ∧ s.m.flag F.TMU_CTRL_SRC = false then s.m.boot.us else s.m.tmu.ppsUs }
      ∧ Module.regsBut [F.TMU_CTRL_SERVO_EN.key 0 0 0, F.TMU_CTRL_SRC.key 0 0 0, F.TMU_CTRL_STEP_EN.key 0 0 0,
      F.TMU_STAT_STATE.key 0 0 0, F.TMU_STAT_LOCK_RUN.key 0 0 0] s.m t)
  ∧ (∀ (s : State) (a : Access) (v : Word),
    s.admitsWrite a 0x20700000 →
    exec (.servoEnWrite a v) s = s.to (s.m.ok.tmuControl v.toNat))
  ∧ (∀ (s : State) (a : Access) (v : Word),
    s.admitsWrite a 0x20700060 →
    s.m.flag F.TMU_CTRL_SERVO_EN = true ∧ s.m.flag F.TMU_CTRL_SRC = false →
    v.toNat ≠ 0x80000000 ∧ (s.m.flag F.TMU_CTRL_STEP_EN = false ∨ (signed 32 v.toNat).natAbs ≤ 1000000) →
    ∃ t, exec (.offsetSample a v) s = s.to t
      ∧ t.rd F.TMU_SRV_LAST_NS = v.toNat ∧ t.tmu.sampleUs = s.m.boot.us
      ∧ t.rd F.TMU_SRV_INTEG_I = unsigned F.TMU_SRV_INTEG_I.width (clampRate (s.m.rdS F.TMU_SRV_INTEG_I
      + (s.m.rd F.TMU_SRV_CFG_KI : Int) * signed 32 v.toNat / 256))
      ∧ t.mem = s.m.mem ∧ t.tmu.t = s.m.tmu.t)
  ∧ (∀ (s : State) (a : Access) (v : Word),
    s.admitsWrite a 0x20700060 →
    s.m.flag F.TMU_CTRL_SERVO_EN = true ∧ s.m.flag F.TMU_CTRL_SRC = false ∧ s.m.flag F.TMU_CTRL_STEP_EN = true →
    v.toNat ≠ 0x80000000 ∧ 1000000 < (signed 32 v.toNat).natAbs →
    0 ≤ (s.m.tmu.t : Int) - signed 32 v.toNat * 4294967296 →
    ∃ t, exec (.offsetSample a v) s = s.to t
      ∧ t.rd F.TMU_SRV_LAST_NS = v.toNat ∧ t.rd F.TMU_EVT_STEPPED = 1
      ∧ t.tmu.t = ((s.m.tmu.t : Int) - signed 32 v.toNat * 4294967296).toNat % (2 ^ 48 * 1000000000 * 2 ^ 32)
      ∧ t.rd F.TMU_STEP_CNT_COUNT = (s.m.rd F.TMU_STEP_CNT_COUNT + 1) % 2 ^ F.TMU_STEP_CNT_COUNT.width)
  ∧ (∀ (s : State) (a : Access) (v : Word),
    s.admitsWrite a 0x20700060 →
    exec (.offsetSample a v) s = s.to (s.m.ok.softSample v.toNat))
  ∧ (∀ (s : State),
    s.m.works 9 = true →
    (s.m.flag F.TMU_CTRL_SERVO_EN = false ∨ s.m.flag F.TMU_CTRL_SRC = false) →
    exec (.ppsInEdge) s = s.to ({ s.m.wr F.TMU_PPS_IN_CAP_T s.m.tai with tmu := { s.m.tmu with ppsUs := s.m.boot.us } }))
  ∧ (∀ (s : State) (m : Module) (c sec tod : Nat),
    s.m.works 9 = true →
    s.m.flag F.TMU_CTRL_SERVO_EN = true ∧ s.m.flag F.TMU_CTRL_SRC = true ∧ c = s.m.tai ∧ sec = (c + 500000000) / 1000000000 →
    m = { s.m.wr F.TMU_PPS_IN_CAP_T c with tmu := { s.m.tmu with ppsUs := s.m.boot.us } } →
    tod = m.rd F.TMU_TOD_SEC_LO_SEC + m.rd F.TMU_TOD_SEC_HI * 2 ^ 32 →
    exec (.ppsInEdge) s = s.to (if m.flag F.TMU_TOD_VALID then
      (m.lower F.TMU_TOD_VALID).servoSample (((sec : Int) - (tod : Int)) * 1000000000 + ((c : Int) - ((sec * 1000000000 : Nat) : Int)))
      else m.servoSample ((c : Int) - ((sec * 1000000000 : Nat) : Int))))
  ∧ (∀ (s : State),
    s.m.works 9 = true →
    s.m.flag F.TMU_CTRL_SRC = true ∧ s.m.tmu.ppsUs + 3000000 ≤ s.m.boot.us →
    exec (.ppsMiss) s = s.to (s.m.wr F.TMU_EVT_PPS_MISS 1))
  ∧ (∀ (s : State),
    s.m.works 9 = true →
    (s.m.rd F.TMU_STAT_STATE = 1 ∨ s.m.rd F.TMU_STAT_STATE = 2) →
    s.m.samplesMissed = true →
    ∃ t, exec (.tmuHoldover) s = s.to t
      ∧ t.rd F.TMU_STAT_STATE = 3 ∧ t.rd F.TMU_STAT_LOCK_RUN = 0 ∧ t.rd F.TMU_EVT_HOLDOVER = 1
      ∧ t.rd F.TMU_RATE_RATE = unsigned F.TMU_RATE_RATE.width (- s.m.rdS F.TMU_SRV_INTEG_I) % 2 ^ F.TMU_RATE_RATE.width
      ∧ t.tmu = { s.m.tmu with miss := 0 })
  ∧ (∀ (s : State) (a : Access) (v : Word),
    s.admitsWrite a 0x20700074 →
    v.toNat.testBit 0 = true →
    (s.m.rd F.TMU_STAT_STATE = 1 ∨ s.m.rd F.TMU_STAT_STATE = 2) →
    ∃ t, exec (.reselect a v) s = s.to t
      ∧ t.rd F.TMU_STAT_STATE = 3 ∧ t.rd F.TMU_EVT_HOLDOVER = 1
      ∧ (t.rd F.TMU_SRV_INTEG_I = if v.toNat.testBit 1 then 0 else s.m.rd F.TMU_SRV_INTEG_I))
  ∧ (∀ (s : State) (a : Access) (v : Word),
    s.admitsWrite a 0x20700074 →
    exec (.reselect a v) s = s.to (s.m.ok.srvControl v.toNat))
  ∧ (∀ (s : State) (a : Access) (v : Word),
    s.admitsWrite a 0x20700074 →
    v.toNat.testBit 1 = true →
    (v.toNat.testBit 0 = false ∨ s.m.rd F.TMU_STAT_STATE ≠ 1 ∧ s.m.rd F.TMU_STAT_STATE ≠ 2) →
    exec (.srvReset a v) s = s.to (s.m.ok.wr F.TMU_SRV_INTEG_I 0))
  ∧ (∀ (s : State) (a : Access) (v : Word),
    s.admitsWrite a 0x20700074 →
    exec (.srvReset a v) s = s.to (s.m.ok.srvControl v.toNat))
  ∧ (∀ (s : State),
    s.m.works 9 = true →
    s.m.flag F.TMU_PPS_OUT_EN = true ∧ s.m.tmu.ppsDue = true →
    exec (.ppsOutRise) s = s.to ({ s.m with tmu := { s.m.tmu with
      ppsOut := true
      ppsDue := false
      riseUs := s.m.boot.us } }))
  ∧ (∀ (s : State),
    s.m.works 9 = true →
    s.m.tmu.riseUs + s.m.rd F.TMU_PPS_OUT_WIDTH_US ≤ s.m.boot.us →
    exec (.ppsOutFall) s = s.to ({ s.m with tmu := { s.m.tmu with ppsOut := false } }))
  ∧ (∀ (s : State) (k : Fin 4) (falling : Bool),
    s.m.works 9 = true →
    (s.m.rd F.TMU_EVI_CTRL_EDGE k.val).testBit (b2n falling) = true ∧ (s.m.evi k.val).length < 16 →
    exec (.evtInEdge k falling) s = s.to ((s.m.setEvi k.val (s.m.evi k.val ++ [⟨s.m.tai, falling⟩])).wr F.TMU_EVT_EVI 1))
  ∧ (∀ (s : State) (k : Fin 4) (falling : Bool),
    s.m.works 9 = true →
    exec (.evtInEdge k falling) s = s.to (s.m.evtIn k.val falling))
  ∧ (∀ (s : State) (a : Access) (k : Fin 4) (e : EviEntry) (r : List EviEntry),
    s.admitsRead a (0x20700108 + 16 * k.val) →
    commitsAtOnce a →
    s.m.evi k.val = e :: r →
    exec (.eviNsRead a k) s = s.to ((s.m.setEvi k.val r).ok (e.t % 1000000000 + b2n e.fall * 2 ^ 30 + 2 ^ 31)))
  ∧ (∀ (s : State) (a : Access) (k : Fin 4),
    s.admitsRead a (0x20700108 + 16 * k.val) →
    a.spec = true →
    exec (.eviNsRead a k) s = s.to ({ s.m with resp := { status := 0, data := s.m.eviWord k.val, skipped := true } }))
  ∧ (∀ (s : State) (a : Access) (k : Fin 4),
    s.admitsRead a (0x20700108 + 16 * k.val) →
    s.m.evi k.val = [] ∧ commitsAtOnce a →
    ∃ t, exec (.eviNsRead a k) s = s.to t
      ∧ t.resp = { status := 0, data := 0 }
      ∧ t = { s.m.ok with tmu := t.tmu } ∧ t.evi k.val = [])
  ∧ (∀ (s : State) (a : Access) (k : Fin 4) (v : Word) (start : Nat),
    s.admitsWrite a (0x20700140 + 32 * k.val) →
    1 ≤ v.toNat % 4 →
    start = nearSeconds s.m.taiSec (s.m.rd F.TMU_EVO_START_SEC_SEC k.val) * 1000000000 + s.m.rd F.TMU_EVO_START_NS_NS k.val →
    s.m.tai < start →
    ∃ t, exec (.evoArm a k v) s = s.to t
      ∧ t.rd F.TMU_EVO_CTRL_MODE k.val = v.toNat % 4 ∧ t.rd F.TMU_EVO_STAT_ARMED k.val = 1
      ∧ t.evo k.val = { start := start, next := start, pin := (s.m.evo k.val).pin }
      ∧ t = { s.m.ok with regs := t.regs, tmu := { s.m.tmu with evo := t.tmu.evo } }
      ∧ Module.regsBut [F.TMU_EVO_CTRL_MODE.key k.val 0 0, F.TMU_EVO_CTRL_LEVEL.key k.val 0 0,
      F.TMU_EVO_STAT_ARMED.key k.val 0 0] s.m t)
  ∧ (∀ (s : State) (a : Access) (k : Fin 4) (v : Word),
    s.admitsWrite a (0x20700140 + 32 * k.val) →
    v.toNat % 4 = 0 →
    exec (.evoArm a k v) s = s.to ((((s.m.ok.wr F.TMU_EVO_CTRL_MODE 0 k.val).wr F.TMU_EVO_CTRL_LEVEL (v.toNat / 4 % 2) k.val).setEvo k.val {}).wr F.TMU_EVO_STAT_ARMED 0 k.val))
  ∧ (∀ (s : State) (a : Access) (k : Fin 4) (v : Word),
    s.admitsWrite a (0x20700140 + 32 * k.val) →
    1 ≤ v.toNat % 4 →
    nearSeconds s.m.tai (s.m.rd F.TMU_EVO_START_SEC_SEC k.val) * 1000000000 + s.m.rd F.TMU_EVO_START_NS_NS k.val ≤ s.m.tai →
    ∃ t, exec (.evoArm a k v) s = s.to t
      ∧ t.rd F.TMU_EVO_STAT_OUT_LATE k.val = 1 ∧ t.rd F.TMU_EVT_OUT_LATE = 1 ∧ (t.evo k.val).fired = true)
  ∧ (∀ (s : State) (a : Access) (k : Fin 4) (v : Word),
    s.admitsWrite a (0x20700140 + 32 * k.val) →
    exec (.evoArm a k v) s = s.to (s.m.ok.evoControl k.val v.toNat))
  ∧ (∀ (s : State) (k : Fin 4),
    s.m.works 9 = true →
    s.m.flag F.TMU_EVO_STAT_ARMED k.val = true ∧ s.m.rd F.TMU_EVO_CTRL_MODE k.val = 3 ∧ (s.m.evo k.val).falls = false →
    (s.m.evo k.val).next < s.m.tai + 1000 →
    exec (.evoEdge k) s = s.to ((s.m.setEvo k.val { s.m.evo k.val with
      pin := s.m.flag F.TMU_EVO_CTRL_LEVEL k.val
      fired := true }).wr F.TMU_EVO_STAT_ARMED 0 k.val))
  ∧ (∀ (s : State) (k : Fin 4),
    s.m.works 9 = true →
    s.m.evoDue k.val = true →
    exec (.evoEdge k) s = s.to (s.m.evoEdgeNow k.val))
  ∧ (∀ (s : State) (a : Access) (n : Fin 16) (v : Word),
    s.admitsWrite a (0x20700204 + 16 * n.val) →
    8 ≤ n.val →
    s.m.flag F.TMU_TMR_CTRL_EN n.val = true →
    ∃ t, exec (.tmrLoad a n v) s = s.to t
      ∧ t.rd F.TMU_TMR_LOAD_US n.val = v.toNat ∧ t.rd F.TMU_TMR_REMAIN_US n.val = v.toNat ∧ t.tmu.timers.testBit n.val = true
      ∧ Module.regsBut [F.TMU_TMR_LOAD_US.key n.val 0 0, F.TMU_TMR_REMAIN_US.key n.val 0 0] s.m t)
  ∧ (∀ (s : State) (a : Access) (n : Fin 16) (v : Word),
    s.admitsWrite a (0x20700204 + 16 * n.val) →
    8 ≤ n.val →
    s.m.flag F.TMU_TMR_CTRL_EN n.val = false →
    exec (.tmrLoad a n v) s = s.to (s.m.ok.wr F.TMU_TMR_LOAD_US v.toNat n.val))
  ∧ (∀ (s : State) (a : Access) (n : Fin 16) (v : Word),
    s.admitsWrite a (0x20700204 + 16 * n.val) →
    n.val < 8 →
    exec (.tmrLoad a n v) s = s.to (s.m.ok))
  ∧ (∀ (s : State) (n : Fin 16),
    s.m.works 9 = true →
    s.m.tmu.timers.testBit n.val = true ∧ s.m.rd F.TMU_TMR_REMAIN_US n.val = 0 ∧ 8 ≤ n.val ∧ s.m.flag F.TMU_TMR_CTRL_PERIODIC n.val = false →
    ∃ t, exec (.tmrExpiry n) s = s.to t
      ∧ t.rd F.TMU_TMR_REMAIN_US n.val = 0 ∧ t.tmu.timers.testBit n.val = false
      ∧ (t.rd F.TMU_TMR_EVT_EXPIRED).testBit n.val = true ∧ t.rd F.TMU_EVT_TMR = 1
      ∧ t = { s.m with regs := t.regs, tmu := { s.m.tmu with timers := t.tmu.timers } })
  ∧ (∀ (s : State) (n : Fin 16),
    s.m.works 9 = true →
    s.m.tmu.timers.testBit n.val = true ∧ 8 ≤ n.val ∧ s.m.flag F.TMU_TMR_CTRL_PERIODIC n.val = true →
    s.m.rd F.TMU_TMR_REMAIN_US n.val = 0 →
    ∃ t, exec (.tmrExpiry n) s = s.to t
      ∧ t.rd F.TMU_TMR_REMAIN_US n.val = s.m.rd F.TMU_TMR_LOAD_US n.val % 2 ^ F.TMU_TMR_REMAIN_US.width
      ∧ t.tmu.timers.testBit n.val = true ∧ (t.rd F.TMU_TMR_EVT_EXPIRED).testBit n.val = true ∧ t.rd F.TMU_EVT_TMR = 1)
  ∧ (∀ (s : State) (n : Fin 16),
    s.m.works 9 = true →
    exec (.tmrExpiry n) s = s.to (s.m.timerReached n.val))
  ∧ (∀ (s : State),
    s.m.works 9 = true →
    exec (.ppsInEdge) s = s.to (s.m.ppsIn))
  ∧ (∀ (s : State) (a : Access) (k : Fin 4),
    s.genuine a 0 →
    exec (.eviNsRead a k) s = s.to ((s.m.eviRead a k.val).pairFault a 0))

/-- R590–R608: CAN_CMD, CAN_CTRL and the error states. Where the manual leaves its words open, the statement takes the model's reading (log entries 12 and 38). -/
def Obligations.CanObjectsAndModes : Prop :=
  (∀ (s : State) (a : Access) (c : Fin 12) (obj : Fin 128),
    s.admitsWrite a (Module.canAddr c.val 0x14) →
    s.m.canRefusal c.val 1 obj.val = none →
    ∃ t, exec (.canOpen a c obj) s = s.to t
      ∧ t.rd F.CAN_OBJ_STAT_OPEN c.val obj.val = 1
      ∧ t.canDone c.val 1 obj.val
      ∧ Module.onlyRegs (F.CAN_OBJ_STAT_OPEN.key c.val obj.val 0 :: canKeys c.val) s.m t)
  ∧ (∀ (s : State) (a : Access) (c : Fin 12) (obj : Fin 128),
    s.admitsWrite a (Module.canAddr c.val 0x14) →
    s.m.canRefusal c.val 2 obj.val = none →
    s.m.flag F.CAN_OBJ_STAT_SHADOW_FULL c.val obj.val = false →
    ∃ t, exec (.canClose a c obj) s = s.to t
      ∧ t.rd F.CAN_OBJ_STAT_OPEN c.val obj.val = 0 ∧ t.rd F.CAN_OBJ_STAT_VALID c.val obj.val = 0
      ∧ t.canDone c.val 2 obj.val
      ∧ Module.onlyRegs ([F.CAN_OBJ_STAT_OPEN.key c.val obj.val 0, F.CAN_OBJ_STAT_VALID.key c.val obj.val 0] ++ canKeys c.val) s.m t)
  ∧ (∀ (s : State) (a : Access) (c : Fin 12) (obj : Fin 128),
    s.admitsWrite a (Module.canAddr c.val 0x14) →
    s.m.canRefusal c.val 2 obj.val = none →
    s.m.flag F.CAN_OBJ_STAT_SHADOW_FULL c.val obj.val = true →
    (tget {} (s.m.canSt c.val).shadow obj.val).f.data.length ≤ 64 →
    ∃ t, exec (.canClose a c obj) s = s.to t
      ∧ t.rd F.CAN_OBJ_STAT_OPEN c.val obj.val = 0 ∧ t.rd F.CAN_OBJ_STAT_VALID c.val obj.val = 1
      ∧ t.rd F.CAN_OBJ_STAT_SHADOW_FULL c.val obj.val = 0
      ∧ t.rd F.CAN_OBJ_RXID_ID c.val obj.val = (tget {} (s.m.canSt c.val).shadow obj.val).f.id % 2 ^ F.CAN_OBJ_RXID_ID.width
      ∧ (t.rd F.CAN_RX_NEW_MAP c.val (obj.val / 32)).testBit (obj.val % 32) = true ∧ t.rd F.CAN_EVT_RX_NEW c.val = 1
      ∧ t.mem = s.m.mem ∧ t.out = s.m.out)
  ∧ (∀ (s : State) (a : Access) (c : Fin 12) (obj : Fin 128),
    s.admitsWrite a (Module.canAddr c.val 0x14) →
    s.m.canRefusal c.val 3 obj.val = none →
    s.m.flag F.CAN_STAT_XCVR_SLEEP c.val = false ∧ s.m.inGrace c.val = false →
    ∃ t, exec (.txReq a c obj) s = s.to t
      ∧ t.rd F.CAN_OBJ_STAT_TX_PENDING c.val obj.val = 1 ∧ t.rd F.CAN_OBJ_STAT_ATTEMPTS c.val obj.val = 0
      ∧ t.canDone c.val 3 obj.val
      ∧ Module.onlyRegs ([F.CAN_OBJ_STAT_TX_PENDING.key c.val obj.val 0, F.CAN_OBJ_STAT_ATTEMPTS.key c.val obj.val 0]
      ++ canKeys c.val) s.m t)
  ∧ (∀ (s : State) (a : Access) (c : Fin 12) (obj : Fin 128),
    s.admitsWrite a (Module.canAddr c.val 0x14) →
    s.m.canRefusal c.val 4 obj.val = none →
    (s.m.canSt c.val).attempt ≠ some (some obj.val) →
    ∃ t, exec (.canCancel a c obj) s = s.to t
      ∧ t.rd F.CAN_OBJ_STAT_TX_PENDING c.val obj.val = 0 ∧ t.rd F.CAN_OBJ_STAT_SENT c.val obj.val = 0
      ∧ t.rd F.CAN_OBJ_STAT_STATUS c.val obj.val = 0x0A
      ∧ (t.rd F.CAN_TX_END_MAP c.val (obj.val / 32)).testBit (obj.val % 32) = true ∧ t.rd F.CAN_EVT_TX_DONE c.val = 1
      ∧ t.canDone c.val 4 obj.val ∧ t = { s.m.ok with regs := t.regs })
  ∧ (∀ (s : State) (a : Access) (c : Fin 12) (obj : Fin 128),
    s.admitsWrite a (Module.canAddr c.val 0x14) →
    s.m.canRefusal c.val 5 obj.val = none →
    (s.m.canSt c.val).head = none ∧ s.m.rd F.CAN_XTX_TAIL_IDX c.val = s.m.rd F.CAN_XTX_HEAD_IDX c.val →
    s.m.rd F.CAN_XTX_HEAD_IDX c.val < s.m.xlSize c.val true →
    ∃ t, exec (.xtxCancel a c obj) s = s.to t
      ∧ t.rd F.CAN_XTX_CFG_EN c.val = 0 ∧ t.rd F.CAN_XTX_HEAD_IDX c.val = s.m.rd F.CAN_XTX_TAIL_IDX c.val % 2 ^ F.CAN_XTX_HEAD_IDX.width
      ∧ t.canDone c.val 5 obj.val
      ∧ t = { s.m.ok with regs := t.regs })
  ∧ (∀ (s : State) (a : Access) (c : Fin 12) (obj : Fin 128),
    s.admitsWrite a (Module.canAddr c.val 0x14) →
    s.m.canRefusal c.val 6 obj.val = none →
    ∃ t, exec (.canRecover a c obj) s = s.to t
      ∧ t.rd F.CAN_STAT_RECOVERING c.val = 1
      ∧ t.canDone c.val 6 obj.val
      ∧ Module.onlyRegs (F.CAN_STAT_RECOVERING.key c.val 0 0 :: canKeys c.val) s.m t)
  ∧ (∀ (s : State) (a : Access) (c : Fin 12) (v : Word),
    s.admitsWrite a (Module.canAddr c.val 0) →
    v.toNat % 4 ≠ 0 ∧ s.m.rd F.CAN_CTRL_MODE c.val = 0 ∧ s.m.canTimingOk c.val (v.toNat.testBit 8) = true →
    (v.toNat.testBit 8 = true → v.toNat / 16 % 4 = 2) →
    (s.m.canSt c.val).busOff = false ∧ s.m.rd F.CAN_ERR_TEC c.val < 128 ∧ s.m.rd F.CAN_ERR_REC c.val < 128 →
    ∃ t, exec (.canModeWrite a c v) s = s.to t
      ∧ t.rd F.CAN_CTRL_MODE c.val = v.toNat % 4 ∧ t.rd F.CAN_STAT_STATE c.val = 0
      ∧ t.rd F.CAN_CTRL_XCVR c.val = v.toNat / 16 % 4 ∧ t.rd F.CAN_CTRL_XL_EN c.val = v.toNat / 2 ^ 7 % 2
      ∧ t = { s.m.ok with regs := t.regs, can := t.can })
  ∧ (∀ (s : State) (c : Fin 12),
    s.m.works 0x0A = true →
    s.m.rd F.CAN_CTRL_MODE c.val ≠ 0 →
    exec (.canSynced c) s = s.to (s.m.wr F.CAN_STAT_SYNCED 1 c.val))
  ∧ (∀ (s : State) (c : Fin 12),
    s.m.works 0x0A = true →
    (s.m.canSt c.val).busOffDue = true →
    ∃ t, exec (.canBusOff c) s = s.to t
      ∧ t.rd F.CAN_STAT_STATE c.val = 2 ∧ t.rd F.CAN_EVT_BUS_OFF c.val = 1
      ∧ (t.canSt c.val).busOff = true ∧ (t.canSt c.val).busOffDue = false ∧ (t.canSt c.val).attempt = none
      ∧ t.rd F.CAN_ERR_BUSOFF_CNT c.val = sat F.CAN_ERR_BUSOFF_CNT.width (s.m.rd F.CAN_ERR_BUSOFF_CNT c.val + 1))
  ∧ (∀ (s : State) (c : Fin 12),
    s.m.works 0x0A = true →
    s.m.flag F.CAN_STAT_RECOVERING c.val = true ∧ s.m.rd F.CAN_CTRL_MODE c.val ≠ 0 →
    ∃ t, exec (.canRecovered c) s = s.to t
      ∧ t.rd F.CAN_STAT_STATE c.val = 0 ∧ t.rd F.CAN_ERR_TEC c.val = 0 ∧ t.rd F.CAN_ERR_REC c.val = 0
      ∧ t.rd F.CAN_STAT_RECOVERING c.val = 0 ∧ t.rd F.CAN_EVT_RECOVERED c.val = 1
      ∧ t.canSt c.val = { s.m.canSt c.val with busOff := false } ∧ t = { s.m with regs := t.regs, can := t.can })
  ∧ (∀ (s : State) (c : Fin 12),
    s.m.works 0x0A = true →
    (s.m.canSt c.val).attempt = none →
    exec (.canDomTimeout c) s = s.to (s.m.wr F.CAN_STAT_DOM_TIMEOUT 1 c.val))
  ∧ (∀ (s : State) (c : Fin 12) (lec : Nat) (primary : Bool),
    s.m.works 0x0A = true →
    s.m.canOnBus c.val = true ∧ s.m.rd F.CAN_CTRL_MODE c.val ≠ 2 ∧ (s.m.canSt c.val).busOff = false →
    ∃ t, exec (.canRxError c lec false primary) s = s.to t
      ∧ t.rd F.CAN_ERR_LEC c.val = lec % 2 ^ F.CAN_ERR_LEC.width
      ∧ t.rd F.CAN_ERR_REC c.val = sat F.CAN_ERR_REC.width (s.m.rd F.CAN_ERR_REC c.val + (if primary then 8 else 1))
      ∧ t = { s.m with regs := t.regs })
  ∧ (∀ (s : State) (a : Access) (c : Fin 12) (obj : Fin 128),
    s.admitsWrite a (Module.canAddr c.val 0x14) →
    exec (.canOpen a c obj) s = s.to (s.m.ok.canCommandAt c.val 1 obj.val))
  ∧ (∀ (s : State) (a : Access) (c : Fin 12) (obj : Fin 128),
    s.admitsWrite a (Module.canAddr c.val 0x14) →
    exec (.canClose a c obj) s = s.to (s.m.ok.canCommandAt c.val 2 obj.val))
  ∧ (∀ (s : State) (a : Access) (c : Fin 12) (obj : Fin 128),
    s.admitsWrite a (Module.canAddr c.val 0x14) →
    s.m.canRefusal c.val 3 obj.val = none →
    exec (.txReq a c obj) s = s.to ((s.m.ok.canCommandAt c.val 3 obj.val).npmTxReq c.val))
  ∧ (∀ (s : State) (a : Access) (c : Fin 12) (obj : Fin 128),
    s.admitsWrite a (Module.canAddr c.val 0x14) →
    s.m.canRefusal c.val 4 obj.val = none →
    (s.m.canSt c.val).attempt = some (some obj.val) →
    ∃ t, exec (.canCancel a c obj) s = s.to t
      ∧ t.rd F.CAN_OBJ_STAT_CANCEL_PEND c.val obj.val = 1 ∧ t.canDone c.val 4 obj.val
      ∧ t.canSt c.val = { s.m.canSt c.val with cancel := true }
      ∧ t.rd F.CAN_OBJ_STAT_TX_PENDING c.val obj.val = 1)
  ∧ (∀ (s : State) (a : Access) (c : Fin 12) (obj : Fin 128),
    s.admitsWrite a (Module.canAddr c.val 0x14) →
    exec (.xtxCancel a c obj) s = s.to (s.m.ok.canCommandAt c.val 5 obj.val))
  ∧ (∀ (s : State) (a : Access) (c : Fin 12) (obj : Fin 128),
    s.admitsWrite a (Module.canAddr c.val 0x14) →
    exec (.canRecover a c obj) s = s.to (s.m.ok.canCommandAt c.val 6 obj.val))
  ∧ (∀ (s : State) (a : Access) (c : Fin 12) (v : Word),
    s.admitsWrite a (Module.canAddr c.val 0) →
    exec (.canModeWrite a c v) s = s.to (s.m.ok.canControl c.val v.toNat))
  ∧ (∀ (s : State) (c : Fin 12),
    s.m.works 0x0A = true →
    (s.m.canSt c.val).attempt ≠ none →
    exec (.canDomTimeout c) s = s.to ((s.m.canAttemptEnd c.val (.error 5 false false)).wr F.CAN_STAT_DOM_TIMEOUT 1 c.val))
  ∧ (∀ (s : State) (c : Fin 12) (lec : Nat) (dp primary : Bool),
    s.m.works 0x0A = true →
    exec (.canRxError c lec dp primary) s = s.to (s.m.canRxErr c.val lec dp primary))
  ∧ (∀ (s : State) (a : Access) (c : Fin 12) (obj : Fin 128),
    s.admitsWrite a (Module.canAddr c.val 0x14) →
    exec (.canCancel a c obj) s = s.to (s.m.ok.canCommandAt c.val 4 obj.val))
  ∧ (∀ (s : State) (c : Fin 12),
    s.m.works 0x0A = true →
    exec (.canBusOff c) s = s.to (s.m.canBusOff c.val))
  ∧ (∀ (s : State) (c : Fin 12),
    s.m.works 0x0A = true →
    exec (.canRecovered c) s = s.to (s.m.canRecovered c.val))

/-- R598–R611: the frames of a CAN controller. Where the manual leaves its words open, the statement takes the model's reading (log entries 12 and 38). -/
def Obligations.CanFrames : Prop :=
  (∀ (s : State) (c : Fin 12) (delay o : Nat),
    s.m.works 0x0A = true →
    s.m.rd F.CAN_CTRL_MODE c.val = 1 ∧ s.m.canOnBus c.val = true ∧ s.m.aloneOk c.val = true →
    (s.m.canSt c.val).busOff = false ∧ (s.m.canSt c.val).busOffDue = false ∧ (s.m.canSt c.val).attempt = none →
    s.m.canWinner c.val = some (some o) →
    ∃ t, exec (.canTxAttempt c delay) s = s.to t
      ∧ (t.canSt c.val).attempt = some (some o) ∧ (t.canSt c.val).cancel = false
      ∧ t.rd F.CAN_OBJ_STAT_ATTEMPTS c.val o = sat F.CAN_OBJ_STAT_ATTEMPTS.width (s.m.rd F.CAN_OBJ_STAT_ATTEMPTS c.val o + 1)
      ∧ t.rd F.CAN_OBJ_TS_US c.val o = s.m.nowU % 2 ^ 32
      ∧ t = { s.m with regs := t.regs, can := t.can })
  ∧ (∀ (s : State) (c : Fin 12) (o : Nat),
    s.m.works 0x0A = true →
    (s.m.canSt c.val).attempt = some (some o) ∧ o < 128 ∧ (s.m.canSt c.val).initDue = false →
    ∃ t, exec (.canTxEnd c .sent) s = s.to t
      ∧ t.out = .can c.val (s.m.objFrame c.val o) :: s.m.out
      ∧ t.rd F.CAN_OBJ_STAT_TX_PENDING c.val o = 0 ∧ t.rd F.CAN_OBJ_STAT_SENT c.val o = 1
      ∧ t.rd F.CAN_OBJ_STAT_STATUS c.val o = (if (s.m.canSt c.val).cancel then 0x0C else 0)
      ∧ t.rd F.CAN_TX_FRAMES_COUNT c.val = (s.m.rd F.CAN_TX_FRAMES_COUNT c.val + 1) % 2 ^ F.CAN_TX_FRAMES_COUNT.width
      ∧ (t.canSt c.val).attempt = none ∧ t.mem = s.m.mem)
  ∧ (∀ (s : State) (c : Fin 12) (f : CanFrame) (age o : Nat),
    s.m.works 0x0A = true →
    s.m.canReceives c.val f false = true ∧ f.data.length ≤ 64 →
    (List.range 128).find? (fun o => s.m.canAccepts c.val o f) = some o →
    s.m.flag F.CAN_OBJ_STAT_OPEN c.val o = false ∧ s.m.segState c.val = 0 →
    ∃ t, exec (.canFrameValid c f false age) s = s.to t
      ∧ t.rd F.CAN_OBJ_STAT_VALID c.val o = 1 ∧ t.rd F.CAN_OBJ_RXID_ID c.val o = f.id % 2 ^ F.CAN_OBJ_RXID_ID.width
      ∧ t.rd F.CAN_OBJ_RXINFO_DLC c.val o = f.dlc % 2 ^ F.CAN_OBJ_RXINFO_DLC.width
      ∧ (t.rd F.CAN_RX_NEW_MAP c.val (o / 32)).testBit (o % 32) = true ∧ t.rd F.CAN_EVT_RX_NEW c.val = 1
      ∧ t.rd F.CAN_RX_FRAMES_COUNT c.val = (s.m.rd F.CAN_RX_FRAMES_COUNT c.val + 1) % 2 ^ F.CAN_RX_FRAMES_COUNT.width
      ∧ (s.m.flag F.CAN_OBJ_STAT_VALID c.val o = true → t.rd F.CAN_OBJ_STAT_OVERRUN c.val o = 1)
      ∧ t.mem = s.m.mem ∧ t.out = s.m.out)
  ∧ (∀ (s : State) (c : Fin 12) (i : Nat) (w : List Nat),
    s.m.works 0x0A = true →
    s.m.flag F.CAN_XTX_CFG_EN c.val = true ∧ (s.m.canSt c.val).head = none →
    s.m.rd F.CAN_XTX_HEAD_IDX c.val = i ∧ i ≠ s.m.rd F.CAN_XTX_TAIL_IDX c.val ∧ s.m.mem.clean →
    0x10000000 ≤ s.m.xlDesc c.val true i ∧ s.m.xlDesc c.val true i + 32 ≤ 0x11000000 →
    s.admitsMem (s.m.iattr 0x25) (s.m.xlDesc c.val true i) 32 0 →
    w = Module.words (s.m.mem.bytes (s.m.xlDesc c.val true i) 32) ∧ Module.xtxOk w = true →
    w.getD 1 0 = 0 ∧ 0x10000000 ≤ w.getD 0 0 ∧ w.getD 0 0 + w.getD 4 0 ≤ 0x11000000 →
    s.admitsMem (s.m.iattr 0x25) (w.getD 0 0) (w.getD 4 0) 0 →
    ∃ t, exec (.xlTxFetch c) s = s.to t
      ∧ (t.canSt c.val).head = some { idx := i, words := w, data := s.m.mem.bytes (w.getD 0 0) (w.getD 4 0) }
      ∧ t = { s.m with resp := t.resp, can := t.can })
  ∧ (∀ (s : State) (c : Fin 12) (f : XlFrame) (age k : Nat),
    s.m.works 0x0A = true →
    s.m.xlReceives c.val = true ∧ s.m.xlFilter c.val f = some k ∧ (s.m.canSt c.val).held = [] →
    s.m.flag F.CAN_XRX_CFG_EN c.val = true ∧ s.m.segState c.val = 0 →
    (s.m.rd F.CAN_XRX_TAIL_IDX c.val + s.m.xlSize c.val false - s.m.rd F.CAN_XRX_HEAD_IDX c.val % s.m.xlSize c.val false)
      % s.m.xlSize c.val false ≠ 0 →
    ∃ t, exec (.xlRxFrame c f age) s = s.to t
      ∧ (t.canSt c.val).held = [⟨f, k, (s.m.nowU - age) % 2 ^ 36⟩]
      ∧ t.rd F.CAN_RX_FRAMES_COUNT c.val = (s.m.rd F.CAN_RX_FRAMES_COUNT c.val + 1) % 2 ^ F.CAN_RX_FRAMES_COUNT.width
      ∧ t.mem = s.m.mem ∧ t.out = s.m.out)
  ∧ (∀ (s : State) (c : Fin 12) (h : XlHeld) (r : List XlHeld) (i : Nat) (w : List Nat),
    s.m.works 0x0A = true →
    (s.m.canSt c.val).held = h :: r ∧ s.m.flag F.CAN_XRX_CFG_EN c.val = true →
    s.m.rd F.CAN_XRX_HEAD_IDX c.val = i ∧ s.m.mem.clean ∧ s.m.pbr.sems = [] →
    w = Module.words (s.m.mem.bytes (s.m.xlDesc c.val false i) 32) ∧ w.getD 1 0 = 0 →
    1 ≤ h.f.data.length ∧ h.f.data.length ≤ w.getD 2 0 % 2 ^ 12 →
    0x10000000 ≤ w.getD 0 0 ∧ w.getD 0 0 + h.f.data.length ≤ s.m.xlDesc c.val false i →
    s.m.xlDesc c.val false i + 32 ≤ 0x11000000 →
    s.admitsMem (s.m.iattr 0x25) (s.m.xlDesc c.val false i) 32 0 ∧ s.admitsMem (s.m.iattr 0x25) (s.m.xlDesc c.val false i) 32 1 →
    s.admitsMem (s.m.iattr 0x25) (w.getD 0 0) h.f.data.length 1 →
    ∃ t, exec (.xlRxWriteback c) s = s.to t
      ∧ t.mem.bytes (w.getD 0 0) h.f.data.length = h.f.data
      ∧ (t.canSt c.val).held = r ∧ t.rd F.CAN_EVT_XL_RX c.val = 1
      ∧ t.rd F.CAN_XRX_HEAD_IDX c.val = (i + 1) % s.m.xlSize c.val false % 2 ^ F.CAN_XRX_HEAD_IDX.width
      ∧ t = { s.m with resp := t.resp, mem := t.mem, regs := t.regs, can := t.can })
  ∧ (∀ (s : State) (c : Fin 12) (addr status : Nat),
    s.m.works 0x0A = true →
    status < 256 →
    ∃ t, exec (.canDmaError c true addr status) s = s.to t
      ∧ t.rd F.CAN_XTX_CFG_EN c.val = 0 ∧ t.rd F.CAN_XERR_STATUS c.val = status ∧ t.rd F.CAN_XERR_TX c.val = 1
      ∧ t.rd F.CAN_EVT_DMA_ERR c.val = 1 ∧ t.rd F.CAN_XERR_ADDR_ADDR c.val = addr % 2 ^ F.CAN_XERR_ADDR_ADDR.width)
  ∧ (∀ (s : State) (c : Fin 12) (delay : Nat) (h : XlHead),
    s.m.works 0x0A = true →
    s.m.rd F.CAN_CTRL_MODE c.val = 1 ∧ s.m.canOnBus c.val = true ∧ s.m.aloneOk c.val = true →
    (s.m.canSt c.val).busOff = false ∧ (s.m.canSt c.val).busOffDue = false ∧ (s.m.canSt c.val).attempt = none →
    s.m.canWinner c.val = some none ∧ (s.m.canSt c.val).head = some h →
    ∃ t, exec (.canTxAttempt c delay) s = s.to t
      ∧ (t.canSt c.val).attempt = some none ∧ (t.canSt c.val).cancel = false
      ∧ (t.canSt c.val).head = some { h with attempts := h.attempts + 1, u := s.m.nowU }
      ∧ t = { s.m with regs := t.regs, can := t.can })
  ∧ (∀ (s : State) (c : Fin 12) (delay : Nat),
    s.m.works 0x0A = true →
    exec (.canTxAttempt c delay) s = s.to (s.m.canAttempt c.val delay))
  ∧ (∀ (s : State) (c : Fin 12) (how : CanEnd),
    s.m.works 0x0A = true →
    exec (.canTxEnd c how) s = s.to (s.m.canAttemptEnd c.val how))
  ∧ (∀ (s : State) (c : Fin 12) (f : CanFrame) (own : Bool) (age : Nat),
    s.m.works 0x0A = true →
    exec (.canFrameValid c f own age) s = s.to (if s.m.canReceives c.val f own && !own && s.m.works 0x0B then
      (s.m.canFrame c.val f own age).segFrame c.val (s.m.isCanRest c.val f) none else s.m.canFrame c.val f own age))
  ∧ (∀ (s : State) (c : Fin 12) (f : XlFrame) (age : Nat),
    s.m.works 0x0A = true →
    exec (.xlRxFrame c f age) s = s.to (if s.m.xlReceives c.val && s.m.works 0x0B then (s.m.xlFrame c.val f age).segFrame c.val false none else s.m.xlFrame c.val f age))
  ∧ (∀ (s : State) (c : Fin 12),
    s.m.works 0x0A = true →
    exec (.xlTxFetch c) s = s.to (s.m.xlFetch c.val))
  ∧ (∀ (s : State) (c : Fin 12),
    s.m.works 0x0A = true →
    exec (.xlRxWriteback c) s = s.to (s.m.xlWriteback c.val))
  ∧ (∀ (s : State) (c : Fin 12) (addr status : Nat),
    s.m.works 0x0A = true →
    status < 256 ∧ (s.m.canSt c.val).held = [] →
    ∃ t, exec (.canDmaError c false addr status) s = s.to t
      ∧ t.rd F.CAN_XRX_CFG_EN c.val = 0 ∧ t.rd F.CAN_XERR_STATUS c.val = status ∧ t.rd F.CAN_XERR_TX c.val = 0
      ∧ t.rd F.CAN_EVT_DMA_ERR c.val = 1 ∧ t.rd F.CAN_XERR_ADDR_ADDR c.val = addr % 2 ^ F.CAN_XERR_ADDR_ADDR.width)
  ∧ (∀ (s : State) (c : Fin 12) (tx : Bool) (addr status : Nat),
    s.m.works 0x0A = true →
    exec (.canDmaError c tx addr status) s = s.to (s.m.canDmaError c.val tx addr status))

/-- R624–R638: the commands and events of NPM. Where the manual leaves its words open, the statement takes the model's reading (log entry 39). -/
def Obligations.RestAndWake : Prop :=
  (∀ (s : State) (a : Access) (seg : Fin 32),
    s.admitsWrite a npmCmdAddr →
    s.m.restRefusal seg.val = none →
    ∃ t, exec (.npmRest a seg 0x4E50) s = s.to t
      ∧ t.segState seg.val = 1 ∧ t.rd F.NPM_SEG_STAT_PHASE seg.val = 0 ∧ t.rd F.NPM_CMD_STAT_STATUS = 0
      ∧ t.segSeq seg.val = (s.m.segSeq seg.val + 1) % 2 ^ F.NPM_SEG_STAT_SEQ.width
      ∧ (t.seg seg.val).ms = 0 ∧ (t.seg seg.val).sent = false ∧ (∀ k ∈ List.range 24, k ≠ seg.val → t.seg k = s.m.seg k)
      ∧ (∀ k ∈ List.range 24, k ≠ seg.val → t.segState k = s.m.segState k) ∧ t.mem = s.m.mem)
  ∧ (∀ (s : State) (a : Access) (seg : Fin 32),
    s.admitsWrite a npmCmdAddr →
    seg.val < 24 ∧ s.m.segState seg.val = 2 ∧ s.m.running 0x0B = true →
    ∃ t, exec (.npmWake a seg 0x4E50) s = s.to t
      ∧ t.segState seg.val = 0 ∧ (t.rd F.NPM_ASLEEP_SEGS).testBit seg.val = false ∧ t.rd F.NPM_SEG_STAT_SRC seg.val = 2
      ∧ t.rd F.NPM_SEG_CNT_WAKES seg.val = (s.m.rd F.NPM_SEG_CNT_WAKES seg.val + 1) % 2 ^ F.NPM_SEG_CNT_WAKES.width
      ∧ t.rd F.NPM_EVT_WOKE = 1 ∧ (∀ k ∈ List.range 24, k ≠ seg.val → t.segState k = s.m.segState k))
  ∧ (∀ (s : State) (a : Access) (seg : Fin 32),
    s.admitsWrite a npmCmdAddr →
    seg.val < 24 →
    ∃ t, exec (.clearStorm a seg 0x4E50) s = s.to t
      ∧ t.rd F.NPM_SEG_STAT_STORM seg.val = 0 ∧ (t.rd F.NPM_STORM_SEGS).testBit seg.val = false
      ∧ t.rd F.NPM_SEG_STAT_FALSE_RUN seg.val = 0 ∧ (t.seg seg.val).falseAt = [] ∧ t.rd F.NPM_CMD_STAT_STATUS = 0
      ∧ t = { s.m.ok with regs := t.regs, npm := { s.m.npm with segs := t.npm.segs } }
      ∧ Module.regsBut [F.NPM_SEG_STAT_STORM.key seg.val 0 0, F.NPM_STORM_SEGS.key 0 0 0, F.NPM_SEG_STAT_FALSE_RUN.key seg.val 0 0,
      F.NPM_CMD_STAT_STATUS.key 0 0 0] s.m t)
  ∧ (∀ (s : State) (seg : Fin 24),
    s.m.works 0x0B = true →
    s.m.inWait seg.val = true ∧ (s.m.seg seg.val).sent = false ∧ s.m.restLeft seg.val = true →
    exec (.restProposalSent seg) s = s.to (s.m.setSeg seg.val (fun x => { x with sent := true, ms := 0 })))
  ∧ (∀ (s : State) (seg : Fin 24) (seq : Fin 256),
    s.m.works 0x0B = true →
    s.m.segState seg.val = 0 →
    exec (.restProposal seg seq) s = s.to (if s.m.restVeto seg.val then s.m.sendRest seg.val 2 seq.val else s.m.wr F.NPM_EVT_PROPOSAL_RX 1))
  ∧ (∀ (s : State) (seg : Fin 24) (seq : Fin 256),
    s.m.works 0x0B = true →
    s.m.inWait seg.val = true ∧ seq.val = s.m.segSeq seg.val →
    ∃ t, exec (.restVote seg seq) s = s.to t
      ∧ t.segState seg.val = 0 ∧ t.rd F.NPM_SEG_STAT_OUTCOME seg.val = 2 ∧ t.rd F.NPM_EVT_ROUND_END = 1
      ∧ t = { s.m with regs := t.regs, npm := { s.m.npm with segs := t.npm.segs } })
  ∧ (∀ (s : State) (seg : Fin 24),
    s.m.works 0x0B = true →
    s.m.segState seg.val = 0 ∧ s.m.restVeto seg.val = false →
    ∃ t, exec (.restCommit seg) s = s.to t
      ∧ t.segState seg.val = 1 ∧ t.rd F.NPM_SEG_STAT_PHASE seg.val = 1 ∧ (t.seg seg.val).sent = true ∧ (t.seg seg.val).ms = 0
      ∧ t = { s.m with regs := t.regs, npm := { s.m.npm with segs := t.npm.segs } })
  ∧ (∀ (s : State) (seg : Fin 24),
    s.m.works 0x0B = true →
    s.m.inGrace seg.val = true ∧ (s.m.seg seg.val).sent = false ∧ s.m.restLeft seg.val = true →
    exec (.restCommitSent seg) s = s.to (s.m.setSeg seg.val (fun x => { x with sent := true, ms := 0 })))
  ∧ (∀ (s : State) (seg : Fin 24),
    s.m.works 0x0B = true →
    s.m.inWait seg.val = true ∧ (s.m.seg seg.val).sent = true →
    s.m.rd F.NPM_TIMING0_REST_WAIT ≤ (s.m.seg seg.val).ms →
    ∃ t, exec (.restWaitExpiry seg) s = s.to t
      ∧ t.segState seg.val = 1 ∧ t.rd F.NPM_SEG_STAT_PHASE seg.val = 1 ∧ (t.seg seg.val).sent = false ∧ (t.seg seg.val).ms = 0
      ∧ t.mem = s.m.mem ∧ (∀ k ∈ List.range 24, k ≠ seg.val → t.seg k = s.m.seg k))
  ∧ (∀ (s : State) (seg : Fin 24),
    s.m.works 0x0B = true →
    s.m.inGrace seg.val = true ∧ (s.m.seg seg.val).sent = true →
    s.m.rd F.NPM_TIMING0_REST_GRACE ≤ (s.m.seg seg.val).ms →
    ∃ t, exec (.restGraceExpiry seg) s = s.to t
      ∧ t.segState seg.val = 2 ∧ t.rd F.NPM_SEG_STAT_OUTCOME seg.val = 1 ∧ (t.rd F.NPM_ASLEEP_SEGS).testBit seg.val = true
      ∧ t.rd F.NPM_EVT_SLEPT = 1 ∧ (seg.val < 12 → t.rd F.CAN_STAT_XCVR_SLEEP seg.val = 1)
      ∧ (12 ≤ seg.val → t.rd F.MAC_PHY_STAT_LINK (segPort seg.val) = 0 ∧ t.rd F.SWC_PORT_STAT_LINK (segPort seg.val) = 0)
      ∧ (seg.val < 12 → t = { s.m with regs := t.regs, npm := { s.m.npm with segs := t.npm.segs } }))
  ∧ (∀ (s : State) (seg : Fin 24),
    s.m.works 0x0B = true →
    s.m.segState seg.val = 1 ∧ (s.m.seg seg.val).sent = false ∧ 1000 ≤ (s.m.seg seg.val).ms →
    ∃ t, exec (.restRoundTimeout seg) s = s.to t
      ∧ t.segState seg.val = 0 ∧ t.rd F.NPM_SEG_STAT_OUTCOME seg.val = 4 ∧ t.rd F.NPM_EVT_ROUND_END = 1
      ∧ t = { s.m with regs := t.regs, npm := { s.m.npm with segs := t.npm.segs } })
  ∧ (∀ (s : State) (seg : Fin 24),
    s.m.sys.resetHeld = false →
    s.m.segState seg.val = 2 ∧ s.m.running 0x0B = true →
    ∃ t, exec (.busActivity seg) s = s.to t
      ∧ t.segState seg.val = 3 ∧ (t.rd F.NPM_ASLEEP_SEGS).testBit seg.val = false ∧ (t.seg seg.val).ms = 0
      ∧ (12 ≤ seg.val → t.rd F.MAC_PHY_STAT_ENERGY (segPort seg.val) = 1)
      ∧ t = { s.m with regs := t.regs, npm := { s.m.npm with segs := t.npm.segs } })
  ∧ (∀ (s : State) (seg : Fin 24),
    s.m.works 0x0B = true →
    s.m.segState seg.val = 3 ∧ s.m.rd F.NPM_TIMING1_WAKE_TIMEOUT ≤ (s.m.seg seg.val).ms ∧ (s.m.seg seg.val).falseAt = [] →
    ∃ t, exec (.wakeTimeoutExpiry seg) s = s.to t
      ∧ t.segState seg.val = 2 ∧ t.rd F.NPM_SEG_STAT_FALSE_RUN seg.val = 1 ∧ t.rd F.NPM_EVT_FALSE_WAKE = 1
      ∧ t.rd F.NPM_SEG_CNT_FALSE seg.val = (s.m.rd F.NPM_SEG_CNT_FALSE seg.val + 1) % 2 ^ F.NPM_SEG_CNT_FALSE.width
      ∧ (12 ≤ seg.val → t.rd F.MAC_PHY_STAT_LINK (segPort seg.val) = 0)
      ∧ (seg.val < 12 → t = { s.m with regs := t.regs, npm := { s.m.npm with segs := t.npm.segs } }))
  ∧ (∀ (s : State) (seg : Fin 24),
    s.m.works 0x0B = true →
    s.m.flag F.NPM_SEG_CFG_AUTO seg.val = true ∧ s.m.rd F.NPM_SEG_CFG_IDLE_S seg.val * 1000 ≤ (s.m.seg seg.val).idle →
    s.m.restRefusal seg.val = none →
    ∃ t, exec (.idleTimeout seg) s = s.to t
      ∧ t.segState seg.val = 1 ∧ t.rd F.NPM_SEG_STAT_PHASE seg.val = 0 ∧ (t.seg seg.val).idle = 0
      ∧ t.segSeq seg.val = (s.m.segSeq seg.val + 1) % 2 ^ F.NPM_SEG_STAT_SEQ.width)
  ∧ (∀ (s : State) (k : Fin 4),
    s.m.sys.resetHeld = false →
    s.m.flag F.NPM_WAKE_IN_EN k.val = true ∧ s.m.running 0x0B = true →
    ∃ t, exec (.wakeInPulse k) s = s.to t
      ∧ (∀ g ∈ List.range 24, (s.m.rd F.NPM_WAKE_IN_SEGS k.val).testBit g = true → t.segState g = 0)
      ∧ (∀ g ∈ List.range 24, (s.m.rd F.NPM_WAKE_IN_SEGS k.val).testBit g = false → t.segState g = s.m.segState g))
  ∧ (∀ (s : State) (segs : Fin 16777216),
    s.m.sys.resetHeld = false →
    s.m.running 0x0B = true →
    ∃ t, exec (.peerWake segs) s = s.to t
      ∧ (∀ g ∈ List.range 24, segs.val.testBit g = true → 2 ≤ s.m.segState g → t.segState g = 0
      ∧ t.rd F.NPM_SEG_STAT_SRC g = 5)
      ∧ (∀ g ∈ List.range 24, segs.val.testBit g = false → t.segState g = s.m.segState g))
  ∧ (∀ (s : State) (a : Access) (n : Fin 7) (v : Word),
    s.admitsWrite a (0x20900068 + 8 * n.val) →
    v.toNat.testBit 24 = true →
    ∃ t, exec (.wakeTimerConfig a n v) s = s.to t
      ∧ t.rd F.NPM_WT_CFG_SEGS n.val = v.toNat % 2 ^ 24 ∧ t.rd F.NPM_WT_CFG_EN n.val = 1
      ∧ t.rd F.TMU_TMR_REMAIN_US (n.val + 1) = s.m.rd F.NPM_WT_LOAD_US n.val % 2 ^ F.TMU_TMR_REMAIN_US.width
      ∧ t.rd F.TMU_TMR_CTRL_EN (n.val + 1) = 1 ∧ t.tmu.timers.testBit (n.val + 1) = true
      ∧ t = { s.m.ok with regs := t.regs, tmu := { s.m.tmu with timers := t.tmu.timers } })
  ∧ (∀ (s : State) (a : Access) (seg : Fin 32) (key : BitVec 16),
    s.admitsWrite a npmCmdAddr →
    exec (.npmRest a seg key) s = s.to (s.m.ok.npmCommand 1 seg.val key.toNat))
  ∧ (∀ (s : State) (a : Access) (seg : Fin 32) (key : BitVec 16),
    s.admitsWrite a npmCmdAddr →
    key.toNat ≠ 0x4E50 →
    exec (.npmRest a seg key) s = s.to (s.m.ok))
  ∧ (∀ (s : State) (a : Access) (seg : Fin 32) (key : BitVec 16),
    s.admitsWrite a npmCmdAddr →
    exec (.npmWake a seg key) s = s.to (s.m.ok.npmCommand 2 seg.val key.toNat))
  ∧ (∀ (s : State) (a : Access) (seg : Fin 32) (key : BitVec 16),
    s.admitsWrite a npmCmdAddr →
    key.toNat ≠ 0x4E50 →
    exec (.npmWake a seg key) s = s.to (s.m.ok))
  ∧ (∀ (s : State) (a : Access) (seg : Fin 32) (key : BitVec 16),
    s.admitsWrite a npmCmdAddr →
    exec (.clearStorm a seg key) s = s.to (s.m.ok.npmCommand 3 seg.val key.toNat))
  ∧ (∀ (s : State) (a : Access) (seg : Fin 32) (key : BitVec 16),
    s.admitsWrite a npmCmdAddr →
    key.toNat ≠ 0x4E50 →
    exec (.clearStorm a seg key) s = s.to (s.m.ok))
  ∧ (∀ (s : State) (seg : Fin 24),
    s.m.works 0x0B = true →
    exec (.restProposalSent seg) s = s.to (s.m.proposalSent seg.val))
  ∧ (∀ (s : State) (seg : Fin 24) (seq : Fin 256),
    s.m.works 0x0B = true →
    exec (.restProposal seg seq) s = s.to (s.m.proposalIn seg.val seq.val))
  ∧ (∀ (s : State) (seg : Fin 24) (seq : Fin 256),
    s.m.works 0x0B = true →
    exec (.restVote seg seq) s = s.to (s.m.voteIn seg.val seq.val))
  ∧ (∀ (s : State) (seg : Fin 24),
    s.m.works 0x0B = true →
    exec (.restCommit seg) s = s.to (s.m.commitIn seg.val))
  ∧ (∀ (s : State) (seg : Fin 24),
    s.m.works 0x0B = true →
    exec (.restCommitSent seg) s = s.to (s.m.commitSent seg.val))
  ∧ (∀ (s : State) (seg : Fin 24),
    s.m.works 0x0B = true →
    s.m.segState seg.val = 3 ∧ s.m.rd F.NPM_TIMING1_WAKE_TIMEOUT ≤ (s.m.seg seg.val).ms →
    exec (.wakeTimeoutExpiry seg) s = s.to ((s.m.falseWake seg.val).phySleeps s.m seg.val))
  ∧ (∀ (s : State) (seg : Fin 24),
    s.m.sys.resetHeld = false →
    exec (.busActivity seg) s = s.to (s.m.activity seg.val))
  ∧ (∀ (s : State) (segs : Fin 16777216),
    s.m.sys.resetHeld = false →
    exec (.peerWake segs) s = s.to ((bitsSet 24 segs.val).foldl (fun m sg => m.peerRequest sg) s.m))
  ∧ (∀ (s : State) (k : Fin 4),
    s.m.sys.resetHeld = false →
    s.m.flag F.NPM_WAKE_IN_EN k.val = true →
    exec (.wakeInPulse k) s = s.to ((bitsSet 24 (s.m.rd F.NPM_WAKE_IN_SEGS k.val)).foldl (fun m sg => m.localRequest sg (1 + k.val)) s.m))
  ∧ (∀ (s : State) (a : Access) (n : Fin 7) (v : Word),
    s.admitsWrite a (0x20900068 + 8 * n.val) →
    v.toNat.testBit 24 = false →
    ∃ t, exec (.wakeTimerConfig a n v) s = s.to t
      ∧ t.rd F.NPM_WT_CFG_SEGS n.val = v.toNat % 2 ^ 24 ∧ t.rd F.NPM_WT_CFG_EN n.val = 0
      ∧ t.rd F.TMU_TMR_REMAIN_US (n.val + 1) = 0 ∧ t.rd F.TMU_TMR_CTRL_EN (n.val + 1) = 0 ∧ t.tmu.timers.testBit (n.val + 1) = false
      ∧ t = { s.m.ok with regs := t.regs, tmu := { s.m.tmu with timers := t.tmu.timers } })
  ∧ (∀ (s : State) (seg : Fin 24),
    s.m.works 0x0B = true →
    exec (.restWaitExpiry seg) s = s.to (s.m.waitExpiry seg.val))
  ∧ (∀ (s : State) (seg : Fin 24),
    s.m.works 0x0B = true →
    exec (.restRoundTimeout seg) s = s.to (s.m.roundTimeout seg.val))
  ∧ (∀ (s : State) (seg : Fin 24),
    s.m.works 0x0B = true →
    exec (.idleTimeout seg) s = s.to (s.m.idleExpiry seg.val))
  ∧ (∀ (s : State) (a : Access) (n : Fin 7) (v : Word),
    s.admitsWrite a (0x20900068 + 8 * n.val) →
    exec (.wakeTimerConfig a n v) s = s.to (s.m.ok.wakeTimerCfg (n.val + 1) v.toNat))

/-- R647–R663 and R680: the cipher engine's commands and events. Where the manual leaves its words open, the statement takes the model's reading (log entries 6 and 40). -/
def Obligations.CipherJobs : Prop :=
  (∀ (s : State) (a : Access) (i : Fin 64) (v : Word),
    s.admitsWrite a (0x40000004 + i.val * 0x1000) →
    (tget {} s.m.inst i.val).fence = false →
    s.m.cpiOcc i.val < s.m.rd F.IMG_INST_SHARE_SHARE i.val →
    ∃ t, exec (.cpiSubmit a i v) s = s.to t
      ∧ (t.cpi i.val).queue = (s.m.cpi i.val).queue ++ [s.m.submitted i.val v.toNat]
      ∧ t = { s.m.ok with cpe := { s.m.cpe with insts := t.cpe.insts } } ∧ (t.cpi i.val).fifo = (s.m.cpi i.val).fifo
      ∧ (∀ k ∈ List.range 64, k ≠ i.val → t.cpi k = s.m.cpi k))
  ∧ (∀ (s : State) (a : Access) (i : Fin 64) (v : Word),
    s.admitsWrite a (0x40000004 + i.val * 0x1000) →
    (tget {} s.m.inst i.val).fence = false →
    s.m.rd F.IMG_INST_SHARE_SHARE i.val ≤ s.m.cpiOcc i.val →
    ∃ t, exec (.cpiSubmit a i v) s = s.to t
      ∧ t.rd F.CPI_REFUSE_TAG i.val = v.toNat / 2 ^ 16 ∧ t.rd F.CPI_REFUSE_STATUS i.val = 5
      ∧ Module.onlyRegs [F.CPI_REFUSE_TAG.key i.val 0 0, F.CPI_REFUSE_STATUS.key i.val 0 0, F.CPI_REFUSE_COUNT.key i.val 0 0] s.m t)
  ∧ (∀ (s : State) (i : Fin 64) (c : Fin 4) (more : List (Fin 4)) (l : List Byte),
    s.m.works 0x0C = true →
    (s.m.cpi i.val).queue ≠ [] ∧ (s.m.firstJob i.val).inst = i.val →
    s.m.cpe.hold = false ∧ s.m.running 0x0C = true ∧ s.m.sys.blkRst ≠ some 0x0C →
    (s.m.cpi i.val).fifo.length + s.m.cpiReserved i.val < 32 →
    (s.m.busRead (Module.jobAccess (s.m.firstJob i.val)) (s.m.firstJob i.val).addr 64 (some i.val)).2 = some l →
    (s.m.afterFetch i.val).dispatchStatus (s.m.fetched i.val l) = 0 →
    (s.m.afterFetch i.val).cpeSync.cpeTurn (s.m.fetched i.val l).kind = some i.val →
    (s.m.fetched i.val l).cls ≠ 2 ∧ (s.m.fetched i.val l).mode ≠ 2 →
    s.m.unitFree ((s.m.fetched i.val l).onUnit c.val) = true →
    ∃ t, exec (.jobDispatch i c more) s = s.to t
      ∧ t.cpe.runs = s.m.cpe.runs ++ [CpeRun.mk [(s.m.fetched i.val l).onUnit c.val] (s.m.fetchedKey i.val l)]
      ∧ (t.cpi i.val).queue = (s.m.cpi i.val).queue.tail ∧ (t.cpi i.val).fifo = (s.m.cpi i.val).fifo
      ∧ t.cpe.zero = s.m.cpe.zero ∧ t.cpe.redo = s.m.cpe.redo ∧ t.kst = s.m.kst ∧ t.out = s.m.out)
  ∧ (∀ (s : State) (i : Fin 64) (c : Fin 4) (more : List (Fin 4)) (l : List Byte),
    s.m.works 0x0C = true →
    (s.m.cpi i.val).queue ≠ [] ∧ (s.m.firstJob i.val).inst = i.val →
    s.m.cpe.hold = false ∧ s.m.running 0x0C = true ∧ s.m.sys.blkRst ≠ some 0x0C →
    (s.m.cpi i.val).fifo.length + s.m.cpiReserved i.val < 32 →
    (s.m.busRead (Module.jobAccess (s.m.firstJob i.val)) (s.m.firstJob i.val).addr 64 (some i.val)).2 = some l →
    (s.m.afterFetch i.val).dispatchStatus (s.m.fetched i.val l) ≠ 0 →
    ∃ t, exec (.jobDispatch i c more) s = s.to t
      ∧ (t.cpi i.val).fifo = (s.m.cpi i.val).fifo ++ [CpeCpl.mk (s.m.firstJob i.val).tag
      ((s.m.afterFetch i.val).dispatchStatus (s.m.fetched i.val l)) (s.m.fetched i.val l).mode (s.m.fetched i.val l).dir 0
      (s.m.fetched i.val l).cls]
      ∧ t.cpe.runs = s.m.cpe.runs ∧ (t.cpi i.val).queue = (s.m.cpi i.val).queue.tail ∧ t.rd F.CPI_IRQ_STAT_CPL i.val = 1)
  ∧ (∀ (s : State) (n : Fin 6) (r : CpeRun),
    s.m.works 0x0C = true →
    s.m.cpe.runs.find? (fun x => x.units.contains n.val) = some r →
    r.job.stale = false ∧ r.job.mode = 8 ∧ r.job.cls = 0 ∧ r.job.qr = none ∧ s.m.cpe.redo = [] ∧ r.job.len ≤ 16 ∧ r.job.len ≠ 0 →
    (s.m.busRead (Module.jobAccess r.job) r.job.src r.job.len (some r.job.inst)).2.isSome = true →
    Module.memOf r.job.src = some 0 ∧ Module.memOf r.job.dst = some 0 ∧ Module.memOf (r.job.dst + 31) = some 0 ∧ r.job.src + 256 ≤ r.job.dst →
    s.m.fabricDeny (Module.jobAccess r.job) r.job.dst 16 1 (some r.job.inst) = none →
    s.m.fabricDeny (Module.jobAccess r.job) (r.job.dst + 16) 16 1 (some r.job.inst) = none →
    s.m.mem.clean ∧ s.m.pbr.sems = [] →
    ∃ t, exec (.jobEnd n 0) s = s.to t
      ∧ (t.cpi r.job.inst).fifo = (s.m.cpi r.job.inst).fifo ++ [CpeCpl.mk r.job.tag 0 8 r.job.dir 32 0]
      ∧ t.mem.bytes r.job.dst 32 = Module.jobOut r.job [] (s.m.mem.bytes r.job.src r.job.len) 32
      ∧ t.cpe.runs = s.m.cpe.runs.filter (fun x => ! x.units.contains n.val) ∧ t.unitBusy n.val = false
      ∧ (∀ x, (x < r.job.dst ∨ r.job.dst + 32 ≤ x) → t.mem.byte x = s.m.mem.byte x))
  ∧ (∀ (s : State) (n : Fin 6) (r : CpeRun) (tag data : List Byte),
    s.m.works 0x0C = true →
    s.m.cpe.runs.find? (fun x => x.units.contains n.val) = some r →
    r.job.stale = false ∧ r.job.mode = 0 ∧ r.job.dir = 1 ∧ r.job.cls = 1 ∧ r.job.qr = none ∧ s.m.cpe.redo = [] →
    s.m.mem.clean →
    (s.m.readBlocks r.job r.job.aad r.job.aadLen).2.2 = none →
    (s.m.readBlocks r.job r.job.src r.job.len).2 = (data, none) →
    (s.m.busRead (Module.jobAccess r.job) r.job.tagAddr r.job.tagLen (some r.job.inst)).2 = some tag →
    Module.memOf r.job.src = some 0 ∧ Module.memOf r.job.aad = some 0 ∧ Module.memOf r.job.tagAddr = some 0 →
    0 < r.job.aadLen ∧ Module.memOf (r.job.aad + r.job.aadLen) = some 0 →
    0 < r.job.len ∧ Module.memOf (r.job.src + r.job.len) = some 0 →
    ∃ t, exec (.jobEnd n 0) s = s.to t
      ∧ t.cpe.runs = s.m.cpe.runs.filter (fun x => ! x.units.contains n.val)
      ∧ (tag ≠ Module.exactly r.job.tagLen (Config.tag (Module.jobInput r.job (s.m.readBlocks r.job r.job.aad r.job.aadLen).2.1 data)) →
      t.mem = s.m.mem ∧ (t.cpi r.job.inst).fifo = (s.m.cpi r.job.inst).fifo ++ [CpeCpl.mk r.job.tag 8 0 1 0 1])
      ∧ (t.cpi r.job.inst).fifo.length = (s.m.cpi r.job.inst).fifo.length + 1)
  ∧ (∀ (s : State) (n : Fin 6) (r : CpeRun),
    s.m.works 0x0C = true →
    s.m.cpe.runs.find? (fun x => x.units.contains n.val) = some r →
    r.job.stale = true ∧ r.job.qr = none ∧ s.m.cpe.redo = [] →
    ∃ t, exec (.jobEnd n 0) s = s.to t
      ∧ t.mem = s.m.mem ∧ t.out = s.m.out ∧ (t.cpi r.job.inst).fifo = (s.m.cpi r.job.inst).fifo
      ∧ t.cpe.runs = s.m.cpe.runs.filter (fun x => ! x.units.contains n.val)
      ∧ tget 0 (t.cpi r.job.inst).cnt 6 = (tget 0 (s.m.cpi r.job.inst).cnt 6 + 1) % 2 ^ 64)
  ∧ (∀ (s : State) (q : Fin 8) (z : CpeZero) (j : CpeJob) (st : Nat),
    s.m.works 0x0C = true →
    s.m.cpe.zero.find? (fun x => x.q == q.val) = some z →
    z.ended = some (j, st) ∧ j.stale = false →
    s.m.rd F.FAB_QR_LEN_LEN q.val ≠ 0 →
    ∃ t, exec (.quarantineZeroingDone q) s = s.to t
      ∧ t.flag F.FAB_QR_CTRL_ACTIVE q.val = false ∧ t.cpe.zero = s.m.cpe.zero.erase z
      ∧ (t.cpi j.inst).fifo = (s.m.cpi j.inst).fifo ++ [CpeCpl.mk j.tag st j.mode j.dir 0 j.cls]
      ∧ t.mem = s.m.mem.wipe (s.m.rd F.FAB_QR_BASE_ADDR q.val * 256) ((s.m.rd F.FAB_QR_BASE_ADDR q.val + s.m.rd F.FAB_QR_LEN_LEN q.val) * 256))
  ∧ (∀ (s : State) (n : Fin 5) (r : CpeRun),
    s.m.works 0x0C = true →
    s.m.cpe.runs.find? (fun x => x.units.contains n.val) = some r →
    n.val < 4 ∧ s.m.cpe.redo = [] ∧ (List.range 4).any (fun c => c != n.val && s.m.unitFree c) = true →
    ∃ t, exec (.coreFenced n) s = s.to t
      ∧ (t.rd F.CPE_STAT_FENCED).testBit n.val = true ∧ t.rd F.CPE_EVT_FENCE = 1 ∧ t.rd F.CPE_EVT_RECOMPUTE = 1
      ∧ t.cpe.redo = [] ∧ t.unitBusy n.val = false ∧ t.cpe.runs.map CpeRun.job =
      (s.m.cpe.runs.filter (fun x => ! x.units.contains n.val)).map CpeRun.job ++ [r.job]
      ∧ t.cpe.insts = s.m.cpe.insts)
  ∧ (∀ (s : State) (a : Access) (i : Fin 64) (e : CpeCpl),
    s.admitsRead a (0x40000010 + i.val * 0x1000) →
    commitsAtOnce a ∧ (s.m.cpi i.val).fifo.head? = some e →
    ∃ t, exec (.cpiCplRead a i) s = s.to t
      ∧ t.resp.data = e.tag + e.status * 2 ^ 16 + e.mode * 2 ^ 24 + e.dir * 2 ^ 28 + 2 ^ 31 ∧ t.resp.status = 0
      ∧ (t.cpi i.val).fifo = (s.m.cpi i.val).fifo.tail ∧ (t.cpi i.val).queue = (s.m.cpi i.val).queue
      ∧ t.rd F.CPI_CPL_X_DONE_LEN i.val = e.len % 2 ^ F.CPI_CPL_X_DONE_LEN.width
      ∧ t = { s.m with regs := t.regs, resp := t.resp, cpe := { s.m.cpe with insts := t.cpe.insts } })
  ∧ (∀ (s : State) (a : Access) (v : Word),
    s.admitsWrite a 0x20A00020 →
    ∃ t, exec (.cpeCntSelWrite a v) s = s.to t
      ∧ t.rd F.CPE_CNT_SEL_INST = v.toNat % 2 ^ 6 ∧ t.rd F.CPE_CNT_SEL_KIND = v.toNat / 2 ^ 8 % 2 ^ 3
      ∧ t.rd F.CPE_CNT_VAL_VALUE = tget 0 (s.m.cpi (v.toNat % 2 ^ 6)).cnt (v.toNat / 2 ^ 8 % 2 ^ 3) % 2 ^ F.CPE_CNT_VAL_VALUE.width
      ∧ Module.onlyRegs [F.CPE_CNT_SEL_INST.key 0 0 0, F.CPE_CNT_SEL_KIND.key 0 0 0, F.CPE_CNT_VAL_VALUE.key 0 0 0] s.m t)
  ∧ (∀ (s : State) (a : Access) (i : Fin 64) (v : Word),
    s.admitsWrite a (0x40000004 + i.val * 0x1000) →
    exec (.cpiSubmit a i v) s = s.to (s.m.ok.cpiSubmit i.val v.toNat))
  ∧ (∀ (s : State) (i : Fin 64) (c : Fin 4) (more : List (Fin 4)),
    s.m.works 0x0C = true →
    exec (.jobDispatch i c more) s = s.to ((s.m.dispatch i.val c.val (more.map Fin.val)).showUnits))
  ∧ (∀ (s : State) (n : Fin 6) (r : CpeRun) (k : Nat),
    s.m.works 0x0C = true →
    s.m.cpe.runs.find? (fun x => x.units.contains n.val) = some r →
    exec (.jobEnd n k) s = s.to ((if k = 0 then s.m
      else if n.val < 4 then (s.m.wr F.CPE_EVT_RECOMPUTE 1).addW F.CPE_CORE_STAT_RECOMPUTES k n.val
      else s.m.wr F.CPE_EVT_RECOMPUTE 1).endUnit n.val none))
  ∧ (∀ (s : State) (q : Fin 8),
    s.m.works 0x0C = true →
    exec (.quarantineZeroingDone q) s = s.to (s.m.zeroDone q.val))
  ∧ (∀ (s : State) (n : Fin 5),
    s.m.works 0x0C = true →
    exec (.coreFenced n) s = s.to (s.m.fenceUnit n.val))
  ∧ (∀ (s : State) (a : Access) (i : Fin 64),
    s.admitsRead a (0x40000010 + i.val * 0x1000) →
    commitsAtOnce a ∧ (s.m.cpi i.val).fifo = [] →
    exec (.cpiCplRead a i) s = s.to (s.m.ok))
  ∧ (∀ (s : State) (a : Access) (i : Fin 64),
    s.admitsRead a (0x40000010 + i.val * 0x1000) →
    a.spec = true →
    exec (.cpiCplRead a i) s = s.to ({ s.m with resp := { status := 0, data := (s.m.cpiPlan i.val).value, skipped := true } }))
  ∧ (∀ (s : State) (a : Access) (i : Fin 64),
    s.genuine a 0 →
    exec (.cpiCplRead a i) s = s.to ((s.m.cpiRead a i.val).pairFault a 0))

/-- R664–R673: the key store. Where the manual leaves its words open, the statement takes the model's reading (log entries 6 and 41). -/
def Obligations.KeyStore : Prop :=
  (∀ (s : State) (a : Access) (g : Fin 256),
    s.admitsWrite a 0x20B00000 →
    s.m.rd F.KST_LOCK_STAT_HOLDER = 0 →
    ∃ t, exec (.kstLockTake a g) s = s.to t
      ∧ t.rd F.KST_LOCK_STAT_HOLDER = g.val
      ∧ Module.onlyRegs [F.KST_LOCK_STAT_HOLDER.key 0 0 0, F.KST_LOCK_STAT_HELD_US.key 0 0 0] s.m t)
  ∧ (∀ (s : State) (a : Access) (g : Fin 256),
    s.admitsWrite a 0x20B00000 →
    s.m.rd F.KST_LOCK_STAT_HOLDER = g.val →
    ∃ t, exec (.kstLockRelease a g) s = s.to t
      ∧ t.rd F.KST_LOCK_STAT_HOLDER = 0 ∧ t.rd F.KST_LOCK_STAT_HELD_US = 0
      ∧ Module.onlyRegs [F.KST_LOCK_STAT_HOLDER.key 0 0 0, F.KST_LOCK_STAT_HELD_US.key 0 0 0] s.m t)
  ∧ (∀ (s : State),
    s.m.works 0x0D = true →
    s.m.rd F.KST_LOCK_STAT_HOLDER ≠ 0 ∧ 1000 ≤ s.m.rd F.KST_LOCK_STAT_HELD_US →
    ∃ t, exec (.lockRevoked) s = s.to t
      ∧ t.rd F.KST_LOCK_STAT_HOLDER = 0 ∧ t.rd F.KST_LOCK_STAT_REVOKED = s.m.rd F.KST_LOCK_STAT_HOLDER ∧ t.rd F.KST_EVT_REVOKED = 1
      ∧ t.kst = s.m.kst ∧ t.cpe = s.m.cpe)
  ∧ (∀ (s : State) (a : Access) (slot src : Fin 64) (g : Fin 256) (item : Option Nat),
    s.admitsWrite a 0x20B00008 →
    s.m.kstReady g.val ∧ slot ≠ src →
    s.m.keyUse src.val 4 ∧ s.m.rd F.KST_PARAM_DATA 0 % 2 ^ 8 = s.m.newKeyLen + 8 →
    ∃ t, exec (.loadUnwrap a slot src g item) s = s.to t
      ∧ (Config.unwrap 5 (s.m.slotKey src.val) ((s.m.paramBytes 2 14).take (s.m.newKeyLen + 8)) = none →
      t.rd F.KST_OP_STAT_STATUS = 8 ∧ t.kst = s.m.kst ∧ t.rd F.KST_SLOT_GEN_GEN slot.val = s.m.rd F.KST_SLOT_GEN_GEN slot.val)
      ∧ (∀ k ∈ List.range 64, k ≠ slot.val → t.sameSlot s.m k) ∧ t.rd F.KST_EVT_OP_DONE = 1
      ∧ (∀ k ∈ (Config.unwrap 5 (s.m.slotKey src.val) ((s.m.paramBytes 2 14).take (s.m.newKeyLen + 8))).toList,
      k.length = s.m.newKeyLen → t.tookKey s.m slot.val k 1))
  ∧ (∀ (s : State) (a : Access) (slot src : Fin 64) (g : Fin 256) (item : Option Nat),
    s.admitsWrite a 0x20B00008 →
    s.m.kstReady g.val ∧ s.m.rd F.SYSCTL_LC_STATE_STATE ≤ 3 →
    ∃ t, exec (.deriveRoot a slot src g item) s = s.to t
      ∧ t.tookKey s.m slot.val (s.m.derived (if s.m.rd F.SYSCTL_LC_STATE_STATE = 0 then Config.manufactureKey else Config.rootKey)) 0
      ∧ (∀ k ∈ List.range 64, k ≠ slot.val → t.sameSlot s.m k) ∧ t.rd F.KST_EVT_OP_DONE = 1)
  ∧ (∀ (s : State) (a : Access) (slot src : Fin 64) (g : Fin 256) (item : Option Nat),
    s.admitsWrite a 0x20B00008 →
    s.m.kstReady g.val ∧ slot ≠ src ∧ s.m.keyUse src.val 5 →
    ∃ t, exec (.deriveSlot a slot src g item) s = s.to t
      ∧ t.tookKey s.m slot.val (s.m.derived (s.m.slotKey src.val)) 0
      ∧ (∀ k ∈ List.range 64, k ≠ slot.val → t.sameSlot s.m k) ∧ t.rd F.KST_EVT_OP_DONE = 1)
  ∧ (∀ (s : State) (a : Access) (slot src : Fin 64) (g : Fin 256),
    s.admitsWrite a 0x20B00008 →
    s.m.kstReady g.val →
    ∃ t, exec (.erase a slot src g) s = s.to t
      ∧ t.rd F.KST_SLOT_ATTR_VALID slot.val = 0 ∧ t.slotKey slot.val = [] ∧ t.rd F.KST_OP_STAT_STATUS = 0
      ∧ t.rd F.KST_SLOT_GEN_GEN slot.val = Module.nextGen (s.m.rd F.KST_SLOT_GEN_GEN slot.val)
      ∧ (∀ r ∈ t.cpe.runs, Module.usesSlot slot.val r.job = false) ∧ (∀ j ∈ t.cpe.redo, Module.usesSlot slot.val j = false)
      ∧ (∀ k ∈ List.range 64, k ≠ slot.val → t.sameSlot s.m k) ∧ t.rd F.KST_EVT_OP_DONE = 1)
  ∧ (∀ (s : State) (d : Fin 8),
    s.m.sys.resetHeld = false →
    (List.range 3).any (fun b => d.val.testBit b && ! (s.m.rd F.CPE_STAT_GLITCH).testBit b) = true →
    ∃ t, exec (.glitchAlarm d) s = s.to t
      ∧ t.rd F.CPE_STAT_GLITCH = d.val ∧ t.rd F.KST_STAT_GLITCH = d.val ∧ t.rd F.CPE_EVT_ALARM = 1
      ∧ t.cpe.runs = [] ∧ t.cpe.redo = [] ∧ t.cpe.hold = true ∧ t.kst = s.m.kst)
  ∧ (∀ (s : State),
    s.m.sys.resetHeld = false →
    s.m.cpe.glitchUs + 100 ≤ s.m.boot.us →
    ∃ t, exec (.glitchClear) s = s.to t
      ∧ t.cpe = { s.m.cpe with hold := false } ∧ t = { s.m with regs := t.regs, cpe := t.cpe }
      ∧ t.rd F.CPE_STAT_GLITCH = 0 ∧ t.rd F.KST_STAT_GLITCH = 0
      ∧ Module.regsBut [F.CPE_STAT_GLITCH.key 0 0 0, F.KST_STAT_GLITCH.key 0 0 0] s.m t)
  ∧ (∀ (s : State),
    s.m.flag F.HST_MESH_OPEN = false →
    ∃ t, exec (.meshErase) s = s.to t
      ∧ (∀ k ∈ List.range 64, t.rd F.KST_SLOT_ATTR_VALID k = 0 ∧ t.slotKey k = []
      ∧ t.rd F.KST_SLOT_GEN_GEN k = Module.nextGen (s.m.rd F.KST_SLOT_GEN_GEN k))
      ∧ t.rd F.KST_STAT_MESH_OPEN = 1 ∧ t.rd F.HST_MESH_OPEN = 1 ∧ t.rd F.HST_MESH_LATCHED = 1 ∧ t.hst.mesh = true)
  ∧ (∀ (s : State),
    ∃ t, exec (.meshClose) s = s.to t
      ∧ t.rd F.KST_STAT_MESH_OPEN = 0 ∧ t.rd F.HST_MESH_OPEN = 0
      ∧ Module.onlyRegs [F.KST_STAT_MESH_OPEN.key 0 0 0, F.HST_MESH_OPEN.key 0 0 0] s.m t ∧ t.resp = s.m.resp)
  ∧ (∀ (s : State) (a : Access) (g : Fin 256),
    s.admitsWrite a 0x20B00000 →
    s.m.rd F.KST_LOCK_STAT_HOLDER ≠ 0 →
    exec (.kstLockTake a g) s = s.to (s.m.ok))
  ∧ (∀ (s : State) (a : Access) (g : Fin 256),
    s.admitsWrite a 0x20B00000 →
    s.m.rd F.KST_LOCK_STAT_HOLDER ≠ g.val →
    exec (.kstLockRelease a g) s = s.to (s.m.ok))
  ∧ (∀ (s : State) (a : Access) (slot src : Fin 64) (g : Fin 256) (item : Option Nat),
    s.admitsWrite a 0x20B00008 →
    exec (.loadUnwrap a slot src g item) s = s.to (s.m.ok.kstOp 1 slot.val src.val g.val item))
  ∧ (∀ (s : State) (a : Access) (slot src : Fin 64) (g : Fin 256) (item : Option Nat),
    s.admitsWrite a 0x20B00008 →
    exec (.deriveRoot a slot src g item) s = s.to (s.m.ok.kstOp 2 slot.val src.val g.val item))
  ∧ (∀ (s : State) (a : Access) (slot src : Fin 64) (g : Fin 256) (item : Option Nat),
    s.admitsWrite a 0x20B00008 →
    exec (.deriveSlot a slot src g item) s = s.to (s.m.ok.kstOp 3 slot.val src.val g.val item))
  ∧ (∀ (s : State) (a : Access) (slot src : Fin 64) (g : Fin 256),
    s.admitsWrite a 0x20B00008 →
    exec (.erase a slot src g) s = s.to (s.m.ok.kstOp 4 slot.val src.val g.val none))
  ∧ (∀ (s : State) (d : Fin 8),
    s.m.sys.resetHeld = false →
    exec (.glitchAlarm d) s = s.to (s.m.glitch d.val))
  ∧ (∀ (s : State),
    s.m.flag F.HST_MESH_OPEN = true →
    exec (.meshErase) s = s.to (s.m))
  ∧ (∀ (s : State) (a : Access) (agent : Fin 256),
    s.admitsWrite a 0x20B00000 →
    exec (.kstLockTake a agent) s = s.to (s.m.ok.lockTake agent.val))
  ∧ (∀ (s : State),
    exec (.meshErase) s = s.to (s.m.meshOpen))

/-- R686–R714: roles, takeover and handover. Where the manual leaves its words open, the statement takes the model's reading (log entries 42 and 43). -/
def Obligations.DuplexRoles : Prop :=
  (∀ (s : State) (w : List Nat),
    s.m.works 0x0E = true →
    s.m.bridgeUp = false ∧ s.m.boot.region = true ∧ recordWords s.m.bootRegion 0x10 = some w →
    s.m.role = 0 ∧ (w.getD 0 0).testBit 0 = true ∧ Module.duplexFault w = none →
    ∃ t, exec (.duplexRecordApply) s = s.to t
      ∧ t.role = 1 ∧ t.drives = false ∧ t.dpx.supOk = true ∧ t.rd F.DPX_PAIR_ID_ID = w.getD 1 0 % 2 ^ 32
      ∧ t.rd F.DPX_CFG_EN = 1 ∧ t.rd F.DPX_TIMING_CYCLE_US = w.getD 2 0 % 2 ^ 16
      ∧ t.rd F.DPX_SUP_STAT_REMAIN_US = t.rd F.DPX_SUP_CFG_SUP_WDT_US ∧ t.mem = s.m.mem)
  ∧ (∀ (s : State),
    s.m.works 0x0E = true →
    s.m.boot.chanDone = true ∧ s.m.dpx.step9 = false ∧ s.m.mayLead = true →
    s.m.role = 1 ∧ s.m.activeHeard = false ∧ s.m.unitNo = 0 →
    ∃ t, exec (.step9Begin) s = s.to t
      ∧ t.role = 2 ∧ t.drives = true ∧ t.dpx.step9 = true ∧ t.rd F.DPX_STATE_COLLAR_OUT = 1 ∧ t.mem = s.m.mem)
  ∧ (∀ (s : State),
    s.m.works 0x0E = true →
    s.m.role = 1 ∧ s.m.dpx.step9 = true ∧ s.m.unitNo = 1 ∧ s.m.activeHeard = false →
    s.m.mayLead = true ∧ s.m.dpx.step9Us + 300000 ≤ s.m.boot.us →
    ∃ t, exec (.unit1ListenTimeout) s = s.to t
      ∧ t.role = 2 ∧ t.drives = true ∧ t.rd F.DPX_STATE_COLLAR_OUT = 1 ∧ t.mem = s.m.mem)
  ∧ (∀ (s : State) (a0 a1 a2 : Nat),
    s.m.works 0x0E = true →
    s.m.role = 5 ∧ s.m.dpx.ready = true ∧ s.m.dpx.ho = none ∧ s.m.inHoldup = false →
    a0 = s.m.rd F.DPX_PATH_AGE_US 0 ∧ a1 = s.m.rd F.DPX_PATH_AGE_US 1 ∧ a2 = s.m.rd F.DPX_PATH_AGE_US 2 →
    ((s.m.flag F.DPX_STATE_COLLAR_IN = false ∧ 100 ≤ a0) ∨ (400 ≤ a0 ∧ 400 ≤ a1 ∧ (s.m.flag F.DPX_CFG_CAN_EN = true → 400 ≤ a2))) →
    ∃ t, exec (.takeover) s = s.to t
      ∧ t.role = 2 ∧ t.drives = true ∧ t.dpx.engage = true ∧ t.dpx.supOk = true
      ∧ t.rd F.DPX_LAST_TO_CAUSE = (if s.m.flag F.DPX_STATE_COLLAR_IN = false ∧ 100 ≤ a0 then 1 else 2)
      ∧ t.rd F.DPX_COUNT_TAKEOVERS = (s.m.rd F.DPX_COUNT_TAKEOVERS + 1) % 2 ^ F.DPX_COUNT_TAKEOVERS.width
      ∧ t.rd F.DPX_LAST_TO_DECIDE_US = min (min a0 (min a1 a2)) 4095 ∧ t.rd F.DPX_EVT_TAKEOVER = 1)
  ∧ (∀ (s : State) (path : Fin 2) (head : DuplexHead) (sweep : Nat),
    s.m.works 0x0E = true →
    s.m.role = 5 ∧ s.m.headFaults path.val head = 0 ∧ s.m.pathOpen path.val = true →
    ∃ t, exec (.handoverOffer path head sweep) s = s.to t
      ∧ t.role = 6 ∧ t.dpx.ho = some { out := false, trigger := s.m.dpx.asked.getD 0, sweep := sweep } ∧ t.drives = s.m.drives
      ∧ t.chc = s.m.chc ∧ t.out = s.m.out ∧ t.mem = s.m.mem)
  ∧ (∀ (s : State) (h : Handover),
    s.m.works 0x0E = true →
    s.m.role = 6 ∧ s.m.dpx.ho = some h ∧ h.out = false ∧ h.engaged = false →
    s.m.inHoldup = false ∧ (s.m.dpx.peerSweep + 2 ^ 32 - h.sweep) % 2 ^ 32 < 2 ^ 31 →
    ∃ t, exec (.handoverEngage) s = s.to t
      ∧ t.role = 6 ∧ t.drives = true ∧ t.rd F.DPX_LAST_TO_CAUSE = (if h.trigger = 4 then 4 else 3)
      ∧ (t.dpx.ho.map (fun x => (x.out, x.engaged, x.trigger, x.sweep))) = some (false, true, h.trigger, h.sweep)
      ∧ t.dpx.engage = false ∧ t.rd F.DPX_LAST_TO_DECIDE_US = 0)
  ∧ (∀ (s : State) (path : Fin 2) (head : DuplexHead) (sweep cycle : Nat) (h : Handover),
    s.m.works 0x0E = true →
    s.m.role = 6 ∧ s.m.dpx.ho = some h ∧ h.out = true ∧ s.m.headFaults path.val head = 0 ∧ s.m.pathOpen path.val = true →
    ∃ t, exec (.handoverTaken path head sweep cycle) s = s.to t
      ∧ t.role = 4 ∧ t.drives = false ∧ t.dpx.ho = none ∧ t.rd F.DPX_EVT_HANDOVER_OUT = 1
      ∧ t.rd F.DPX_COUNT_HANDOVERS = (s.m.rd F.DPX_COUNT_HANDOVERS + 1) % 2 ^ F.DPX_COUNT_HANDOVERS.width)
  ∧ (∀ (s : State) (path : Fin 2) (head : DuplexHead) (h : Handover),
    s.m.works 0x0E = true →
    s.m.role = 6 ∧ s.m.dpx.ho = some h ∧ h.out = false ∧ s.m.headFaults path.val head = 0 ∧ s.m.pathOpen path.val = true →
    ∃ t, exec (.handoverAbort path head) s = s.to t
      ∧ (t.role = 4 ∨ t.role = 5) ∧ t.drives = false ∧ t.dpx.ho = none ∧ t.rd F.DPX_EVT_ABORT = 1
      ∧ t.rd F.DPX_COUNT_HANDOVERS = s.m.rd F.DPX_COUNT_HANDOVERS)
  ∧ (∀ (s : State) (h : Handover),
    s.m.works 0x0E = true →
    s.m.role = 6 ∧ s.m.dpx.ho = some h ∧ h.out = true ∧ h.sentUs + 2000 ≤ s.m.boot.us →
    ∃ t, exec (.handoverTimeout) s = s.to t
      ∧ t.role = 2 ∧ t.dpx.ho = none ∧ t.rd F.DPX_EVT_ABORT = 1 ∧ t.drives = true
      ∧ (s.m.pathLost 0 = false → s.m.linkUp 2 = true → s.m.inHoldup = false → t.swc.frames.length = s.m.swc.frames.length + 1))
  ∧ (∀ (s : State) (path : Fin 2) (head : DuplexHead),
    s.m.works 0x0E = true →
    s.m.role = 2 ∧ head.role = 5 ∧ s.m.headFaults path.val head = 0 ∧ s.m.pathOpen path.val = true →
    s.m.peerHeard = true ∧ (s.m.pathLost 0 = false ∨ s.m.pathLost 1 = false) →
    ∃ t, exec (.handoverRequest path head) s = s.to t
      ∧ t.role = 6 ∧ t.dpx.ho = some { out := true, trigger := 1, sweep := (s.m.rd F.CHC_SWEEP_NUM + 16) % 2 ^ 32, sentUs := s.m.boot.us }
      ∧ t.drives = s.m.drives ∧ t.chc = s.m.chc)
  ∧ (∀ (s : State) (a : Access) (v : Word),
    s.admitsWrite a 0x20C00038 →
    a.world = true ∧ v.toNat / 2 ^ 16 = 0x4458 ∧ v.toNat % 16 = 1 ∧ s.m.flag F.DPX_CTRL_STAT_PEND = false →
    s.m.handoverRefusal = none →
    ∃ t, exec (.handover a v) s = s.to t
      ∧ t.role = 6 ∧ t.dpx.ho = some { out := true, trigger := 0, sweep := (s.m.rd F.CHC_SWEEP_NUM + 16) % 2 ^ 32, sentUs := s.m.boot.us }
      ∧ t.rd F.DPX_CTRL_STAT_STATUS = 0 ∧ t.chc = s.m.chc)
  ∧ (∀ (s : State) (a : Access) (v : Word),
    s.admitsWrite a 0x20C00038 →
    a.world = true ∧ v.toNat / 2 ^ 16 = 0x4458 ∧ v.toNat % 16 = 2 ∧ s.m.flag F.DPX_CTRL_STAT_PEND = false →
    ∃ t, exec (.clearDistrust a v) s = s.to t
      ∧ t.rd F.DPX_STATE_HEM_DISTRUST = 0 ∧ t.rd F.DPX_CTRL_STAT_STATUS = 0
      ∧ Module.onlyRegs [F.DPX_STATE_HEM_DISTRUST.key 0 0 0, F.DPX_CTRL_STAT_STATUS.key 0 0 0] s.m t)
  ∧ (∀ (s : State),
    s.m.works 0x0E = true →
    s.m.unitNo = 0 ∧ s.m.role = 5 ∧ s.m.flag F.DPX_CFG_REVERT_EN = true ∧ s.m.pathLost 0 = false →
    s.m.fitness = 0x1FFF ∧ (s.m.rd F.DPX_FIT_PEER).testBit 12 = true →
    s.m.dpx.revertUs + s.m.rd F.DPX_TIMING_REVERT_HOLD_S * 1000000 ≤ s.m.boot.us →
    ∃ t, exec (.revert) s = s.to t
      ∧ t.dpx = { s.m.dpx with asked := some 4 } ∧ t.regs = s.m.regs ∧ t.role = 5
      ∧ t.swc.frames.length = s.m.swc.frames.length + (if s.m.linkUp 2 then 1 else 0))
  ∧ (∀ (s : State),
    s.m.works 0x0E = true →
    (s.m.role = 2 ∨ s.m.role = 6) ∧ s.m.pbr.effects = [] ∧ s.m.rd F.DPX_SUP_STAT_REMAIN_US = 0 →
    ∃ t, exec (.supWatchdogExpiry) s = s.to t
      ∧ t.role = 3 ∧ t.dpx.supOk = false ∧ t.rd F.DPX_SUP_STAT_REMAIN_US = 0 ∧ t.drives = true ∧ t.rd F.DPX_EVT_RELEASED = 1
      ∧ t.rd F.DPX_STATE_COLLAR_OUT = 0 ∧ t.chc = s.m.chc)
  ∧ (∀ (s : State) (a : Access) (v : Word),
    s.admitsWrite a 0x20C00030 →
    a.world = false ∧ a.part = s.m.rd F.DPX_SUP_CFG_SUP_PART ∧ v.toNat % 2 ^ 16 = 0xC011 ∧ s.m.role ≠ 0 ∧ s.m.role ≠ 7 →
    ∃ t, exec (.supKick a v) s = s.to t
      ∧ t.rd F.DPX_SUP_STAT_REMAIN_US = s.m.rd F.DPX_SUP_CFG_SUP_WDT_US ∧ t.dpx.supOk = true
      ∧ t.role = (if s.m.role = 3 ∧ s.m.activeHeard = false ∧ s.m.mayLead = true then 2 else s.m.role))
  ∧ (∀ (s : State),
    s.m.works 0x0E = true →
    s.m.role = 4 ∧ s.m.flag F.DPX_STATE_COLLAR_IN = false ∧ s.m.peerHeard = false →
    s.m.mayLead = true ∧ max s.m.dpx.heardUs s.m.dpx.collarUs + 10000000 ≤ s.m.boot.us →
    ∃ t, exec (.coldStart) s = s.to t
      ∧ t.role = 2 ∧ t.drives = true ∧ t.rd F.DPX_LAST_TO_CAUSE = 5 ∧ t.rd F.DPX_EVT_COLD_START = 1
      ∧ (∀ n ∈ List.range 128, (t.chan n).cmd = if (s.m.chan n).init = 1 ∨ (s.m.chan n).init = 3 then .on else .off))
  ∧ (∀ (s : State),
    s.m.works 0x0E = true →
    s.m.role = 2 ∧ ¬ (s.m.peerRole = 6 ∧ s.m.peerHeard = true) ∧ 125 ≤ s.m.dpx.hemRun →
    s.m.unitNo = 1 ∧ s.m.flag F.DPX_STATE_HEM_DISTRUST = false →
    ∃ t, exec (.hemConflict) s = s.to t
      ∧ t.role = 4 ∧ t.drives = false ∧ t.rd F.DPX_EVT_DUAL = 1 ∧ t.rd F.DPX_EVT_YIELD = 1
      ∧ t.rd F.DPX_STATE_HEM_DISTRUST = (if s.m.flag F.DPX_STATE_COLLAR_CONFLICT then 0 else 1))
  ∧ (∀ (s : State),
    s.m.works 0x0E = true →
    exec (.duplexRecordApply) s = s.to (s.m.duplexApply))
  ∧ (∀ (s : State),
    s.m.works 0x0E = true →
    exec (.step9Begin) s = s.to (s.m.step9))
  ∧ (∀ (s : State),
    s.m.works 0x0E = true →
    s.m.boot.chanDone = true ∧ s.m.dpx.step9 = false ∧ s.m.role = 1 ∧ s.m.activeHeard = true →
    ∃ t, exec (.step9Begin) s = s.to t
      ∧ t.role = 4 ∧ t.drives = false ∧ t.dpx.step9 = true ∧ t.rd F.DPX_STATE_COLLAR_OUT = 0)
  ∧ (∀ (s : State),
    s.m.works 0x0E = true →
    exec (.takeover) s = s.to (s.m.takeover))
  ∧ (∀ (s : State) (path : Fin 2) (head : DuplexHead) (sweep : Nat),
    s.m.works 0x0E = true →
    exec (.handoverOffer path head sweep) s = s.to (s.m.controlIn path.val head (·.offerIn sweep)))
  ∧ (∀ (s : State),
    s.m.works 0x0E = true →
    exec (.handoverEngage) s = s.to (s.m.handoverEngages))
  ∧ (∀ (s : State) (path : Fin 2) (head : DuplexHead) (sweep cycle : Nat),
    s.m.works 0x0E = true →
    exec (.handoverTaken path head sweep cycle) s = s.to (s.m.controlIn path.val head (·.takenIn)))
  ∧ (∀ (s : State) (path : Fin 2) (head : DuplexHead),
    s.m.works 0x0E = true →
    exec (.handoverAbort path head) s = s.to (s.m.controlIn path.val head (·.abortIn)))
  ∧ (∀ (s : State) (path : Fin 2) (head : DuplexHead),
    s.m.works 0x0E = true →
    exec (.handoverRequest path head) s = s.to (s.m.controlIn path.val head (·.handoverBegin 1)))
  ∧ (∀ (s : State) (a : Access) (v : Word),
    s.admitsWrite a 0x20C00038 →
    a.world = true →
    exec (.handover a v) s = s.to (s.m.ok.dpxRequest v.toNat))
  ∧ (∀ (s : State) (a : Access) (v : Word),
    s.admitsWrite a 0x20C00038 →
    a.world = true →
    exec (.clearDistrust a v) s = s.to (s.m.ok.dpxRequest v.toNat))
  ∧ (∀ (s : State) (a : Access) (v : Word),
    s.admitsWrite a 0x20C00030 →
    a.world = false ∧ a.part = s.m.rd F.DPX_SUP_CFG_SUP_PART →
    exec (.supKick a v) s = s.to (s.m.ok.supKicked v.toNat))
  ∧ (∀ (s : State),
    s.m.works 0x0E = true →
    exec (.coldStart) s = s.to (s.m.coldStarts))
  ∧ (∀ (s : State),
    s.m.works 0x0E = true →
    exec (.hemConflict) s = s.to (s.m.hemEvidence))
  ∧ (∀ (s : State),
    s.m.works 0x0E = true →
    exec (.supWatchdogExpiry) s = s.to (s.m.supExpires))
  ∧ (∀ (s : State),
    s.m.works 0x0E = true →
    exec (.revert) s = s.to (s.m.revertRequest))
  ∧ (∀ (s : State),
    s.m.works 0x0E = true →
    exec (.handoverTimeout) s = s.to (s.m.handoverTimeout))

/-- R693–R717: what the units tell each other, and what they check. Where the manual leaves its words open, the statement takes the model's reading (log entries 43 and 44). -/
def Obligations.DuplexExchange : Prop :=
  (∀ (s : State),
    s.m.works 0x0E = true →
    s.m.talks = true →
    ∃ t, exec (.heartbeatTx 0) s = s.to t
      ∧ t.dpx = { s.m.dpx with seqs := t.dpx.seqs } ∧ tget 0 t.dpx.seqs 0 = (tget 0 s.m.dpx.seqs 0 + 1) % 2 ^ 32
      ∧ t = { s.m with dpx := t.dpx, swc := (s.m.pairFrame 2 (t.heartbeatBytes 0)).swc })
  ∧ (∀ (s : State) (path : Fin 3) (x : Heartbeat),
    s.m.works 0x0E = true →
    s.m.role = 4 ∧ s.m.headFaults path.val x.head = 0 ∧ x.head.role = 4 ∧ s.m.pathOpen path.val = true →
    ∃ t, exec (.heartbeatRx path x) s = s.to t
      ∧ t.rd F.DPX_PATH_AGE_US path.val = 0 ∧ t.rd F.DPX_PATH_HEARD path.val = 1 ∧ t.rd F.DPX_FIT_PEER = x.fit % 2 ^ F.DPX_FIT_PEER.width
      ∧ t.peerRole = 4 ∧ t.role = 4 ∧ t.rd F.DPX_STATE_HEM_DISTRUST = 0
      ∧ t = { s.m with regs := t.regs, dpx := { s.m.dpx with
      peerHeld := x.head.held
      peerSeen := x.head.seen
      heardUs := s.m.boot.us
      peerSweep := if path.val = 2 then s.m.dpx.peerSweep else x.sweep
      pathRun := t.dpx.pathRun } })
  ∧ (∀ (s : State) (path : Fin 3) (x : Heartbeat),
    s.m.works 0x0E = true →
    s.m.role = 2 ∧ x.head.unit = s.m.unitNo ∧ s.m.pathOpen path.val = true →
    ∃ t, exec (.heartbeatRx path x) s = s.to t
      ∧ t.rd F.DPX_STATE_CLASH = 1 ∧ t.role = 2
      ∧ Module.onlyRegs [F.DPX_STATE_CLASH.key 0 0 0] s.m t ∧ t.resp = s.m.resp)
  ∧ (∀ (s : State) (path : Fin 2) (x : Mirror),
    s.m.works 0x0E = true →
    s.m.role = 2 ∧ s.m.headFaults path.val x.head = 0 ∧ x.head.role = 5 ∧ x.sweep < 2 ^ 32 ∧ s.m.drives = true →
    s.m.pathOpen path.val = true →
    ∃ t, exec (.mirrorRx path x) s = s.to t
      ∧ t.rd F.DPX_MIRROR_SWEEP = x.sweep ∧ t.dpx.mirrored = true ∧ t.dpx.sinceMirror = 0 ∧ t.dpx.peerCond = x.cond ∧ t.role = 2
      ∧ t.rd F.DPX_MIRROR_MISS_COUNT = s.m.rd F.DPX_MIRROR_MISS_COUNT
      ∧ (∀ n ∈ List.range 128, (t.chan n).cmd = (s.m.chan n).cmd ∧ (t.chan n).phase = (s.m.chan n).phase))
  ∧ (∀ (s : State) (path : Fin 3),
    s.m.works 0x0E = true →
    s.m.pathLost path.val = false ∧ s.m.pbr.effects = [] ∧ 10000 ≤ s.m.rd F.DPX_PATH_AGE_US path.val →
    (path.val = 2 → s.m.flag F.DPX_CFG_CAN_EN = true) →
    ∃ t, exec (.pathLost path) s = s.to t
      ∧ t.pathLost path.val = true ∧ t.rd F.DPX_PATH_HEARD path.val = 0
      ∧ t.rd F.DPX_PATH_LOSSES path.val = (s.m.rd F.DPX_PATH_LOSSES path.val + 1) % 2 ^ F.DPX_PATH_LOSSES.width
      ∧ t.rd F.DPX_EVT_PATH_LOST = 1 ∧ t.role = s.m.role ∧ t.chc = s.m.chc)
  ∧ (∀ (s : State) (path : Fin 3),
    s.m.works 0x0E = true →
    s.m.pathLost path.val = true ∧ s.m.rd F.DPX_PATH_AGE_US path.val ≤ 1000 →
    tget 0 s.m.dpx.pathRun path.val ≠ 0 ∧ tget 0 s.m.dpx.pathRun path.val + 100000 ≤ s.m.boot.us + 1 →
    ∃ t, exec (.pathRestored path) s = s.to t
      ∧ t.pathLost path.val = false ∧ t.rd F.DPX_EVT_PATH_RESTORED = 1 ∧ t = { s.m with regs := t.regs } ∧ t.role = s.m.role)
  ∧ (∀ (s : State) (b : Bool),
    s.m.works 0x0E = true →
    ∃ t, exec (.collarInChange b) s = s.to t
      ∧ t.rd F.DPX_STATE_COLLAR_IN = (if b then 1 else 0) ∧ (b = true → t.rd F.DPX_STATE_COLLAR_OPEN = 0)
      ∧ (b = false → t.rd F.DPX_STATE_COLLAR_CONFLICT = 0)
      ∧ t = { s.m with regs := t.regs, dpx := { s.m.dpx with
      collarUs := if s.m.flag F.DPX_STATE_COLLAR_IN = b then s.m.dpx.collarUs else s.m.boot.us } }
      ∧ Module.regsBut ([F.DPX_STATE_COLLAR_IN.key 0 0 0] ++ (if b then [F.DPX_STATE_COLLAR_OPEN.key 0 0 0]
      else [F.DPX_STATE_COLLAR_CONFLICT.key 0 0 0])) s.m t)
  ∧ (∀ (s : State),
    s.m.works 0x0E = true →
    s.m.role = 2 ∧ s.m.flag F.DPX_STATE_COLLAR_IN = true ∧ ¬ (s.m.peerRole = 6 ∧ s.m.peerHeard = true) →
    s.m.dpx.collarUs + 100 ≤ s.m.boot.us →
    exec (.collarConflict) s = s.to (s.m.wr F.DPX_STATE_COLLAR_CONFLICT 1))
  ∧ (∀ (s : State),
    s.m.works 0x0E = true →
    s.m.role ≠ 0 ∧ s.m.flag F.DPX_STATE_COLLAR_IN = false ∧ s.m.dpx.peerHeld = true ∧ s.m.flag F.DPX_STATE_COLLAR_OPEN = false →
    s.m.dpx.collarUs + 1000 ≤ s.m.boot.us →
    ∃ t, exec (.collarOpen) s = s.to t
      ∧ t.rd F.DPX_STATE_COLLAR_OPEN = 1 ∧ t.rd F.DPX_EVT_COLLAR_OPEN = 1 ∧ t.role = s.m.role ∧ t.chc = s.m.chc)
  ∧ (∀ (s : State),
    s.m.works 0x0E = true →
    s.m.flag F.DPX_CFG_EN = true ∧ s.m.dpx.ho = none ∧ s.m.degraded = false ∧ s.m.cycleDue = true →
    ∃ t, exec (.cycleBoundary) s = s.to t
      ∧ t.rd F.DPX_CYCLE_NUM = (s.m.rd F.DPX_CYCLE_NUM + 1) % 2 ^ F.DPX_CYCLE_NUM.width ∧ t.dpx = { s.m.dpx with phaseUs := 0 }
      ∧ (s.m.drives = true → t.rd F.DPX_EVT_CYCLE = 1 ∧ t.rd F.DPX_SNAP_AGE_CYCLES = s.m.rd F.DPX_SNAP_AGE_CYCLES)
      ∧ t = { s.m with regs := t.regs, dpx := t.dpx })
  ∧ (∀ (s : State) (h : Handover),
    s.m.works 0x0E = true →
    s.m.flag F.DPX_CFG_EN = true ∧ s.m.degraded = false ∧ s.m.role = 6 ∧ s.m.dpx.ho = some h ∧ h.out = false →
    s.m.cycleDue = true ∧ h.taken = some ((s.m.rd F.DPX_CYCLE_NUM + 1) % 2 ^ F.DPX_CYCLE_NUM.width) →
    ∃ t, exec (.cycleBoundary) s = s.to t
      ∧ t.role = 2 ∧ t.rd F.DPX_EVT_HANDOVER_IN = 1 ∧ t.dpx.ho = none ∧ t.drives = true
      ∧ t.rd F.DPX_COUNT_HANDOVERS = (s.m.rd F.DPX_COUNT_HANDOVERS + 1) % 2 ^ F.DPX_COUNT_HANDOVERS.width)
  ∧ (∀ (s : State) (a : Access) (v : Word),
    s.admitsWrite a 0x20C0005C →
    s.m.bridgeUp = false →
    ∃ t, exec (.snapReadyWrite a v) s = s.to t
      ∧ t.rd F.DPX_SNAP_READY_REGIONS = s.m.rd F.DPX_SNAP_READY_REGIONS ||| (v.toNat % 2 ^ 16)
      ∧ Module.onlyRegs [F.DPX_SNAP_READY_REGIONS.key 0 0 0] s.m t ∧ t.resp = {})
  ∧ (∀ (s : State) (r : Fin 16),
    s.m.works 0x0E = true →
    s.m.rd F.DPX_SNAP_READY_REGIONS = 2 ^ r.val ∧ s.m.bridgeUp = false →
    s.m.flag F.DPX_SNAP_STAT_BUSY = true ∧ s.m.snapPending r.val = false →
    ∃ t, exec (.snapCopyDone r) s = s.to t
      ∧ t.rd F.DPX_SNAP_READY_REGIONS = 0 ∧ (t.rd F.DPX_SNAP_STAT_COPIED).testBit r.val = true ∧ t.rd F.DPX_SNAP_STAT_BUSY = 0
      ∧ t = { s.m with regs := t.regs })
  ∧ (∀ (s : State) (c : Nat),
    s.m.works 0x0E = true →
    ∃ t, exec (.snapDone c) s = s.to t
      ∧ t.rd F.DPX_EVT_SNAP_DONE = 1 ∧ t.rd F.DPX_SNAP_CYCLE_NUM = c % 2 ^ F.DPX_SNAP_CYCLE_NUM.width ∧ t.rd F.DPX_SNAP_AGE_CYCLES = 0
      ∧ t = { s.m with regs := t.regs } ∧ Module.regsBut [F.DPX_EVT_SNAP_DONE.key 0 0 0, F.DPX_SNAP_CYCLE_NUM.key 0 0 0,
      F.DPX_SNAP_AGE_CYCLES.key 0 0 0] s.m t)
  ∧ (∀ (s : State) (c : Fin 128),
    s.m.works 0x0E = true →
    (s.m.role = 4 ∨ s.m.role = 5) ∧ tget 0 s.m.dpx.peerCmd c.val = 1 ∧ s.m.dpx.peerCond.testBit c.val = true →
    (s.m.chan c.val).phase = .off ∧ s.m.freeToTurnOn c.val = true ∧ s.m.vauxAllows c.val = true ∧ s.m.pulsing (c.val / 32) = false →
    s.m.steadyFor c.val = true ∧ s.m.pulseDue c.val = true →
    ∃ t, exec (.onPulse c) s = s.to t
      ∧ (t.chan c.val).phase = .turningOn ∧ (t.chan c.val).pulse = true ∧ (t.chan c.val).cmd = (s.m.chan c.val).cmd
      ∧ (∀ k ∈ List.range 128, k ≠ c.val → t.chan k = s.m.chan k) ∧ t.mem = s.m.mem
      ∧ t.dpx = { s.m.dpx with pulseFrom := tset 0 s.m.dpx.pulseFrom c.val (s.m.boot.us + 1) })
  ∧ (∀ (s : State) (c : Fin 128),
    s.m.works 0x0E = true →
    (s.m.chan c.val).pulse = true ∧ (s.m.chan c.val).protOff = false ∧ (s.m.chan c.val).phase = .on ∧ s.m.drives = false →
    tget 0 s.m.dpx.peerCmd c.val = 1 ∧ tget 0 s.m.dpx.pulseRun c.val = 1 →
    (s.m.chan c.val).carried = false ∧ (s.m.chan c.val).reverse = false ∧ tget 0 s.m.dpx.pulseFrom c.val + 50 ≤ s.m.boot.us + 1 →
    ∃ t, exec (.onPulseEnd c) s = s.to t
      ∧ (t.chan c.val).pulse = false ∧ (t.chan c.val).conducting = false ∧ tget 0 t.dpx.pulseRun c.val = 2
      ∧ t.mapBit F.DPX_PULSE_FAIL_MAP c.val = true ∧ t.rd F.DPX_EVT_SELFTEST_FAIL = 1
      ∧ (∀ k ∈ List.range 128, k ≠ c.val → t.chan k = s.m.chan k))
  ∧ (∀ (s : State) (p : Fin 16),
    s.m.works 0x0E = true →
    (s.m.role = 4 ∨ s.m.role = 5) ∧ s.m.sparePair.isSome = true ∧ s.m.lss.moveReq = none →
    s.m.movable p.val = true ∧ s.m.dpx.rotated = (p.val + 15) % 16 →
    (s.m.dpx.rotatedUs = 0 ∨ s.m.dpx.rotatedUs + 10000000 ≤ s.m.boot.us + 1) →
    exec (.pairRotation) s = s.to (Module.moveAccept { s.m with lss := { s.m.lss with rotating := true }, dpx := { s.m.dpx with rotated := p.val, rotatedUs := s.m.boot.us + 1 } } 1 p.val))
  ∧ (∀ (s : State) (path : Fin 3),
    s.m.works 0x0E = true →
    exec (.heartbeatTx path) s = s.to (s.m.heartbeat path.val))
  ∧ (∀ (s : State) (path : Fin 3) (x : Heartbeat),
    s.m.works 0x0E = true →
    exec (.heartbeatRx path x) s = s.to (s.m.heartbeatIn path.val x))
  ∧ (∀ (s : State) (path : Fin 2) (x : Mirror),
    s.m.works 0x0E = true →
    s.m.role = 4 ∧ s.m.drives = false ∧ s.m.headFaults path.val x.head = 0 ∧ s.m.pathOpen path.val = true ∧ x.head.role = 2 →
    ∃ t, exec (.mirrorRx path x) s = s.to t
      ∧ t.dpx.mirrored = true ∧ t.dpx.sinceMirror = 0 ∧ t.rd F.DPX_STATE_PEER_ROLE = 2 ∧ (t.role = 4 ∨ t.role = 5)
      ∧ (∀ n ∈ List.range 128, x.cmd.getD n 0 = 1 → (t.chan n).cmd = .on)
      ∧ (∀ n ∈ List.range 128, x.cmd.getD n 0 = 0 → (t.chan n).cmd = .off))
  ∧ (∀ (s : State) (path : Fin 2) (x : Mirror),
    s.m.works 0x0E = true →
    exec (.mirrorRx path x) s = s.to (s.m.mirrorIn path.val x))
  ∧ (∀ (s : State) (path : Fin 3),
    s.m.works 0x0E = true →
    exec (.pathLost path) s = s.to (s.m.pathFails path.val))
  ∧ (∀ (s : State) (path : Fin 3),
    s.m.works 0x0E = true →
    exec (.pathRestored path) s = s.to (s.m.pathBack path.val))
  ∧ (∀ (s : State),
    s.m.works 0x0E = true →
    exec (.cycleBoundary) s = s.to (s.m.cycleBoundary))
  ∧ (∀ (s : State) (a : Access) (v : Word),
    s.admitsWrite a 0x20C0005C →
    exec (.snapReadyWrite a v) s = s.to (s.m.ok.snapReady v.toNat))
  ∧ (∀ (s : State) (r : Fin 16),
    s.m.works 0x0E = true →
    exec (.snapCopyDone r) s = s.to (s.m.snapCopied r.val))
  ∧ (∀ (s : State) (c : Fin 128),
    s.m.works 0x0E = true →
    (s.m.chan c.val).pulse = true ∧ (s.m.chan c.val).protOff = false ∧ (s.m.chan c.val).phase = .on ∧ s.m.drives = false →
    tget 0 s.m.dpx.peerCmd c.val = 1 ∧ tget 0 s.m.dpx.pulseFrom c.val + 50 ≤ s.m.boot.us + 1 →
    (s.m.chan c.val).carried = true ∧ (s.m.chan c.val).onAt < tget 0 s.m.dpx.pulseFrom c.val + 10 →
    ∃ t, exec (.onPulseEnd c) s = s.to t
      ∧ (t.chan c.val).pulse = false ∧ (t.chan c.val).conducting = false ∧ tget 0 t.dpx.pulseRun c.val = 0
      ∧ t.mapBit F.DPX_PULSE_FAIL_MAP c.val = s.m.mapBit F.DPX_PULSE_FAIL_MAP c.val)
  ∧ (∀ (s : State) (c : Fin 128),
    s.m.works 0x0E = true →
    exec (.onPulse c) s = s.to (s.m.pulseBegin c.val))
  ∧ (∀ (s : State) (c : Fin 128),
    s.m.works 0x0E = true →
    exec (.onPulseEnd c) s = s.to (s.m.pulseEnd c.val))
  ∧ (∀ (s : State),
    s.m.works 0x0E = true →
    exec (.pairRotation) s = s.to (s.m.rotatePair))

/-- R726–R754: the session, the channel, doorbells and what expires. Where the manual leaves its words open, the statement takes the model's reading (log entries 13 and 14). -/
def Obligations.BridgeLink : Prop :=
  (∀ (s : State),
    s.m.works 0x0F = true →
    s.m.flag F.PBR_CTRL_EN = true ∧ s.m.pathOpen s.m.bridgePath = true →
    ∃ t, exec (.helloTx) s = s.to t
      ∧ t = { s.m with out := t.out } ∧ t.out.tail = s.m.out
      ∧ t.sends s.m.out.length (fun y => y.kind = 0x10 ∧ y.session = s.m.rd F.PBR_SESSION_OWN
      ∧ y.data = netBytes 4 (s.m.rd F.DPX_PAIR_ID_ID) ++ netBytes 2 (s.m.rd F.PBR_SESSION_PEER) ++ [0, 0]))
  ∧ (∀ (s : State),
    s.m.works 0x0F = true →
    s.m.flag F.PBR_STAT_BLOCKED = true ∧ s.m.pathOpen s.m.bridgePath = true →
    ∃ t, exec (.blockedHelloTx) s = s.to t
      ∧ t = { s.m with out := t.out } ∧ t.out.tail = s.m.out
      ∧ t.sends s.m.out.length (fun y => y.kind = 0x10 ∧ y.session = s.m.rd F.PBR_SESSION_OWN ∧ y.blocked = true))
  ∧ (∀ (s : State) (x : BridgeMsg),
    s.m.works 0x0F = true →
    x.version = 1 ∧ s.m.pathOpen x.path = true ∧ x.kind = 0x10 ∧ x.session < 2 ^ 16 ∧ s.m.bridgeUp = false ∧ s.m.mayLink = true →
    ofNetBytes (x.data.take 4) = s.m.rd F.DPX_PAIR_ID_ID →
    ofNetBytes ((x.data.drop 4).take 2) = s.m.rd F.PBR_SESSION_OWN ∧ s.m.flag F.PBR_SESSION_OWN = true →
    ∃ t, exec (.hello x) s = s.to t
      ∧ t.bridgeUp = true ∧ t.rd F.PBR_EVT_LINK_UP = 1 ∧ t.rd F.PBR_SESSION_PEER = x.session
      ∧ t.mem = s.m.mem ∧ t.dpx = s.m.dpx ∧ t.pbr.reqs.length = s.m.pbr.reqs.length)
  ∧ (∀ (s : State) (a : Access) (v : Word),
    s.admitsWrite a 0x20D00000 →
    a.world = true ∧ v.toNat % 2 = 1 →
    ∃ t, exec (.pbrEnableWrite a v) s = s.to t
      ∧ t.rd F.PBR_CTRL_EN = 1 ∧ t.rd F.PBR_SESSION_OWN ≠ 0 ∧ t.bridgeUp = (s.m.bridgeUp || (s.m.talks && s.m.pbr.paired && s.m.pbr.named)) ∧ t.pbr = s.m.pbr
      ∧ (s.m.rd F.PBR_SESSION_OWN ≠ 0 → t.rd F.PBR_SESSION_OWN = s.m.rd F.PBR_SESSION_OWN))
  ∧ (∀ (s : State) (x : BridgeMsg) (h : Unacked),
    s.m.works 0x0F = true →
    s.m.accepts x ∧ x.kind = 0x1A ∧ x.blocked = false ∧ s.m.pbr.queue = [] →
    s.m.pbr.unacked.head? = some h ∧ h.msg.seq = x.ack ∧ h.msg.kind ≠ 0x18 →
    ∃ t, exec (.ackOnly x) s = s.to t
      ∧ t.pbr = { s.m.pbr with unacked := s.m.pbr.unacked.tail, headUs := 0 } ∧ t.out = s.m.out ∧ t = { s.m with regs := t.regs, pbr := t.pbr })
  ∧ (∀ (s : State) (h : Unacked),
    s.m.works 0x0F = true →
    s.m.bridgeUp = true ∧ s.m.pbr.unacked.head? = some h ∧ h.sends < 8 ∧ s.m.ackLate = true ∧ s.m.pathOpen s.m.bridgePath = true →
    ∃ t, exec (.resendTimeout) s = s.to t
      ∧ t.pbr = { s.m.pbr with unacked := s.m.pbr.unacked.map (fun e => { e with sends := e.sends + 1, sentUs := s.m.boot.us }) }
      ∧ t.out.length = s.m.out.length + s.m.pbr.unacked.length ∧ t = { s.m with regs := t.regs, pbr := t.pbr, out := t.out }
      ∧ Module.regsBut [F.PBR_CNT_RETX_COUNT.key 0 0 0] s.m t)
  ∧ (∀ (s : State),
    s.m.works 0x0F = true →
    s.m.bridgeUp = true ∧ s.m.pbr.effects = [] ∧ s.m.pbr.holding = [] ∧ s.m.linkCause.isSome = true →
    ∃ t, exec (.linkLost) s = s.to t
      ∧ t.bridgeUp = false ∧ t.rd F.PBR_EVT_LINK_DOWN = 1 ∧ t.rd F.PBR_SESSION_OWN ≠ 0 ∧ t.rd F.PBR_STAT_BLOCKED = 0
      ∧ t.pbr.queue = [] ∧ t.pbr.unacked = [] ∧ t.pbr.reqs = [] ∧ t.pbr.inq = [] ∧ t.pbr.sems = [] ∧ t.pbr.prefetch = []
      ∧ t.rd F.PBR_CNT_CROSS_DOWNS = (s.m.rd F.PBR_CNT_CROSS_DOWNS + 1) % 2 ^ F.PBR_CNT_CROSS_DOWNS.width ∧ t.chc = s.m.chc)
  ∧ (∀ (s : State) (x : BridgeMsg),
    s.m.works 0x0F = true →
    s.m.bridgeUp = true ∧ s.m.pbr.queue.head? = some x ∧ isRequest x.kind = true ∧ 32 ≤ s.m.outstanding →
    s.m.pbr.headUs ≠ 0 ∧ s.m.pbr.headUs + 2 ≤ s.m.boot.us + 1 →
    exec (.bridgeBlocked) s = s.to (s.m.wr F.PBR_STAT_BLOCKED 1))
  ∧ (∀ (s : State),
    s.m.works 0x0F = true →
    s.m.flag F.PBR_STAT_RETRACTED = true ∧ s.m.pbr.retryTags = [] →
    ∃ t, exec (.retryQueueRestore) s = s.to t
      ∧ t.rd F.PBR_STAT_RETRACTED = 0 ∧ t.pbr.retry = []
      ∧ t.pbr.unacked.length + t.pbr.queue.length = s.m.pbr.unacked.length + s.m.pbr.retry.length + s.m.pbr.queue.length)
  ∧ (∀ (s : State) (a : Access) (v : Word) (n : Fin 24),
    s.admitsWrite a 0x20D00014 →
    v.toNat = 2 ^ n.val ∧ s.m.bridgeFree →
    ∃ t, exec (.doorbellSend a v) s = s.to t
      ∧ t.sends s.m.out.length (fun y => y.kind = 0x17 ∧ y.op = n.val ∧ y.seq = s.m.pbr.nextSeq)
      ∧ t.pbr.unacked.length = s.m.pbr.unacked.length + 1 ∧ t.mem = s.m.mem ∧ t.pbr.reqs = s.m.pbr.reqs)
  ∧ (∀ (s : State) (x : BridgeMsg),
    s.m.works 0x0F = true →
    s.m.accepts x ∧ x.kind = 0x17 ∧ x.op < 24 ∧ x.blocked = false ∧ s.m.pbr.inq = [] →
    ∃ t, exec (.doorbell x) s = s.to t
      ∧ (t.rd F.PBR_DB_IN_BITS).testBit x.op = true ∧ t.rd F.PBR_EVT_DB = 1 ∧ t.pbr.lastSeq = x.seq ∧ t.pbr.inq = []
      ∧ t.mem = s.m.mem ∧ t.dpx = s.m.dpx)
  ∧ (∀ (s : State) (n : Fin 16),
    s.m.works 0x0F = true →
    s.m.pbr.sems.all (fun x => x.no != n.val || decide (x.takenUs + 100 ≤ s.m.boot.us)) = true →
    ∃ t, exec (.semaphoreTimeout n) s = s.to t
      ∧ t.pbr = { s.m.pbr with sems := s.m.pbr.sems.filter (fun x => x.no != n.val) } ∧ t = { s.m with regs := t.regs, pbr := t.pbr }
      ∧ (t.rd F.PBR_SEM_STAT_HELD).testBit n.val = false)
  ∧ (∀ (s : State) (g : Nat),
    s.m.works 0x0F = true →
    exec (.prefetchExpiry g) s = s.to ({ s.m with pbr := { s.m.pbr with prefetch := s.m.pbr.prefetch.filter (fun x => x.addr != g || decide (s.m.boot.us < x.keptUs + 10)) } }))
  ∧ (∀ (s : State) (w : Nat),
    s.m.works 0x0F = true →
    s.m.pbr.holding.any (fun h => h.addr == w) = true ∧ w < 2 ^ 40 →
    s.m.pbr.holding.all (fun h => h.addr != w || decide (h.keptUs + 64 ≤ s.m.boot.us)) = true →
    ∃ t, exec (.prefetchLoss w) s = s.to t
      ∧ t.pbr = { s.m.pbr with holding := s.m.pbr.holding.filter (fun h => h.addr != w) } ∧ t.rd F.PBR_LAST_LOSS_ADDR = w
      ∧ t.rd F.PBR_EVT_PREFETCH_LOSS = 1 ∧ t.rd F.PBR_CNT_LOSS_COUNT = sat F.PBR_CNT_LOSS_COUNT.width (s.m.rd F.PBR_CNT_LOSS_COUNT + 1))
  ∧ (∀ (s : State),
    s.m.works 0x0F = true →
    exec (.helloTx) s = s.to (if s.m.flag F.PBR_CTRL_EN then s.m.sendHello else s.m))
  ∧ (∀ (s : State),
    s.m.works 0x0F = true →
    exec (.blockedHelloTx) s = s.to (if s.m.flag F.PBR_STAT_BLOCKED then s.m.sendHello else s.m))
  ∧ (∀ (s : State) (x : BridgeMsg),
    s.m.works 0x0F = true →
    exec (.hello x) s = s.to (s.m.helloIn x))
  ∧ (∀ (s : State) (a : Access) (v : Word),
    s.admitsWrite a 0x20D00000 →
    a.world = true →
    exec (.pbrEnableWrite a v) s = s.to (s.m.ok.pbrEnable v.toNat))
  ∧ (∀ (s : State) (x : BridgeMsg),
    s.m.works 0x0F = true →
    exec (.ackOnly x) s = s.to (s.m.bridgeIn x id))
  ∧ (∀ (s : State),
    s.m.works 0x0F = true →
    exec (.resendTimeout) s = s.to (s.m.resend))
  ∧ (∀ (s : State) (c : Nat),
    s.m.works 0x0F = true →
    s.m.linkCause = some c →
    exec (.linkLost) s = s.to (s.m.linkDown c))
  ∧ (∀ (s : State),
    s.m.works 0x0F = true →
    exec (.bridgeBlocked) s = s.to (s.m.blockedNow))
  ∧ (∀ (s : State),
    s.m.works 0x0F = true →
    exec (.retryQueueRestore) s = s.to (s.m.retryRestore))
  ∧ (∀ (s : State) (a : Access) (v : Word),
    s.admitsWrite a 0x20D00014 →
    exec (.doorbellSend a v) s = s.to (s.m.ok.doorbellSend v.toNat))
  ∧ (∀ (s : State) (x : BridgeMsg),
    s.m.works 0x0F = true →
    exec (.doorbell x) s = s.to (s.m.kindIn 0x17 x (·.doorbellIn x)))
  ∧ (∀ (s : State) (n : Fin 16),
    s.m.works 0x0F = true →
    exec (.semaphoreTimeout n) s = s.to (Module.showSems { s.m with pbr := { s.m.pbr with
      sems := s.m.pbr.sems.filter (fun x => x.no != n.val || decide (s.m.boot.us < x.takenUs + 100)) } }))
  ∧ (∀ (s : State) (w : Nat),
    s.m.works 0x0F = true →
    exec (.prefetchLoss w) s = s.to (s.m.holdingExpire w))

/-- R731–R751: requests in both directions. Where the manual leaves its words open, the statement takes the model's reading (log entries 14 and 15). -/
def Obligations.BridgeTransfers : Prop :=
  (∀ (s : State) (a : Access) (addr n : Nat) (w : Fin 16),
    s.admitsRead a addr →
    s.m.bridgeFree ∧ s.m.winOf addr = some w.val ∧ s.m.flag F.PBR_WIN_A_READ w.val = true ∧ s.m.flag F.PBR_WIN_A_PREFETCH w.val = false →
    commitsAtOnce a ∧ s.m.pbr.reqs.all (fun q => q.tag != s.m.freeTag) = true →
    ∃ t, exec (.windowRead a addr n) s = s.to t
      ∧ t.asks s.m 0x11 a addr n ∧ t.mem = s.m.mem
      ∧ t.sends s.m.out.length (fun y => y.kind = 0x11 ∧ y.addr = s.m.peerAddr w.val addr / 4 * 4 ∧ y.commit = 0 ∧ y.ini = a.ini
      ∧ y.seq = s.m.pbr.nextSeq ∧ y.part = a.part ∧ y.world = a.world ∧ y.tag = s.m.freeTag))
  ∧ (∀ (s : State) (a : Access) (addr : Nat) (data : List Byte) (w : Fin 16),
    s.admitsWrite a addr →
    s.m.bridgeFree ∧ s.m.winOf addr = some w.val ∧ s.m.flag F.PBR_WIN_A_WRITE w.val = true ∧ s.m.pbr.reqs.all (fun q => q.tag != s.m.freeTag) = true →
    ∃ t, exec (.windowWrite a addr data) s = s.to t
      ∧ t.asks s.m 0x13 a addr data.length ∧ t.mem = s.m.mem
      ∧ t.sends s.m.out.length (fun y => y.kind = 0x13 ∧ y.addr = s.m.peerAddr w.val addr / 4 * 4 ∧ y.seq = s.m.pbr.nextSeq
      ∧ y.tag = s.m.freeTag ∧ (y.data.drop (s.m.peerAddr w.val addr % 4)).take data.length = data))
  ∧ (∀ (s : State) (a : Access) (op : Fin 9) (addr : Nat) (data : Word) (w : Fin 16),
    s.admitsWrite a addr →
    s.m.bridgeFree ∧ s.m.winOf addr = some w.val ∧ s.m.flag F.PBR_WIN_A_WRITE w.val = true ∧ s.m.pbr.reqs.all (fun q => q.tag != s.m.freeTag) = true →
    ∃ t, exec (.windowAtomic a op addr data) s = s.to t
      ∧ t.asks s.m 0x15 a addr 4 ∧ t.mem = s.m.mem
      ∧ t.sends s.m.out.length (fun y => y.kind = 0x15 ∧ y.addr = s.m.peerAddr w.val addr / 4 * 4 ∧ y.op = op.val + 1
      ∧ y.data = toBytes 4 data.toNat ∧ y.tag = s.m.freeTag))
  ∧ (∀ (s : State) (a : Access) (addr : Nat) (w : Fin 16),
    s.admitsWrite a addr →
    s.m.bridgeFree ∧ s.m.winOf addr = some w.val ∧ s.m.flag F.PBR_WIN_A_WRITE w.val = true ∧ s.m.pbr.reqs.all (fun q => q.tag != s.m.freeTag) = true →
    ∃ t, exec (.windowLr a addr) s = s.to t
      ∧ t.asks s.m 0x15 a addr 4 ∧ t.mem = s.m.mem ∧ t.pbr.prefetch = s.m.pbr.prefetch
      ∧ t.sends s.m.out.length (fun y => y.kind = 0x15 ∧ y.addr = s.m.peerAddr w.val addr / 4 * 4 ∧ y.op = 0x10 ∧ y.data = []
      ∧ y.tag = s.m.freeTag))
  ∧ (∀ (s : State) (a : Access) (addr : Nat) (data : Word) (w : Fin 16),
    s.admitsWrite a addr →
    s.m.bridgeFree ∧ s.m.winOf addr = some w.val ∧ s.m.flag F.PBR_WIN_A_WRITE w.val = true ∧ s.m.pbr.reqs.all (fun q => q.tag != s.m.freeTag) = true →
    ∃ t, exec (.windowSc a addr data) s = s.to t
      ∧ t.asks s.m 0x15 a addr 4 ∧ t.mem = s.m.mem
      ∧ t.sends s.m.out.length (fun y => y.kind = 0x15 ∧ y.addr = s.m.peerAddr w.val addr / 4 * 4 ∧ y.op = 0x11
      ∧ y.data = toBytes 4 data.toNat ∧ y.tag = s.m.freeTag))
  ∧ (∀ (s : State) (x : BridgeMsg) (q : BridgeReq),
    s.m.works 0x0F = true →
    s.m.accepts x ∧ x.kind = 0x12 ∧ x.op = 0 ∧ x.skipped = 0 ∧ x.held = 0 ∧ s.m.pbr.queue = [] →
    s.m.pbr.reqs.find? (fun r => r.tag == x.tag && r.kind == 0x11 && r.sent) = some q ∧ q.fill = false ∧ q.waits = true →
    ∃ t, exec (.readData x) s = s.to t
      ∧ t.resp = { status := 0, data := ofBytes ((x.data.drop (q.addr % 4)).take q.size) } ∧ t.mem = s.m.mem
      ∧ t.pbr.reqs = s.m.pbr.reqs.filter (fun r => r.tag != x.tag) ∧ t.pbr.lastSeq = x.seq ∧ t.pbr.prefetch = s.m.pbr.prefetch)
  ∧ (∀ (s : State) (x : BridgeMsg) (q : BridgeReq),
    s.m.works 0x0F = true →
    s.m.accepts x ∧ x.kind = 0x14 ∧ x.op = 0 ∧ s.m.pbr.queue = [] →
    s.m.pbr.reqs.find? (fun r => r.tag == x.tag && r.kind == 0x13 && r.sent) = some q ∧ q.fill = false ∧ q.waits = true →
    ∃ t, exec (.writeDone x) s = s.to t
      ∧ t.resp = {} ∧ t.pbr.reqs = s.m.pbr.reqs.filter (fun r => r.tag != x.tag) ∧ t.pbr.lastSeq = x.seq ∧ t.mem = s.m.mem)
  ∧ (∀ (s : State) (x : BridgeMsg) (q : BridgeReq),
    s.m.works 0x0F = true →
    s.m.accepts x ∧ x.kind = 0x16 ∧ x.op = 0 ∧ s.m.pbr.queue = [] →
    s.m.pbr.reqs.find? (fun r => r.tag == x.tag && r.kind == 0x15 && r.sent) = some q ∧ q.fill = false ∧ q.waits = true ∧ q.size = 4 →
    ∃ t, exec (.atomicData x) s = s.to t
      ∧ t.resp.status = 0 ∧ t.resp.data = ofBytes (x.data.take 4) ∧ t.mem = s.m.mem
      ∧ t.pbr.reqs = s.m.pbr.reqs.filter (fun r => r.tag != x.tag) ∧ t.pbr.lastSeq = x.seq)
  ∧ (∀ (s : State) (x : BridgeMsg) (a : Access) (l : List Byte),
    s.m.works 0x0F = true ∧ (s.m.pbr.inq.filter (fun r => isRequest r.msg.kind)).length < 32 →
    s.m.accepts x ∧ x.kind = 0x11 ∧ Module.withinLimits x = true ∧ s.m.inboundAccess x = some a →
    (Module.memOf x.addr).isSome = true ∧ ((s.m.hearPeer x).busRead a x.addr x.len).2 = some l →
    ∃ t, exec (.bridgeRead x) s = s.to t
      ∧ t.pbr.inq = s.m.pbr.inq ++ [{ msg := x, answer := Module.answerOf x 0 l }] ∧ t.pbr.lastSeq = x.seq
      ∧ t.mem = ((s.m.hearPeer x).busRead a x.addr x.len).1.mem)
  ∧ (∀ (s : State) (x : BridgeMsg),
    s.m.works 0x0F = true ∧ (s.m.pbr.inq.filter (fun r => isRequest r.msg.kind)).length < 32 →
    s.m.accepts x ∧ x.kind = 0x11 ∧ Module.withinLimits x = true ∧ s.m.inboundAccess x = none →
    ∃ t, exec (.bridgeRead x) s = s.to t
      ∧ t.pbr.inq = s.m.pbr.inq ∧ t.pbr.lastSeq = x.seq ∧ t.rd F.PBR_EVT_IN_DENY = 1 ∧ t.pbr.effects = s.m.pbr.effects)
  ∧ (∀ (s : State) (x : BridgeMsg) (a : Access),
    s.m.works 0x0F = true ∧ (s.m.pbr.inq.filter (fun r => isRequest r.msg.kind)).length < 32 →
    s.m.accepts x ∧ x.kind = 0x13 ∧ Module.withinLimits x = true ∧ s.m.inboundAccess x = some a ∧ x.data.length = x.len →
    s.m.mem.clean ∧ (Module.memOf x.addr).isSome = true ∧ x.firstBe = 15 ∧ x.lastBe = 15 →
    ((s.m.hearPeer x).busWrite a x.addr x.data).2 = true →
    ∃ t, exec (.bridgeWrite x) s = s.to t
      ∧ t.mem = ((s.m.hearPeer x).busWrite a x.addr x.data).1.mem ∧ t.mem.bytes x.addr x.len = x.data
      ∧ t.pbr.inq = s.m.pbr.inq ++ [{ msg := x, answer := Module.answerOf x 0 [] }] ∧ t.pbr.lastSeq = x.seq)
  ∧ (∀ (s : State) (x : BridgeMsg) (a : Access) (l : List Byte),
    s.m.works 0x0F = true ∧ (s.m.pbr.inq.filter (fun r => isRequest r.msg.kind)).length < 32 →
    s.m.accepts x ∧ x.kind = 0x15 ∧ x.op = 0x10 ∧ Module.withinLimits x = true ∧ s.m.inboundAccess x = some a →
    ((s.m.hearPeer x).busRead a x.addr 4).2 = some l →
    ∃ t, exec (.bridgeAtomic x) s = s.to t
      ∧ t.pbr.inq = s.m.pbr.inq ++ [{ msg := x, answer := Module.answerOf x 0 l }] ∧ t.pbr.lastSeq = x.seq
      ∧ (t.pbr.sems.any (fun e => e.holder == Module.holderOf x && e.granule == x.addr / 64)) = true ∧ t.pbr.sems.length ≤ max 16 s.m.pbr.sems.length)
  ∧ (∀ (s : State) (x : BridgeMsg) (a : Access),
    s.m.works 0x0F = true ∧ (s.m.pbr.inq.filter (fun r => isRequest r.msg.kind)).length < 32 →
    s.m.accepts x ∧ x.kind = 0x15 ∧ x.op = 0x11 ∧ Module.withinLimits x = true ∧ s.m.inboundAccess x = some a →
    s.m.pbr.sems.any (fun e => e.holder == Module.holderOf x && e.granule == x.addr / 64) = true ∧ x.data.length = 4 →
    s.m.mem.clean ∧ (Module.memOf x.addr).isSome = true ∧ ((s.m.hearPeer x).busWrite a x.addr x.data).2 = true →
    ∃ t, exec (.bridgeAtomic x) s = s.to t
      ∧ t.mem.bytes x.addr 4 = x.data ∧ (t.pbr.sems.all (fun e => e.holder != Module.holderOf x)) = true
      ∧ t.pbr.inq = s.m.pbr.inq ++ [{ msg := x, answer := Module.answerOf x 0 [0, 0, 0, 0] }])
  ∧ (∀ (s : State) (tag : Fin 256) (r : BridgeIn),
    s.m.works 0x0F = true →
    s.m.bridgeFree ∧ isRequest r.answer.kind = false ∧ r.answer.kind ≠ 0x17 →
    s.m.pbr.inq.find? (fun e => e.msg.tag == tag.val && isRequest e.msg.kind) = some r →
    s.m.pbr.inq.all (fun e => e.msg.kind != 0x17) = true →
    ∃ t, exec (.inboundExecutionDone tag) s = s.to t
      ∧ t.pbr.inq = s.m.pbr.inq.filter (fun e => ! (e.msg.tag == tag.val && isRequest e.msg.kind))
      ∧ t.sends s.m.out.length (fun y => y.kind = r.answer.kind ∧ y.tag = r.answer.tag ∧ y.op = r.answer.op ∧ y.data = r.answer.data
      ∧ y.seq = s.m.pbr.nextSeq)
      ∧ t.pbr.reqs = s.m.pbr.reqs ∧ t.mem = s.m.mem)
  ∧ (∀ (s : State) (x : BridgeMsg),
    s.m.works 0x0F = true →
    s.m.accepts x ∧ x.kind = 0x18 ∧ s.m.pbr.effects.all (fun e => e.cid != x.cid || (e.effect != .tracker && e.keep.isNone)) = true →
    ∃ t, exec (.commitRx x) s = s.to t
      ∧ t.pbr.effects = s.m.pbr.effects.filter (fun e => e.cid != x.cid) ∧ t.pbr.lastSeq = x.seq
      ∧ t = { s.m with regs := t.regs, pbr := t.pbr, out := t.out })
  ∧ (∀ (s : State) (x : BridgeMsg) (i : Fin 16) (e : ChiCpl) (p : PeerRead),
    s.m.works 0x0F = true →
    s.m.accepts x ∧ x.kind = 0x19 ∧ p.effect = .chi i.val e 1 2 3 →
    s.m.pbr.effects.filter (fun e => e.cid == x.cid) = [p] →
    ∃ t, exec (.bridgeDiscard x) s = s.to t
      ∧ t.pbr.effects = s.m.pbr.effects.filter (fun e => e.cid != x.cid) ∧ t.pbr.lastSeq = x.seq
      ∧ (t.chi i.val).fifo = e :: (s.m.chi i.val).fifo ∧ t.mem = s.m.mem)
  ∧ (∀ (s : State) (a : Access) (addr n : Nat),
    s.genuine a 0 →
    exec (.windowRead a addr n) s = s.to ((s.m.windowRead a addr n).pairFault a 0))
  ∧ (∀ (s : State) (a : Access) (addr : Nat) (data : List Byte),
    s.genuine a 1 →
    exec (.windowWrite a addr data) s = s.to (s.m.windowWrite a addr data))
  ∧ (∀ (s : State) (a : Access) (op : Fin 9) (addr : Nat) (data : Word),
    s.genuine a 1 →
    exec (.windowAtomic a op addr data) s = s.to (s.m.windowAtomic a (op.val + 1) addr (toBytes 4 data.toNat)))
  ∧ (∀ (s : State) (a : Access) (addr : Nat),
    s.genuine a 1 →
    exec (.windowLr a addr) s = s.to (s.m.windowAtomic a 0x10 addr []))
  ∧ (∀ (s : State) (a : Access) (addr : Nat) (data : Word),
    s.genuine a 1 →
    exec (.windowSc a addr data) s = s.to (s.m.windowAtomic a 0x11 addr (toBytes 4 data.toNat)))
  ∧ (∀ (s : State) (a : Access) (addr n : Nat) (w : Fin 16) (l : List Byte),
    s.admitsRead a addr →
    s.m.bridgeUp = true ∧ s.m.winOf addr = some w.val ∧ s.m.flag F.PBR_WIN_A_READ w.val = true ∧ s.m.flag F.PBR_WIN_A_PREFETCH w.val = true →
    s.m.prefetched (s.m.peerAddr w.val addr) n = some l →
    exec (.windowRead a addr n) s = s.to (s.m.ok (ofBytes l)))
  ∧ (∀ (s : State) (x : BridgeMsg),
    s.m.works 0x0F = true →
    exec (.readData x) s = s.to (s.m.kindIn 0x12 x (·.responseIn 0x11 x)))
  ∧ (∀ (s : State) (x : BridgeMsg) (q : BridgeReq),
    s.m.works 0x0F = true →
    s.m.accepts x ∧ x.kind = 0x12 ∧ x.op ≠ 0 ∧ s.m.pbr.queue = [] →
    s.m.pbr.reqs.find? (fun r => r.tag == x.tag && r.kind == 0x11 && r.sent) = some q ∧ q.waits = true →
    ∃ t, exec (.readData x) s = s.to t
      ∧ t.resp = { status := x.op } ∧ t.rd F.PBR_EVT_REMOTE_ERR = 1
      ∧ t.pbr.reqs = s.m.pbr.reqs.filter (fun r => r.tag != x.tag) ∧ t.pbr.lastSeq = x.seq)
  ∧ (∀ (s : State) (x : BridgeMsg),
    s.m.works 0x0F = true →
    exec (.writeDone x) s = s.to (s.m.kindIn 0x14 x (·.responseIn 0x13 x)))
  ∧ (∀ (s : State) (x : BridgeMsg) (q : BridgeReq),
    s.m.works 0x0F = true →
    s.m.accepts x ∧ x.kind = 0x14 ∧ x.op ≠ 0 ∧ s.m.pbr.queue = [] →
    s.m.pbr.reqs.find? (fun r => r.tag == x.tag && r.kind == 0x13 && r.sent) = some q ∧ q.waits = true →
    ∃ t, exec (.writeDone x) s = s.to t
      ∧ t.resp = { status := x.op } ∧ t.rd F.PBR_EVT_REMOTE_ERR = 1
      ∧ t.pbr.reqs = s.m.pbr.reqs.filter (fun r => r.tag != x.tag) ∧ t.pbr.lastSeq = x.seq)
  ∧ (∀ (s : State) (x : BridgeMsg),
    s.m.works 0x0F = true →
    exec (.atomicData x) s = s.to (s.m.kindIn 0x16 x (·.responseIn 0x15 x)))
  ∧ (∀ (s : State) (x : BridgeMsg) (q : BridgeReq),
    s.m.works 0x0F = true →
    s.m.accepts x ∧ x.kind = 0x16 ∧ x.op ≠ 0 ∧ s.m.pbr.queue = [] →
    s.m.pbr.reqs.find? (fun r => r.tag == x.tag && r.kind == 0x15 && r.sent) = some q ∧ q.waits = true →
    ∃ t, exec (.atomicData x) s = s.to t
      ∧ t.resp = { status := x.op } ∧ t.rd F.PBR_EVT_REMOTE_ERR = 1
      ∧ t.pbr.reqs = s.m.pbr.reqs.filter (fun r => r.tag != x.tag) ∧ t.pbr.lastSeq = x.seq)
  ∧ (∀ (s : State) (x : BridgeMsg),
    exec (.bridgeRead x) s = .next (s.inbound 0x11 x (fun u a => { u with m := u.m.inboundRead a x })))
  ∧ (∀ (s : State) (x : BridgeMsg),
    exec (.bridgeWrite x) s = .next (s.inbound 0x13 x (fun u a => u.inboundWrite a x)))
  ∧ (∀ (s : State) (x : BridgeMsg),
    exec (.bridgeAtomic x) s = .next (s.inbound 0x15 x (fun u a => { u with m := u.m.inboundAtomic a x })))
  ∧ (∀ (s : State) (tag : Fin 256),
    s.m.works 0x0F = true →
    exec (.inboundExecutionDone tag) s = s.to (s.m.inboundDone tag.val))
  ∧ (∀ (s : State) (x : BridgeMsg),
    s.m.works 0x0F = true →
    exec (.commitRx x) s = s.to (s.m.kindIn 0x18 x (·.peerCommit x.cid)))
  ∧ (∀ (s : State) (x : BridgeMsg),
    s.m.works 0x0F = true →
    exec (.bridgeDiscard x) s = s.to (s.m.kindIn 0x19 x (·.discardIn x.cid)))

/-- R797–R817: the mailbox. Where the manual leaves its words open, the statement takes the model's reading (log entry 47). -/
def Obligations.Handles : Prop :=
  (∀ (s : State) (a : Access) (r : Fin 17) (v : Word),
    s.maySubmit a r.val v 0x10 →
    ∃ t, exec (.stageBundle a r v) s = s.to t
      ∧ t.queued s.m r.val v)
  ∧ (∀ (s : State) (a : Access) (r : Fin 17) (v : Word),
    s.maySubmit a r.val v 0x11 →
    ∃ t, exec (.activateNext a r v) s = s.to t
      ∧ t.queued s.m r.val v)
  ∧ (∀ (s : State) (a : Access) (r : Fin 17) (v : Word),
    s.maySubmit a r.val v 0x11 →
    ∃ t, exec (.activateRollback a r v) s = s.to t
      ∧ t.queued s.m r.val v)
  ∧ (∀ (s : State) (a : Access) (r : Fin 17) (v : Word),
    s.maySubmit a r.val v 0x12 →
    ∃ t, exec (.mbxCommit a r v) s = s.to t
      ∧ t.queued s.m r.val v)
  ∧ (∀ (s : State) (a : Access) (r : Fin 17) (v : Word),
    s.maySubmit a r.val v 0x13 →
    ∃ t, exec (.mbxSelftest a r v) s = s.to t
      ∧ t.queued s.m r.val v)
  ∧ (∀ (s : State) (a : Access) (r : Fin 17) (v : Word),
    s.maySubmit a r.val v 0x14 →
    ∃ t, exec (.mbxScrub a r v) s = s.to t
      ∧ t.queued s.m r.val v)
  ∧ (∀ (s : State) (a : Access) (r : Fin 17) (v : Word),
    s.maySubmit a r.val v 0x15 →
    ∃ t, exec (.wipeStaging a r v) s = s.to t
      ∧ t.queued s.m r.val v)
  ∧ (∀ (s : State) (a : Access) (r : Fin 17) (v : Word),
    s.maySubmit a r.val v 0x15 →
    ∃ t, exec (.wipeHoldupLog a r v) s = s.to t
      ∧ t.queued s.m r.val v)
  ∧ (∀ (s : State) (a : Access) (r : Fin 17) (v : Word),
    s.maySubmit a r.val v 0x16 →
    ∃ t, exec (.calibrateChannels a r v) s = s.to t
      ∧ t.queued s.m r.val v)
  ∧ (∀ (s : State) (a : Access) (r : Fin 17) (v : Word),
    s.maySubmit a r.val v 0x17 →
    ∃ t, exec (.exportLog a r v) s = s.to t
      ∧ t.queued s.m r.val v)
  ∧ (∀ (s : State) (a : Access) (r : Fin 17) (v : Word) (st : Nat),
    s.admitsWrite a (Module.winAddr r.val 0x20) →
    Module.requester a = r.val ∧ s.m.submitRefusal r.val (v.toNat % 2 ^ 8) (s.m.mbxArgs r.val) = some st →
    ∃ t, exec (.stageBundle a r v) s = s.to t
      ∧ s.m.posts t r.val ⟨v.toNat / 2 ^ 16, st, v.toNat % 2 ^ 7, 0, 7, 0, 0⟩ ∧ t.mbx.slots = s.m.mbx.slots ∧ t.rd F.MBX_EVT_REFUSED = 1)
  ∧ (∀ (s : State) (a : Access) (r : Fin 17) (v : Word),
    s.maySubmit a r.val v 1 →
    ∃ t, exec (.mbxQuery a r v) s = s.to t
      ∧ t.mbx.slots = s.m.mbx.slots ∧ t.lastPost r.val ≠ none
      ∧ (t.lastPost r.val).map (fun e => (e.session, e.status, e.handle, e.r0 % 2 ^ 8, e.r1)) =
      some (v.toNat / 2 ^ 16, 0, s.m.handleOf (s.m.target r.val), (s.m.slot (s.m.target r.val)).state % 2 ^ 8, (s.m.slot (s.m.target r.val)).session))
  ∧ (∀ (s : State) (a : Access) (r : Fin 17) (v : Word),
    s.maySubmit a r.val v 2 ∧ (s.m.slot (s.m.target r.val)).state = 0 →
    ∃ t, exec (.mbxSuspend a r v) s = s.to t
      ∧ t.slot (s.m.target r.val) = { s.m.slot (s.m.target r.val) with state := 2 } ∧ t.otherSlots s.m (s.m.target r.val)
      ∧ s.m.posts t r.val ⟨v.toNat / 2 ^ 16, 0, 2, s.m.handleOf (s.m.target r.val), 2, 0, 0⟩)
  ∧ (∀ (s : State) (a : Access) (r : Fin 17) (v : Word),
    s.maySubmit a r.val v 3 ∧ (s.m.slot (s.m.target r.val)).state = 2 →
    ((s.m.slot (s.m.target r.val)).lane = false ∨ (s.m.slot (s.m.target r.val)).op ≠ 0x16) →
    ∃ t, exec (.mbxResume a r v) s = s.to t
      ∧ t.slot (s.m.target r.val) = { s.m.slot (s.m.target r.val) with state := if (s.m.slot (s.m.target r.val)).lane then 1 else 0 }
      ∧ s.m.posts t r.val ⟨v.toNat / 2 ^ 16, 0, 3, s.m.handleOf (s.m.target r.val), (t.slot (s.m.target r.val)).state, 0, 0⟩
      ∧ t.otherSlots s.m (s.m.target r.val))
  ∧ (∀ (s : State) (a : Access) (r : Fin 17) (v : Word),
    s.maySubmit a r.val v 4 ∧ (s.m.slot (s.m.target r.val)).state = 0 ∧ (s.m.slot (s.m.target r.val)).suspends = [] →
    ∃ t, exec (.mbxCancel a r v) s = s.to t
      ∧ (t.slot (s.m.target r.val)).state = 5 ∧ (t.slot (s.m.target r.val)).status = 0x0A ∧ t.otherSlots s.m (s.m.target r.val)
      ∧ tget [] t.mbx.fifos r.val = tget [] s.m.mbx.fifos r.val ++ [⟨v.toNat / 2 ^ 16, 0x0A, 4, s.m.handleOf (s.m.target r.val), 5, 0, 0⟩,
      s.m.finalEntry (s.m.target r.val) 5 0x0A])
  ∧ (∀ (s : State) (a : Access) (r : Fin 17) (v : Word),
    s.maySubmit a r.val v 4 ∧ (s.m.slot (s.m.target r.val)).state = 1 ∧ s.m.pastCommit (s.m.target r.val) = false →
    ∃ t, exec (.mbxCancel a r v) s = s.to t
      ∧ t.slot (s.m.target r.val) = { s.m.slot (s.m.target r.val) with
      state := 3, cancels := (s.m.slot (s.m.target r.val)).cancels ++ [v.toNat / 2 ^ 16] }
      ∧ t.otherSlots s.m (s.m.target r.val) ∧ t.mbx.fifos = s.m.mbx.fifos)
  ∧ (∀ (s : State) (a : Access) (r : Fin 17) (v : Word),
    s.maySubmit a r.val v 5 ∧ 4 ≤ (s.m.slot (s.m.target r.val)).state →
    ∃ t, exec (.mbxRelease a r v) s = s.to t
      ∧ (t.slot (s.m.target r.val)) = { gen := (s.m.slot (s.m.target r.val)).gen } ∧ t.otherSlots s.m (s.m.target r.val)
      ∧ s.m.posts t r.val ⟨v.toNat / 2 ^ 16, 0, 5, s.m.handleOf (s.m.target r.val), 7, 0, 0⟩)
  ∧ (∀ (s : State) (n : Fin 256),
    s.m.works 0x13 = true →
    s.m.laneSlot 1 = none ∧ (s.m.slot n.val).state = 0 ∧ (s.m.slot n.val).op = 0x13 →
    (s.m.queuedOf 1).all (fun k => k == n.val || decide ((s.m.slot n.val).order < (s.m.slot k).order)) = true →
    ∃ t, exec (.handleStart 1) s = s.to t
      ∧ t.slot n.val = { s.m.slot n.val with state := 1, lane := true } ∧ t.otherSlots s.m n.val
      ∧ t = { s.m with mbx := t.mbx } ∧ t.mbx.fifos = s.m.mbx.fifos)
  ∧ (∀ (s : State) (n : Fin 256),
    s.m.works 0x13 = true →
    s.m.laneSlot 2 = none ∧ (s.m.slot n.val).state = 0 ∧ (s.m.slot n.val).op = 0x14 →
    (s.m.queuedOf 2).all (fun k => k == n.val || decide ((s.m.slot n.val).order < (s.m.slot k).order)) = true →
    ∃ t, exec (.handleStart 2) s = s.to t
      ∧ (t.slot n.val).state = 1 ∧ (t.slot n.val).committed = true
      ∧ (∀ k ∈ List.range 7, ((s.m.slot n.val).args.getD 0 0).testBit k = true → t.rd F.FAB_SCRUB_STAT_REQ_BUSY k = 1
      ∧ t.rd F.FAB_SCRUB_STAT_PROGRESS k = 0))
  ∧ (∀ (s : State) (l : Fin 5) (n : Fin 256) (ses : Nat),
    s.m.works 0x13 = true →
    s.m.laneRuns l.val = some n.val ∧ (s.m.slot n.val).suspends = [ses] ∧ (s.m.slot n.val).ended = none →
    ∃ t, exec (.suspendPoint l) s = s.to t
      ∧ t.slot n.val = { s.m.slot n.val with state := 2, suspends := [] } ∧ t.otherSlots s.m n.val
      ∧ s.m.posts t (s.m.slot n.val).owner ⟨ses, 0, 2, s.m.handleOf n.val, 2, 0, 0⟩)
  ∧ (∀ (s : State) (l : Fin 5) (n : Fin 256) (r : SelftestResult) (st : Nat),
    s.m.works 0x13 = true →
    s.m.laneRuns l.val = some n.val ∧ (s.m.slot n.val).ended = some st ∧ (s.m.slot n.val).suspends = [] →
    ∃ t, exec (.longOpEnd l r) s = s.to t
      ∧ (t.slot n.val).state = (if st = 0 then 4 else 6) ∧ (t.slot n.val).status = st ∧ (t.slot n.val).lane = false
      ∧ s.m.posts t (s.m.slot n.val).owner (s.m.finalEntry n.val (if st = 0 then 4 else 6) st) ∧ t.otherSlots s.m n.val
      ∧ t.rd F.MBX_EVT_FINAL = 1)
  ∧ (∀ (s : State) (l : Fin 5) (n : Fin 256) (r : SelftestResult),
    s.m.works 0x13 = true →
    s.m.laneSlot l.val = some n.val ∧ (s.m.slot n.val).state = 3 ∧ (s.m.slot n.val).op = 0x14 →
    (s.m.slot n.val).cancels = [9] ∧ (s.m.slot n.val).suspends = [] →
    ∃ t, exec (.rollbackComplete l 0 r) s = s.to t
      ∧ (t.slot n.val).state = 5 ∧ (t.slot n.val).status = 0x0A ∧ t.otherSlots s.m n.val
      ∧ tget [] t.mbx.fifos (s.m.slot n.val).owner = tget [] s.m.mbx.fifos (s.m.slot n.val).owner
      ++ [⟨9, 0x0A, 4, s.m.handleOf n.val, 5, 0, 0⟩, s.m.finalEntry n.val 5 0x0A])
  ∧ (∀ (s : State) (n : Fin 256),
    s.m.works 0x13 = true →
    4 ≤ (s.m.slot n.val).state ∧ (s.m.slot n.val).state ≤ 6 ∧ (s.m.slot n.val).finalUs + 60000000 ≤ s.m.boot.us →
    ∃ t, exec (.handleExpiry n) s = s.to t
      ∧ t.slot n.val = { gen := (s.m.slot n.val).gen } ∧ t.otherSlots s.m n.val ∧ t = { s.m with mbx := { s.m.mbx with slots := t.mbx.slots } })
  ∧ (∀ (s : State) (a : Access) (r : Fin 17) (e : MbxCpl),
    s.admitsRead a (Module.winAddr r.val 0x24) →
    Module.requester a = r.val ∧ commitsAtOnce a ∧ (tget [] s.m.mbx.fifos r.val) = [e] ∧ e.session < 2 ^ 16 →
    ∃ t, exec (.mbxCplRead a r) s = s.to t
      ∧ t.resp.data = e.session + e.status * 2 ^ 16 + e.op * 2 ^ 24 + 2 ^ 31 ∧ tget [] t.mbx.fifos r.val = []
      ∧ t.rd F.MBX_CPL_R0_RESULT r.val = e.r0 % 2 ^ 32 ∧ t.rd F.MBX_CPL_X_HANDLE r.val = e.handle % 2 ^ 16 ∧ t.mbx.slots = s.m.mbx.slots)
  ∧ (∀ (s : State) (a : Access) (r : Fin 17) (v : Word),
    s.admitsWrite a (Module.winAddr r.val 0x20) ∧ Module.requester a = r.val →
    exec (.stageBundle a r v) s = s.to (s.m.ok.submit r.val v.toNat))
  ∧ (∀ (s : State) (a : Access) (r : Fin 17) (v : Word),
    s.admitsWrite a (Module.winAddr r.val 0x20) ∧ Module.requester a = r.val →
    exec (.activateNext a r v) s = s.to (s.m.ok.submit r.val v.toNat))
  ∧ (∀ (s : State) (a : Access) (r : Fin 17) (v : Word),
    s.admitsWrite a (Module.winAddr r.val 0x20) ∧ Module.requester a = r.val →
    exec (.activateRollback a r v) s = s.to (s.m.ok.submit r.val v.toNat))
  ∧ (∀ (s : State) (a : Access) (r : Fin 17) (v : Word),
    s.admitsWrite a (Module.winAddr r.val 0x20) ∧ Module.requester a = r.val →
    exec (.mbxCommit a r v) s = s.to (s.m.ok.submit r.val v.toNat))
  ∧ (∀ (s : State) (a : Access) (r : Fin 17) (v : Word),
    s.admitsWrite a (Module.winAddr r.val 0x20) ∧ Module.requester a = r.val →
    exec (.mbxSelftest a r v) s = s.to (s.m.ok.submit r.val v.toNat))
  ∧ (∀ (s : State) (a : Access) (r : Fin 17) (v : Word),
    s.admitsWrite a (Module.winAddr r.val 0x20) ∧ Module.requester a = r.val →
    exec (.mbxScrub a r v) s = s.to (s.m.ok.submit r.val v.toNat))
  ∧ (∀ (s : State) (a : Access) (r : Fin 17) (v : Word),
    s.admitsWrite a (Module.winAddr r.val 0x20) ∧ Module.requester a = r.val →
    exec (.wipeStaging a r v) s = s.to (s.m.ok.submit r.val v.toNat))
  ∧ (∀ (s : State) (a : Access) (r : Fin 17) (v : Word),
    s.admitsWrite a (Module.winAddr r.val 0x20) ∧ Module.requester a = r.val →
    exec (.wipeHoldupLog a r v) s = s.to (s.m.ok.submit r.val v.toNat))
  ∧ (∀ (s : State) (a : Access) (r : Fin 17) (v : Word),
    s.admitsWrite a (Module.winAddr r.val 0x20) ∧ Module.requester a = r.val →
    exec (.calibrateChannels a r v) s = s.to (s.m.ok.submit r.val v.toNat))
  ∧ (∀ (s : State) (a : Access) (r : Fin 17) (v : Word),
    s.admitsWrite a (Module.winAddr r.val 0x20) ∧ Module.requester a = r.val →
    exec (.exportLog a r v) s = s.to (s.m.ok.submit r.val v.toNat))
  ∧ (∀ (s : State) (a : Access) (r : Fin 17) (v : Word),
    s.admitsWrite a (Module.winAddr r.val 0x20) ∧ Module.requester a = r.val →
    exec (.mbxQuery a r v) s = s.to (s.m.ok.submit r.val v.toNat))
  ∧ (∀ (s : State) (a : Access) (r : Fin 17) (v : Word),
    s.admitsWrite a (Module.winAddr r.val 0x20) ∧ Module.requester a = r.val →
    exec (.mbxSuspend a r v) s = s.to (s.m.ok.submit r.val v.toNat))
  ∧ (∀ (s : State) (a : Access) (r : Fin 17) (v : Word),
    s.admitsWrite a (Module.winAddr r.val 0x20) ∧ Module.requester a = r.val →
    exec (.mbxResume a r v) s = s.to (s.m.ok.submit r.val v.toNat))
  ∧ (∀ (s : State) (a : Access) (r : Fin 17) (v : Word),
    s.admitsWrite a (Module.winAddr r.val 0x20) ∧ Module.requester a = r.val →
    exec (.mbxCancel a r v) s = s.to (s.m.ok.submit r.val v.toNat))
  ∧ (∀ (s : State) (a : Access) (r : Fin 17) (v : Word),
    s.admitsWrite a (Module.winAddr r.val 0x20) ∧ Module.requester a = r.val →
    exec (.mbxRelease a r v) s = s.to (s.m.ok.submit r.val v.toNat))
  ∧ (∀ (s : State) (l : Fin 5),
    s.m.works 0x13 = true →
    exec (.handleStart l) s = .next ({ s with
      otp := (Module.laneStart s.otp s.m l.val).1
      m := (Module.laneStart s.otp s.m l.val).2 }))
  ∧ (∀ (s : State) (l : Fin 5),
    s.m.works 0x13 = true →
    exec (.suspendPoint l) s = s.to (s.m.suspendNow l.val))
  ∧ (∀ (s : State) (l : Fin 5) (r : SelftestResult),
    s.m.works 0x13 = true →
    exec (.longOpEnd l r) s = .next ({ s with
      otp := (Module.opFinishes s.otp s.m l.val r).1
      m := (Module.opFinishes s.otp s.m l.val r).2 }))
  ∧ (∀ (s : State) (l : Fin 5) (st : Fin 256) (r : SelftestResult),
    s.m.works 0x13 = true →
    exec (.rollbackComplete l st r) s = .next ({ s with
      otp := (Module.rollbackEnds s.otp s.m l.val st.val r).1
      m := (Module.rollbackEnds s.otp s.m l.val st.val r).2 }))
  ∧ (∀ (s : State) (n : Fin 256),
    s.m.works 0x13 = true →
    exec (.handleExpiry n) s = s.to (s.m.handleExpires n.val))
  ∧ (∀ (s : State) (a : Access) (r : Fin 17),
    s.admitsRead a (Module.winAddr r.val 0x24) ∧ Module.requester a = r.val ∧ commitsAtOnce a →
    exec (.mbxCplRead a r) s = s.to ((s.m.mbxPop r.val).ok (s.m.mbxCplPlan r.val).value))
  ∧ (∀ (s : State) (a : Access) (r : Fin 17),
    s.admitsRead a (Module.winAddr r.val 0x24) ∧ Module.requester a = r.val ∧ a.spec = true →
    exec (.mbxCplRead a r) s = s.to ({ s.m with resp := { status := 0, data := (s.m.mbxCplPlan r.val).value, skipped := true } }))
  ∧ (∀ (s : State) (a : Access) (r : Fin 17),
    s.admitsRead a (Module.winAddr r.val 0x24) ∧ Module.requester a ≠ r.val ∧ Module.pairOf a = none →
    ∃ t, exec (.mbxCplRead a r) s = s.to t
      ∧ t.resp.status = 2 ∧ t.mbx = s.m.mbx)
  ∧ (∀ (s : State) (a : Access) (r : Fin 17),
    s.genuine a 0 →
    exec (.mbxCplRead a r) s = s.to ((s.m.mbxCplRead a r.val).pairFault a 0))

/-- R757–R796: live update. Where the manual leaves its words open, the statement takes the model's reading (log entries 45 and 46). -/
def Obligations.LiveUpdate : Prop :=
  (∀ (s : State) (a : Access) (v : Word),
    s.admitsWrite a 0x21300108 →
    v.toNat / 2 ^ 16 = 0x4E43 ∧ s.m.flag F.NVC_CHUNK_STAT_PEND = false ∧ s.m.receiving19 = true →
    v.toNat % 2 ^ 15 < s.m.chunkCount →
    ∃ t, exec (.chunkSubmit a v) s = s.to t
      ∧ t.nvc = { s.m.nvc with chunk := some (v.toNat % 2 ^ 15, s.m.rd F.NVC_CHUNK_ADDR_ADDR * 64) }
      ∧ t.rd F.NVC_CHUNK_STAT_PEND = 1 ∧ t.rd F.NVC_CHUNK_STAT_INDEX = v.toNat % 2 ^ 15 ∧ t = { s.m.ok with regs := t.regs, nvc := t.nvc })
  ∧ (∀ (s : State) (same : Bool) (i addr : Nat) (l : List Byte),
    s.m.works 0x15 = true →
    s.m.nvc.chunk = some (i, addr) ∧ i < 2 ^ 15 ∧ (s.m.busRead s.m.nvcAccess addr 4096).2 = some l →
    ∃ t, exec (.chunkDone same) s = s.to t
      ∧ t.nvc.chunk = none ∧ t.rd F.NVC_CHUNK_STAT_PEND = 0 ∧ t.rd F.NVC_CHUNK_STAT_INDEX = i ∧ t.rd F.NVC_EVT_CHUNK = 1
      ∧ (sha256 l ≠ Source.chunkHash s.m.staged i → t.rd F.NVC_CHUNK_STAT_STATUS = 0x10 ∧ t.nvm = s.m.nvm)
      ∧ (sha256 l = Source.chunkHash s.m.staged i → s.m.chunkStaged i = false → same = false →
      t.rd F.NVC_CHUNK_STAT_STATUS = 0x12 ∧ t.nvc.working = s.m.nvc.working)
      ∧ (sha256 l = Source.chunkHash s.m.staged i → s.m.chunkStaged i = false → same = true → t.rd F.NVC_CHUNK_STAT_STATUS = 0))
  ∧ (∀ (s : State) (e : Bool) (n : Nat),
    s.m.works 0x15 = true →
    s.m.nvc.stg = 3 ∧ s.m.laneRuns 0 = some n →
    ∃ t, exec (.stgDone e) s = s.to t
      ∧ t.rd F.NVC_EVT_STG_DONE = 1 ∧ (t.slot n).ended.isSome = true
      ∧ (e = true → t.nvc = { s.m.nvc with stg := 5, check := 1 } ∧ (t.slot n).ended = some 0x10 ∧ t.nvm = s.m.nvm)
      ∧ (e = false → s.m.imageCode s.otp = 0 → s.m.stagedMatches → t.nvc = { s.m.nvc with stg := 4, check := 0 } ∧ (t.slot n).ended = some 0)
      ∧ (e = false → s.m.imageCode s.otp ≠ 0 → t.nvc = { s.m.nvc with stg := 5, check := s.m.imageCode s.otp }))
  ∧ (∀ (s : State) (a : Access) (v : Word) (c p n : Nat),
    s.admitsWrite a 0x21300214 →
    p = v.toNat % 2 ^ 4 ∧ a.world = false ∧ a.part = p ∧ (s.m.rd F.NVC_HO_REQ_PARTS).testBit p = true →
    s.m.nvc.act = some ⟨c, .handover p n⟩ ∧ s.m.movable p = true ∧ (s.m.pair (s.m.rd F.LSS_PART_PAIR p)).wfi = false →
    ∃ t, exec (.hoReady a v) s = s.to t
      ∧ t = { s.m.ok with nvc := { s.m.nvc with act := some ⟨c, .adopt p n⟩ }, lss := { s.m.lss with moveReq := some (2, p), rotating := true } })
  ∧ (∀ (s : State) (c p n : Nat),
    s.m.works 0x15 = true →
    s.m.nvc.act = some ⟨c, .handover p n⟩ ∧ s.m.nvc.phase = 1 ∧ p < 16 →
    s.m.nvc.hoUs + s.m.rd F.NVC_HO_CFG_HO_WAIT_MS * 1000 ≤ s.m.boot.us →
    ∃ t, exec (.hoTimeout) s = .next t
      ∧ t.m.nvc.act = none ∧ t.m.nvc.last = 0x0E ∧ t.m.nvc.done = s.m.nvc.done ∧ t.m.rd F.NVC_EVT_ACT_DONE = 1 ∧ t.otp = s.otp
      ∧ (t.m.rd F.NVC_HO_REQ_PARTS).testBit p = false ∧ t.pending = s.pending)
  ∧ (∀ (s : State) (c : Fin 32) (k : Nat),
    s.m.works 0x15 = true →
    s.m.nvc.phase = 2 ∧ s.m.nvc.done = [⟨c.val, k⟩] ∧ k ≤ 1 →
    ∃ t, exec (.probationEnd c) s = s.to t
      ∧ t.nvc.done = [⟨c.val, 0⟩] ∧ t.nvc.phase = 3 ∧ t.rd F.NVC_EVT_PASSED = 1 ∧ t.mem = s.m.mem)
  ∧ (∀ (s : State) (c : Fin 32) (cause : Nat),
    s.m.works 0x15 = true →
    (s.m.nvc.phase = 2 ∨ s.m.nvc.phase = 1) ∧ s.m.nvc.act = none ∧ s.m.nvc.done = [⟨c.val, 5⟩] ∧ s.m.probationCause c.val = some cause →
    ∃ t, exec (.probationFail c) s = .next t
      ∧ (t.m.nvc.phase = 5 ∨ t.m.nvc.phase = 4) ∧ t.m.nvc.failComp = c.val ∧ t.m.nvc.failCause = cause ∧ t.m.rd F.NVC_EVT_PROB_FAIL = 1
      ∧ (t.m.nvc.phase = 5 → t.m.nvc.done = []))
  ∧ (∀ (s : State) (a : Access) (v : Word),
    s.admitsWrite a 0x21300108 →
    exec (.chunkSubmit a v) s = s.to (s.m.ok.chunkSubmit v.toNat))
  ∧ (∀ (s : State) (same : Bool),
    s.m.works 0x15 = true →
    exec (.chunkDone same) s = s.to (s.m.chunkDone same))
  ∧ (∀ (s : State) (e : Bool),
    s.m.works 0x15 = true →
    exec (.stgDone e) s = s.to (s.m.stgDone s.otp e))
  ∧ (∀ (s : State) (a : Access) (v : Word),
    s.admitsWrite a 0x21300214 →
    a.world = false ∧ a.part = v.toNat % 2 ^ 4 ∧ (s.m.rd F.NVC_HO_REQ_PARTS).testBit (v.toNat % 2 ^ 4) = true →
    exec (.hoReady a v) s = s.to (s.m.ok.hoReady (v.toNat % 2 ^ 4)))
  ∧ (∀ (s : State),
    s.m.works 0x15 = true →
    exec (.hoTimeout) s = .next ({ s with
      otp := (Module.hoTimeout s.otp s.m).1
      m := (Module.hoTimeout s.otp s.m).2 }))
  ∧ (∀ (s : State) (c : Fin 32),
    s.m.works 0x15 = true →
    exec (.probationEnd c) s = s.to (s.m.probationEnd c.val))
  ∧ (∀ (s : State) (c : Fin 32),
    s.m.works 0x15 = true →
    exec (.probationFail c) s = .next ({ s with
      otp := (Module.probationFail s.otp s.m c.val).1
      m := (Module.probationFail s.otp s.m c.val).2 }))

/-- R810–R814: the lichen report and its seal. Where the manual leaves its words open, the statement takes the model's reading (log entry 48). -/
def Obligations.HealthReports : Prop :=
  (∀ (s : State),
    s.m.works 0x14 = true →
    s.m.reportDue = true ∧ (s.m.rd F.HST_LR_SEQ_SEQ + 1) % 100 ≠ 0 ∧ s.m.pbr.sems = [] →
    Module.memOf s.m.reportAddr = some 0 ∧ s.m.fabricDeny (s.m.iattr 0x26) s.m.reportAddr 256 1 = none →
    ∃ t, exec (.lichenReport) s = s.to t
      ∧ t.mem.bytes s.m.reportAddr 256 = s.m.reportBytes ∧ s.m.reportBytes.length = 256
      ∧ t.rd F.HST_LR_SEQ_SEQ = (s.m.rd F.HST_LR_SEQ_SEQ + 1) % 4294967200
      ∧ t.hst = { first := false, vmin := s.m.rd F.HST_VAUX_MV_NOW, lastAt := some (s.m.rd F.LSS_MTIME_US / 10000), sealUs := s.m.hst.sealUs, sealLate := s.m.hst.sealLate } ∧ t = { s.m with regs := t.regs, mem := t.mem, hst := t.hst }
      ∧ (∀ x, (x < s.m.reportAddr ∨ s.m.reportAddr + 256 ≤ x) → t.mem.byte x = s.m.mem.byte x))
  ∧ (∀ (s : State),
    s.m.works 0x14 = true →
    s.m.reportDue = true ∧ (s.m.fabricDeny (s.m.iattr 0x26) s.m.reportAddr 256 1).isSome = true →
    ∃ t, exec (.lichenReport) s = s.to t
      ∧ t.rd F.HST_CTRL_LR_EN = 0 ∧ t.rd F.HST_EVT_LR_FAIL = 1 ∧ t.rd F.HST_LR_SEQ_SEQ = s.m.rd F.HST_LR_SEQ_SEQ ∧ t.resp = s.m.resp)
  ∧ (∀ (s : State) (a : Access) (v : Word),
    s.admitsWrite a 0x21200044 →
    a.world = true ∧ s.m.flag F.HST_SEAL_STAT_PEND = true ∧ v.toNat = s.m.rd F.HST_SEAL_REQ_FIRST_SEQ →
    ∃ t, exec (.sealDone a v) s = s.to t
      ∧ t.rd F.HST_SEAL_STAT_PEND = 0 ∧ t.rd F.HST_SEAL_STAT_LAST = v.toNat / 2
      ∧ Module.onlyRegs [F.HST_SEAL_STAT_PEND.key 0 0 0, F.HST_SEAL_STAT_LAST.key 0 0 0] s.m t ∧ t.resp = {})
  ∧ (∀ (s : State),
    s.m.works 0x14 = true →
    s.m.flag F.HST_SEAL_STAT_PEND = true ∧ s.m.hst.sealLate = false ∧ s.m.hst.sealUs + 1000000 ≤ s.m.boot.us →
    ∃ t, exec (.sealLate) s = s.to t
      ∧ t.rd F.HST_SEAL_CNT_LATE = (s.m.rd F.HST_SEAL_CNT_LATE + 1) % 2 ^ F.HST_SEAL_CNT_LATE.width ∧ t.rd F.HST_EVT_SEAL_LATE = 1
      ∧ t = { s.m with regs := t.regs, hst := { s.m.hst with sealLate := true } } ∧ Module.regsBut [F.HST_SEAL_CNT_LATE.key 0 0 0, F.HST_EVT_SEAL_LATE.key 0 0 0] s.m t)
  ∧ (∀ (s : State),
    s.m.works 0x14 = true →
    exec (.lichenReport) s = s.to (s.m.report))
  ∧ (∀ (s : State),
    s.m.works 0x14 = true ∧ s.m.reportDue = true ∧ (s.m.rd F.HST_LR_SEQ_SEQ + 1) % 100 = 0 ∧ s.m.rd F.WCT_STAT_SEC_STATE = 1 →
    Module.memOf s.m.reportAddr = some 0 ∧ s.m.fabricDeny (s.m.iattr 0x26) s.m.reportAddr 256 1 = none ∧ s.m.pbr.sems = [] →
    s.m.flag F.HST_SEAL_STAT_PEND = false →
    ∃ t, exec (.lichenReport) s = s.to t
      ∧ t.rd F.HST_SEAL_REQ_FIRST_SEQ = s.m.rd F.HST_LR_SEQ_SEQ - 99 ∧ t.rd F.HST_SEAL_STAT_PEND = 1 ∧ t.rd F.HST_EVT_SEAL_REQ = 1
      ∧ t.hst.sealUs = s.m.boot.us ∧ t.hst.sealLate = false)
  ∧ (∀ (s : State) (a : Access) (v : Word),
    s.admitsWrite a 0x21200044 ∧ a.world = true →
    exec (.sealDone a v) s = s.to (s.m.ok.sealDone v.toNat))
  ∧ (∀ (s : State),
    s.m.works 0x14 = true →
    exec (.sealLate) s = s.to (s.m.sealLate))
end

