-- ==== Sys2Proof/Laws/Table.lean ====
section
/-!
SUPPORT. The laws of sparse tables: what a read gives after a write, and that every operation keeps the canonical form.
-/
namespace Sys2Proof.Machine

variable {α : Type}

@[simp] theorem tget_nil (d : α) (k : Nat) : tget d [] k = d := rfl

theorem tget_tput_same (d : α) (t : Tbl α) (k : Nat) (v : α) : tget d (tput t k v) k = v := by
  induction t with
  | nil => simp [tput, tget]
  | cons e r ih =>
    obtain ⟨k', v'⟩ := e
    simp only [tput]
    split
    · simp [tget]
    · split
      · simp [tget]
      · rename_i h _
        simp [tget, h, ih]

theorem tget_tput_other (d : α) (t : Tbl α) {k k2 : Nat} (v : α) (h : k2 ≠ k) :
    tget d (tput t k v) k2 = tget d t k2 := by
  induction t with
  | nil => simp [tput, tget, h]
  | cons e r ih =>
    obtain ⟨k', v'⟩ := e
    simp only [tput]
    split
    · rename_i hk; subst hk; simp [tget, h]
    · split
      · simp [tget, h]
      · simp [tget, ih]

theorem tget_tdel_same (d : α) (t : Tbl α) (k : Nat) : tget d (tdel t k) k = d := by
  induction t with
  | nil => rfl
  | cons e r ih =>
    obtain ⟨k', v'⟩ := e
    unfold tdel at ih ⊢
    by_cases hk : k' = k
    · simp [hk, ih]
    · simp [hk, tget, Ne.symm hk, ih]

theorem tget_tdel_other (d : α) (t : Tbl α) {k k2 : Nat} (h : k2 ≠ k) : tget d (tdel t k) k2 = tget d t k2 := by
  induction t with
  | nil => rfl
  | cons e r ih =>
    obtain ⟨k', v'⟩ := e
    unfold tdel at ih ⊢
    by_cases hk : k' = k
    · subst hk; simp [ih, tget, h]
    · simp [hk, tget, ih]

/-- A read after a write to the same key gives the value written. -/
@[simp] theorem tget_tset_same [DecidableEq α] (d : α) (t : Tbl α) (k : Nat) (v : α) : tget d (tset d t k v) k = v := by
  unfold tset
  split
  · rename_i h; rw [tget_tdel_same, h]
  · exact tget_tput_same d t k v

/-- A write leaves every other key alone. -/
theorem tget_tset_other [DecidableEq α] (d d' : α) (t : Tbl α) {k k2 : Nat} (v : α) (h : k2 ≠ k) :
    tget d (tset d' t k v) k2 = tget d t k2 := by
  unfold tset
  split
  · exact tget_tdel_other d t h
  · exact tget_tput_other d t v h

/-- What a table reads after a write, by key. -/
theorem tget_tset [DecidableEq α] (d : α) (t : Tbl α) (k k2 : Nat) (v : α) :
    tget d (tset d t k v) k2 = if k2 = k then v else tget d t k2 := by
  split
  · rename_i h; subst h; exact tget_tset_same d t k2 v
  · rename_i h; exact tget_tset_other d d t v h

/-- What a table reads after a change, by key. -/
theorem tget_tmod [DecidableEq α] (d : α) (t : Tbl α) (k k2 : Nat) (f : α → α) :
    tget d (tmod d t k f) k2 = if k2 = k then f (tget d t k) else tget d t k2 := tget_tset d t k k2 _

theorem tsortedFrom_mono {lo lo' : Nat} (h : lo' ≤ lo) {t : Tbl α} (hs : tsortedFrom lo t = true) :
    tsortedFrom lo' t = true := by
  cases t with
  | nil => rfl
  | cons e r =>
    simp only [tsortedFrom, Bool.and_eq_true, decide_eq_true_eq] at hs ⊢
    exact ⟨Nat.le_trans h hs.1, hs.2⟩

theorem tsortedFrom_filter (p : Nat × α → Bool) {t : Tbl α} {lo : Nat} (hs : tsortedFrom lo t = true) :
    tsortedFrom lo (t.filter p) = true := by
  induction t generalizing lo with
  | nil => rfl
  | cons e r ih =>
    simp only [tsortedFrom, Bool.and_eq_true, decide_eq_true_eq] at hs
    by_cases hp : p e = true
    · simp only [List.filter_cons, hp, if_true, tsortedFrom, Bool.and_eq_true, decide_eq_true_eq]
      exact ⟨hs.1, ih hs.2⟩
    · simp only [List.filter_cons, hp]
      exact tsortedFrom_mono (by omega) (ih hs.2)

theorem tsortedFrom_tput {t : Tbl α} {lo k : Nat} (v : α) (hk : lo ≤ k) (hs : tsortedFrom lo t = true) :
    tsortedFrom lo (tput t k v) = true := by
  induction t generalizing lo with
  | nil => simp [tput, tsortedFrom, hk]
  | cons e r ih =>
    obtain ⟨k', v'⟩ := e
    simp only [tsortedFrom, Bool.and_eq_true, decide_eq_true_eq] at hs
    simp only [tput]
    split
    · rename_i h; subst h; simp [tsortedFrom, hs]
    · split
      · simp only [tsortedFrom, Bool.and_eq_true, decide_eq_true_eq]
        exact ⟨hk, by omega, hs.2⟩
      · simp only [tsortedFrom, Bool.and_eq_true, decide_eq_true_eq]
        exact ⟨hs.1, ih (by omega) hs.2⟩

theorem mem_tput {t : Tbl α} {k : Nat} {v : α} {e : Nat × α} (h : e ∈ tput t k v) : e = (k, v) ∨ e ∈ t := by
  induction t with
  | nil => simpa [tput] using h
  | cons a r ih =>
    obtain ⟨k', v'⟩ := a
    simp only [tput] at h
    split at h
    · rcases List.mem_cons.1 h with h | h
      · exact .inl h
      · exact .inr (List.mem_cons_of_mem _ h)
    · split at h
      · rcases List.mem_cons.1 h with h | h
        · exact .inl h
        · exact .inr h
      · rcases List.mem_cons.1 h with h | h
        · exact .inr (by simp [h])
        · exact (ih h).imp id (List.mem_cons_of_mem _)

theorem tcanon_filter [DecidableEq α] (d : α) (p : Nat × α → Bool) {t : Tbl α} (h : tcanon d t = true) :
    tcanon d (t.filter p) = true := by
  simp only [tcanon, Bool.and_eq_true, List.all_eq_true] at h ⊢
  exact ⟨tsortedFrom_filter p h.1, fun e he => h.2 e (List.mem_filter.1 he).1⟩

/-- Removing a key keeps the canonical form. -/
theorem tcanon_tdel [DecidableEq α] (d : α) {t : Tbl α} (k : Nat) (h : tcanon d t = true) :
    tcanon d (tdel t k) = true := tcanon_filter d _ h

/-- Keeping some of the keys keeps the canonical form. -/
theorem tcanon_tkeep [DecidableEq α] (d : α) (p : Nat → Bool) {t : Tbl α} (h : tcanon d t = true) :
    tcanon d (tkeep p t) = true := tcanon_filter d _ h

/-- A write keeps the canonical form. -/
theorem tcanon_tset [DecidableEq α] (d : α) {t : Tbl α} (k : Nat) (v : α) (h : tcanon d t = true) :
    tcanon d (tset d t k v) = true := by
  unfold tset
  split
  · exact tcanon_tdel d k h
  · rename_i hv
    simp only [tcanon, Bool.and_eq_true, List.all_eq_true] at h ⊢
    refine ⟨tsortedFrom_tput v (Nat.zero_le k) h.1, fun e he => ?_⟩
    rcases mem_tput he with rfl | he
    · simpa using hv
    · exact h.2 e he

/-- Writes one after the other keep the canonical form. -/
theorem tcanon_foldl [DecidableEq α] (d : α) {β : Type} (f : β → Nat) (g : β → α) (l : List β) {t : Tbl α}
    (h : tcanon d t = true) : tcanon d (l.foldl (fun t e => tset d t (f e) (g e)) t) = true := by
  induction l generalizing t with
  | nil => exact h
  | cons e r ih => exact ih (tcanon_tset d (f e) (g e) h)

end Sys2Proof.Machine
end

