-- ==== Sys2Proof/Laws/Memory.lean ====
section
/-!
SUPPORT. The laws of memory: a read after a write, and that every operation keeps the canonical form (`MemSt.wf`).
-/
namespace Sys2Proof.Machine.MemSt

/-- A byte after one byte is stored. -/
theorem byte_putByte (s : MemSt) (a b : Nat) (v : Byte) :
    (s.putByte a v).byte b = if b = a then v else s.byte b := tget_tset blank s.cells a b v

/-- Bytes outside those stored read as before. -/
theorem byte_putBytes_other (l : List Byte) (s : MemSt) (a b : Nat) (h : b < a ∨ a + l.length ≤ b) :
    (s.putBytes a l).byte b = s.byte b := by
  induction l generalizing s a with
  | nil => rfl
  | cons x r ih =>
    simp only [List.length_cons] at h
    rw [putBytes, ih (s.putByte a x) (a + 1) (by omega), byte_putByte, if_neg (by omega)]

/-- The bytes stored read as stored. -/
theorem byte_putBytes_at (l : List Byte) (s : MemSt) (a i : Nat) (h : i < l.length) :
    (s.putBytes a l).byte (a + i) = l[i] := by
  induction l generalizing s a i with
  | nil => simp at h
  | cons x r ih =>
    rw [putBytes]
    cases i with
    | zero =>
      show ((s.putByte a x).putBytes (a + 1) r).byte a = x
      rw [byte_putBytes_other r _ (a + 1) a (by omega), byte_putByte, if_pos rfl]
    | succ i =>
      have h' : i < r.length := by simpa using h
      rw [show a + (i + 1) = a + 1 + i by omega, ih (s.putByte a x) (a + 1) i h']; rfl

@[simp] theorem putByte_perr (s : MemSt) (a : Nat) (v : Byte) : (s.putByte a v).perr = s.perr := rfl
@[simp] theorem putByte_sperr (s : MemSt) (a : Nat) (v : Byte) : (s.putByte a v).sperr = s.sperr := rfl
@[simp] theorem putByte_seam (s : MemSt) (a : Nat) (v : Byte) : (s.putByte a v).seam = s.seam := rfl
@[simp] theorem putByte_poison (s : MemSt) (a : Nat) (v : Byte) : (s.putByte a v).poison = s.poison := rfl
@[simp] theorem putByte_l2 (s : MemSt) (a : Nat) (v : Byte) : (s.putByte a v).l2 = s.l2 := rfl

/-- Storing bytes changes the bytes alone: parity, seam and poison stay. -/
theorem putBytes_guard (l : List Byte) (s : MemSt) (a : Nat) :
    s.putBytes a l = { s with cells := (s.putBytes a l).cells } := by
  induction l generalizing s a with
  | nil => rfl
  | cons x r ih => rw [putBytes, ih (s.putByte a x) (a + 1)]; rfl

/-! ### The canonical form -/

theorem wf_putByte {s : MemSt} (a : Nat) (v : Byte) (h : s.wf = true) : (s.putByte a v).wf = true :=
  tcanon_tset blank a v h

theorem wf_putBytes (l : List Byte) {s : MemSt} (a : Nat) (h : s.wf = true) : (s.putBytes a l).wf = true := by
  induction l generalizing s a with
  | nil => exact h
  | cons x r ih => exact ih (a + 1) (wf_putByte a x h)

theorem wf_putWord {s : MemSt} (a v : Nat) (h : s.wf = true) : (s.putWord a v).wf = true := wf_putBytes _ a h

/-- Only the bytes count. -/
theorem wf_congr {s t : MemSt} (h : t.cells = s.cells) : t.wf = s.wf := by simp [wf, h]

theorem wf_setPoison {s : MemSt} (l : Nat) (h : s.wf = true) : (s.setPoison l).wf = true := h

theorem wf_clearLine {s : MemSt} (l : Nat) (h : s.wf = true) : (s.clearLine l).wf = true := h

theorem wf_clearLines (ls : List Nat) {s : MemSt} (h : s.wf = true) : (ls.foldl clearLine s).wf = true := by
  induction ls generalizing s with
  | nil => exact h
  | cons l r ih => exact ih (wf_clearLine l h)

theorem wf_strike {s : MemSt} (u : Upset) (h : s.wf = true) : (s.strike u).wf = true := by
  cases u with
  | word a mask par => exact (wf_congr rfl).trans (wf_putWord _ _ h)
  | seam a mask par => exact (wf_congr rfl).trans h
  | transient a n => exact h

theorem wf_checkWord {s : MemSt} (w : Nat) (n : Option Nat) (h : s.wf = true) : (s.checkWord w n).1.wf = true := by
  unfold checkWord
  simp only []
  split
  · exact h
  · split
    · split
      · split <;> exact h
      · exact h
    · split
      · exact h
      · split
        · exact h
        · exact (wf_congr rfl).trans (wf_putWord _ _ h)

theorem wf_checkWords (ups : List Upset) (ws : List Nat) {s : MemSt} (h : s.wf = true) :
    (s.checkWords ups ws).1.wf = true := by
  induction ws generalizing s with
  | nil => exact h
  | cons w r ih =>
    simp only [checkWords]
    split
    · exact wf_checkWord _ _ h
    · exact ih (wf_checkWord _ _ h)

theorem wf_scrub {s : MemSt} (l : Nat) (h : s.wf = true) : (s.scrub l).1.wf = true := by
  unfold scrub
  split
  · exact h
  · split
    · exact h
    · exact wf_checkWord _ _ h
    · split
      · exact (wf_congr rfl).trans h
      · split <;> exact h

theorem wf_guardedPut {s : MemSt} (ups : List Upset) (a : Nat) (l : List Byte) (h : s.wf = true) :
    (s.guardedPut ups a l).1.wf = true := by
  unfold guardedPut
  simp only []
  split
  · exact wf_checkWords _ _ h
  · exact wf_putBytes _ _ (wf_clearLines _ (wf_checkWords _ _ h))

theorem wf_wipe {s : MemSt} (lo hi : Nat) (h : s.wf = true) : (s.wipe lo hi).wf = true := by
  exact tcanon_tkeep (t := s.cells) blank (fun a => ! (decide (lo ≤ a) && decide (a < hi))) h

theorem wf_copyLines {s : MemSt} (src dst n : Nat) (h : s.wf = true) : (s.copyLines src dst n).wf = true :=
  tcanon_foldl blank _ _ _ (wf_wipe dst (dst + n) h)

/-- Memory after reset is in canonical form. -/
theorem wf_empty : ({} : MemSt).wf = true := rfl

end Sys2Proof.Machine.MemSt
end

