-- ==== Sys2Proof/Laws/State.lean ====
section
/-!
SUPPORT. What each update of the state leaves and what a read gives after it: one lemma for each field and update, so that no
proof unfolds a record update.
-/
namespace Sys2Proof.Machine

/-! ### The outcome of a command -/

@[simp] theorem run_eq (s : State) (f : Module → Module) : s.run f = .next { s with m := f s.m } := rfl

@[simp] theorem runOtp_eq (s : State) (f : Otp → Module → Otp × Module) :
    s.runOtp f = .next { s with otp := (f s.otp s.m).1, m := (f s.otp s.m).2 } := rfl

namespace Module

/-! ### Register fields -/

/-- A field holds no more than its width. -/
theorem rd_lt (m : Module) (f : Fam) (i j k : Nat) : m.rd f i j k < 2 ^ f.width := Nat.mod_lt _ (Nat.two_pow_pos _)

@[simp] theorem rd_mod (m : Module) (f : Fam) (i j k : Nat) : m.rd f i j k % 2 ^ f.width = m.rd f i j k :=
  Nat.mod_eq_of_lt (rd_lt m f i j k)

/-- An element of a family after another is written: what was written where the two are one, else as before. -/
theorem rd_wr (m : Module) (f : Fam) (v i j k i2 j2 k2 : Nat) :
    (m.wr f v i j k).rd f i2 j2 k2 = if f.key i2 j2 k2 = f.key i j k then v % 2 ^ f.width else m.rd f i2 j2 k2 := by
  simp only [rd, wr, tget_tset]
  split <;> simp

/-- A field reads what was written, kept to its width. -/
@[simp] theorem rd_wr_same (m : Module) (f : Fam) (v i j k : Nat) : (m.wr f v i j k).rd f i j k = v % 2 ^ f.width := by
  simp [rd_wr]

/-- A write leaves the fields of other keys alone. -/
theorem rd_wr_other (m : Module) (f g : Fam) (v i j k i2 j2 k2 : Nat) (h : g.key i2 j2 k2 ≠ f.key i j k) :
    (m.wr f v i j k).rd g i2 j2 k2 = m.rd g i2 j2 k2 := by
  simp only [rd, wr]
  rw [tget_tset_other _ _ _ _ h]

/-- Clearing a field gives its reset value. -/
@[simp] theorem rd_clr_same (m : Module) (f : Fam) (i j k : Nat) : (m.clr f i j k).rd f i j k = f.reset % 2 ^ f.width := by
  simp only [rd, clr]
  rw [tget_tdel_same]

/-- Clearing a field leaves the fields of other keys alone. -/
theorem rd_clr_other (m : Module) (f g : Fam) (i j k i2 j2 k2 : Nat) (h : g.key i2 j2 k2 ≠ f.key i j k) :
    (m.clr f i j k).rd g i2 j2 k2 = m.rd g i2 j2 k2 := by
  simp only [rd, clr]
  rw [tget_tdel_other _ _ h]

theorem raise_eq (m : Module) (f : Fam) (i j k : Nat) : m.raise f i j k = m.wr f 1 i j k := rfl
theorem lower_eq (m : Module) (f : Fam) (i j k : Nat) : m.lower f i j k = m.wr f 0 i j k := rfl
theorem wrb_eq (m : Module) (f : Fam) (b : Bool) (i j k : Nat) : m.wrb f b i j k = m.wr f (b2n b) i j k := rfl
theorem flag_eq (m : Module) (f : Fam) (i j k : Nat) : m.flag f i j k = (m.rd f i j k != 0) := rfl
theorem addW_eq (m : Module) (f : Fam) (n i j k : Nat) : m.addW f n i j k = m.wr f (m.rd f i j k + n) i j k := rfl
theorem addS_eq (m : Module) (f : Fam) (n i j k : Nat) :
    m.addS f n i j k = m.wr f (sat f.width (m.rd f i j k + n)) i j k := rfl

@[simp] theorem when_true (m : Module) (f : Module → Module) : m.when true f = f m := rfl
@[simp] theorem when_false (m : Module) (f : Module → Module) : m.when false f = m := rfl

/-! ### The other fields of the module, by update -/

@[simp] theorem wr_cfg (m : Module) (f : Fam) (v i j k : Nat) : (m.wr f v i j k).cfg = m.cfg := rfl
@[simp] theorem wr_mem (m : Module) (f : Fam) (v i j k : Nat) : (m.wr f v i j k).mem = m.mem := rfl
@[simp] theorem wr_resp (m : Module) (f : Fam) (v i j k : Nat) : (m.wr f v i j k).resp = m.resp := rfl
@[simp] theorem wr_fresh (m : Module) (f : Fam) (v i j k : Nat) : (m.wr f v i j k).fresh = m.fresh := rfl
@[simp] theorem wr_sys (m : Module) (f : Fam) (v i j k : Nat) : (m.wr f v i j k).sys = m.sys := rfl
@[simp] theorem wr_fab (m : Module) (f : Fam) (v i j k : Nat) : (m.wr f v i j k).fab = m.fab := rfl
@[simp] theorem wr_wct (m : Module) (f : Fam) (v i j k : Nat) : (m.wr f v i j k).wct = m.wct := rfl
@[simp] theorem wr_inst (m : Module) (f : Fam) (v i j k : Nat) : (m.wr f v i j k).inst = m.inst := rfl
@[simp] theorem wr_swc (m : Module) (f : Fam) (v i j k : Nat) : (m.wr f v i j k).swc = m.swc := rfl
@[simp] theorem wr_mac (m : Module) (f : Fam) (v i j k : Nat) : (m.wr f v i j k).mac = m.mac := rfl
@[simp] theorem wr_hdma (m : Module) (f : Fam) (v i j k : Nat) : (m.wr f v i j k).hdma = m.hdma := rfl
@[simp] theorem wr_tmu (m : Module) (f : Fam) (v i j k : Nat) : (m.wr f v i j k).tmu = m.tmu := rfl
@[simp] theorem wr_can (m : Module) (f : Fam) (v i j k : Nat) : (m.wr f v i j k).can = m.can := rfl
@[simp] theorem wr_npm (m : Module) (f : Fam) (v i j k : Nat) : (m.wr f v i j k).npm = m.npm := rfl
@[simp] theorem wr_cpe (m : Module) (f : Fam) (v i j k : Nat) : (m.wr f v i j k).cpe = m.cpe := rfl
@[simp] theorem wr_kst (m : Module) (f : Fam) (v i j k : Nat) : (m.wr f v i j k).kst = m.kst := rfl
@[simp] theorem wr_pbr (m : Module) (f : Fam) (v i j k : Nat) : (m.wr f v i j k).pbr = m.pbr := rfl
@[simp] theorem wr_chc (m : Module) (f : Fam) (v i j k : Nat) : (m.wr f v i j k).chc = m.chc := rfl
@[simp] theorem wr_uin (m : Module) (f : Fam) (v i j k : Nat) : (m.wr f v i j k).uin = m.uin := rfl
@[simp] theorem wr_dpx (m : Module) (f : Fam) (v i j k : Nat) : (m.wr f v i j k).dpx = m.dpx := rfl
@[simp] theorem wr_lss (m : Module) (f : Fam) (v i j k : Nat) : (m.wr f v i j k).lss = m.lss := rfl
@[simp] theorem wr_nvm (m : Module) (f : Fam) (v i j k : Nat) : (m.wr f v i j k).nvm = m.nvm := rfl
@[simp] theorem wr_sup (m : Module) (f : Fam) (v i j k : Nat) : (m.wr f v i j k).sup = m.sup := rfl
@[simp] theorem wr_boot (m : Module) (f : Fam) (v i j k : Nat) : (m.wr f v i j k).boot = m.boot := rfl
@[simp] theorem wr_nvc (m : Module) (f : Fam) (v i j k : Nat) : (m.wr f v i j k).nvc = m.nvc := rfl
@[simp] theorem wr_mbx (m : Module) (f : Fam) (v i j k : Nat) : (m.wr f v i j k).mbx = m.mbx := rfl
@[simp] theorem wr_hst (m : Module) (f : Fam) (v i j k : Nat) : (m.wr f v i j k).hst = m.hst := rfl
@[simp] theorem wr_reads (m : Module) (f : Fam) (v i j k : Nat) : (m.wr f v i j k).reads = m.reads := rfl
@[simp] theorem wr_out (m : Module) (f : Fam) (v i j k : Nat) : (m.wr f v i j k).out = m.out := rfl

@[simp] theorem clr_cfg (m : Module) (f : Fam) (i j k : Nat) : (m.clr f i j k).cfg = m.cfg := rfl
@[simp] theorem clr_mem (m : Module) (f : Fam) (i j k : Nat) : (m.clr f i j k).mem = m.mem := rfl
@[simp] theorem clr_resp (m : Module) (f : Fam) (i j k : Nat) : (m.clr f i j k).resp = m.resp := rfl
@[simp] theorem clr_fresh (m : Module) (f : Fam) (i j k : Nat) : (m.clr f i j k).fresh = m.fresh := rfl
@[simp] theorem clr_sys (m : Module) (f : Fam) (i j k : Nat) : (m.clr f i j k).sys = m.sys := rfl
@[simp] theorem clr_fab (m : Module) (f : Fam) (i j k : Nat) : (m.clr f i j k).fab = m.fab := rfl
@[simp] theorem clr_wct (m : Module) (f : Fam) (i j k : Nat) : (m.clr f i j k).wct = m.wct := rfl
@[simp] theorem clr_inst (m : Module) (f : Fam) (i j k : Nat) : (m.clr f i j k).inst = m.inst := rfl
@[simp] theorem clr_swc (m : Module) (f : Fam) (i j k : Nat) : (m.clr f i j k).swc = m.swc := rfl
@[simp] theorem clr_mac (m : Module) (f : Fam) (i j k : Nat) : (m.clr f i j k).mac = m.mac := rfl
@[simp] theorem clr_hdma (m : Module) (f : Fam) (i j k : Nat) : (m.clr f i j k).hdma = m.hdma := rfl
@[simp] theorem clr_tmu (m : Module) (f : Fam) (i j k : Nat) : (m.clr f i j k).tmu = m.tmu := rfl
@[simp] theorem clr_can (m : Module) (f : Fam) (i j k : Nat) : (m.clr f i j k).can = m.can := rfl
@[simp] theorem clr_npm (m : Module) (f : Fam) (i j k : Nat) : (m.clr f i j k).npm = m.npm := rfl
@[simp] theorem clr_cpe (m : Module) (f : Fam) (i j k : Nat) : (m.clr f i j k).cpe = m.cpe := rfl
@[simp] theorem clr_kst (m : Module) (f : Fam) (i j k : Nat) : (m.clr f i j k).kst = m.kst := rfl
@[simp] theorem clr_pbr (m : Module) (f : Fam) (i j k : Nat) : (m.clr f i j k).pbr = m.pbr := rfl
@[simp] theorem clr_chc (m : Module) (f : Fam) (i j k : Nat) : (m.clr f i j k).chc = m.chc := rfl
@[simp] theorem clr_uin (m : Module) (f : Fam) (i j k : Nat) : (m.clr f i j k).uin = m.uin := rfl
@[simp] theorem clr_dpx (m : Module) (f : Fam) (i j k : Nat) : (m.clr f i j k).dpx = m.dpx := rfl
@[simp] theorem clr_lss (m : Module) (f : Fam) (i j k : Nat) : (m.clr f i j k).lss = m.lss := rfl
@[simp] theorem clr_nvm (m : Module) (f : Fam) (i j k : Nat) : (m.clr f i j k).nvm = m.nvm := rfl
@[simp] theorem clr_sup (m : Module) (f : Fam) (i j k : Nat) : (m.clr f i j k).sup = m.sup := rfl
@[simp] theorem clr_boot (m : Module) (f : Fam) (i j k : Nat) : (m.clr f i j k).boot = m.boot := rfl
@[simp] theorem clr_nvc (m : Module) (f : Fam) (i j k : Nat) : (m.clr f i j k).nvc = m.nvc := rfl
@[simp] theorem clr_mbx (m : Module) (f : Fam) (i j k : Nat) : (m.clr f i j k).mbx = m.mbx := rfl
@[simp] theorem clr_hst (m : Module) (f : Fam) (i j k : Nat) : (m.clr f i j k).hst = m.hst := rfl
@[simp] theorem clr_reads (m : Module) (f : Fam) (i j k : Nat) : (m.clr f i j k).reads = m.reads := rfl
@[simp] theorem clr_out (m : Module) (f : Fam) (i j k : Nat) : (m.clr f i j k).out = m.out := rfl

@[simp] theorem ok_regs (m : Module) (d : Nat) : (m.ok d).regs = m.regs := rfl
@[simp] theorem ok_cfg (m : Module) (d : Nat) : (m.ok d).cfg = m.cfg := rfl
@[simp] theorem ok_mem (m : Module) (d : Nat) : (m.ok d).mem = m.mem := rfl
@[simp] theorem ok_fresh (m : Module) (d : Nat) : (m.ok d).fresh = m.fresh := rfl
@[simp] theorem ok_sys (m : Module) (d : Nat) : (m.ok d).sys = m.sys := rfl
@[simp] theorem ok_fab (m : Module) (d : Nat) : (m.ok d).fab = m.fab := rfl
@[simp] theorem ok_wct (m : Module) (d : Nat) : (m.ok d).wct = m.wct := rfl
@[simp] theorem ok_inst (m : Module) (d : Nat) : (m.ok d).inst = m.inst := rfl
@[simp] theorem ok_swc (m : Module) (d : Nat) : (m.ok d).swc = m.swc := rfl
@[simp] theorem ok_mac (m : Module) (d : Nat) : (m.ok d).mac = m.mac := rfl
@[simp] theorem ok_hdma (m : Module) (d : Nat) : (m.ok d).hdma = m.hdma := rfl
@[simp] theorem ok_tmu (m : Module) (d : Nat) : (m.ok d).tmu = m.tmu := rfl
@[simp] theorem ok_can (m : Module) (d : Nat) : (m.ok d).can = m.can := rfl
@[simp] theorem ok_npm (m : Module) (d : Nat) : (m.ok d).npm = m.npm := rfl
@[simp] theorem ok_cpe (m : Module) (d : Nat) : (m.ok d).cpe = m.cpe := rfl
@[simp] theorem ok_kst (m : Module) (d : Nat) : (m.ok d).kst = m.kst := rfl
@[simp] theorem ok_pbr (m : Module) (d : Nat) : (m.ok d).pbr = m.pbr := rfl
@[simp] theorem ok_chc (m : Module) (d : Nat) : (m.ok d).chc = m.chc := rfl
@[simp] theorem ok_uin (m : Module) (d : Nat) : (m.ok d).uin = m.uin := rfl
@[simp] theorem ok_dpx (m : Module) (d : Nat) : (m.ok d).dpx = m.dpx := rfl
@[simp] theorem ok_lss (m : Module) (d : Nat) : (m.ok d).lss = m.lss := rfl
@[simp] theorem ok_nvm (m : Module) (d : Nat) : (m.ok d).nvm = m.nvm := rfl
@[simp] theorem ok_sup (m : Module) (d : Nat) : (m.ok d).sup = m.sup := rfl
@[simp] theorem ok_boot (m : Module) (d : Nat) : (m.ok d).boot = m.boot := rfl
@[simp] theorem ok_nvc (m : Module) (d : Nat) : (m.ok d).nvc = m.nvc := rfl
@[simp] theorem ok_mbx (m : Module) (d : Nat) : (m.ok d).mbx = m.mbx := rfl
@[simp] theorem ok_hst (m : Module) (d : Nat) : (m.ok d).hst = m.hst := rfl
@[simp] theorem ok_reads (m : Module) (d : Nat) : (m.ok d).reads = m.reads := rfl
@[simp] theorem ok_out (m : Module) (d : Nat) : (m.ok d).out = m.out := rfl

@[simp] theorem ok_resp (m : Module) (d : Nat) : (m.ok d).resp = { status := 0, data := d } := rfl

@[simp] theorem rd_ok (m : Module) (d : Nat) (f : Fam) (i j k : Nat) : (m.ok d).rd f i j k = m.rd f i j k := rfl

end Module

/-! ### The fields of the state -/

@[simp] theorem State.set_m_pending (s : State) (m : Module) : ({ s with m := m } : State).pending = s.pending := rfl
@[simp] theorem State.set_m_otp (s : State) (m : Module) : ({ s with m := m } : State).otp = s.otp := rfl
@[simp] theorem State.set_m_m (s : State) (m : Module) : ({ s with m := m } : State).m = m := rfl
@[simp] theorem State.set_pending_m (s : State) (l : List Instr) : ({ s with pending := l } : State).m = s.m := rfl
@[simp] theorem State.set_pending_otp (s : State) (l : List Instr) : ({ s with pending := l } : State).otp = s.otp := rfl

end Sys2Proof.Machine
end

