-- ==== Sys2Proof/Laws/Ops.lean ====
section
/-!
SUPPORT. What each shared operation can do, said once: its cases, and the fields of the module that it leaves. Proofs cite
these and do not unfold the operations.
-/
namespace Sys2Proof.Machine

/-! ### Lifting to the state -/

/-- A command that also programs the OTP keeps the queue. -/
theorem State.runOtp_pending (s t : State) (f : Otp → Module → Otp × Module) (h : s.runOtp f = .next t) :
    t.pending = s.pending := by
  cases h; rfl

/-- A command on the module alone keeps the queue and the OTP. -/
theorem State.run_keeps (s t : State) (f : Module → Module) (h : s.run f = .next t) :
    t.pending = s.pending ∧ t.otp = s.otp ∧ t.m = f s.m := by
  cases h; exact ⟨rfl, rfl, rfl⟩

/-- An event of a block that works has its effect. -/
theorem State.runIn_works {s : State} {b : Nat} (f : Module → Module) (h : s.m.works b = true) : s.runIn b f = s.run f := by
  simp only [State.runIn, State.run, Module.when, h, if_true]

/-- An event of a block that is gated, off or in reset changes nothing. -/
theorem State.runIn_idle {s : State} {b : Nat} (f : Module → Module) (h : s.m.works b = false) : s.runIn b f = .next s := by
  simp [State.runIn, State.run, Module.when, h]

/-- The same for an event that may change the OTP. -/
theorem State.runOtpIn_works {s : State} {b : Nat} (f : Otp → Module → Otp × Module) (h : s.m.works b = true) :
    s.runOtpIn b f = s.runOtp f := by
  simp only [State.runOtpIn, State.runOtp, h, if_true]

theorem State.runOtpIn_idle {s : State} {b : Nat} (f : Otp → Module → Otp × Module) (h : s.m.works b = false) :
    s.runOtpIn b f = .next s := by
  simp [State.runOtpIn, State.runOtp, h]

/-- An event has its effect outside the held module reset, and none within it. -/
theorem State.runUp_released {s : State} (f : Module → Module) (h : s.m.sys.resetHeld = false) : s.runUp f = s.run f := by
  simp [State.runUp, State.run, Module.when, h]

theorem State.runUp_held {s : State} (f : Module → Module) (h : s.m.sys.resetHeld = true) : s.runUp f = .next s := by
  simp [State.runUp, State.run, Module.when, h]

/-- A write of a pair raises no fault of its own. -/
@[simp] theorem Module.pairFault_write (m : Module) (a : Access) : m.pairFault a 1 = m := rfl

/-- A command that is an access acts with the attributes that its initiator issues it with, or issues none. -/
theorem State.runBy_issued {s : State} {a b : Access} {kind : Nat} (f : Access → Module → Module)
    (h : s.m.issued a kind = some b) : s.runBy a kind f = s.run (fun m => (f b m).pairFault b kind) := by
  simp only [State.runBy, State.run, h]

theorem State.runBy_withheld {s : State} {a : Access} {kind : Nat} (f : Access → Module → Module)
    (h : s.m.issued a kind = none) : s.runBy a kind f = s.run (·.withheld a kind) := by
  simp only [State.runBy, State.run, h]

/-! ### Shares -/

/-- The turn goes to one that waits and is not ahead of its share. -/
theorem Module.fairTurn_waits {l : List (Nat × Nat)} {served weight : Nat → Nat} {i : Nat}
    (h : Module.fairTurn l served weight = some i) :
    ∃ n, (i, n) ∈ l ∧ served i * (l.map (fun e => weight e.1)).sum ≤ (l.map (fun e => served e.1)).sum * weight i := by
  have key : ∀ (r : List (Nat × Nat)) (b : Option (Nat × Nat)) (e : Nat × Nat),
      r.foldl (fun (best : Option (Nat × Nat)) e => match best with
        | none => some e
        | some b => if (served e.1 + e.2) * weight b.1 < (served b.1 + b.2) * weight e.1 then some e else best) b = some e →
      b = some e ∨ e ∈ r := by
    intro r
    induction r with
    | nil => intro b e h; exact .inl h
    | cons x r ih =>
      intro b e h
      rcases ih _ e h with h | h
      · cases b with
        | none => cases h; exact .inr (by simp)
        | some b => dsimp only at h; split at h <;> cases h <;> simp
      · exact .inr (by simp [h])
  simp only [Module.fairTurn, Option.map_eq_some_iff] at h
  obtain ⟨e, he, rfl⟩ := h
  rcases key _ none e he with h | h
  · cases h
  · simp only [List.mem_filter, decide_eq_true_eq] at h
    exact ⟨e.2, h.1, h.2⟩

/-! ### Control -/

namespace Module

/-- What both the module and the effect have, the guarded effect has. -/
theorem when_keeps {P : Module → Prop} {m : Module} {c : Bool} {f : Module → Module} (h : P m) (hf : P (f m)) :
    P (m.when c f) := by
  cases c
  · exact h
  · exact hf

/-- What every round keeps, the loop keeps. -/
theorem forEach_keeps {σ : Type} {P : σ → Prop} (l : List Nat) (f : Nat → σ → σ) (hf : ∀ i s, P s → P (f i s)) :
    ∀ s, P s → P (forEach l f s) := by
  induction l with
  | nil => exact fun s h => h
  | cons i l ih => exact fun s h => ih (f i s) (hf i s h)

/-! ### The log -/

/-- The module without what a log record may change: registers (the indices and counts of FAB), memory (the ring), FAB's
newest record and HST's latches. -/
def logless (m : Module) : Module := { m with regs := [], mem := {}, fab := {}, hst := {} }

@[simp] theorem logless_wr (m : Module) (f : Fam) (v i j k : Nat) : (m.wr f v i j k).logless = m.logless := rfl
@[simp] theorem logless_addW (m : Module) (f : Fam) (v i j k : Nat) : (m.addW f v i j k).logless = m.logless := rfl
@[simp] theorem logless_addS (m : Module) (f : Fam) (v i j k : Nat) : (m.addS f v i j k).logless = m.logless := rfl
@[simp] theorem logless_raise (m : Module) (f : Fam) (i j k : Nat) : (m.raise f i j k).logless = m.logless := rfl
@[simp] theorem logless_lower (m : Module) (f : Fam) (i j k : Nat) : (m.lower f i j k).logless = m.logless := rfl
@[simp] theorem logless_latch (m : Module) (f : HstSt → HstSt) : (m.latch f).logless = m.logless := rfl
theorem logless_ringWrite (m : Module) (a : Nat) (l : List Byte) : (m.ringWrite a l).1.logless = m.logless := rfl

theorem logless_when {m : Module} {c : Bool} {f : Module → Module} (h : (f m).logless = m.logless) :
    (m.when c f).logless = m.logless := by
  cases c
  · rfl
  · exact h

theorem logless_logCounts (m : Module) (c : Nat) : (m.logCounts c).logless = m.logless := by
  unfold logCounts
  rw [logless_when rfl, logless_when rfl, logless_when rfl]
  split
  · rfl
  · split
    · rfl
    · split <;> rfl

theorem logless_fab (m : Module) (f : FabSt) : ({ m with fab := f } : Module).logless = m.logless := rfl

/-- The last writes of a new record. -/
theorem logless_newRecord (m : Module) (a : Nat) (l : List Byte) (r : NewestRec) :
    ({ ((((m.ringWrite a l).1.addW F.FAB_LOG_WR_IDX 1).addW F.FAB_LOG_WR_SEQ 1).raise F.FAB_EVT_NEW) with
        fab := { newest := some r } } : Module).logless = m.logless := by
  rw [logless_fab, logless_raise, logless_addW, logless_addW, logless_ringWrite]

/-- One record changes nothing but what `logless` leaves out. -/
theorem logless_record (m : Module) (r : Rec) : (m.record r).1.logless = m.logless := by
  have h0 : ((m.logCounts r.code).latch (fun h => { h with written := h.written + 1 })).logless = m.logless :=
    (logless_latch _ _).trans (logless_logCounts m r.code)
  unfold record
  generalize (m.logCounts r.code).latch (fun h => { h with written := h.written + 1 }) = n at h0
  extract_lets m1 t same
  split
  · split
    · exact h0
    · exact h0
  · rename_i i q full m3 x n3 _ _
    have h3 : m3.logless = m.logless := (logless_when rfl).trans h0
    exact (logless_newRecord m3 _ _ _).trans h3

/-- The counts and records of the memory guard change no more than the writing of the records does. -/
theorem logless_checksBy {put : Module → Rec → Module} (hp : ∀ m r, (put m r).logless = m.logless) (m : Module) (k : Nat)
    (r : Rec) (base : Nat) (cs : List MemSt.Check) : (checksBy put m k r base cs).logless = m.logless := by
  induction cs generalizing m with
  | nil => rfl
  | cons c cs ih =>
    simp only [checksBy, List.foldl_cons] at ih ⊢
    rw [ih]
    split
    · rfl
    · rw [hp, logless_latch]
      split
      · rfl
      · split
        · rfl
        · split <;> rfl

theorem logless_logN (n : Nat) (m : Module) (r : Rec) : (logN n m r).logless = m.logless := by
  induction n generalizing m r with
  | zero => exact logless_record m r
  | succ n ih => exact (logless_checksBy ih _ _ _ _ _).trans (logless_record m r)

/-- A log record changes nothing but what `logless` leaves out. -/
theorem logless_log (m : Module) (r : Rec) : (m.log r).logless = m.logless := logless_logN 32 m r

theorem logless_logBlk (m : Module) (b c a d0 d1 : Nat) : (m.logBlk b c a d0 d1).logless = m.logless := logless_log m _

/-- So do the counts and records of the memory guard. -/
theorem logless_logChecks (m : Module) (k : Nat) (r : Rec) (base : Nat) (cs : List MemSt.Check) :
    (m.logChecks k r base cs).logless = m.logless := logless_checksBy logless_log m k r base cs

/-! ### Responses and admission -/

/-- A refusal changes, beside the response, nothing but what a record may change. -/
theorem refuse_frame (m : Module) (a : Access) (addr kind : Nat) (d : Deny) :
    (m.refuse a addr kind d).logless = { m with resp := { status := d.status } }.logless := by
  unfold refuse
  extract_lets n
  split
  · rfl
  · split
    · rfl
    · exact logless_log _ _

/-- An access whose checks refuse it has no effect of its own. -/
theorem access_denied {m : Module} {a : Access} {addr kind : Nat} {d : Deny} (eff : Module → Module)
    (h : m.accessDeny a addr 4 kind = some d) : m.access a addr kind eff = m.refuse a addr kind d := by
  unfold access
  rw [h]

/-- An access that passes its checks has its effect, with status OK. -/
theorem access_admitted {m : Module} {a : Access} {addr kind : Nat} (eff : Module → Module)
    (h : m.accessDeny a addr 4 kind = none) : m.access a addr kind eff = eff m.ok := by
  unfold access
  rw [h]

/-- A write of a register that admits some writers only: refused by the checks, refused by R820, or in effect. -/
theorem accessIf_cases (m : Module) (a : Access) (addr : Nat) (allowed : Bool) (eff : Module → Module) :
    (∃ d, m.accessDeny a addr 4 1 = some d ∧ m.accessIf a addr allowed eff = m.refuse a addr 1 d)
      ∨ (m.accessDeny a addr 4 1 = none ∧ allowed = false
          ∧ m.accessIf a addr allowed eff = m.ok.refuse a addr 1 (denyWriter addr))
      ∨ (m.accessDeny a addr 4 1 = none ∧ allowed = true ∧ m.accessIf a addr allowed eff = eff m.ok) := by
  unfold accessIf
  rcases h : m.accessDeny a addr 4 1 with _ | d
  · rw [access_admitted _ h]
    cases allowed
    · exact .inr (.inl ⟨rfl, rfl, rfl⟩)
    · exact .inr (.inr ⟨rfl, rfl, rfl⟩)
  · exact .inl ⟨d, rfl, access_denied _ h⟩

/-- A read that commits as it completes: refused by the checks, or in effect, answering its value. -/
theorem reRead_committed {m : Module} {a : Access} (addr v : Nat) (what : Option ReEffect) (eff : Module → Module)
    (hs : a.spec = false) (hp : pairOf a = none) :
    (∃ d, m.accessDeny a addr 4 0 = some d ∧ m.reRead a addr v what eff = m.refuse a addr 0 d)
      ∨ (m.accessDeny a addr 4 0 = none ∧ m.reRead a addr v what eff = (eff m.ok).ok v) := by
  unfold reRead
  rcases h : m.accessDeny a addr 4 0 with _ | d
  · rw [access_admitted _ h]
    simp [hs, hp]
  · exact .inl ⟨d, rfl, access_denied _ h⟩

/-- A speculative read has no effect but its response. -/
theorem reRead_speculative {m : Module} {a : Access} {addr : Nat} (v : Nat) (what : Option ReEffect) (eff : Module → Module)
    (hs : a.spec = true) (h : m.accessDeny a addr 4 0 = none) :
    m.reRead a addr v what eff = { m with resp := { status := 0, data := v, skipped := true } } := by
  unfold reRead
  rw [access_admitted _ h]
  simp [hs, ok]

/-- Drawing a free value changes the model's counter and nothing else, and the value is below `n`. -/
theorem draw_spec (m : Module) {n : Nat} (h : 0 < n) :
    (m.draw n).1 = { m with fresh := m.fresh + 1 } ∧ (m.draw n).2 < n := ⟨rfl, Nat.mod_lt _ h⟩

/-! ### Bus accesses -/

/-- A read of guarded memory changes, beside the response, nothing but what a record may change. -/
theorem memRead_frame (m : Module) (a : Access) (k addr n kind : Nat) :
    ∃ r, (m.memRead a k addr n kind).1.logless = { m with resp := r }.logless := by
  unfold memRead
  simp only []
  split
  · exact ⟨{ status := 0x0D }, congrArg (fun n : Module => { n with resp := { status := 0x0D } }) (logless_logChecks _ _ _ _ _)⟩
  · exact ⟨{ status := 0, data := 0 },
      congrArg (fun n : Module => { n with resp := { status := 0, data := 0 } }) (logless_logChecks _ _ _ _ _)⟩

/-- A read by a block changes, beside the response and the model's counter of free values, nothing but what a record may
change. -/
theorem busRead_frame (m : Module) (a : Access) (addr n : Nat) (owner : Option Nat) (kind : Nat) :
    ∃ r c, (m.busRead a addr n owner kind).1.logless = { m with resp := r, fresh := c }.logless := by
  unfold busRead
  split
  · exact ⟨_, _, refuse_frame m a addr kind _⟩
  · split
    · split
      · exact ⟨_, _, refuse_frame m a addr kind _⟩
      · exact ⟨_, _, rfl⟩
    · obtain ⟨r, h⟩ := memRead_frame m a _ addr n kind
      exact ⟨r, m.fresh, h⟩

/-- A write that takes a semaphore away changes the bridge's semaphores and PBR_SEM_STAT, and nothing else. -/
theorem semWrite_frame (m : Module) (addr n : Nat) :
    ∃ l v, m.semWrite addr n = { m with pbr := { m.pbr with sems := l }, regs := v } := by
  unfold semWrite
  dsimp only
  split
  · exact ⟨_, _, rfl⟩
  · exact ⟨m.pbr.sems, m.regs, rfl⟩

/-- A write by a block changes, beside the response, the emissions and the semaphores, nothing but memory and what a record
may change. -/
theorem busWrite_frame (m : Module) (a : Access) (addr : Nat) (data : List Byte) (owner : Option Nat) :
    ∃ r o l, (m.busWrite a addr data owner).1.logless
      = { m with resp := r, out := o, pbr := { m.pbr with sems := l } }.logless := by
  unfold busWrite
  split
  · exact ⟨_, m.out, m.pbr.sems, refuse_frame m a addr 1 _⟩
  · split
    · split
      · exact ⟨_, m.out, m.pbr.sems, refuse_frame m a addr 1 _⟩
      · exact ⟨_, _, m.pbr.sems, rfl⟩
    · obtain ⟨l, v, h⟩ := semWrite_frame m addr data.length
      simp only [h]
      split
      · refine ⟨{ status := 0x0D }, m.out, l, ?_⟩
        exact congrArg (fun n : Module => { n with resp := { status := 0x0D } }) (logless_logChecks _ _ _ _ _)
      · refine ⟨{ status := 0, data := 0 }, m.out, l, ?_⟩
        exact congrArg (fun n : Module => { n with resp := { status := 0, data := 0 } }) (logless_logChecks _ _ _ _ _)

/-! ### The tables of a block: what a read gives after a change -/

theorem chan_putChan (m : Module) (n k : Nat) (x : Chan) :
    (m.putChan n x).chan k = if k = n then x else m.chan k := by exact tget_tset _ _ _ _ _
theorem grp_setGrp (m : Module) (n k : Nat) (x : Group) :
    (m.setGrp n x).grp k = if k = n then x else m.grp k := by exact tget_tset _ _ _ _ _
theorem chi_setChi (m : Module) (n k : Nat) (x : Chi) :
    (m.setChi n x).chi k = if k = n then x else m.chi k := by exact tget_tset _ _ _ _ _
theorem uinIn_setUin (m : Module) (n k : Nat) (x : UinIn) :
    (m.setUin n x).uinIn k = if k = n then x else m.uinIn k := by exact tget_tset _ _ _ _ _
theorem pair_setPair (m : Module) (n k : Nat) (x : PairSt) :
    (m.setPair n x).pair k = if k = n then x else m.pair k := by exact tget_tset _ _ _ _ _
theorem evo_setEvo (m : Module) (n k : Nat) (x : EvoSt) :
    (m.setEvo n x).evo k = if k = n then x else m.evo k := by exact tget_tset _ _ _ _ _
theorem evi_setEvi (m : Module) (n k : Nat) (x : List EviEntry) :
    (m.setEvi n x).evi k = if k = n then x else m.evi k := by exact tget_tset _ _ _ _ _
theorem hq_setHq (m : Module) (n k : Nat) (f : HqSt → HqSt) :
    (m.setHq n f).hq k = if k = n then f (m.hq n) else m.hq k := by exact tget_tmod _ _ _ _ _
theorem canSt_setCan (m : Module) (n k : Nat) (f : CanSt → CanSt) :
    (m.setCan n f).canSt k = if k = n then f (m.canSt n) else m.canSt k := by exact tget_tmod _ _ _ _ _
theorem seg_setSeg (m : Module) (n k : Nat) (f : SegSt → SegSt) :
    (m.setSeg n f).seg k = if k = n then f (m.seg n) else m.seg k := by exact tget_tmod _ _ _ _ _
theorem cpi_setCpi (m : Module) (n k : Nat) (f : CpeInst → CpeInst) :
    (m.setCpi n f).cpi k = if k = n then f (m.cpi n) else m.cpi k := by exact tget_tmod _ _ _ _ _
theorem slot_setSlot (m : Module) (n k : Nat) (f : Slot → Slot) :
    (m.setSlot n f).slot k = if k = n then f (m.slot n) else m.slot k := by exact tget_tmod _ _ _ _ _

/-- A changed channel stands as `f` makes it, and the others as before; beside channels, only registers may change (the events
it latches). -/
theorem chan_setChan (m : Module) (n k : Nat) (f : Chan → Chan) :
    (m.setChan n f).chan k = if k = n then f (m.chan n) else m.chan k := by
  rw [← chan_putChan]
  unfold setChan
  simp only []
  unfold latchEvt
  split
  · rfl
  · dsimp only
    split
    · rfl
    · unfold when
      split <;> rfl

end Module
end Sys2Proof.Machine
end

