-- ==== Sys2Proof/Tests/Slice0.lean ====
section
/-!
SUPPORT. Tests: the checks of `Instr.wf`, the witnesses of the statements' hypotheses, and small runs of single commands.
-/
namespace Sys2Proof.Tests

open Sys2Proof.Machine

set_option maxRecDepth 100000

/-- A data access of application core 0 in the secure world. -/
def core : Access := { ini := 0, world := true, part := 0 }

/-- The same where partition 1 is that of the secure world. -/
def secCore : Access := { ini := 0, world := true, part := 1 }

/-- A data access of application core 1 in the normal world. -/
def tenant : Access := { ini := 1, world := false, part := 0 }

/-- A module that has started: reset is released, step 8 is done, and core 0 is in the secure world. -/
def started : Module :=
  { State.reset.m.wr F.SYSCTL_BOOT_STAT_STAGE 8 with
    sys := { State.reset.m.sys with resetHeld := false }
    boot := { State.reset.m.boot with chanDone := true }
    wct := { State.reset.m.wct with cores := [(0, { secure := true })] } }

/-- A started module changed by `f`. -/
def reg (f : Module → Module) : State := { State.reset with m := f started }

/-- A started module. -/
def idleS : State := reg id

/-- SERPLL has lost its lock. -/
def lolS : State := reg (·.raise F.SYSCTL_PLL_EVT_SER_LOL)

/-- Some bytes stand in SRAM. -/
def memS : State := reg (fun m => { m with mem := m.mem.putBytes 0x10000100 [0x11, 0x22, 0x33, 0x44, 0x55, 0x66] })

/-- The L2 holds a dirty line of DRAM. -/
def l2S : State :=
  reg (fun m => { m with mem := { m.mem.putBytes (MemSt.l2Base + 0x800001000) [7, 8, 9] with
    l2 := tset {} m.mem.l2 0x8000010 { held := true, dirty := true } } })

/-- A region of SRAM is staged. -/
def stagedS : State :=
  reg (fun m => (((m.wr F.FAB_STG_BASE_BASE 0x10010).wr F.FAB_STG_LIMIT_LIMIT 0x1001F).wr F.FAB_STG_KEY_EN 1).wr
    F.FAB_STG_PART_MASK 0xFFFF)

/-- Reset is released, both PLLs are locked, and the boot ROM is in its first stage. -/
def lockS : State := reg (fun m => { m with sys := { m.sys with sysLock := true, serLock := true } })

/-- A power-off of NPM that the secure world asked for drains. -/
def drainS : State := reg (fun m => { m with sys := { m.sys with gateS := some ⟨0x0B, 2⟩ } })

/-- A power-up of HST is under way. -/
def powerUpS : State := reg (fun m => { m with sys := { m.sys with gateS := some ⟨0x14, 3⟩ } })

/-- Reset is released. -/
def runS : State := reg (fun m =>
  { m.wr F.HST_SUP_STAT_VS_UV 4 with sys := { m.sys with resetHeld := false } })

/-- The image has been applied. -/
def appliedS : State := reg (fun m =>
  { (m.wr F.WCT_LOCK_WORLD_LOCK 1).wr F.HST_SUP_STAT_VAUX_STATE 1 with sys := { m.sys with resetHeld := false } })

/-- A flush is under way. -/
def flushS : State := reg (fun m => { m with sup := { m.sup with flush := some {} } })

/-- The flush of hold-up is done. -/
def flushedS : State :=
  reg (fun m => { m.wr F.HST_SUP_STAT_VAUX_STATE 2 with sup := { m.sup with flushed := true } })

/-- Reset is released, no group is in undervoltage, channel 3 is on and channel 4 turns on. -/
def onS : State := reg (fun m =>
  { (m.wr F.HST_SUP_STAT_VS_UV 0) with
    sys := { m.sys with resetHeld := false }
    chc := { m.chc with chans := [(3, { cmd := .on, phase := .on }), (4, { cmd := .on, phase := .turningOn })] } })

/-- A capacitance measurement runs. -/
def measS : State := reg (fun m => { m.wr F.HST_VHOLD_MV_NOW 33000 with sup := { m.sup with measuring := true } })

/-- Both banks wait to be checked. -/
def candS : State :=
  reg (fun m => { m.wr F.SYSCTL_BOOT_STAT_STAGE 3 with boot := { m.boot with cands := [(0, false), (1, false)] } })

/-- The boot watchdog has expired twice while bank A ran, and its time is up again. -/
def barS : State := reg (fun m =>
  { (m.wr F.SYSCTL_BOOT_STAT_STAGE 5).wr F.SYSCTL_BOOT_WDT_COUNT 2 with
    boot := { m.boot with wdtBank := some 0, us := 1800000 } })

/-- The boot watchdog's time is up before an image runs. -/
def bootS : State := reg (fun m => { m.wr F.SYSCTL_BOOT_STAT_STAGE 3 with boot := { m.boot with us := 1800000 } })

/-- Life-cycle state `n`, with two owners' keys and hold-up not weak. -/
def lcS (n : Nat) : State :=
  { reg (fun m => (m.wr F.SYSCTL_LC_STATE_STATE n).wr F.HST_SUP_STAT_HOLDUP_WEAK 0) with
    otp := { ecdsa := [(0, [1]), (1, [2])], hss := [(0, [1]), (1, [2])] } }

/-- OTP is programmed with END. -/
def lcNextS : State := reg (fun m => { m with boot := { m.boot with lcNext := some 5 } })

/-- A limit-mode window. -/
def limitW : InrushWindow := { profile := { limit := true } }

/-- A module with these channels, and the group supplies and VAUX normal. -/
def chans (l : List (Nat × Chan)) : State := reg (fun m =>
  { (m.wr F.HST_SUP_STAT_VS_UV 0).wr F.DPX_STATE_DRIVE 1 with
    boot := { m.boot with us := 20000000 }
    chc := { m.chc with chans := l } })

/-- A limit-mode window at its end, whose loop has limited for 1 ms. -/
def fullW : InrushWindow := { profile := { limit := true }, limitUs := 1000 }

/-- Channels in several states. -/
def loadS : State := chans [(3, { cmd := .on, phase := .on, sample := 300, prot1 := 2 ^ 20, ucRun := 12500, steadyAt := some 5 }), (5, { phase := .on, swTest := true }),
  (6, { phase := .turningOff true, fwWatch := true }), (7, { phase := .on, window := some {} }),
  (8, { phase := .on, window := some limitW }),
  (9, { backoff := true, backoffFrom := some 5, backoffUs := 10000 }), (10, { phase := .on, window := some fullW })]

/-- Channels in a diagnostic cycle. -/
def diagS : State := chans [(10, { diag := .supply false 25, prot1 := 2 ^ 16 }), (11, { diag := .supply true 25, stsRun := 2 }),
  (12, { diag := .openLoad 1000, olRun := 2 })]

/-- Channels that may turn on. -/
def driveS : State := chans [(16, { ctrl := 16, cmd := .on }), (32, { ctrl := 16, cmd := .pwm 10000 500, pwm := some (10000, 500) }),
  (18, { ctrl := 16, cmd := .pwm 10000 500, pwm := some (10000, 500), phase := .on }),
  (64, { ctrl := 16, cmd := .pwm 10000 500, pwm := some (10000, 500), phase := .on }),
  (96, { ctrl := 16, cmd := .on, pwm := some (10000, 500), phase := .on }), (0, { ctrl := 16, cmd := .pwm 10000 500 })]

/-- The command watchdog of instance 0 has run out. -/
def expireS : State := { driveS with m := driveS.m.wr F.CHC_STAT_RUN 1 }

/-- Input 3 counts pulses. -/
def pulseInS : State := reg (fun m => { m with uin := { m.uin with ins := [(3, { word := 6 })] } })

/-- Channel 3 has had two samples above its threshold. -/
def ocS : State := chans [(3, { cmd := .on, phase := .on, ocCount := 2, prot1 := 1000 })]

/-- Group 1 has been in droop for 10 ms. -/
def droopS : State := reg (fun m => { m with chc := { m.chc with groups := [(1, { droopRun := 1250, vsConv := [1200] })] } })

/-- Instances that may take commands; instance 4 has a completion. -/
def chiS : State := reg (fun m =>
  { (((((m.wr F.IMG_INST_SHARE_SHARE 8 99).wr F.CHI_WDT_TIMEOUT 50 3).wr F.DPX_STATE_DRIVE 1).wr
    F.IMG_INST_CFG_ASSIGNED 1 99).wr F.IMG_INST_CFG_ASSIGNED 1 100).wr F.IMG_INST_CFG_ASSIGNED 1 101 with
    chc := { m.chc with insts := [(4, { fifo := [⟨7, 0, 1, 9, 0, 12⟩] })] } })

/-- A microcode load runs. -/
def ucS : State := reg (fun m => { m with chc := { m.chc with ucJob := .load } })

/-- The shadow phase of a calibration runs. -/
def calS : State := reg (fun m =>
  { m.wr F.CHC_CAL_STAT_CAL_ADC 2 with chc := { m.chc with calShadow := true } })

/-- The primary phase of a calibration runs. -/
def calPrimaryS : State := reg (·.wr F.CHC_CAL_STAT_CAL_ADC 2)

/-- Input 9 is a CURRENT input of the exciting unit. -/
def uinS : State := reg (fun m => { m.wr F.UIN_STAT_EXCITE 1 with uin := { m.uin with ins := [(9, { word := 5 })] } })

/-- Pair 0 is idle, pair 1 runs partition 4, pair 2 has failed and pair 3 is the spare. -/
def lssS : State := reg (fun m =>
  { (((((((m.wr F.LSS_PAIR_STAT_STATE 1 0).wr F.LSS_PAIR_STAT_STATE 3 1).wr F.LSS_PAIR_STAT_STATE 5 2).wr
      F.LSS_PAIR_STAT_STATE 2 3).wr F.LSS_PAIR_STAT_PART 4 1).wr F.LSS_PART_PAIR 1 4).wr F.LSS_PART_STATE 1 4).wr
      F.LSS_CFG_REPLAY_LIMIT 0 with
    mem := memS.m.mem.putByte (MemSt.lpBase 1 + 5) 77 })

/-- The window of pair 1 is being replayed. -/
def lssReplayS : State := { lssS with m := lssS.m.setPair 1 { replaying := true } }

/-- Pair 3 is loaned. -/
def loanS : State := { lssS with m := lssS.m.wr F.LSS_PAIR_STAT_STATE 4 3 }

/-- Pair 2 is in test. -/
def testS : State := { lssS with m := (lssS.m.wr F.LSS_PAIR_STAT_STATE 0 2).setPair 2 { after := .settle } }

/-- Partition 4 moves from pair 1 to pair 3. -/
def migS : State := { lssS with m := { lssS.m with lss := { lssS.m.lss with mig := some ⟨4, 1, 3, 0, true, 0⟩ } } }

/-- Its target is in test. -/
def migTestS : State := { lssS with m := { (lssS.m.wr F.LSS_PAIR_STAT_STATE 0 3) with
  lss := { lssS.m.lss with mig := some ⟨4, 1, 3, 0, false, 0⟩ } } }

/-- Partition 4 is moved from pair 1 to pair 3. -/
def moveS : State := { lssS with m := { lssS.m with lss := { lssS.m.lss with mig := some ⟨4, 1, 3, 1, true, 0⟩ } } }

/-- Pair 0 is split. -/
def splitS : State := { lssS with m := (lssS.m.wr F.LSS_PAIR_STAT_STATE 6 0).wr F.LSS_PART_STATE 0 0 }

/-- The firewall is in force, with one region of SRAM that admits every access. -/
def atomS : State := { lssS with m := (((({ lssS.m with lss := { lssS.m.lss with store := [(4, [0x14, 4, 0, 2, 0, 0, 0, 0,
  0x10000000, 16 + 3 * 64, 0x10000000, 0, 0x10010000, 16 + 3 * 64 + 512, 0x30000000, 0])] } }.wr F.FAB_CTRL_ENFORCE 1).wr F.FAB_RGN_KEY_KEY 0x3F0000 1 0).wr
  F.FAB_RGN_BASE_BASE 0x10000 1 0).wr F.FAB_RGN_LIMIT_LIMIT 0x10FFF 1 0).wr F.FAB_RGN_PART_MASK 0xFFFF 1 0 }

/-- The secure watchdog runs. -/
def swdtS : State := reg (fun m => { m.wr F.WCT_SWDT_REMAIN_US 0 with wct := { m.wct with swdtRun := true } })

/-- It has expired three times. -/
def swdtLastS : State := { swdtS with m := swdtS.m.wr F.WCT_STAT_RESTARTS 3 }

/-- Control instance 4 (page 100) is quiesced, and host queue 6 (page 70) is assigned. -/
def imgS : State := reg (fun m =>
  ((((((m.wr F.IMG_INST_STAT_QUIESCE 1 100).wr F.IMG_INST_STAT_QUIESCE_DONE 1 100).wr F.IMG_INST_CFG_ASSIGNED 1 70).wr
    F.IMG_ARG_PART 5).wr F.IMG_ARG_SHARE 9).wr F.IMG_ARG_WEIGHT 3).wr F.WCT_CFG_SEC_PART 1)

/-- Control instance 5 (page 101) has a command to execute. -/
def quietS : State := reg (fun m =>
  { m.wr F.IMG_INST_CFG_ASSIGNED 1 101 with chc := { m.chc with insts := [(5, { queue := [⟨1, 0, 0, 0, 0⟩] })] } })

/-- Control instance 5 has none. -/
def idleQS : State := reg (·.wr F.IMG_INST_CFG_ASSIGNED 1 101)

/-- The secure world has been READY for 60 s. -/
def readyS : State := reg (fun m => { m.wr F.WCT_STAT_SEC_STATE 1 with boot := { m.boot with us := 60000000 } })

/-- The wrap fence of page 70 is held. -/
def fenceS : State := reg (fun m => { m with inst := [(70, { fence := true })], boot := { m.boot with us := 100000 } })

/-- Staging words of a VLAN entry. -/
def swcS : State := reg (fun m => (m.wr F.SWC_TBL_DATA_DATA 0x30003 0).wr F.SWC_TBL_DATA_DATA 0xF 1)

/-- A dynamic forwarding entry, and staging words of its key. -/
def swcFwdS : State := reg (fun m =>
  { ((m.wr F.SWC_TBL_DATA_DATA 0x123456 0).wr F.SWC_TBL_DATA_DATA 0x50000 1).wr F.SWC_TBL_DATA_DATA 0x43 2 with
    swc := { m.swc with fwd := [(4 * fwdBucket 0x123456 5, [0x123456, 0x50000, 0x42])] } })

/-- Its age scan is due. -/
def ageS : State := { swcFwdS with m := { swcFwdS.m.wr F.SWC_AGING_EN 1 with boot := { swcFwdS.m.boot with us := 4000000000 } } }

/-- The first 64 bytes of a broadcast. -/
def bcast : List Byte := List.replicate 6 0xFF ++ [2, 0, 0, 0, 0, 9, 8, 0] ++ List.replicate 50 0

/-- The switch forwards; ports 3 to 5 are open. -/
def frameS : State := reg (fun m =>
  (((((m.wr F.SWC_CTRL_FWD_EN 1).wr F.SWC_PORT_STAT_LINK 1 4).wr F.SWC_PORT_STAT_LINK 1 5).wr F.SWC_PORT_A_EN 1 4).wr
    F.MAC_CTRL_RX_EN 1 4).wr F.MAC_CTRL_TX_EN 1 5)

/-- A broadcast that port 4 is receiving. -/
def rxF : SwFrame := { id := 0, inPort := 4, bytes := bcast, vid := 1, copies := [⟨5, 0, none, false, 0, false, false, false⟩] }

/-- Port 4 is receiving it. -/
def rxS : State := { frameS with m := { frameS.m with swc := { frameS.m.swc with frames := [rxF], nextId := 1 } } }

/-- A whole frame queued for port 5. -/
def txF : SwFrame := { rxF with ended := true, copies := [⟨5, 0, some 0, false, 0, false, false, false⟩] }

/-- Port 5 has it to send. -/
def queueS : State := { frameS with m := { frameS.m with swc := { frameS.m.swc with frames := [txF], nextId := 1 } } }

/-- The age check is due. -/
def queueAgeS : State := { queueS with m := { queueS.m with boot := { queueS.m.boot with us := 1000 } } }

/-- The copy that port 5 sends. -/
def sendC : Copy := ⟨5, 0, some 0, true, 0, false, false, false⟩

/-- Its frame. -/
def sendF : SwFrame := { rxF with ended := true, copies := [sendC] }

/-- Port 5 sends it. -/
def sendS : State := { frameS with m := { frameS.m with swc := { frameS.m.swc with frames := [sendF], nextId := 1 } } }

/-- A spore record is staged for the ring at the start of SRAM. -/
def sporeS : State := reg (fun m =>
  { ((m.wr F.SWC_CTRL_SPORE_EN 1).wr F.SWC_SPORE_BASE_ADDR 0x10000).wr F.SWC_SPORE_SIZE_LOG2 4 with
    swc := { m.swc with stage := [List.replicate 128 7] } })

/-- Stream 3 recovers sequences. -/
def streamS : State := reg (fun m =>
  { m with swc := { m.swc with streams := [(3, [0, 0x20000000, 0x20000])], recov := [(3, { inReset := false, recov := 5 })] } })

/-- Ports 1 and 2 receive, with PAUSE and PFC. -/
def macS : State := reg (fun m =>
  (((((m.wr F.SWC_PORT_STAT_LINK 1 1).wr F.SWC_PORT_STAT_LINK 1 2).wr F.MAC_CTRL_RX_EN 1 1).wr F.MAC_CTRL_FC_MODE 1 1).wr F.MAC_CTRL_RX_EN 1 2).wr F.MAC_CTRL_FC_MODE 2 2)

/-- Port 4 sends PFC, and XOFF holds for class 3. -/
def pauseS : State := reg (fun m =>
  (((m.wr F.MAC_CTRL_TX_EN 1 4).wr F.MAC_CTRL_FC_MODE 2 4).wr F.SWC_PORT_STAT_XOFF 8 4).wr F.SWC_PORT_STAT_LINK 1 4)

/-- Its last pause frame is a second old. -/
def pauseLateS : State := { pauseS with m := { pauseS.m with boot := { pauseS.m.boot with us := 1000000 } } }

/-- Class 2 of port 4 has been held for longer than its quanta and its watchdog allow. -/
def pauseHeldS : State := reg (fun m => { (m.wr F.MAC_PAUSE_WDT_MS 5 4).wr F.MAC_STAT_HELD 4 4 with
  mac := [(4, { hold := [(2, { ns := 5, start := some 0 })] })], boot := { m.boot with us := 1000000 } })

/-- The PHYs of ports 3 and 4 are enabled and SERPLL is locked. -/
def phyS : State := reg (fun m =>
  { (m.wr F.MAC_PHY_CTRL_EN 1 3).wr F.MAC_PHY_CTRL_EN 1 4 with sys := { m.sys with serLock := true } })

/-- A WAKE frame waits for the link of port 4. -/
def phyWakeS : State := { phyS with m := phyS.m.setSeg 17 (fun x => { x with wakeDue := true }) }

/-- The boot region holds an image with one PHY_FW entry. -/
def phyFwS : State := { phyS with m := { phyS.m with boot := { phyS.m.boot with region := true }
                                                     mem := (((phyS.m.mem.putBytes 0x800000028 [1]).putBytes 0x800000100
                                                       [0x11, 0, 0, 0, 0, 2, 0, 0, 48]).putBytes 0x800000200 [1]).putBytes
                                                       0x800000210 [1] } }

/-- Host queue 6 is assigned, in the secure world, with both rings enabled and one receive descriptor posted. -/
def hqS : State := reg (fun m =>
  (((((((m.wr F.IMG_INST_CFG_ASSIGNED 1 70).wr F.IMG_INST_SHARE_SHARE 8 70).putMapBit F.WCT_INST_WORLD_SECURE 70).wr
      F.HQ_RX_CFG_EN 1 6).wr F.HQ_RX_CFG_LOG2SZ 4 6).wr F.HQ_RX_BASE_ADDR 0x10001 6).wr F.HQ_RX_TAIL_IDX 1 6).wr
      F.HQ_TX_CFG_EN 1 6)

/-- A transmit frame of 64 bytes at the start of SRAM. -/
def txFr : TxFrame := { no := 0, descs := [(0, [0x10000000, 0, 0xC040])], len := 64 }

/-- Queue 6 has it to pass. -/
def txS : State := { hqS with m := hqS.m.setHq 6 (fun x => { x with frames := [txFr] }) }

/-- The same frame with launch time 0. -/
def launchFr : TxFrame := { no := 0, descs := [(0, [0x10000000, 0, 0x2C040])], len := 64 }

/-- Queue 6 has it to pass. -/
def launchS : State := { hqS with m := hqS.m.setHq 6 (fun x => { x with frames := [launchFr] }) }

/-- The time-stamp of frame 0 of queue 6 is due at port 4. -/
def tsS : State := { txS with m := { txS.m with swc := { txS.m.swc with tsDue := [(4, 6, 0, 1000)] } } }

/-- The copy that P15 sends. -/
def rxHqC : Copy := ⟨15, 0, some 0, true, 0, false, false, false⟩

/-- Its frame, for queue 6. -/
def rxHqF : SwFrame := { rxF with ended := true, hq := some 6, copies := [rxHqC] }

/-- P15 sends it, and queue 6 has a descriptor of 1536 bytes. -/
def rxHqS : State :=
  { hqS with m := { hqS.m.setHq 6 (fun x => { x with rx := [(0, [0x10000000, 0, 1536])], rxNext := 1 }) with
    swc := { hqS.m.swc with frames := [rxHqF], nextId := 1 } } }

/-- A frame of queue 6 is parked. -/
def parkR : RxFrame := { id := 0, data := [] }

/-- Queue 6 holds it. -/
def parkS : State := { hqS with m := hqS.m.setHq 6 (fun x => { x with park := some parkR }) }

/-- It has been parked for 1 ms. -/
def stallS : State := { parkS with m := parkS.m.wr F.HQ_STAT_STALL_US 1000 6 }

/-- An event input holds one capture. -/
def eviS : State := reg (fun m => { m with tmu := { m.tmu with evi := [(1, [⟨77, true⟩])] } })

/-- Controller 2 is on the bus; object 4 receives identifier 0x10 and object 5 transmits; both XL rings are enabled. -/
def canS : State := reg (fun m =>
  (((((((((m.wr F.CAN_CTRL_MODE 1 2).wr F.CAN_STAT_STATE 0 2).wr F.CAN_STAT_SYNCED 1 2).wr F.CAN_OBJ_CFG_EN 1 2 4).wr
    F.CAN_OBJ_CFG_EN 1 2 5).wr F.CAN_OBJ_CFG_DIR 1 2 5).wr F.CAN_OBJ_ID_ID (0x10 * 2 ^ 18) 2 4).wr
    F.CAN_OBJ_MASK_MASK 0x1FFFFFFF 2 4).wr F.CAN_XTX_CFG_EN 1 2).wr F.CAN_XRX_CFG_EN 1 2)

/-- Object 4 is open. -/
def canOpenS : State := { canS with m := canS.m.wr F.CAN_OBJ_STAT_OPEN 1 2 4 }

/-- Its shadow buffer is full. -/
def canShadowS : State := { canS with m := (canOpenS.m.wr F.CAN_OBJ_STAT_SHADOW_FULL 1 2 4).setCan 2 (fun x =>
  { x with shadow := [(4, { f := ⟨0x40000, false, false, false, false, false, 2, [1, 2]⟩ })] }) }

/-- Object 5 has a request. -/
def canPendS : State := { canS with m := canS.m.wr F.CAN_OBJ_STAT_TX_PENDING 1 2 5 }

/-- It is being sent. -/
def canTryS : State := { canPendS with m := canPendS.m.setCan 2 (fun x => { x with attempt := some (some 5) }) }

/-- Controller 2 is in bus-off, and controller 3 is about to be. -/
def canOffS : State := { canS with m := ((canS.m.wr F.CAN_CTRL_AUTO_RECOV 0 2).setCan 2 (fun x => { x with busOff := true })).setCan 3 (fun x =>
  { x with busOffDue := true }) }

/-- An XL descriptor of 8 bytes, posted in both rings, and a filter that admits everything. -/
def xlS : State :=
  let m := (((canS.m.wr F.CAN_XTX_BASE_ADDR 0x10001 2).wr F.CAN_XTX_TAIL_IDX 1 2).wr F.CAN_CTRL_XL_EN 1 2).wr F.CAN_XFLT_A_EN 1 2 0
  let m := ((m.wr F.CAN_XRX_CFG_LOG2SZ 4 2).wr F.CAN_XRX_TAIL_IDX 1 2).wr F.CAN_XRX_BASE_ADDR 0x10002 2
  { canS with m := { m with
    mem := m.mem.putBytes 0x10001000 (([0x10000100, 0, 0, 0, 8, 0, 0, 0] : List Nat).flatMap (toBytes 4)) } }

/-- An XL frame is held, and its receive descriptor is posted. -/
def xlHeldS : State := { xlS with m := { xlS.m.setCan 2 (fun x => { x with held := [⟨{ prio := 5, data := [9, 8, 7] }, 0, 0⟩] }) with
  mem := xlS.m.mem.putBytes 0x10002000 (([0x10000100, 0, 64, 0, 8, 0, 0, 0] : List Nat).flatMap (toBytes 4)) } }

/-- Segment 14 is awake and may rest, 15 sleeps, and 16 waits for its proposal. -/
def npmS : State := reg (fun m =>
  ((((((((m.wr F.NPM_SEG_CFG_EN 1 14).wr F.NPM_SEG_CFG_AUTO 1 14).wr F.NPM_SEG_CFG_IDLE_S 0 14).wr F.NPM_SEG_STAT_STATE 2 15).wr
    F.NPM_ASLEEP_SEGS 0x8000).wr F.NPM_SEG_STAT_STATE 1 16).wr F.NPM_WAKE_IN_EN 1 1).wr F.NPM_WAKE_IN_SEGS 0x8000 1))

/-- Segment 17 is in GRACE. -/
def graceS : State := { npmS with m := (npmS.m.wr F.NPM_SEG_STAT_STATE 1 17).wr F.NPM_SEG_STAT_PHASE 1 17 }

/-- Segments 16 to 19 have waited for a second. -/
def waitS : State := { graceS with m := { (graceS.m.wr F.NPM_SEG_STAT_STATE 1 18).wr F.NPM_SEG_STAT_STATE 3 19 with
  npm := { graceS.m.npm with segs := [(16, { ms := 1000, sent := true }), (17, { ms := 1000, sent := true }),
    (18, { ms := 1000 }), (19, { ms := 100000 })] } } }

/-- CPI3 is assigned with a share of 8, and has a completion. -/
def cpiS : State := reg (fun m =>
  { (m.wr F.IMG_INST_SHARE_SHARE 8 3).wr F.IMG_INST_CFG_ASSIGNED 1 3 with
    cpe := { m.cpe with insts := [(3, { fifo := [⟨7, 0, 8, 0, 32, 0⟩] })] } })

/-- A job of CPI3 whose descriptor stands at 0x10001000. -/
def cpeJob : CpeJob := { inst := 3, tag := 5, addr := 0x10001000, world := true, part := 0 }

/-- CPI3 has used its share. -/
def cpiFullS : State := reg (fun m =>
  { (m.wr F.IMG_INST_SHARE_SHARE 1 3).wr F.IMG_INST_CFG_ASSIGNED 1 3 with
    cpe := { m.cpe with insts := [(3, { queue := [cpeJob] })] } })

/-- The descriptor of a SHA-256 over four bytes at 0x10002000, to 0x10003000. -/
def hashDesc : List Byte := ([8, 4, 0x10002000, 0, 0x10003000, 0] ++ List.replicate 10 0 : List Nat).flatMap (toBytes 4)

/-- One of no mode. -/
def badDesc : List Byte := ([7, 4, 0x10002000, 0, 0x10003000, 0] ++ List.replicate 10 0 : List Nat).flatMap (toBytes 4)

/-- CPI3 has a job with the descriptor `d`. -/
def jobS (d : List Byte) : State := { cpiS with m := { cpiS.m with
  mem := cpiS.m.mem.putBytes 0x10001000 d
  cpe := { cpiS.m.cpe with insts := [(3, { queue := [cpeJob] })] } } }

def cpeJobS : State := jobS hashDesc

def cpeBadS : State := jobS badDesc

/-- The hash runs. -/
def hashRun : CpeRun := ⟨[4], { cpeJob with w := Module.words hashDesc }⟩

/-- Jobs run. -/
def running (l : List CpeRun) : State := { cpiS with m := { cpiS.m with cpe := { cpiS.m.cpe with runs := l } } }

def cpeRunS : State := running [hashRun]

/-- A held GCM decryption of 16 bytes with 4 bytes of associated data. -/
def gcmJob : CpeJob := { cpeJob with cls := 1, w := [0x10010, 16, 0x10002000, 0, 0x10003000, 0, 0x10004000, 0, 0x10000004, 0, 0, 0, 0, 0, 0x10005000, 0] }

def gcmRun : CpeRun := ⟨[1], gcmJob⟩

def gcmRun0 : CpeRun := ⟨[0], gcmJob⟩

def cpeGcmS : State := running [gcmRun]

def cpeFenceS : State := running [gcmRun0]

def staleRun : CpeRun := ⟨[4], { cpeJob with w := Module.words hashDesc, stale := true }⟩

def cpeStaleS : State := running [staleRun]

/-- A streamed job whose tag failed. -/
def zeroJ : CpeJob := { gcmJob with cls := 2, qr := some 2 }

def zeroZ : CpeZero := ⟨2, some (zeroJ, 8)⟩

def cpeZeroS : State := { cpiS with m := { (((cpiS.m.wr F.FAB_QR_BASE_ADDR 0x100030 2).wr F.FAB_QR_LEN_LEN 4 2).wr
  F.FAB_QR_CTRL_ACTIVE 1 2) with cpe := { cpiS.m.cpe with zero := [zeroZ] } } }

/-- Agent 9 holds the lock, and slot 7 holds a 256-bit key that may wrap and derive. -/
def kstS : State := reg (fun m =>
  { ((((m.wr F.KST_LOCK_STAT_HOLDER 9).wr F.KST_SLOT_ATTR_VALID 1 7).wr F.KST_SLOT_ATTR_KSIZE 1 7).wr F.KST_SLOT_ATTR_USAGE 0x3F 7).wr
      F.KST_PARAM_DATA 24 0 with kst := { keys := [(7, List.replicate 32 1)] } })

/-- The same in FIELD. -/
def kstFieldS : State := { kstS with m := kstS.m.wr F.SYSCTL_LC_STATE_STATE 2 }

/-- The same with a job that uses slot 7. -/
def kstUseS : State := { kstS with m := { kstS.m with
  cpe := { kstS.m.cpe with runs := [⟨[0], { gcmJob with w := 0x10710 :: gcmJob.w.tail }⟩] } } }

/-- A DUPLEX record: both uplinks, CAN on controller 1, no snapshot region. -/
def duplexWords : List Nat := [0x315, 0x1234, 0xA03E8, 0x20FA0, 0x5000001, 0x10200, 0x100] ++ List.replicate 69 0

/-- The boot region holds an image with that DUPLEX record. -/
def dupS : State := reg (fun m => { m with boot := { m.boot with region := true }
                                           mem := ((m.mem.putBytes 0x800000028 [1]).putBytes 0x800000100
                                             [0x10, 0, 0, 0, 0, 2, 0, 0, 48, 1]).putBytes 0x800000200
                                             (duplexWords.flatMap (toBytes 4)) })

/-- A frame's head from unit 1 in role `r`. -/
def peer (r : Nat) : DuplexHead := { unit := 1, role := r, pairId := 0x1234 }

/-- A unit of a duplex in role `r`, whose peer is heard on path 0 as STANDBY_READY. -/
def dpxS (r : Nat) : State := reg (fun m =>
  { ((((((((m.wr F.DPX_STATE_ROLE r).wr F.DPX_PAIR_ID_ID 0x1234).wr F.DPX_CFG_EN 1).wr F.DPX_STATE_DRIVE (if r = 2 ∨ r = 3 ∨ r = 6 then 1 else 0)).wr
    F.DPX_PATH_HEARD 1 0).wr F.DPX_STATE_PEER_ROLE 5).wr F.DPX_SUP_CFG_SUP_WDT_US 4000).wr F.DPX_CFG_UPLINKS 3).wr F.SWC_PORT_STAT_LINK 1 2 with
    dpx := { m.dpx with ready := true, step9 := decide (r ≠ 1), phaseUs := 1 }
    boot := { m.boot with us := 20000000, chanDone := true } })

/-- A LISTEN unit that hears an ACTIVE peer. -/
def heardActiveS : State := { dpxS 1 with m := (dpxS 1).m.wr F.DPX_STATE_PEER_ROLE 2 }

/-- A ready unit whose paths have been silent for 400 µs and more. -/
def agedS : State := { dpxS 5 with m := (((dpxS 5).m.wr F.DPX_PATH_AGE_US 400 0).wr F.DPX_PATH_AGE_US 401 1).wr F.DPX_PATH_AGE_US 402 2 }

/-- Path 0 has been silent for 10 ms. -/
def silentS : State := { dpxS 5 with m := (dpxS 5).m.wr F.DPX_PATH_AGE_US 10000 0 }

/-- The same as unit 1, with step 9 begun. -/
def unit1 (s : State) : State := { s with m := { s.m.wr F.SYSCTL_ID_UNIT 1 with dpx := { s.m.dpx with step9 := true } } }

/-- The same with no path heard. -/
def unheard (s : State) : State := { s with m := s.m.wr F.DPX_PATH_HEARD 0 0 }

/-- A handover is under way. -/
def hoS (h : Handover) : State := { dpxS 6 with m := { (dpxS 6).m with dpx := { (dpxS 6).m.dpx with ho := some h } } }

/-- The third kind of evidence has held for `n` sweeps. -/
def hemS (n : Nat) : State := { dpxS 2 with m := { (dpxS 2).m with dpx := { (dpxS 2).m.dpx with hemRun := n } } }

/-- A fit standby unit 0 that may ask for the driving role back. -/
def fitS : State := { dpxS 5 with m := { (((((dpxS 5).m.wr F.DPX_CFG_REVERT_EN 1).wr F.DPX_FIT_PEER 0x1FFF).wr F.HST_SUP_STAT_VS_UV 0).wr
  F.CHC_STAT_RUN 1).wr F.HST_SUP_STAT_VAUX_STATE 0 with
    dpx := { (dpxS 5).m.dpx with supOk := true, mirrored := true, gapOk := true } } }

/-- Path 0 is lost. -/
def lostS : State := { dpxS 5 with m := { ((dpxS 5).m.wr F.DPX_PATH_LOST 1 0).wr F.DPX_PATH_AGE_US 0 0 with dpx := { (dpxS 5).m.dpx with pathRun := [(0, 1)] } } }

/-- COLLAR_IN is asserted on an ACTIVE unit. -/
def collarS : State := { dpxS 2 with m := (dpxS 2).m.wr F.DPX_STATE_COLLAR_IN 1 }

/-- The peer says that it drives the collar line, and COLLAR_IN reads released. -/
def heldS : State := { dpxS 4 with m := { (dpxS 4).m with dpx := { (dpxS 4).m.dpx with peerHeld := true } } }

/-- Region 3 of the snapshot is ready. -/
def snapS : State := { dpxS 2 with m := ((dpxS 2).m.wr F.DPX_SNAP_READY_REGIONS 8).wr F.DPX_SNAP_STAT_BUSY 1 }

/-- Channel 3 of a standby unit is mirrored ON. -/
def pulseS : State := { dpxS 4 with m := { (dpxS 4).m.wr F.HST_SUP_STAT_VS_UV 0 with
  chc := { (dpxS 4).m.chc with chans := [(3, { ctrl := 16 })] }
  dpx := { (dpxS 4).m.dpx with peerCmd := [(3, 1)], peerCond := 8, steady := [(3, 1)] } } }

/-- Its test pulse runs, and the one before failed. -/
def pulsingS : State := { pulseS with m := { pulseS.m with
  chc := { pulseS.m.chc with chans := [(3, { ctrl := 16, phase := .on, pulse := true })] }
  dpx := { pulseS.m.dpx with pulseRun := [(3, 1)] } } }

/-- Its test pulse runs, and the channel carries its current. -/
def pulsedS : State := { pulseS with m := { pulseS.m with
  chc := { pulseS.m.chc with chans := [(3, { ctrl := 16, phase := .on, pulse := true, carried := true, onAt := 5 })] }
  dpx := { pulseS.m.dpx with pulseRun := [(3, 1)], pulseFrom := [(3, 1)] } } }

/-- Partition 2 runs on pair 1 of a standby unit, and pair 3 is SPARE. -/
def rotateS : State := { dpxS 4 with m := { (((((dpxS 4).m.wr F.LSS_PART_STATE 1 2).wr F.LSS_PART_PAIR 1 2).wr F.LSS_PAIR_STAT_STATE 3 1).wr
  F.LSS_PAIR_STAT_STATE 2 3).wr F.LSS_PAIR_STAT_PART 2 1 with dpx := { (dpxS 4).m.dpx with rotated := 1 } } }

/-- The registers of block `b` are admitted by one region, with the firewall in force. -/
def opened (b : Nat) (s : State) : State := { s with m := ((((s.m.wr F.FAB_CTRL_ENFORCE 1).wr F.FAB_RGN_KEY_KEY 0x3F0000 b 0).wr
  F.FAB_RGN_BASE_BASE 0x20000 b 0).wr F.FAB_RGN_LIMIT_LIMIT 0x30000 b 0).wr F.FAB_RGN_PART_MASK 0xFFFF b 0 }

/-- The bridge is enabled, and its link is UP with sessions 8 and 9. -/
def bridgeS : State := { dpxS 2 with m := ((((dpxS 2).m.wr F.PBR_CTRL_EN 1).wr F.PBR_STAT_LINK 1).wr F.PBR_SESSION_OWN 8).wr F.PBR_SESSION_PEER 9 }

/-- The same with its link DOWN. -/
def downS : State := { bridgeS with m := bridgeS.m.wr F.PBR_STAT_LINK 0 }

/-- The HELLO that brings it UP. -/
def helloM : BridgeMsg := { kind := 0x10, session := 9, data := netBytes 4 0x1234 ++ netBytes 2 8 ++ [0, 0] }

def blockedS : State := { bridgeS with m := bridgeS.m.wr F.PBR_STAT_BLOCKED 1 }

/-- The link is UP with the bridge's own part changed. -/
def bridgeWith (f : PbrSt → PbrSt) : State := { bridgeS with m := { bridgeS.m with pbr := f bridgeS.m.pbr } }

/-- One message is unacknowledged. -/
def unackedS : State := bridgeWith (fun p => { p with unacked := [{ msg := { kind := 0x13, seq := 1, tag := 3 } }], nextSeq := 2 })

/-- That message has been sent eight times. -/
def lateS : State := bridgeWith (fun p => { p with unacked := [{ msg := { kind := 0x13, seq := 1, tag := 3 }, sends := 8 }] })

/-- 32 requests are outstanding, and the head of the channel is one more. -/
def fullS : State := bridgeWith (fun p =>
  { p with queue := [{ kind := 0x13, tag := 40 }], headUs := 1
           reqs := (List.range 32).map (fun t => { tag := t, kind := 0x13, acc := core, addr := 0, size := 4, base := 0, sent := true }) })

/-- A request stands in the retry queue. -/
def retractS : State := { bridgeWith (fun p => { p with retry := [{ kind := 0x13, tag := 4 }] }) with
  m := (bridgeWith (fun p => { p with retry := [{ kind := 0x13, tag := 4 }] })).m.wr F.PBR_STAT_RETRACTED 1 }

/-- A word is held. -/
def holdS : State := bridgeWith (fun p => { p with holding := [⟨0x20100000, [1, 2, 3, 4], 0⟩] })

/-- Window 2 covers the first 4 KB of the pair bridge window. -/
def windowS : State := { bridgeS with m := (((((bridgeS.m.wr F.PBR_WIN_A_EN 1 2).wr F.PBR_WIN_A_SIZE_LOG2 12 2).wr F.PBR_WIN_A_READ 1 2).wr
  F.PBR_WIN_A_WRITE 1 2).wr F.PBR_WIN_B_PEER_BASE 0x10000 2) }

/-- The same with prefetch, and the granule of its second 256 bytes in the buffer. -/
def granuleS : State := { windowS with m := { windowS.m.wr F.PBR_WIN_A_PREFETCH 1 2 with pbr := { windowS.m.pbr with
  prefetch := [{ addr := 0x10000100, data := (List.range 64).map (BitVec.ofNat 8 ·), good := 0xFFFF, keptUs := 20000000 }] } } }

/-- A request of kind `k` waits under tag 3. -/
def waitingQ (k : Nat) : BridgeReq := { tag := 3, kind := k, acc := core, addr := 0x30000104, size := 4, base := 0x10000104, sent := true }

def waitingS (k : Nat) : State := bridgeWith (fun p => { p with reqs := [waitingQ k] })

/-- Entry IN1 admits every access to the first 4 KB of SRAM. -/
def inS : State := { bridgeS with m := { ((((((((bridgeS.m.wr F.PBR_IN_KEY_EN 1 1).wr F.PBR_IN_BASE_BASE 0x10000 1).wr F.PBR_IN_LIMIT_LIMIT 0x10000 1).wr
  F.PBR_IN_KEY_PARTS 0xFFFF 1).wr F.PBR_IN_KEY_NORMAL 1 1).wr F.PBR_IN_KEY_R 1 1).wr F.PBR_IN_KEY_W 1 1).wr F.PBR_IN_KEY_A 1 1) with
    mem := bridgeS.m.mem.putBytes 0x10000100 [1, 2, 3, 4] } }

/-- The attributes of what it admits. -/
def inA : Access := { ini := 0x23, world := false, part := 0 }

/-- A request of the peer's for four bytes there. -/
def inM (k : Nat) : BridgeMsg := { kind := k, session := 9, seq := 1, tag := 5, addr := 0x10000100, len := 4, firstBe := 15, lastBe := 15 }

/-- The peer holds a semaphore there. -/
def inSemS : State := { inS with m := { inS.m with pbr := { inS.m.pbr with sems := [⟨2, .other 0 false, 0x10000100 / 64, 0⟩] } } }

/-- An inbound read is under execution. -/
def doneS : State := bridgeWith (fun p => { p with inq := [{ msg := inM 0x11, answer := Module.answerOf (inM 0x11) 0 [1, 2, 3, 4] }] })

/-- A deferred read of the peer has popped a completion. -/
def effS : State := bridgeWith (fun p => { p with effects := [{ cid := 4, ini := 0, addr := 0x40063010, effect := .chi 3 ⟨7, 0, 1, 9, 0, 12⟩ 1 2 3 }] })

/-- Window 16 of the mailbox holds the arguments `g` of operation `op`. -/
def mbxS (_op : Nat) (g : List Nat) : State := reg (fun m => (m.wr F.MBX_ARG_ARG (g.getD 0 0) 16 0).wr F.MBX_ARG_ARG (g.getD 1 0) 16 1 |>.wr
  F.MBX_ARG_ARG (g.getD 2 0) 16 2)

/-- Slot 0x22 holds a handle of operation `op` in state `st`, which ARG0 of window 16 names. -/
def slotS (x : Slot) : State := reg (fun m =>
  { m.wr F.MBX_ARG_ARG 0x122 16 0 with mbx := { m.mbx with slots := [(0x22, x)], next := 5 } })

def handleS (st op : Nat) : State :=
  slotS { gen := 1, state := st, owner := 16, op := op, session := 6, args := [0x7F], lane := decide (st = 1) }

def suspendS : State := slotS { gen := 1, state := 1, owner := 16, op := 0x13, session := 6, lane := true, suspends := [9] }

def endedS : State := slotS { gen := 1, state := 1, owner := 16, op := 0x13, session := 6, lane := true, ended := some 0 }

def cancelS : State := slotS { gen := 1, state := 3, owner := 16, op := 0x14, session := 6, lane := true, cancels := [9] }

/-- Window 16 has a completion. -/
def fifoS : State := reg (fun m => { m with mbx := { m.mbx with fifos := [(16, [⟨9, 0, 1, 0x122, 0, 5, 7⟩])] } })

/-- A STAGE_BUNDLE runs, and receives the 8 chunks of its manifest. -/
def stagingS : State := { slotS { gen := 1, state := 1, owner := 16, op := 0x10, session := 6, lane := true } with
  m := { ((slotS { gen := 1, state := 1, owner := 16, op := 0x10, session := 6, lane := true }).m.setBank 1
    (fun b => b.program 0x7FEE030 (toBytes 4 8))) with nvc := { stg := 1 } } }

/-- Chunk 3 is in progress. -/
def chunkS : State := { stagingS with m := { stagingS.m with nvc := { stg := 1, chunk := some (3, 0x10010000) } } }

/-- Every chunk is staged, and the image is being checked. -/
def checkS : State := { stagingS with m := { stagingS.m with nvc := { stg := 3 } } }

/-- Partition 2 is to hand over. -/
def hoReadyS : State := opened 0x15 { rotateS with m := { (rotateS.m.wr F.NVC_HO_REQ_PARTS 4).wr F.WCT_CFG_HOST_PART 2 with
  nvc := { act := some ⟨0, .handover 2 3⟩, phase := 1 } } }

/-- Component 4 is on probation. -/
def probS : State := reg (fun m => { m with nvc := { phase := 2, done := [⟨4, 1⟩] } })

/-- The manifest's component 4 is partition 0, which has stopped. -/
def probFailS : State := reg (fun m =>
  { ((m.wr F.LSS_PART_STATE 3 0).setBank 1 (fun b => (b.program 0x6000020 [0x40, 0, 0, 0]).program 0x60000C0 [1, 0, 0, 0])) with nvc := { phase := 2, done := [⟨4, 5⟩] } })

/-- Reports go to SRAM. -/
def reportS : State := reg (fun m => ((m.wr F.HST_CTRL_LR_EN 1).wr F.HST_LR_BASE_ADDR 0x10010).wr F.HST_LR_SIZE_LOG2 4)

/-- Reports go nowhere. -/
def reportBadS : State := reg (fun m => (m.wr F.HST_CTRL_LR_EN 1).wr F.HST_LR_BASE_ADDR 0xF0000)

/-- A seal is asked for. -/
def sealS : State := reg (fun m => (m.wr F.HST_SEAL_STAT_PEND 1).wr F.HST_SEAL_REQ_FIRST_SEQ 200)

/-- TMU follows PPS_IN, with the time of day of the next second given. -/
def ppsS : State := reg (fun m => { ((((m.wr F.TMU_CTRL_SERVO_EN 1).wr F.TMU_CTRL_SRC 1).wr F.TMU_TOD_VALID 1).wr F.TMU_TOD_SEC_LO_SEC 1) with
  tmu := { m.tmu with t := 1000000100 * 2 ^ 32 } })

/-- A core's access that is speculative. -/
def specCore : Access := { ini := core.ini, world := core.world, part := core.part, spec := true }

/-- An XL frame waits at the head of the transmit ring. -/
def xlHd : XlHead := { idx := 0, words := [0x10000100, 0, 0, 0, 8, 0, 0, 0], data := [1, 2, 3, 4, 5, 6, 7, 8] }

/-- The state with that head. -/
def xlHeadS : State := { xlS with m := xlS.m.setCan 2 (fun x => { x with head := some xlHd }) }

/-- The proposal of segment 16 and the commit of segment 17 have left through their CAN object or port. -/
def framedS : State := { graceS with m := { graceS.m with npm := { graceS.m.npm with
  segs := [(16, { framed := true }), (17, { framed := true })] } } }

/-- The lock of KST has been held for 1 ms. -/
def kstLongS : State := { kstS with m := kstS.m.wr F.KST_LOCK_STAT_HELD_US 1000 }

/-- A tenant's access that is speculative. -/
def specTenant : Access := { ini := tenant.ini, world := tenant.world, part := tenant.part, spec := true }

/-- No detector has been active for 200 µs. -/
def glitchOverS : State := { kstUseS with m := { kstUseS.m with boot := { kstUseS.m.boot with us := 200 } } }

/-- A handle that became final 60 s ago. -/
def expiredS : State := { handleS 4 0x13 with m := { (handleS 4 0x13).m with boot := { (handleS 4 0x13).m.boot with us := 60000000 } } }

/-- The report that ends a hundred. -/
def reportSealS : State := { reportS with m := (reportS.m.wr F.HST_LR_SEQ_SEQ 299).wr F.WCT_STAT_SEC_STATE 1 }

/-- A seal was asked for 1 s ago. -/
def sealOldS : State := { sealS with m := { sealS.m with boot := { sealS.m.boot with us := 1000000 } } }

/-! ### Ill-formed commands, one for each check of `Instr.wf`, and well-formed ones beside them -/

/-- An initiator that is not issued, and a partition of five bits. -/
theorem test_wf_access :
    [({ ini := 4, world := true, part := 0 } : Access).wf, ({ ini := 0, world := true, part := 16 } : Access).wf, core.wf]
      = [false, false, true] := by decide

/-- An address of 41 bits, an access of three bytes, a value wider than it, an offset of 33 bits, a register of 65 bits. -/
theorem test_wf_register :
    [(Instr.registerWrite core (2 ^ 40) 4 0 none).wf, (Instr.registerWrite core 0x20000000 3 0 none).wf,
      (Instr.registerWrite core 0x20000000 4 (2 ^ 32) none).wf, (Instr.registerWrite core 0x20000000 4 0 (some (2 ^ 32))).wf,
      (Instr.countClearRead core 0x20300600 (some (2 ^ 64))).wf, (Instr.registerWrite core 0x20000000 4 5 (some 8)).wf]
      = [false, false, false, false, false, true] := by decide

/-- Bytes beyond SRAM, an empty access, a line beyond DRAM, an upset outside the memory, a mask of 33 bits. -/
theorem test_wf_memory :
    [(Instr.guardedRead core .data 0 0x10FFFFFF 2 []).wf, (Instr.guardedWrite core 0 0x10000000 [] []).wf,
      (Instr.l2Eviction 0x9000000).wf, (Instr.guardedRead core .data 0 0x10000000 4 [.word 0x20000000 1 false]).wf,
      (Instr.guardedRead core .data 0 0x10000000 4 [.seam 0x10000000 (2 ^ 32) false]).wf,
      (Instr.guardedRead core .data 0 0x10000000 4 [.word 0x10000000 1 false]).wf] = [false, false, false, false, false, true] := by
  decide

/-- A slot named twice, a measured value of 17 bits, three supplies of four, a temperature beyond 16 bits. -/
theorem test_wf_supply :
    [(Instr.holdupFlushDone [3, 3]).wf, (Instr.holdupCapMeasureDone 65536).wf, (Instr.voltageUpdate 0 0 [0, 0, 0]).wf,
      (Instr.tempConversion 32768 0 [0, 0, 0, 0]).wf, (Instr.reverseSwitchTestEnd 0 65536).wf,
      (Instr.tempConversion 0 0 [0, 0, 0, -32768]).wf]
      = [false, false, false, false, false, true] := by decide

/-- A frame head of 65 bytes, a status of nine bits, one pause quantum of eight, a failed address of 41 bits. -/
theorem test_wf_network :
    [(Instr.frameParse 0 (List.replicate 65 0) 0 none).wf, (Instr.sporeFail 256).wf, (Instr.pfcReceive 0 0 [0]).wf,
      (Instr.dmaError 0 true (2 ^ 40) 0).wf, (Instr.frameParse 0 [0] 0 none).wf]
      = [false, false, false, false, true] := by decide

/-- CAN and CAN XL frames and error kinds beyond their fields. -/
theorem test_wf_can :
    [({ id := 2 ^ 29 } : CanFrame).wf, ({ id := 0, dlc := 16 } : CanFrame).wf, ({ prio := 0 } : XlFrame).wf,
      (CanEnd.error 7 false false).wf, (Instr.canRxError 0 0 false false).wf, (CanEnd.error 1 false false).wf]
      = [false, false, false, false, false, true] := by decide

/-- A context of 32 registers, a sample beyond the ADC, a checkpoint of no words, a failed store beyond the address space, an
input sampled twice in a frame. -/
theorem test_wf_cores :
    [({ x := List.replicate 32 0 } : CoreCtx).wf, (SlotSample.supply 0 65536).wf,
      ({ pair := 0, sigA := [], sigB := [], cpA := [], cpB := [] } : WindowEnd).wf, (Instr.committedWriteError 0 (2 ^ 40) 0).wf,
      (Instr.uinFrame [{ n := 1, x := 0 }, { n := 1, x := 0 }]).wf, ({} : CoreCtx).wf] = [false, false, false, false, false, true] := by
  decide

/-- Heads, heartbeats, mirrors, sweeps and cycles beyond their fields. -/
theorem test_wf_duplex :
    [({ unit := 2, role := 0 } : DuplexHead).wf, ({ head := peer 2, fit := 65536 } : Heartbeat).wf,
      ({ head := peer 2, sweep := 2 ^ 32 } : Mirror).wf, (Instr.snapDone (2 ^ 32)).wf, (Instr.handoverOffer 0 (peer 2) (2 ^ 32)).wf,
      (Instr.snapDone 5).wf] = [false, false, false, false, false, true] := by decide

/-- A bridge message of another KIND or beyond its fields, granules and words not aligned, an empty access, a core named
twice. -/
theorem test_wf_pair :
    [({ tag := 256 } : BridgeMsg).wf, (Instr.readData { kind := 0x14 }).wf, (Instr.prefetchExpiry 65).wf, (Instr.prefetchLoss 66).wf,
      (Instr.windowRead core 0x30000000 0).wf, (Instr.jobDispatch 0 1 [1]).wf, (Instr.readData { kind := 0x12 }).wf]
      = [false, false, false, false, false, false, true] := by decide

/-! ### Small runs; the expected results are the manual's -/

/-- The table gives its rows no bits: no word spells a command. -/
theorem test_no_word : decodeTableWord 32 0x12345678 = none ∧ State.reset.withFetchWord 32 7 = State.reset := by decide

/-- The check value of CRC-32 of IEEE 802.3 over the digits 1 to 9 (R140). -/
theorem test_crc : crc32 [0x31, 0x32, 0x33, 0x34, 0x35, 0x36, 0x37, 0x38, 0x39] = 0xCBF43926 := by decide

/-- The state fuses are read by majority, bit by bit (R159): one copy that differs does not change the state. -/
theorem test_majority : ({ lc0 := 3, lc1 := 1, lc2 := 3 } : Otp).lcState = 2 ∧ ({ lc0 := 3, lc1 := 1, lc2 := 1 } : Otp).lcState = 1 := by
  decide

/-- An offset at which no register is listed is refused, UNMAPPED (R32). -/
theorem test_unmapped :
    (match exec (.registerWrite core 0x20FFFFFC 4 0 none) idleS with
      | .next t => t.m.resp.status
      | _ => 0) = 0x10 := by decide

/-- A normal-world core is refused before ENFORCE (R384): DENIED. -/
theorem test_early_refusal :
    (match exec (.scrubRequest tenant 1) idleS with
      | .next t => t.m.resp.status
      | _ => 0) = 2 := by decide

/-- An empty queue: one µs of LSS_MTIME (R328). -/
theorem test_idle : (match step runS with | .next t => t.m.rd F.LSS_MTIME_US | _ => 0) = 1 := by decide

/-- The hypotheses of SoftResetRequest can be met: one state and operands for each clause. -/
theorem witness_SoftResetRequest :
    (let s : State := idleS; let a : Access := core; let v : Word := 0xA5C30001; (s.admitsWrite a 0x20000060) ∧ (a.world = true ∧ v.toNat.testBit 0 = true ∧ v.toNat / 2 ^ 16 = 0xA5C3))
    ∧ (let s : State := idleS; let a : Access := core; let v : Word := 0xA5C40001; (s.admitsWrite a 0x20000060) ∧ (a.world = false ∨ v.toNat.testBit 0 = false ∨ v.toNat / 2 ^ 16 ≠ 0xA5C3)) := by
  refine ⟨?_, ?_⟩ <;> decide

/-- The hypotheses of OneRequestAtATime can be met: one state and operands for each clause. -/
theorem witness_OneRequestAtATime :
    (let s : State := reg (fun m => { m with sys := { m.sys with blkRst := some 6 } }); let a : Access := core; (s.admitsWrite a 0x20000064) ∧ (s.m.sys.blkRst ≠ none))
    ∧ (let s : State := reg (fun m => { m with sys := { m.sys with partRst := some 6 } }); let a : Access := core; (s.admitsWrite a 0x20000068) ∧ (s.m.sys.partRst ≠ none))
    ∧ (let s : State := reg (·.raise F.SYSCTL_GATE_STAT_S_PEND); let a : Access := core; (s.admitsWrite a 0x20000040) ∧ ((if a.world then s.m.flag F.SYSCTL_GATE_STAT_S_PEND else s.m.flag F.SYSCTL_GATE_STAT_N_PEND) = true))
    ∧ (let s : State := reg (·.raise F.SYSCTL_GATE_STAT_S_PEND); let a : Access := core; (s.admitsWrite a 0x20000040) ∧ ((if a.world then s.m.flag F.SYSCTL_GATE_STAT_S_PEND else s.m.flag F.SYSCTL_GATE_STAT_N_PEND) = true))
    ∧ (let s : State := reg (·.raise F.SYSCTL_GATE_STAT_S_PEND); let a : Access := core; (s.admitsWrite a 0x20000040) ∧ ((if a.world then s.m.flag F.SYSCTL_GATE_STAT_S_PEND else s.m.flag F.SYSCTL_GATE_STAT_N_PEND) = true))
    ∧ (let s : State := reg (·.raise F.SYSCTL_GATE_STAT_S_PEND); let a : Access := core; (s.admitsWrite a 0x20000040) ∧ ((if a.world then s.m.flag F.SYSCTL_GATE_STAT_S_PEND else s.m.flag F.SYSCTL_GATE_STAT_N_PEND) = true)) := by
  refine ⟨?_, ?_, ?_, ?_, ?_, ?_⟩ <;> decide

/-- The hypotheses of RegisterWriteFollowsAccessCode can be met: one state and operands for each clause. -/
theorem witness_RegisterWriteFollowsAccessCode :
    (let s : State := idleS; let a : Access := core; let v : Nat := 0x12345; (v < 2 ^ 32) ∧ (a.world = true) ∧ (s.admitsWrite a 0x20100214))
    ∧ (let s : State := lolS; let a : Access := core; let v : Nat := 2; (v < 2 ^ 32) ∧ (s.admitsWrite a 0x20000014))
    ∧ (let s : State := idleS; let a : Access := core; let v : Nat := 1; (v < 2 ^ 32) ∧ (s.admitsWrite a 0x20000000))
    ∧ (let s : State := idleS; let a : Access := core; let addr : Nat := 0x20100214; let n : Nat := 4; let v : Nat := 5; let item : Option Nat := none; (v < 2 ^ (8 * n) ∧ Module.isWindow addr = false ∧ Module.blockOf addr ≠ some 0 ∧ Module.memOf addr = none) ∧ (s.genuine a 1 ∧ s.m.accessDeny a addr n 1 = none ∧ Module.misfit addr n = none ∧ Module.writerDeny a addr = none) ∧ ((ownCommand a addr v s).isNone = true ∧ (item = none ∨ s.m.itemBarred addr v = false))) := by
  refine ⟨?_, ?_, ?_, ?_⟩ <;> decide

/-- The hypotheses of CountReadTakesTheCount can be met: one state and operands for each clause. -/
theorem witness_CountReadTakesTheCount :
    (let s : State := reg (·.wr F.UIN_PULSE_COUNT 7 5); let a : Access := core; let n : Nat := 5; (n < 64) ∧ (commitsAtOnce a) ∧ (s.admitsRead a (0x20300600 + 4 * n)))
    ∧ (let s : State := reg (·.wr F.SWC_LEARN_FULL_COUNT 9); let a : Access := core; (commitsAtOnce a) ∧ (s.admitsRead a 0x2040001C))
    ∧ (let s : State := idleS; let a : Access := core; (commitsAtOnce a) ∧ (s.admitsRead a 0x21200408))
    ∧ (let s : State := idleS; let a : Access := core; (s.genuine a 0))
    ∧ (let s : State := idleS; let a : Access := core; (s.genuine a 0)) := by
  refine ⟨?_, ?_, ?_, ?_, ?_⟩ <;> decide

/-- The hypotheses of GuardedAccessOfCleanMemory can be met: one state and operands for each clause. -/
theorem witness_GuardedAccessOfCleanMemory :
    (let s : State := memS; let a : Access := core; let kind : ReadKind := .data; let mem : Fin 7 := 0; let addr : Nat := 0x10000100; let n : Nat := 8; (s.m.mem.clean) ∧ (1 ≤ n) ∧ (mem.val ≤ 1 ∧ Module.memOf addr = some mem.val ∧ Module.memOf (addr + n - 1) = some mem.val) ∧ (s.admitsMem a addr n (readCode kind)) ∧ ((s.m.forwards a mem.val addr n (readCode kind)).1 = []))
    ∧ (let s : State := memS; let a : Access := core; let mem : Fin 7 := 0; let addr : Nat := 0x10000102; let data : List Byte := [1, 2, 3]; (s.m.mem.clean) ∧ (1 ≤ data.length) ∧ (mem.val ≤ 1 ∧ Module.memOf addr = some mem.val ∧ Module.memOf (addr + data.length - 1) = some mem.val) ∧ (s.admitsMem a addr data.length 1))
    ∧ (let s : State := memS; let a : Access := core; (s.genuine a 1))
    ∧ (let s : State := memS; let a : Access := core; let kind : ReadKind := .data; (s.genuine a (readCode kind))) := by
  refine ⟨?_, ?_, ?_, ?_⟩ <;> decide

/-- The hypotheses of BadWordsOfALine can be met: one state and operands for each clause. -/
theorem witness_BadWordsOfALine :
    (let s : State := memS; let a : Access := core; let addr : Nat := 0x10000100; let mask : Nat := 7; (s.m.mem.clean) ∧ (0x10000000 ≤ addr) ∧ (addr < 0x11000000) ∧ (addr % 4 = 0) ∧ (mask < 2 ^ 32) ∧ (popCount 32 mask % 2 = 1) ∧ (s.admitsMem a addr 4 0) ∧ ((s.m.forwards a 0 addr 4 0).1 = []))
    ∧ (let s : State := memS; let a : Access := core; let addr : Nat := 0x10000100; let other : Nat := 0x10000108; (s.m.mem.clean) ∧ (0x10000000 ≤ addr) ∧ (addr < 0x11000000) ∧ (addr % 4 = 0) ∧ (other % 4 = 0) ∧ (other / 256 = addr / 256) ∧ (other ≠ addr) ∧ (s.admitsMem a addr 4 0) ∧ ((s.m.forwards a 0 addr 4 0).1 = []) ∧ (Module.pairOf a = none)) := by
  refine ⟨?_, ?_⟩ <;> decide

/-- The hypotheses of ScrubberAndEviction can be met: one state and operands for each clause. -/
theorem witness_ScrubberAndEviction :
    (let s : State := memS; let mem : Fin 7 := 0; let line : Nat := 0x104321; (s.m.mem.clean) ∧ (mem.val ≠ 2) ∧ (Module.lineIndex mem.val line + 1 < Module.memLines mem.val))
    ∧ (let s : State := idleS; let a : Access := core; (a.world = true) ∧ (s.admitsWrite a 0x2010007C))
    ∧ (let s : State := reg (·.wr F.FAB_SCRUB_STAT_REQ_BUSY 1 2); let mem : Fin 7 := 2; (s.m.rd F.FAB_SCRUB_STAT_REQ_BUSY mem.val = 1))
    ∧ (let s : State := l2S; let l : Nat := 0x8000010; (s.m.mem.clean) ∧ (l < 0x9000000) ∧ ((s.m.l2Line l).held = true) ∧ ((s.m.l2Line l).dirty = true))
    ∧ (let mem : Fin 7 := 0; (mem.val ≠ 2)) := by
  refine ⟨?_, ?_, ?_, ?_, ?_⟩ <;> decide

/-- The hypotheses of FirewallCommands can be met: one state and operands for each clause. -/
theorem witness_FirewallCommands :
    (let s : State := stagedS; let a : Access := core; let v : Word := 0x46570301; (a.world = true) ∧ (s.admitsWrite a 0x20100218) ∧ (bits v.toNat 31 16 = 0x4657) ∧ (s.m.rd F.FAB_COMMIT_STAT_PEND = 0) ∧ (s.m.commitStatus (bits v.toNat 7 0) (bits v.toNat 11 8) = 0))
    ∧ (let s : State := idleS; let a : Access := core; let v : Word := 1; (a.world = true) ∧ (s.admitsWrite a 0x20100000) ∧ (bit v.toNat 0 = true))
    ∧ (let s : State := idleS; let a : Access := core; let v : DWord := 0x10004000; (a.world = true) ∧ (s.admitsWrite a 0x20100008) ∧ (s.m.rd F.FAB_CTRL_ENFORCE = 0) ∧ (0x8000 ≤ bits v.toNat 39 13) ∧ (bits v.toNat 39 13 < 0x8800))
    ∧ (let s : State := stagedS; let a : Access := core; (s.admitsWrite a 0x20100218 ∧ a.world = true))
    ∧ (let s : State := idleS; let a : Access := core; (s.admitsWrite a 0x20100008 ∧ a.world = true)) := by
  refine ⟨?_, ?_, ?_, ?_, ?_⟩ <;> decide

/-- The hypotheses of ResetAndClockEvents can be met: one state and operands for each clause. -/
theorem witness_ResetAndClockEvents :
    (let s : State := lockS; (s.m.sys.sysLock = true))
    ∧ (let s : State := idleS; let a : Access := core; let v : Word := 0xA5C30001; (a.world = true) ∧ (s.admitsWrite a 0x20000060) ∧ (bit v.toNat 0 = true) ∧ (bits v.toNat 31 16 = 0xA5C3))
    ∧ (let s : State := idleS; (s.m.lifeCycle s.otp ≠ 2 ∧ s.m.lifeCycle s.otp ≠ 5))
    ∧ (let s : State := lockS; (s.m.sys.resetHeld = false))
    ∧ (let s : State := lockS; (s.m.sys.serLock = true))
    ∧ (let s : State := lockS; (s.m.sys.serLock = true) ∧ ((∀ p ∈ List.range 15, s.m.rd F.MAC_STAT_LINK p = 0)))
    ∧ (let s : State := reg (·.wr F.SYSCTL_PLL_CTRL_SER_EN 1); (s.m.rd F.SYSCTL_PLL_CTRL_SER_EN = 1))
    ∧ (let s : State := idleS; let a : Access := core; (s.admitsWrite a 0x20000020)) := by
  refine ⟨?_, ?_, ?_, ?_, ?_, ?_, ?_, ?_⟩ <;> decide

/-- The hypotheses of PowerOnAndRomStart can be met: one state and operands for each clause. -/
theorem witness_PowerOnAndRomStart :
    (let s : State := State.reset; (s.m.sys.resetHeld = true)) := by
  decide

/-- The hypotheses of GateRequests can be met: one state and operands for each clause. -/
theorem witness_GateRequests :
    (let s : State := idleS; let a : Access := core; let block : Fin 256 := 0x0B; (s.admitsWrite a 0x20000040) ∧ (s.m.mayGate a block.val 0))
    ∧ (let s : State := reg (·.wr F.SYSCTL_CLK_STATE_RUN 0xFFFF7FF); let a : Access := core; let block : Fin 256 := 0x0B; (s.admitsWrite a 0x20000040) ∧ (s.m.mayGate a block.val 1) ∧ (bit (s.m.rd F.SYSCTL_PWR_STATE_ON) block.val = true))
    ∧ (let s : State := idleS; let a : Access := core; let block : Fin 256 := 0x0B; (s.admitsWrite a 0x20000040) ∧ (s.m.mayGate a block.val 2))
    ∧ (let s : State := reg (·.wr F.SYSCTL_PWR_STATE_ON 0xFFFF7FF); let a : Access := core; let block : Fin 256 := 0x0B; (s.admitsWrite a 0x20000040) ∧ (s.m.mayGate a block.val 3) ∧ (bit (s.m.rd F.SYSCTL_PWR_STATE_ON) block.val = false))
    ∧ (let s : State := drainS; let sec : Bool := true; let b : Nat := 0x0B; let op : Nat := 2; (s.m.gateJob sec = some ⟨b, op⟩) ∧ (op = 0 ∨ op = 2) ∧ (b < 32) ∧ (s.m.drainHeld b = false) ∧ (sec = false ∨ s.m.rd F.WCT_DEFER_PEND = 0 ∨ s.m.rd F.WCT_DEFER_BLOCK ≠ b))
    ∧ (let s : State := drainS; let sec : Bool := true; let b : Nat := 0x0B; let op : Nat := 2; (s.m.gateJob sec = some ⟨b, op⟩) ∧ (op = 0 ∨ op = 2))
    ∧ (let s : State := powerUpS; let sec : Bool := true; let b : Nat := 0x14; let op : Nat := 3; (s.m.gateJob sec = some ⟨b, op⟩) ∧ (op = 1 ∨ op = 3))
    ∧ (let s : State := powerUpS; let op : Nat := 3; (s.m.sys.gateS = some ⟨0x14, op⟩) ∧ (op = 1 ∨ op = 3))
    ∧ (let s : State := idleS; let a : Access := core; (s.admitsWrite a 0x20000040))
    ∧ (let s : State := reg (·.wr F.SYSCTL_CLK_STATE_RUN 0xFFFF7FF); let a : Access := core; (s.admitsWrite a 0x20000040))
    ∧ (let s : State := idleS; let a : Access := core; (s.admitsWrite a 0x20000040))
    ∧ (let s : State := reg (·.wr F.SYSCTL_PWR_STATE_ON 0xFFFF7FF); let a : Access := core; (s.admitsWrite a 0x20000040)) := by
  refine ⟨?_, ?_, ?_, ?_, ?_, ?_, ?_, ?_, ?_, ?_, ?_, ?_⟩ <;> decide

/-- The hypotheses of BlockAndPartitionReset can be met: one state and operands for each clause. -/
theorem witness_BlockAndPartitionReset :
    (let s : State := idleS; let a : Access := core; let v : Word := 8; (s.admitsWrite a 0x20000064) ∧ (s.m.sys.blkRst = none) ∧ (Module.coreDomain (bits v.toNat 7 0) = false) ∧ (bit (s.m.rd F.SYSCTL_PWR_STATE_ON) (bits v.toNat 7 0) = true))
    ∧ (let s : State := idleS; let a : Access := core; let v : Word := 5; (s.admitsWrite a 0x20000064) ∧ (bits v.toNat 7 0 = 5) ∧ (s.m.sys.blkRst = none) ∧ (bit (s.m.rd F.SYSCTL_PWR_STATE_ON) 5 = true))
    ∧ (let s : State := reg (fun m => { m with sys := { m.sys with blkRst := some 4, regate := true } }); let b : Nat := 4; (s.m.sys.blkRst = some b))
    ∧ (let s : State := reg (fun m => { m with sys := { m.sys with blkRst := some 7 } }); (s.m.sys.blkRst = some 7) ∧ (s.m.sys.regate = false))
    ∧ (let s : State := idleS; let a : Access := core; (s.admitsWrite a 0x20000068) ∧ (s.m.sys.partRst = none))
    ∧ (let s : State := reg (fun m => { m with sys := { m.sys with partRst := some 4 } }); let p : Nat := 4; (s.m.sys.partRst = some p))
    ∧ (let s : State := reg (fun m => { m with sys := { m.sys with partRst := some 4 } }); let p : Nat := 4; (s.m.sys.partRst = some p) ∧ (s.m.rd F.LSS_PART_STATE p ≠ 5))
    ∧ (let s : State := idleS; let a : Access := core; (s.admitsWrite a 0x20000068))
    ∧ (let s : State := idleS; let a : Access := core; (s.admitsWrite a 0x20000064)) := by
  refine ⟨?_, ?_, ?_, ?_, ?_, ?_, ?_, ?_, ?_⟩ <;> decide

/-- The hypotheses of DipAndItsEnd can be met: one state and operands for each clause. -/
theorem witness_DipAndItsEnd :
    (let s : State := runS; (s.m.sys.resetHeld = false) ∧ (s.m.rd F.HST_SUP_STAT_VAUX_STATE = 0))
    ∧ (let s : State := reg (·.wr F.HST_SUP_STAT_VAUX_STATE 1); (s.m.rd F.HST_SUP_STAT_VAUX_STATE = 1))
    ∧ (let s : State := reg (·.wr F.HST_SUP_STAT_VAUX_STATE 1); (s.m.rd F.HST_SUP_STAT_VAUX_STATE = 1)) := by
  refine ⟨?_, ?_, ?_⟩ <;> decide

/-- The hypotheses of HoldupKeepsWhatItMust can be met: one state and operands for each clause. -/
theorem witness_HoldupKeepsWhatItMust :
    (let s : State := runS; (s.m.sys.resetHeld = false) ∧ (s.m.rd F.HST_SUP_STAT_VAUX_STATE ≠ 2) ∧ (s.m.rd F.WCT_LOCK_WORLD_LOCK = 0))
    ∧ (let s : State := appliedS; (s.m.sys.resetHeld = false) ∧ (s.m.rd F.HST_SUP_STAT_VAUX_STATE ≠ 2) ∧ (s.m.rd F.WCT_LOCK_WORLD_LOCK = 1))
    ∧ (let s : State := flushS; let f : HoldupLog := {}; (s.m.sup.flush = some f))
    ∧ (let s : State := flushedS; (s.m.sup.flushed = true) ∧ (s.m.rd F.HST_SUP_STAT_VAUX_STATE = 2))
    ∧ (let s : State := reg (·.wr F.HST_SUP_STAT_VAUX_STATE 2); (s.m.rd F.HST_SUP_STAT_VAUX_STATE = 2))
    ∧ (let s : State := reg (·.wr F.HST_SUP_STAT_VAUX_STATE 2); (s.m.rd F.HST_SUP_STAT_VAUX_STATE = 2)) := by
  refine ⟨?_, ?_, ?_, ?_, ?_, ?_⟩ <;> decide

/-- The hypotheses of LoadSupplyUndervoltage can be met: one state and operands for each clause. -/
theorem witness_LoadSupplyUndervoltage :
    (let s : State := onS; let group : Fin 4 := 0; (s.m.sys.resetHeld = false) ∧ (bit (s.m.rd F.HST_SUP_STAT_VS_UV) group.val = false))
    ∧ (let s : State := runS; let group : Fin 4 := 2; (s.m.sys.resetHeld = false) ∧ (bit (s.m.rd F.HST_SUP_STAT_VS_UV) group.val = true)) := by
  refine ⟨?_, ?_⟩ <;> decide

/-- The hypotheses of MonitorConversions can be met: one state and operands for each clause. -/
theorem witness_MonitorConversions :
    (let s : State := runS; let vaux : Nat := 12000; let vhold : Nat := 33000; let v0 : Nat := 12000; let v1 : Nat := 12000; let v2 : Nat := 24000; let v3 : Nat := 0; (s.m.sys.resetHeld = false) ∧ (vaux < 2 ^ 16 ∧ vhold < 2 ^ 16 ∧ v0 < 2 ^ 16 ∧ v1 < 2 ^ 16 ∧ v2 < 2 ^ 16 ∧ v3 < 2 ^ 16))
    ∧ (let s : State := runS; (s.m.sys.resetHeld = false))
    ∧ (let s : State := runS; (s.m.sys.resetHeld = false))
    ∧ (let s : State := measS; let uf : Nat := 2500; (s.m.sup.measuring = true) ∧ (uf < 2 ^ 16)) := by
  refine ⟨?_, ?_, ?_, ?_⟩ <;> decide

/-- The hypotheses of BootStages can be met: one state and operands for each clause. -/
theorem witness_BootStages :
    (let s : State := reg (·.wr F.SYSCTL_BOOT_STAT_STAGE 1); (s.m.rd F.SYSCTL_BOOT_STAT_STAGE = 1))
    ∧ (let s : State := reg (·.wr F.SYSCTL_BOOT_STAT_STAGE 2); (s.m.rd F.SYSCTL_BOOT_STAT_STAGE = 2))
    ∧ (let s : State := candS; let trial : Bool := false; let b : Nat := 0; let rest : List (Nat × Bool) := [(1, false)]; (s.m.rd F.SYSCTL_BOOT_STAT_STAGE = 3) ∧ (s.m.boot.cands = (b, trial) :: rest))
    ∧ (let s : State := reg (·.wr F.SYSCTL_BOOT_STAT_STAGE 0xF); (s.m.rd F.SYSCTL_BOOT_STAT_STAGE = 0xF) ∧ (s.m.rd F.SYSCTL_LC_STATE_STATE ≠ 5))
    ∧ (let s : State := bootS; (s.m.sys.resetHeld = false ∧ 1800000 ≤ s.m.boot.us) ∧ (s.m.rd F.SYSCTL_BOOT_STAT_STAGE < 5 ∨ (s.m.rd F.SYSCTL_BOOT_STAT_STAGE < 7 ∧ s.m.rd F.SYSCTL_BOOT_STAT_TRIAL = 1)))
    ∧ (let s : State := barS; (s.m.sys.resetHeld = false ∧ 1800000 ≤ s.m.boot.us) ∧ (s.m.rd F.SYSCTL_BOOT_STAT_STAGE = 5 ∨ s.m.rd F.SYSCTL_BOOT_STAT_STAGE = 6) ∧ (s.m.rd F.SYSCTL_BOOT_STAT_TRIAL = 0))
    ∧ (let s : State := reg (fun m => { m.wr F.SYSCTL_BOOT_STAT_STAGE 7 with boot := { m.boot with chanDone := false } }); (s.m.rd F.SYSCTL_BOOT_STAT_STAGE = 7) ∧ (s.m.boot.chanDone = false)) := by
  refine ⟨?_, ?_, ?_, ?_, ?_, ?_, ?_⟩ <;> decide

/-- The hypotheses of LifeCycleRequests can be met: one state and operands for each clause. -/
theorem witness_LifeCycleRequests :
    (let s : State := lcS 0; let a : Access := core; let v : Word := 0x5A3C0001; (a.world = true ∧ s.admitsWrite a 0x20000804 ∧ bits v.toNat 31 16 = 0x5A3C ∧ bits v.toNat 2 0 = 1) ∧ (s.m.rd F.SYSCTL_LC_STAT_PEND = 0 ∧ s.m.rd F.HST_SUP_STAT_VAUX_STATE = 0 ∧ s.m.rd F.HST_SUP_STAT_HOLDUP_WEAK = 0) ∧ (s.m.activeInDuplex = false) ∧ (s.m.rd F.SYSCTL_LC_STATE_STATE = 0) ∧ (s.otp.trustedMap ≠ 0))
    ∧ (let s : State := lcS 1; let a : Access := core; let v : Word := 0x5A3C0002; (a.world = true ∧ s.admitsWrite a 0x20000804 ∧ bits v.toNat 31 16 = 0x5A3C ∧ bits v.toNat 2 0 = 2) ∧ (s.m.rd F.SYSCTL_LC_STAT_PEND = 0 ∧ s.m.rd F.HST_SUP_STAT_VAUX_STATE = 0 ∧ s.m.rd F.HST_SUP_STAT_HOLDUP_WEAK = 0) ∧ (s.m.activeInDuplex = false) ∧ (s.m.rd F.SYSCTL_LC_STATE_STATE = 1))
    ∧ (let s : State := lcS 3; let a : Access := core; let v : Word := 0x5A3C0002; (s.admitsWrite a 0x20000804 ∧ bits v.toNat 31 16 = 0x5A3C ∧ bits v.toNat 2 0 = 2) ∧ (s.m.rd F.SYSCTL_LC_STAT_PEND = 0 ∧ s.m.rd F.HST_SUP_STAT_VAUX_STATE = 0 ∧ s.m.rd F.HST_SUP_STAT_HOLDUP_WEAK = 0) ∧ (s.m.activeInDuplex = false) ∧ (s.m.rd F.SYSCTL_LC_STATE_STATE = 3))
    ∧ (let s : State := lcS 0; let a : Access := core; let v : Word := 0x5A3C0005; (a.world = true ∨ a.ini = 0x3F) ∧ (s.admitsWrite a 0x20000804 ∧ bits v.toNat 31 16 = 0x5A3C ∧ bits v.toNat 2 0 = 5) ∧ (s.m.rd F.SYSCTL_LC_STAT_PEND = 0 ∧ s.m.rd F.HST_SUP_STAT_VAUX_STATE = 0 ∧ s.m.rd F.HST_SUP_STAT_HOLDUP_WEAK = 0) ∧ (s.m.activeInDuplex = false) ∧ (s.m.rd F.SYSCTL_LC_STATE_STATE = 0 ∨ s.m.rd F.SYSCTL_LC_STATE_STATE = 4))
    ∧ (let s : State := lcS 2; let a : Access := core; let v : Word := 0x5A3C0005; (a.world = true ∧ s.admitsWrite a 0x20000804 ∧ bits v.toNat 31 16 = 0x5A3C ∧ bits v.toNat 2 0 = 5) ∧ (s.m.rd F.SYSCTL_LC_STAT_PEND = 0 ∧ s.m.rd F.HST_SUP_STAT_VAUX_STATE = 0 ∧ s.m.rd F.HST_SUP_STAT_HOLDUP_WEAK = 0) ∧ (s.m.activeInDuplex = false) ∧ (s.m.rd F.SYSCTL_LC_STATE_STATE = 1 ∨ s.m.rd F.SYSCTL_LC_STATE_STATE = 2))
    ∧ (let s : State := lcS 2; let a : Access := core; let v : Word := 0x5A3C0004; (a.world = true ∧ s.admitsWrite a 0x20000804 ∧ bits v.toNat 31 16 = 0x5A3C ∧ bits v.toNat 2 0 = 4) ∧ (s.m.rd F.SYSCTL_LC_STAT_PEND = 0 ∧ s.m.rd F.HST_SUP_STAT_VAUX_STATE = 0 ∧ s.m.rd F.HST_SUP_STAT_HOLDUP_WEAK = 0) ∧ (s.m.activeInDuplex = false) ∧ (s.m.rd F.SYSCTL_LC_STATE_STATE = 1 ∨ s.m.rd F.SYSCTL_LC_STATE_STATE = 2))
    ∧ (let s : State := lcS 2; let a : Access := core; let v : Word := 0x5A3C0003; (s.admitsWrite a 0x20000804 ∧ bits v.toNat 31 16 = 0x5A3C ∧ bits v.toNat 2 0 = 3) ∧ (s.m.rd F.SYSCTL_LC_STAT_PEND = 0 ∧ s.m.rd F.HST_SUP_STAT_VAUX_STATE = 0 ∧ s.m.rd F.HST_SUP_STAT_HOLDUP_WEAK = 0) ∧ (s.m.activeInDuplex = false) ∧ (s.m.rd F.SYSCTL_LC_STATE_STATE = 2))
    ∧ (let s : State := lcS 2; let a : Access := core; let v : Word := 0x5A3C0000; (s.admitsWrite a 0x20000804 ∧ bits v.toNat 31 16 = 0x5A3C ∧ bits v.toNat 2 0 = 0) ∧ (s.m.rd F.SYSCTL_LC_STAT_PEND = 0 ∧ s.m.rd F.HST_SUP_STAT_VAUX_STATE = 0 ∧ s.m.rd F.HST_SUP_STAT_HOLDUP_WEAK = 0) ∧ (s.m.activeInDuplex = false))
    ∧ (let s : State := lcS 0; let a : Access := core; (s.genuine a 1))
    ∧ (let s : State := lcS 3; let a : Access := core; (s.genuine a 1))
    ∧ (let s : State := lcS 2; let a : Access := core; (s.genuine a 1))
    ∧ (let s : State := lcS 2; let a : Access := core; (s.genuine a 1))
    ∧ (let s : State := lcS 2; let a : Access := core; (s.genuine a 1))
    ∧ (let s : State := lcS 2; let a : Access := core; (s.genuine a 1)) := by
  refine ⟨?_, ?_, ?_, ?_, ?_, ?_, ?_, ?_, ?_, ?_, ?_, ?_, ?_, ?_⟩ <;> decide

/-- The hypotheses of FusesOfTheLifeCycle can be met: one state and operands for each clause. -/
theorem witness_FusesOfTheLifeCycle :
    (let s : State := lcNextS; let x : Nat := 5; let b : Nat := 8; (s.m.boot.lcNext = some x) ∧ ((x = 1 ∧ b = 1) ∨ (x = 2 ∧ b = 2) ∨ (x = 4 ∧ b = 4) ∨ (x = 5 ∧ b = 8)))
    ∧ (let s : State := lcS 3; (s.m.rd F.SYSCTL_LC_STATE_STATE = 3) ∧ (s.m.rd F.SYSCTL_DBG_GRANT_MINUTES_LEFT = 0))
    ∧ (let s : State := lcS 1; let a : Access := core; let v : Word := 0x200; (a.world = true) ∧ (s.admitsWrite a 0x20000838) ∧ (s.m.rd F.SYSCTL_LC_STATE_STATE ≠ 5) ∧ (s.otp.trustedMap = 0 ∨ ({ s.otp with revoked := s.otp.revoked ||| bits v.toNat 11 8 } : Otp).trustedMap ≠ 0))
    ∧ (let s : State := lcS 1; let a : Access := core; (s.genuine a 1)) := by
  refine ⟨?_, ?_, ?_, ?_⟩ <;> decide

/-- The hypotheses of ProtectionTripsTurnOff can be met: one state and operands for each clause. -/
theorem witness_ProtectionTripsTurnOff :
    (let s : State := onS; let c : Fin 128 := 3; ((s.m.chan c.val).conducting = true))
    ∧ (let s : State := onS; let c : Fin 128 := 4; ((s.m.chan c.val).conducting = true))
    ∧ (let s : State := driveS; let c : Fin 128 := 32; ((s.m.chan c.val).conducting = false ∧ (s.m.chan c.val).pwm ≠ none)) := by
  refine ⟨?_, ?_, ?_⟩ <;> decide

/-- The hypotheses of LatchesAndReverseSwitch can be met: one state and operands for each clause. -/
theorem witness_LatchesAndReverseSwitch :
    (let s : State := onS; let c : Fin 128 := 3; ((s.m.chan c.val).conducting = true))
    ∧ (let s : State := loadS; let c : Fin 128 := 3; ((s.m.chan c.val).phase = .on ∧ (s.m.chan c.val).pwm = none ∧ (s.m.chan c.val).reverse = false) ∧ (Module.tenPercent c.val (s.m.chan c.val) = true) ∧ (s.m.rd F.HST_SUP_STAT_VAUX_STATE ≠ 1) ∧ ((s.m.chan c.val).onAt + 10000 ≤ s.m.now))
    ∧ (let s : State := loadS; let c : Fin 128 := 5; ((s.m.chan c.val).swTest = true)) := by
  refine ⟨?_, ?_, ?_⟩ <;> decide

/-- The hypotheses of ChannelTimersAndComparators can be met: one state and operands for each clause. -/
theorem witness_ChannelTimersAndComparators :
    (let s : State := loadS; let c : Fin 128 := 6; let h : Bool := true; ((s.m.chan c.val).phase = .turningOff h))
    ∧ (let s : State := onS; let c : Fin 128 := 4; ((s.m.chan c.val).phase = .turningOn) ∧ (s.m.dpx.engaging = false))
    ∧ (let s : State := onS; let c : Fin 128 := 4; ((s.m.chan c.val).phase = .turningOn))
    ∧ (let s : State := loadS; let c : Fin 128 := 3; ((s.m.chan c.val).conducting = true ∧ (s.m.chan c.val).pwm = none ∧ (s.m.chan c.val).iUc ≠ 0) ∧ (12500 ≤ (s.m.chan c.val).ucRun))
    ∧ (let s : State := loadS; let c : Fin 128 := 7; let w : InrushWindow := {}; ((s.m.chan c.val).window = some w) ∧ ((Module.envEnd w.profile : Int) ≤ Module.envTime w 8000 ∧ Module.limitReached c.val w = false))
    ∧ (let s : State := loadS; let c : Fin 128 := 10; let w : InrushWindow := fullW; ((s.m.chan c.val).window = some w ∧ (s.m.chan c.val).conducting = true) ∧ ((Module.envEnd w.profile : Int) ≤ Module.envTime w 8000 ∧ Module.limitReached c.val w = true))
    ∧ (let s : State := loadS; let c : Fin 128 := 8; let w : InrushWindow := limitW; ((s.m.chan c.val).window = some w) ∧ (w.profile.limit = true ∧ classOf c.val ≠ .l ∧ (s.m.chan c.val).conducting = true))
    ∧ (let s : State := loadS; let c : Fin 128 := 6; ((s.m.chan c.val).fwWatch = true) ∧ ((s.m.chan c.val).phase = .turningOff true ∨ (s.m.chan c.val).phase = .turningOff false ∨ ((s.m.chan c.val).phase = .off ∧ s.m.now ≤ (s.m.chan c.val).offAt + 1000)))
    ∧ (let s : State := loadS; let c : Fin 128 := 9; let f : Nat := 5; ((s.m.chan c.val).backoffFrom = some f ∧ f + (s.m.chan c.val).backoffUs ≤ s.m.now))
    ∧ (let s : State := loadS; let c : Fin 128 := 3; let f : Nat := 5; ((s.m.chan c.val).cmd ≠ .off ∧ (s.m.chan c.val).window = none) ∧ ((s.m.chan c.val).steadyAt = some f ∧ f + 10000000 ≤ s.m.now)) := by
  refine ⟨?_, ?_, ?_, ?_, ?_, ?_, ?_, ?_, ?_, ?_⟩ <;> decide

/-- The hypotheses of DiagnosticsOfAnOffChannel can be met: one state and operands for each clause. -/
theorem witness_DiagnosticsOfAnOffChannel :
    (let s : State := loadS; let c : Fin 128 := 9; (s.m.diagEligible c.val = true))
    ∧ (let s : State := diagS; let c : Fin 128 := 10; let e : Bool := false; let k : Nat := 25; ((s.m.chan c.val).diag = .supply e k ∧ 25 ≤ k))
    ∧ (let s : State := diagS; let c : Fin 128 := 11; let k : Nat := 25; ((s.m.chan c.val).diag = .supply true k ∧ 25 ≤ k) ∧ ((s.m.chan c.val).shortToSupply = false ∧ (s.m.chan c.val).stsRun = 2) ∧ (s.m.rd F.DPX_CFG_EN = 0))
    ∧ (let s : State := diagS; let c : Fin 128 := 12; let f : Nat := 1000; ((s.m.chan c.val).diag = .openLoad f ∧ f + 1000 ≤ s.m.now)) := by
  refine ⟨?_, ?_, ?_, ?_⟩ <;> decide

/-- The hypotheses of RestartAndPwmEdges can be met: one state and operands for each clause. -/
theorem witness_RestartAndPwmEdges :
    (let s : State := driveS; let c : Fin 128 := 16; ((s.m.chan c.val).cmd = .on ∧ (s.m.chan c.val).phase = .off ∧ (s.m.chan c.val).pwm = none) ∧ (s.m.mayTurnOn c.val = true))
    ∧ (let s : State := driveS; let c : Fin 128 := 32; let p : Nat := 10000; let d : Nat := 500; ((s.m.chan c.val).cmd = .pwm p d ∧ (s.m.chan c.val).phase = .off ∧ (s.m.chan c.val).pwm = some (p, d)) ∧ (Module.effDuty (s.m.profileOf (s.m.chan c.val)).slew p d ≠ 0 ∧ s.m.onGrid c.val p = true) ∧ (s.m.drives = true ∧ s.m.vsUv c.val = false) ∧ ((s.m.chan c.val).exhausted = false ∧ (s.m.chan c.val).fwMissing = false ∧ (s.m.chan c.val).latched = false))
    ∧ (let s : State := driveS; let c : Fin 128 := 0; let p : Nat := 10000; let d : Nat := 500; ((s.m.chan c.val).cmd = .pwm p d ∧ (s.m.chan c.val).phase = .off ∧ (s.m.chan c.val).pwm = none) ∧ (Module.effDuty (s.m.profileOf (s.m.chan c.val)).slew p d ≠ 0 ∧ s.m.onGrid c.val p = true) ∧ (s.m.mayTurnOn c.val = true))
    ∧ (let s : State := driveS; let c : Fin 128 := 64; let p : Nat := 10000; let d : Nat := 500; let q : Nat := 10000; ((s.m.chan c.val).cmd = .pwm p d ∧ (s.m.chan c.val).conducting = true ∧ (s.m.chan c.val).pwm = some (q, d)) ∧ (Module.effDuty (s.m.profileNow (s.m.chan c.val)).slew p d ≠ 0 ∧ s.m.onGrid c.val q = true))
    ∧ (let s : State := driveS; let c : Fin 128 := 96; let p : Nat := 10000; let d : Nat := 500; ((s.m.chan c.val).cmd = .on ∧ (s.m.chan c.val).conducting = true ∧ (s.m.chan c.val).pwm = some (p, d)) ∧ (s.m.onGrid c.val p = true))
    ∧ (let s : State := driveS; let c : Fin 128 := 18; let p : Nat := 10000; let d : Nat := 500; ((s.m.chan c.val).pwm = some (p, d) ∧ (s.m.chan c.val).conducting = true) ∧ (Module.effDuty (s.m.profileNow (s.m.chan c.val)).slew p d < 1000) ∧ ((s.m.chan c.val).edgeAt + p * d / 1000 ≤ s.m.now)) := by
  refine ⟨?_, ?_, ?_, ?_, ?_, ?_⟩ <;> decide

/-- The hypotheses of SamplesAndModels can be met: one state and operands for each clause. -/
theorem witness_SamplesAndModels :
    (let s : State := loadS; let c : Fin 128 := 9; let x : Int := 5; ((s.m.chan c.val).ocCount < 2 ∨ s.m.overThreshold c.val x (decide (4095 ≤ x) || decide (x ≤ -512)) = false) ∧ ((s.m.chan c.val).ocCount < 3))
    ∧ (let s : State := ocS; let c : Fin 128 := 3; let x : Int := 2000; (-512 < x ∧ x < 4095) ∧ ((s.m.chan c.val).phase = .on ∧ (s.m.chan c.val).pwm = none ∧ (s.m.chan c.val).window = none) ∧ ((s.m.chan c.val).ocCount = 2 ∧ Module.exceeds c.val (s.m.chan c.val) x none 0 = true))
    ∧ (let s : State := onS; let g : Fin 4 := 0; ((∀ p ∈ List.range 32, (s.m.chan (32 * g.val + p)).window = none)))
    ∧ (let s : State := onS; (s.m.rd F.CHC_STAT_RUN = 0))
    ∧ (let s : State := reg (·.wr F.CHC_STAT_RUN 1); (s.m.rd F.CHC_STAT_RUN = 1))
    ∧ (let s : State := droopS; let g : Fin 4 := 1; (1250 ≤ (s.m.grp g.val).droopRun))
    ∧ (let s : State := onS; (s.m.running 4 = true)) := by
  refine ⟨?_, ?_, ?_, ?_, ?_, ?_, ?_⟩ <;> decide

/-- The hypotheses of ChannelCommandsAreQueued can be met: one state and operands for each clause. -/
theorem witness_ChannelCommandsAreQueued :
    (let s : State := chiS; let a : Access := tenant; let i : Fin 16 := 3; let seq : BitVec 16 := 0; (s.admitsWrite a (Module.chiAddr i.val 4)) ∧ (s.m.chiRefusal i.val seq.toNat = none))
    ∧ (let s : State := chiS; let a : Access := tenant; let i : Fin 16 := 3; let seq : BitVec 16 := 0; (s.admitsWrite a (Module.chiAddr i.val 4)) ∧ (s.m.chiRefusal i.val seq.toNat = none))
    ∧ (let s : State := chiS; let a : Access := tenant; let i : Fin 16 := 3; let seq : BitVec 16 := 0; (s.admitsWrite a (Module.chiAddr i.val 4)) ∧ (s.m.chiRefusal i.val seq.toNat = none))
    ∧ (let s : State := chiS; let a : Access := tenant; let i : Fin 16 := 3; let seq : BitVec 16 := 0; (s.admitsWrite a (Module.chiAddr i.val 4)) ∧ (s.m.chiRefusal i.val seq.toNat = none))
    ∧ (let s : State := chiS; let a : Access := tenant; let i : Fin 16 := 3; let seq : BitVec 16 := 0; (s.admitsWrite a (Module.chiAddr i.val 4)) ∧ (s.m.chiRefusal i.val seq.toNat = none))
    ∧ (let s : State := chiS; let a : Access := tenant; let i : Fin 16 := 3; let seq : BitVec 16 := 0; (s.admitsWrite a (Module.chiAddr i.val 4)) ∧ (s.m.chiRefusal i.val seq.toNat = none))
    ∧ (let s : State := chiS; let a : Access := tenant; let i : Fin 16 := 3; let seq : BitVec 16 := 0; (s.admitsWrite a (Module.chiAddr i.val 4)) ∧ (s.m.chiRefusal i.val seq.toNat = none))
    ∧ (let s : State := chiS; let a : Access := tenant; (s.genuine a 1))
    ∧ (let s : State := chiS; let a : Access := tenant; (s.genuine a 1))
    ∧ (let s : State := chiS; let a : Access := tenant; (s.genuine a 1))
    ∧ (let s : State := chiS; let a : Access := tenant; (s.genuine a 1))
    ∧ (let s : State := chiS; let a : Access := tenant; (s.genuine a 1))
    ∧ (let s : State := chiS; let a : Access := tenant; (s.genuine a 1))
    ∧ (let s : State := chiS; let a : Access := tenant; (s.genuine a 1)) := by
  refine ⟨?_, ?_, ?_, ?_, ?_, ?_, ?_, ?_, ?_, ?_, ?_, ?_, ?_, ?_⟩ <;> decide

/-- The hypotheses of CommandWatchdogAndCompletions can be met: one state and operands for each clause. -/
theorem witness_CommandWatchdogAndCompletions :
    (let s : State := chiS; let a : Access := tenant; let i : Fin 16 := 3; let v : Word := 0x4B1C; (s.admitsWrite a (Module.chiAddr i.val 0x1C)) ∧ (v.toNat % 2 ^ 16 = 0x4B1C) ∧ (s.m.rd F.CHI_STATE_STATE i.val ≠ 1) ∧ (s.m.chiQuiesced i.val = false))
    ∧ (let s : State := expireS; let i : Fin 16 := 0; (s.m.chiQuiesced i.val = false ∧ s.m.rd F.CHI_STATE_STATE i.val ≠ 3 ∧ s.m.drives = true) ∧ ((s.m.chi i.val).leftUs = 0 ∧ s.m.rd F.CHC_STAT_RUN = 1))
    ∧ (let s : State := chiS; let a : Access := tenant; let i : Fin 16 := 4; let e : ChiCpl := ⟨7, 0, 1, 9, 0, 12⟩; let r : List ChiCpl := []; (s.admitsRead a (Module.chiAddr i.val 0x10)) ∧ (commitsAtOnce a) ∧ ((s.m.chi i.val).fifo = e :: r))
    ∧ (let s : State := chiS; let a : Access := tenant; let i : Fin 16 := 5; (s.admitsRead a (Module.chiAddr i.val 0x10)) ∧ (commitsAtOnce a) ∧ ((s.m.chi i.val).fifo = []))
    ∧ (let s : State := chiS; let a : Access := tenant; (s.genuine a 0)) := by
  refine ⟨?_, ?_, ?_, ?_, ?_⟩ <;> decide

/-- The hypotheses of MicrocodeAndCalibration can be met: one state and operands for each clause. -/
theorem witness_MicrocodeAndCalibration :
    (let s : State := idleS; let a : Access := core; let v : Word := 0x6D310001; (s.admitsWrite a 0x20200030) ∧ (a.world = true) ∧ (v.toNat / 2 ^ 16 = 0x6D31 ∧ v.toNat.testBit 0 = true ∧ v.toNat.testBit 1 = false) ∧ (s.m.rd F.CHC_UC_STAT_PEND = 0))
    ∧ (let s : State := ucS; (s.m.chc.ucJob = .load))
    ∧ (let s : State := idleS; let a : Access := core; let v : Word := 0x6D310002; (s.admitsWrite a 0x20200030) ∧ (a.world = true) ∧ (v.toNat / 2 ^ 16 = 0x6D31 ∧ v.toNat.testBit 0 = false ∧ v.toNat.testBit 1 = true) ∧ (s.m.rd F.CHC_UC_STAT_PEND = 0))
    ∧ (let s : State := calPrimaryS; (s.m.rd F.CHC_CAL_STAT_CAL_ADC < 8 ∧ s.m.flag F.CHC_STAT_CAL_STOPPED = false) ∧ (s.m.chc.calShadow = false))
    ∧ (let s : State := calS; let gain : Int := 5; let offset : Int := 5; let span : Nat := 2000; (s.m.rd F.CHC_CAL_STAT_CAL_ADC < 8 ∧ s.m.flag F.CHC_STAT_CAL_STOPPED = false) ∧ (s.m.chc.calShadow = true) ∧ (4 * span < 4095 ∨ (gain - signed 16 (s.m.rd F.CHC_CAL_CORR_GAIN (s.m.rd F.CHC_CAL_STAT_CAL_ADC))).natAbs ≤ 5242) ∧ ((offset - signed 16 (s.m.rd F.CHC_CAL_CORR_OFFSET (s.m.rd F.CHC_CAL_STAT_CAL_ADC))).natAbs ≤ 64))
    ∧ (let s : State := calS; let offset : Int := 700; (s.m.rd F.CHC_CAL_STAT_CAL_ADC < 8 ∧ s.m.flag F.CHC_STAT_CAL_STOPPED = false) ∧ (s.m.chc.calShadow = true) ∧ (64 < (offset - signed 16 (s.m.rd F.CHC_CAL_CORR_OFFSET (s.m.rd F.CHC_CAL_STAT_CAL_ADC))).natAbs))
    ∧ (let s : State := idleS; let a : Access := core; (s.admitsWrite a 0x20200030 ∧ a.world = true))
    ∧ (let s : State := idleS; let a : Access := core; (s.admitsWrite a 0x20200030 ∧ a.world = true)) := by
  refine ⟨?_, ?_, ?_, ?_, ?_, ?_, ?_, ?_⟩ <;> decide

/-- The hypotheses of UniversalInputs can be met: one state and operands for each clause. -/
theorem witness_UniversalInputs :
    (let s : State := idleS; let a : Access := core; let n : Fin 64 := 7; (s.admitsWrite a (0x20300000 + 4 * n.val)))
    ∧ (let s : State := idleS; let a : Access := core; let k : Fin 4 := 2; let isB : Bool := true; (s.admitsWrite a (0x20300800 + 8 * k.val + 4 * b2n isB)))
    ∧ (let s : State := onS; (s.m.running 5 = true ∧ s.m.sys.blkRst ≠ some 5))
    ∧ (let s : State := pulseInS; let x : UinSample := ⟨3, 500, 2⟩; (s.m.running 5 = true ∧ s.m.sys.blkRst ≠ some 5) ∧ (Module.uinMode (s.m.uinIn x.n.val) = 1 ∨ Module.uinMode (s.m.uinIn x.n.val) = 6))
    ∧ (let s : State := uinS; let n : Fin 64 := 9; (s.m.flag F.UIN_STAT_EXCITE = true) ∧ (Module.uinMode (s.m.uinIn n.val) = 5))
    ∧ (let s : State := uinS; (s.m.flag F.UIN_STAT_EXCITE = true)) := by
  refine ⟨?_, ?_, ?_, ?_, ?_, ?_⟩ <;> decide

/-- The hypotheses of WindowsCommitOrReplay can be met: one state and operands for each clause. -/
theorem witness_WindowsCommitOrReplay :
    (let s : State := atomS; let w : WindowEnd := { pair := 1, sigA := [], sigB := [], cpA := [1, 2], cpB := [1, 2], stores := [⟨.memView, 0x10000200, 5, 15⟩] }; let p : Nat := 4; (s.m.hosted w.pair.val = some p) ∧ (s.m.rd F.LSS_PART_STATE p = 1 ∧ (s.m.pair w.pair.val).wfi = false ∧ s.m.windowOk w.pair.val w = true) ∧ (s.m.pairState w.pair.val = 6 ∨ (signature w.sigA = signature w.sigB ∧ w.cpA = w.cpB)))
    ∧ (let s : State := splitS; let w : WindowEnd := { pair := 0, sigA := [], sigB := [], cpA := [1, 2], cpB := [], stores := [⟨.pairLocal, 0x200, 5, 15⟩] }; (s.m.hosted w.pair.val = none ∧ s.m.pairState w.pair.val = 6) ∧ ((s.m.pair w.pair.val).wfi = false ∧ s.m.windowOk w.pair.val w = true))
    ∧ (let s : State := lssS; let w : WindowEnd := { pair := 1, sigA := [], sigB := [], cpA := [1, 2], cpB := [1, 2], stores := [⟨.pairLocal, 0x200, 5, 15⟩], early := some .wfi }; let p : Nat := 4; (s.m.hosted w.pair.val = some p) ∧ (s.m.rd F.LSS_PART_STATE p = 1 ∧ (s.m.pair w.pair.val).wfi = false ∧ s.m.windowOk w.pair.val w = true) ∧ (signature w.sigA = signature w.sigB ∧ w.cpA = w.cpB) ∧ (((s.m.pair w.pair.val).held ++ w.stores).all (fun x => x.kind == .pairLocal || x.kind == .pairReg) = true))
    ∧ (let s : State := atomS; let w : WindowEnd := { pair := 1, sigA := [], sigB := [], cpA := [1, 2], cpB := [1, 2], stores := [⟨.memView, 0x10000200, 5, 15⟩] }; let p : Nat := 4; let x : HeldStore := ⟨.memView, 0x10000200, 5, 15⟩; (s.m.hosted w.pair.val = some p) ∧ (s.m.rd F.LSS_PART_STATE p = 1 ∧ (s.m.pair w.pair.val).wfi = false ∧ s.m.windowOk w.pair.val w = true) ∧ (signature w.sigA = signature w.sigB ∧ w.cpA = w.cpB) ∧ ((s.m.pair w.pair.val).held = [] ∧ w.stores = [x] ∧ w.next = []) ∧ (x.kind = .memView ∧ x.mask = 0xF ∧ s.m.storeAllowed w.pair.val x = true) ∧ (0x10000000 ≤ x.addr ∧ x.addr + 4 ≤ 0x11000000 ∧ x.addr % 4 = 0 ∧ s.m.mem.clean) ∧ (s.admitsMem (Module.pairAccess w.pair.val p) x.addr 4 1))
    ∧ (let s : State := lssS; let w : WindowEnd := { pair := 1, sigA := [{ retired := some 1 }], sigB := [], cpA := [1, 2], cpB := [1, 2], stores := [⟨.memView, 0x10000200, 5, 15⟩] }; let p : Nat := 4; (s.m.hosted w.pair.val = some p) ∧ (s.m.rd F.LSS_PART_STATE p = 1 ∧ (s.m.pair w.pair.val).wfi = false ∧ s.m.windowOk w.pair.val w = true) ∧ (s.m.pairState w.pair.val = 3) ∧ (signature w.sigA ≠ signature w.sigB ∨ w.cpA ≠ w.cpB) ∧ (p < 16 ∧ (s.m.pair w.pair.val).replaying = false ∧ s.m.replayAllowed w.pair.val))
    ∧ (let s : State := lssS; let pair : Fin 4 := 1; let p : Nat := 4; (s.m.hosted pair.val = some p) ∧ (s.m.pairState pair.val = 3 ∧ (s.m.pair pair.val).wfi = false) ∧ (p < 16 ∧ (s.m.pair pair.val).replaying = false ∧ s.m.replayAllowed pair.val))
    ∧ (let s : State := lssReplayS; let pair : Fin 4 := 1; let p : Nat := 4; (s.m.hosted pair.val = some p) ∧ (s.m.pairState pair.val = 3 ∧ (s.m.pair pair.val).wfi = false) ∧ (p < 16 ∧ (s.m.pair pair.val).replaying = true)) := by
  refine ⟨?_, ?_, ?_, ?_, ?_, ?_, ?_⟩ <;> decide

/-- The hypotheses of PairAtomicsAndWriteErrors can be met: one state and operands for each clause. -/
theorem witness_PairAtomicsAndWriteErrors :
    (let s : State := atomS; let pair : Fin 4 := 1; let p : Nat := 4; let op : AmoOp := .add; let addr : Word := 0x10000100; let x : Word := 5; let mB : DWord := 0x1000010000000005; let aB : DWord := 0x2F; let u : PView := ⟨0x10000000, 0x10000, 0x10000000, 3, false⟩; let pa : Nat := 0x10000100; (s.m.hosted pair.val = some p) ∧ (addr.toNat % 4 = 0 ∧ 0x20000 < addr.toNat + 4) ∧ ((s.m.pairViews pair.val).find? (fun u => decide (u.vbase ≤ addr.toNat) && decide (addr.toNat + 4 ≤ u.vbase + u.size)) = some u) ∧ (u.perm.testBit 1 = true ∧ (u.perm.testBit 0 = true ∨ op = .sc true ∨ op = .sc false)) ∧ (s.m.pairState pair.val ≠ 3 ∨ (mB = reqWordM (Module.amoRequest op addr x u.device) ∧ aB = reqWordA (Module.amoRequest op addr x u.device))) ∧ (pa = u.pbase + (addr.toNat - u.vbase)) ∧ (s.m.mem.clean ∧ s.m.pbr.sems = []) ∧ (0x10000000 ≤ pa ∧ pa + 4 ≤ 0x11000000 ∧ pa % 4 = 0) ∧ (s.admitsMem (Module.pairAccess pair.val p) pa 4 0 ∧ s.admitsMem (Module.pairAccess pair.val p) pa 4 1))
    ∧ (let s : State := atomS; let pair : Fin 4 := 1; let p : Nat := 4; let op : AmoOp := .add; let addr : Word := 0x10010100; let x : Word := 5; let mB : DWord := 0x1001010000000005; let aB : DWord := 0x6F; let u : PView := ⟨0x10010000, 0x10000, 0x30000000, 3, true⟩; (s.m.hosted pair.val = some p) ∧ (addr.toNat % 4 = 0 ∧ 0x20000 < addr.toNat + 4) ∧ ((s.m.pairViews pair.val).find? (fun u => decide (u.vbase ≤ addr.toNat) && decide (addr.toNat + 4 ≤ u.vbase + u.size)) = some u) ∧ (u.perm.testBit 1 = true ∧ (u.perm.testBit 0 = true ∨ op = .sc true ∨ op = .sc false)) ∧ (s.m.pairState pair.val ≠ 3 ∨ (mB = reqWordM (Module.amoRequest op addr x u.device) ∧ aB = reqWordA (Module.amoRequest op addr x u.device))) ∧ (Module.isWindow (u.pbase + (addr.toNat - u.vbase)) = true))
    ∧ (let s : State := atomS; let pair : Fin 4 := 1; let p : Nat := 4; let op : AmoOp := .add; let addr : Word := 0x10000100; let x : Word := 5; let mB : DWord := 0; let aB : DWord := 0x2F; let u : PView := ⟨0x10000000, 0x10000, 0x10000000, 3, false⟩; (s.m.hosted pair.val = some p ∧ s.m.pairState pair.val = 3) ∧ (addr.toNat % 4 = 0 ∧ 0x20000 < addr.toNat + 4) ∧ ((s.m.pairViews pair.val).find? (fun u => decide (u.vbase ≤ addr.toNat) && decide (addr.toNat + 4 ≤ u.vbase + u.size)) = some u) ∧ (u.perm.testBit 1 = true ∧ (u.perm.testBit 0 = true ∨ op = .sc true ∨ op = .sc false)) ∧ (Module.isWindow (u.pbase + (addr.toNat - u.vbase)) = true ∨ Module.memOf (u.pbase + (addr.toNat - u.vbase)) ≠ none) ∧ (mB ≠ reqWordM (Module.amoRequest op addr x u.device) ∨ aB ≠ reqWordA (Module.amoRequest op addr x u.device)))
    ∧ (let s : State := atomS; let pair : Fin 4 := 1; let p : Nat := 4; let addr : Word := 0x100; (s.m.hosted pair.val = some p ∧ addr.toNat % 4 = 0 ∧ addr.toNat + 4 ≤ 0x20000))
    ∧ (let s : State := lssS; let pair : Fin 4 := 1; let p : Nat := 4; (s.m.hosted pair.val = some p ∧ p < 16)) := by
  refine ⟨?_, ?_, ?_, ?_, ?_⟩ <;> decide

/-- The hypotheses of PairRequests can be met: one state and operands for each clause. -/
theorem witness_PairRequests :
    (let s : State := lssS; let a : Access := core; let v : Word := 0x4C530001; let n : Fin 4 := 0; (s.admitsWrite a 0x20F00050) ∧ (a.world = true ∧ a.ini ≠ 0x3F) ∧ (v.toNat / 2 ^ 16 = 0x4C53 ∧ v.toNat % 2 ^ 4 = 1 ∧ v.toNat / 2 ^ 4 % 4 = n.val) ∧ (s.m.flag F.LSS_CTRL_STAT_PEND = false) ∧ (s.m.pairState n.val = 1 ∨ s.m.pairState n.val = 2 ∨ s.m.pairState n.val = 5) ∧ (s.m.lss.mig.any (fun g => g.dst == n.val || g.src == n.val) = false))
    ∧ (let s : State := lssS; let a : Access := core; let v : Word := 0x4C530022; let n : Fin 4 := 2; (s.admitsWrite a 0x20F00050) ∧ (a.world = true ∧ a.ini ≠ 0x3F) ∧ (v.toNat / 2 ^ 16 = 0x4C53 ∧ v.toNat % 2 ^ 4 = 2 ∧ v.toNat / 2 ^ 4 % 4 = n.val) ∧ (s.m.flag F.LSS_CTRL_STAT_PEND = false) ∧ (s.m.pairState n.val = 5 ∨ (s.m.pairState n.val = 6 ∧ s.m.hosted n.val = none)))
    ∧ (let s : State := lssS; let a : Access := core; let v : Word := 0x4C530403; let p : Fin 16 := 4; (s.admitsWrite a 0x20F00050) ∧ (a.world = true ∧ a.ini ≠ 0x3F) ∧ (v.toNat / 2 ^ 16 = 0x4C53 ∧ v.toNat % 2 ^ 4 = 3 ∧ v.toNat / 2 ^ 8 % 16 = p.val) ∧ (s.m.flag F.LSS_CTRL_STAT_PEND = false) ∧ (s.m.movable p.val = true ∧ s.m.sparePair.isSome = true))
    ∧ (let s : State := lssS; let a : Access := core; let v : Word := 0x4C530004; let n : Fin 4 := 0; (s.admitsWrite a 0x20F00050) ∧ (a.world = true ∧ a.ini ≠ 0x3F) ∧ (v.toNat / 2 ^ 16 = 0x4C53 ∧ v.toNat % 2 ^ 4 = 4 ∧ v.toNat / 2 ^ 4 % 4 = n.val) ∧ (s.m.flag F.LSS_CTRL_STAT_PEND = false) ∧ (s.m.splitRefusal n.val = none))
    ∧ (let s : State := lssS; let a : Access := core; let v : Word := 0x4C530005; let f : Nat := 3; (s.admitsWrite a 0x20F00050) ∧ (a.world = true ∧ a.ini ≠ 0x3F) ∧ (v.toNat / 2 ^ 16 = 0x4C53 ∧ v.toNat % 2 ^ 4 = 5) ∧ (s.m.flag F.LSS_CTRL_STAT_PEND = false) ∧ (s.m.sparePair = some f ∧ s.m.lss.mig = none))
    ∧ (let s : State := loanS; let a : Access := core; let v : Word := 0x4C530406; let p : Fin 16 := 4; (s.admitsWrite a 0x20F00050) ∧ (a.world = true ∧ a.ini ≠ 0x3F) ∧ (v.toNat / 2 ^ 16 = 0x4C53 ∧ v.toNat % 2 ^ 4 = 6 ∧ v.toNat / 2 ^ 8 % 16 = p.val) ∧ (s.m.flag F.LSS_CTRL_STAT_PEND = false) ∧ (s.m.movable p.val = true ∧ ((List.range 4).find? (fun k => s.m.pairState k == 4)).isSome = true))
    ∧ (let s : State := loanS; let a : Access := core; let v : Word := 0x4C530007; let f : Nat := 3; (s.admitsWrite a 0x20F00050) ∧ (a.world = true ∧ a.ini ≠ 0x3F) ∧ (v.toNat / 2 ^ 16 = 0x4C53 ∧ v.toNat % 2 ^ 4 = 7) ∧ (s.m.flag F.LSS_CTRL_STAT_PEND = false) ∧ ((List.range 4).find? (fun k => s.m.pairState k == 4) = some f ∧ s.m.lss.mig.any (fun g => g.dst == f) = false))
    ∧ (let s : State := lssS; let a : Access := core; (s.genuine a 1))
    ∧ (let s : State := lssS; let a : Access := core; (s.genuine a 1))
    ∧ (let s : State := lssS; let a : Access := core; (s.genuine a 1))
    ∧ (let s : State := lssS; let a : Access := core; (s.genuine a 1))
    ∧ (let s : State := lssS; let a : Access := core; (s.genuine a 1))
    ∧ (let s : State := loanS; let a : Access := core; (s.genuine a 1))
    ∧ (let s : State := loanS; let a : Access := core; (s.genuine a 1)) := by
  refine ⟨?_, ?_, ?_, ?_, ?_, ?_, ?_, ?_, ?_, ?_, ?_, ?_, ?_, ?_⟩ <;> decide

/-- The hypotheses of PairTestsAndMigration can be met: one state and operands for each clause. -/
theorem witness_PairTestsAndMigration :
    (let s : State := testS; let pair : Fin 4 := 2; (s.m.pairState pair.val = 0 ∧ s.m.lss.mig.any (fun g => g.dst == pair.val && ! g.tested) = false) ∧ (((s.m.pair pair.val).after = .settle ∨ (s.m.pair pair.val).after = .periodic) ∧ (s.m.pair pair.val).answers = false))
    ∧ (let s : State := testS; let pair : Fin 4 := 2; let missed : Fin 256 := 3; let falseFlag : Bool := false; (s.m.pairState pair.val = 0 ∧ s.m.lss.mig.any (fun g => g.dst == pair.val && ! g.tested) = false) ∧ (s.m.testHeld pair.val = false) ∧ (missed ≠ 0 ∨ falseFlag = true))
    ∧ (let s : State := testS; let pair : Fin 4 := 2; (s.m.pairState pair.val = 0 ∧ s.m.lss.mig.any (fun g => g.dst == pair.val && ! g.tested) = false) ∧ (s.m.testHeld pair.val = false))
    ∧ (let s : State := migTestS; let pair : Fin 4 := 3; let g : Migration := ⟨4, 1, 3, 0, false, 0⟩; (s.m.lss.mig = some g ∧ g.dst = pair.val ∧ g.tested = false))
    ∧ (let s : State := migS; let g : Migration := ⟨4, 1, 3, 0, true, 0⟩; (s.m.lss.mig = some g) ∧ (g.tested = true ∧ g.kind = 0 ∧ g.src < 4 ∧ g.dst < 4 ∧ g.src ≠ g.dst ∧ g.part < 16) ∧ (s.m.mem.clean))
    ∧ (let s : State := moveS; let g : Migration := ⟨4, 1, 3, 1, true, 0⟩; (s.m.lss.mig = some g) ∧ (g.tested = true ∧ (g.kind = 1 ∨ g.kind = 2) ∧ g.src < 4 ∧ g.dst < 4 ∧ g.src ≠ g.dst ∧ g.part < 16)) := by
  refine ⟨?_, ?_, ?_, ?_, ?_, ?_⟩ <;> decide

/-- The hypotheses of WorldsAndTheSecureWatchdog can be met: one state and operands for each clause. -/
theorem witness_WorldsAndTheSecureWatchdog :
    (let s : State := idleS; let core : Fin 4 := 2; let cause : EntryCause := .ecallHs; ((s.m.core core.val).secure = false) ∧ (s.m.rd F.WCT_STAT_SEC_STATE < 2) ∧ (cause ≠ .mInterrupt))
    ∧ (let s : State := idleS; let core : Fin 4 := 2; ((s.m.core core.val).secure = false) ∧ (s.m.rd F.WCT_STAT_SEC_STATE < 2))
    ∧ (let ctx : CoreCtx := { pc := 0x80, mode := .hs }; (ctx.mode ≠ .m))
    ∧ (let ctx : CoreCtx := { pc := 0x80, mode := .m }; (ctx.mode = .m))
    ∧ (let s : State := swdtS; let a : Access := core; let v : Word := 0x5EC1; (s.admitsWrite a 0x21000014) ∧ (a.world = true ∧ v.toNat % 2 ^ 16 = 0x5EC1 ∧ s.m.wct.swdtRun = true))
    ∧ (let s : State := swdtS; (s.m.wct.swdtRun = true ∧ s.m.rd F.WCT_STAT_RESTARTS < 3 ∧ s.m.rd F.WCT_SWDT_REMAIN_US = 0))
    ∧ (let s : State := swdtS; (s.m.wct.swdtRun = true ∧ s.m.rd F.WCT_STAT_RESTARTS < 3 ∧ s.m.rd F.WCT_SWDT_REMAIN_US = 0))
    ∧ (let s : State := swdtLastS; (s.m.wct.swdtRun = true ∧ s.m.rd F.WCT_STAT_RESTARTS = 3 ∧ s.m.rd F.WCT_SWDT_REMAIN_US = 0))
    ∧ (let s : State := idleS; let a : Access := core; let v : Word := 0x5EC00001; (s.admitsWrite a 0x21000010) ∧ (a.world = true ∧ v.toNat / 2 ^ 16 = 0x5EC0 ∧ v.toNat.testBit 0 = true) ∧ (s.m.rd F.WCT_STAT_SEC_STATE = 0 ∨ s.m.rd F.WCT_STAT_SEC_STATE = 2))
    ∧ (let s : State := readyS; (s.m.rd F.WCT_STAT_SEC_STATE = 1 ∧ s.m.wct.readyAt + 60000000 ≤ s.m.now))
    ∧ (let s : State := idleS; let a : Access := core; (s.admitsWrite a 0x21000010 ∧ a.world = true)) := by
  refine ⟨?_, ?_, ?_, ?_, ?_, ?_, ?_, ?_, ?_, ?_, ?_⟩ <;> decide

/-- The hypotheses of WorldMapAndHolds can be met: one state and operands for each clause. -/
theorem witness_WorldMapAndHolds :
    (let s : State := reg (·.wr F.WCT_MAP_SRC_ADDR 0x10000000); let a : Access := core; let v : Word := 1; let src : Nat := 0x10000000; (s.admitsWrite a 0x21000038) ∧ (a.world = true ∧ v.toNat.testBit 0 = true ∧ s.m.flag F.WCT_LOCK_WORLD_LOCK = false) ∧ (s.m.rd F.WCT_MAP_SRC_ADDR = src ∧ s.m.mem.clean ∧ 0x10000000 ≤ src ∧ src + 176 ≤ 0x11000000) ∧ (s.admitsMem a src 176 0))
    ∧ (let s : State := reg (·.wr F.WCT_LOCK_WORLD_LOCK 1); let a : Access := core; (s.admitsWrite a 0x21000038) ∧ (a.world = true ∧ s.m.flag F.WCT_LOCK_WORLD_LOCK = true))
    ∧ (let s : State := idleS; let a : Access := core; let v : Word := 1; (s.admitsWrite a 0x21000000) ∧ (a.world = true ∧ v.toNat.testBit 0 = true))
    ∧ (let s : State := reg (·.wr F.WCT_CFG_AC_PARTS 0x30); let a : Access := core; let e : Fin 32 := 3; let v : Word := 0x80040007; (s.admitsWrite a (0x21000600 + 4 * e.val)) ∧ (v.toNat.testBit 31 = true ∧ (s.m.rd F.WCT_CFG_AC_PARTS).testBit (v.toNat / 2 ^ 16 % 16) = true) ∧ (s.m.vmidHolder e.val (v.toNat % 2 ^ 14) = none))
    ∧ (let s : State := idleS; let a : Access := core; let e : Fin 32 := 3; let v : Word := 0x40007; (s.admitsWrite a (0x21000600 + 4 * e.val)) ∧ (v.toNat.testBit 31 = false))
    ∧ (let s : State := reg (·.wr F.WCT_BLK_GATE 2 6); let a : Access := core; let v : Word := 0x106; let b : Nat := 6; (s.admitsWrite a 0x21000300) ∧ (a.world = true ∧ b < 256 ∧ v.toNat % 2 ^ 10 = b + 256) ∧ (s.m.gateOf b = 2 ∧ s.m.normalDrains b = false ∧ s.m.rd F.WCT_HOLD_COUNT b < 255))
    ∧ (let s : State := reg (fun m => ((m.wr F.WCT_BLK_GATE 2 6).wr F.WCT_HOLD_COUNT 2 6).wr F.WCT_DEFER_BLOCK 6); let a : Access := core; let v : Word := 0x206; let b : Nat := 6; (s.admitsWrite a 0x21000300) ∧ (a.world = true ∧ b < 256 ∧ v.toNat % 2 ^ 10 = b + 512) ∧ (s.m.gateOf b = 2 ∧ 1 < s.m.rd F.WCT_HOLD_COUNT b ∧ s.m.rd F.WCT_DEFER_BLOCK = b))
    ∧ (let s : State := reg (fun m => (m.wr F.WCT_BLK_GATE 2 6).wr F.WCT_HOLD_COUNT 1 6); let a : Access := core; let v : Word := 0x206; let b : Nat := 6; (s.admitsWrite a 0x21000300) ∧ (a.world = true ∧ b < 256 ∧ v.toNat % 2 ^ 10 = b + 512) ∧ (s.m.gateOf b = 2 ∧ 1 ≤ s.m.rd F.WCT_HOLD_COUNT b))
    ∧ (let s : State := reg (·.wr F.WCT_DEFER_PEND 1); let a : Access := core; let v : Word := 1; (s.admitsWrite a 0x21000314) ∧ (v.toNat.testBit 0 = true ∧ s.m.flag F.WCT_DEFER_PEND = true))
    ∧ (let s : State := reg (·.wr F.WCT_LOCK_WORLD_LOCK 1); let a : Access := core; (s.admitsWrite a 0x21000038 ∧ a.world = true))
    ∧ (let s : State := idleS; let a : Access := core; let e : Fin 32 := 3; (s.admitsWrite a (0x21000600 + 4 * e.val)))
    ∧ (let s : State := reg (·.wr F.WCT_BLK_GATE 2 6); let a : Access := core; (s.admitsWrite a 0x21000300 ∧ a.world = true))
    ∧ (let s : State := reg (fun m => (m.wr F.WCT_BLK_GATE 2 6).wr F.WCT_HOLD_COUNT 1 6); let a : Access := core; (s.admitsWrite a 0x21000300 ∧ a.world = true)) := by
  refine ⟨?_, ?_, ?_, ?_, ?_, ?_, ?_, ?_, ?_, ?_, ?_, ?_, ?_⟩ <;> decide

/-- The hypotheses of InstanceRequests can be met: one state and operands for each clause. -/
theorem witness_InstanceRequests :
    (let s : State := imgS; let a : Access := secCore; let v : Word := 0x494D0641; let p : Nat := 100; (s.admitsWrite a 0x20E00000) ∧ (v.toNat / 2 ^ 16 = 0x494D ∧ v.toNat % 2 ^ 4 = 1 ∧ v.toNat / 2 ^ 4 % 2 ^ 7 = p ∧ 96 ≤ p ∧ p < 112 ∧ s.m.flag F.IMG_CTRL_STAT_PEND = false) ∧ (s.m.pageWorld p = (s.m.rd F.IMG_ARG_PART == s.m.rd F.WCT_CFG_SEC_PART)) ∧ (s.m.ownsSafety p = false ∧ s.m.quiescedPage p = true))
    ∧ (let s : State := imgS; let a : Access := secCore; let v : Word := 0x494D0471; let p : Nat := 71; (s.admitsWrite a 0x20E00000) ∧ (v.toNat / 2 ^ 16 = 0x494D ∧ v.toNat % 2 ^ 4 = 1 ∧ v.toNat / 2 ^ 4 % 2 ^ 7 = p ∧ p < 96 ∧ s.m.flag F.IMG_CTRL_STAT_PEND = false) ∧ (s.m.pageWorld p = (s.m.rd F.IMG_ARG_PART == s.m.rd F.WCT_CFG_SEC_PART)))
    ∧ (let s : State := imgS; let a : Access := secCore; let v : Word := 0x494D0642; let p : Nat := 100; (s.admitsWrite a 0x20E00000) ∧ (v.toNat / 2 ^ 16 = 0x494D ∧ v.toNat % 2 ^ 4 = 2 ∧ v.toNat / 2 ^ 4 % 2 ^ 7 = p ∧ 96 ≤ p ∧ p < 112 ∧ s.m.flag F.IMG_CTRL_STAT_PEND = false) ∧ (s.m.quiescedPage p = true))
    ∧ (let s : State := imgS; let a : Access := secCore; let v : Word := 0x494D0462; let p : Nat := 70; (s.admitsWrite a 0x20E00000) ∧ (v.toNat / 2 ^ 16 = 0x494D ∧ v.toNat % 2 ^ 4 = 2 ∧ v.toNat / 2 ^ 4 % 2 ^ 7 = p ∧ p < 96 ∧ s.m.flag F.IMG_CTRL_STAT_PEND = false))
    ∧ (let s : State := imgS; let a : Access := secCore; let v : Word := 0x494D0643; let p : Nat := 100; (s.admitsWrite a 0x20E00000) ∧ (v.toNat / 2 ^ 16 = 0x494D ∧ v.toNat % 2 ^ 4 = 3 ∧ v.toNat / 2 ^ 4 % 2 ^ 7 = p ∧ 96 ≤ p ∧ p < 112 ∧ s.m.flag F.IMG_CTRL_STAT_PEND = false) ∧ (s.m.quiescedPage p = true))
    ∧ (let s : State := imgS; let a : Access := secCore; let v : Word := 0x494D0463; let p : Nat := 70; (s.admitsWrite a 0x20E00000) ∧ (v.toNat / 2 ^ 16 = 0x494D ∧ v.toNat % 2 ^ 4 = 3 ∧ v.toNat / 2 ^ 4 % 2 ^ 7 = p ∧ p < 96 ∧ s.m.flag F.IMG_CTRL_STAT_PEND = false) ∧ (s.m.flag F.IMG_INST_CFG_ASSIGNED p = true))
    ∧ (let s : State := quietS; let a : Access := core; let v : Word := 0x494D0654; let p : Nat := 101; (s.admitsWrite a 0x20E00000) ∧ (v.toNat / 2 ^ 16 = 0x494D ∧ v.toNat % 2 ^ 4 = 4 ∧ v.toNat / 2 ^ 4 % 2 ^ 7 = p ∧ 96 ≤ p ∧ p < 112 ∧ s.m.flag F.IMG_CTRL_STAT_PEND = false) ∧ (s.m.flag F.IMG_INST_CFG_ASSIGNED p = true ∧ s.m.quiescedPage p = false ∧ s.m.chiOcc (p - 96) ≠ 0))
    ∧ (let s : State := idleQS; let a : Access := core; let v : Word := 0x494D0654; let p : Nat := 101; (s.admitsWrite a 0x20E00000) ∧ (v.toNat / 2 ^ 16 = 0x494D ∧ v.toNat % 2 ^ 4 = 4 ∧ v.toNat / 2 ^ 4 % 2 ^ 7 = p ∧ 96 ≤ p ∧ p < 112 ∧ s.m.flag F.IMG_CTRL_STAT_PEND = false) ∧ (s.m.flag F.IMG_INST_CFG_ASSIGNED p = true ∧ (s.m.quiescedPage p = true ∨ s.m.chiOcc (p - 96) = 0)))
    ∧ (let s : State := imgS; let a : Access := secCore; let v : Word := 0x494D0645; let p : Nat := 100; (s.admitsWrite a 0x20E00000) ∧ (v.toNat / 2 ^ 16 = 0x494D ∧ v.toNat % 2 ^ 4 = 5 ∧ v.toNat / 2 ^ 4 % 2 ^ 7 = p ∧ 96 ≤ p ∧ p < 112 ∧ s.m.flag F.IMG_CTRL_STAT_PEND = false) ∧ (s.m.flag F.IMG_INST_STAT_QUIESCE p = true))
    ∧ (let s : State := imgS; let a : Access := secCore; let v : Word := 0x494D0646; let p : Nat := 100; (s.admitsWrite a 0x20E00000) ∧ (v.toNat / 2 ^ 16 = 0x494D ∧ v.toNat % 2 ^ 4 = 6 ∧ v.toNat / 2 ^ 4 % 2 ^ 7 = p ∧ p < 112 ∧ s.m.flag F.IMG_CTRL_STAT_PEND = false) ∧ (s.m.rd F.IMG_ARG_SHARE ≤ Module.shareMax (Module.classOfPage p)) ∧ (s.m.rd F.IMG_ARG_SHARE + (((Module.classPages (Module.classOfPage p)).filter (fun q => q != p)).map (fun q => max (s.m.instShare q) (s.m.instOcc q))).sum ≤ Module.pool (Module.classOfPage p)))
    ∧ (let s : State := imgS; let a : Access := secCore; let v : Word := 0x494D0647; let p : Nat := 100; (s.admitsWrite a 0x20E00000) ∧ (v.toNat / 2 ^ 16 = 0x494D ∧ v.toNat % 2 ^ 4 = 7 ∧ v.toNat / 2 ^ 4 % 2 ^ 7 = p ∧ p < 112 ∧ s.m.flag F.IMG_CTRL_STAT_PEND = false) ∧ (s.m.rd F.IMG_ARG_WEIGHT ≠ 0))
    ∧ (let s : State := chiS; let a : Access := tenant; let page : Fin 112 := 100; let v : Word := 0x1E5A; (s.admitsWrite a (Module.pageBase page.val + 0x720)) ∧ (96 ≤ page.val ∧ v.toNat % 2 ^ 16 = 0x1E5A))
    ∧ (let s : State := imgS; let a : Access := tenant; let page : Fin 112 := 70; let v : Word := 0x1E5A; (s.admitsWrite a (Module.pageBase page.val + 0x720)) ∧ (64 ≤ page.val ∧ page.val < 96 ∧ v.toNat % 2 ^ 16 = 0x1E5A) ∧ ((tget {} s.m.inst page.val) = {} ∧ s.m.rd F.IMG_INST_STAT_GEN page.val < 4095))
    ∧ (let s : State := imgS; let a : Access := tenant; let page : Fin 112 := 70; let v : Word := 0x1E5A; (s.admitsWrite a (Module.pageBase page.val + 0x720)) ∧ (page.val < 96 ∧ v.toNat % 2 ^ 16 = 0x1E5A))
    ∧ (let s : State := fenceS; let page : Fin 96 := 70; ((tget {} s.m.inst page.val).fence = true ∧ s.m.instInFlight page.val = 0))
    ∧ (let s : State := fenceS; let page : Fin 96 := 70; ((tget {} s.m.inst page.val).fence = true ∧ (tget {} s.m.inst page.val).since + 100000 ≤ s.m.now))
    ∧ (let s : State := imgS; let a : Access := secCore; (s.genuine a 1))
    ∧ (let s : State := imgS; let a : Access := secCore; (s.genuine a 1))
    ∧ (let s : State := imgS; let a : Access := secCore; (s.genuine a 1))
    ∧ (let s : State := idleQS; let a : Access := core; (s.genuine a 1))
    ∧ (let s : State := imgS; let a : Access := secCore; (s.genuine a 1))
    ∧ (let s : State := imgS; let a : Access := secCore; (s.genuine a 1))
    ∧ (let s : State := imgS; let a : Access := secCore; (s.genuine a 1))
    ∧ (let s : State := imgS; let a : Access := tenant; let page : Fin 112 := 70; (s.admitsWrite a (Module.pageBase page.val + 0x720))) := by
  refine ⟨?_, ?_, ?_, ?_, ?_, ?_, ?_, ?_, ?_, ?_, ?_, ?_, ?_, ?_, ?_, ?_, ?_, ?_, ?_, ?_, ?_, ?_, ?_, ?_⟩ <;> decide

/-- The hypotheses of SwitchTables can be met: one state and operands for each clause. -/
theorem witness_SwitchTables :
    (let s : State := swcS; let a : Access := core; let table : Fin 4 := 1; let index : Fin 8192 := 7; (s.admitsWrite a tblCmdAddr) ∧ (Module.writeRefused table.val index.val s.m.staging = false))
    ∧ (let s : State := swcS; let a : Access := core; let table : Fin 4 := 1; let index : Fin 8192 := 1; (s.admitsWrite a tblCmdAddr) ∧ (index.val < Module.tableSize table.val))
    ∧ (let s : State := swcS; let a : Access := core; let table : Fin 4 := 1; let index : Fin 8192 := 1; (s.admitsWrite a tblCmdAddr) ∧ (index.val < Module.tableSize table.val))
    ∧ (let s : State := swcFwdS; let a : Access := core; let i : Nat := 4 * fwdBucket 0x123456 5; (s.admitsWrite a tblCmdAddr) ∧ (s.m.insertPlace = some i))
    ∧ (let s : State := swcFwdS; let a : Access := core; let i : Nat := 4 * fwdBucket 0x123456 5; (s.admitsWrite a tblCmdAddr) ∧ (s.m.fwdFind (entryMac s.m.staging) (entryVid s.m.staging) = some i))
    ∧ (let s : State := swcS; let a : Access := core; (s.admitsWrite a tblCmdAddr) ∧ (s.m.fwdFind (entryMac s.m.staging) (entryVid s.m.staging) = none))
    ∧ (let s : State := swcFwdS; let a : Access := core; (s.admitsWrite a tblCmdAddr))
    ∧ (let s : State := reg (·.wr F.SWC_AGING_EN 0); (s.m.works 6 = true) ∧ (s.m.flag F.SWC_AGING_EN = false))
    ∧ (let s : State := ageS; (s.m.works 6 = true) ∧ (s.m.flag F.SWC_AGING_EN = true ∧ s.m.swc.scanUs + s.m.rd F.SWC_AGING_SECONDS * 250000 ≤ s.m.now))
    ∧ (let s : State := swcS; let a : Access := core; (s.admitsWrite a 0x20400038))
    ∧ (let s : State := reg (·.wr F.SWC_DRAIN_STAT_DRAINED 0); (s.m.works 6 = true) ∧ (s.m.flag F.SWC_DRAIN_STAT_DRAINED = false) ∧ (Module.epochReached s.m.epochOldest (s.m.rd F.SWC_DRAIN_REQ_EPOCH) = true))
    ∧ (let s : State := swcS; let a : Access := core; (s.admitsWrite a 0x20400070))
    ∧ (let s : State := swcS; let a : Access := core; (s.admitsWrite a tblCmdAddr))
    ∧ (let s : State := swcS; let a : Access := core; (s.admitsWrite a tblCmdAddr))
    ∧ (let s : State := swcFwdS; let a : Access := core; (s.admitsWrite a tblCmdAddr))
    ∧ (let s : State := swcS; let a : Access := core; (s.admitsWrite a tblCmdAddr))
    ∧ (let s : State := ageS; (s.m.works 6 = true))
    ∧ (let s : State := reg (·.wr F.SWC_DRAIN_STAT_DRAINED 0); (s.m.works 6 = true))
    ∧ (let s : State := swcS; let a : Access := core; (s.admitsWrite a tblCmdAddr)) := by
  refine ⟨?_, ?_, ?_, ?_, ?_, ?_, ?_, ?_, ?_, ?_, ?_, ?_, ?_, ?_, ?_, ?_, ?_, ?_, ?_⟩ <;> decide

/-- The hypotheses of SwitchFrames can be met: one state and operands for each clause. -/
theorem witness_SwitchFrames :
    (let s : State := frameS; let port : Fin 15 := 4; let head : List Byte := bcast; (s.m.works 7 = true) ∧ (s.m.linkUp port.val = true ∧ s.m.flag F.MAC_CTRL_RX_EN port.val = true ∧ s.m.receiving port.val = none) ∧ (head.length = 64 ∧ Module.isMacControl head = false ∧ s.m.swFrame s.m.swc.nextId = none) ∧ ((s.m.decideFrame port.val head none 0 0).2.kind = .forwarded ∧ (s.m.decideFrame port.val head none 0 0).2.reason = 0))
    ∧ (let s : State := frameS; let port : Fin 15 := 4; let head : List Byte := bcast; (s.m.works 7 = true) ∧ (s.m.linkUp port.val = true ∧ s.m.flag F.MAC_CTRL_RX_EN port.val = true ∧ s.m.receiving port.val = none) ∧ (head.length = 64 ∧ (hdrOf head).da = 0xFFFFFFFFFFFF ∧ (hdrOf head).etype ≠ 0x88B5 ∧ s.m.swFrame s.m.swc.nextId = none) ∧ (s.m.flag F.SWC_CTRL_FWD_EN = true ∧ s.m.flag F.SWC_PORT_A_EN port.val = true ∧ s.m.swc.rules = [] ∧ s.m.swc.streams = []) ∧ (s.m.tableBad 1 (s.m.resolve port.val (hdrOf head)).vid = false) ∧ (s.m.vlanRefuses port.val (s.m.resolve port.val (hdrOf head)) = false) ∧ (setBit (s.m.vlanMembers (s.m.resolve port.val (hdrOf head)).vid) port.val false ≠ 0))
    ∧ (let s : State := frameS; (s.m.works 7 = true))
    ∧ (let s : State := rxS; (s.m.works 7 = true))
    ∧ (let s : State := rxS; let port : Fin 15 := 4; let rest : List Byte := toBytes 4 (crc32 bcast); let f : SwFrame := rxF; (s.m.works 7 = true) ∧ (s.m.linkUp port.val = true ∧ s.m.flag F.MAC_CTRL_RX_EN port.val = true) ∧ (s.m.receiving port.val = some f ∧ s.m.swFrame f.id = some f) ∧ (f.kind = .forwarded ∧ f.copies ≠ [] ∧ f.genSeq = none ∧ s.m.macJudge port.val (f.bytes ++ rest) false = (0, 0)))
    ∧ (let s : State := queueS; let port : Fin 16 := 5; let e : SwFrame × Copy := (txF, ⟨5, 0, some 0, false, 0, false, false, false⟩); (s.m.works 6 = true) ∧ (s.m.portSends port.val = true ∧ s.m.portBusy port.val = false) ∧ ((s.m.pickClass port.val).2.bind (fun c => (s.m.pickClass port.val).1.queueHead port.val c) = some e))
    ∧ (let s : State := sendS; let port : Fin 15 := 5; let f : SwFrame := sendF; let c : Copy := sendC; (s.m.works 6 = true) ∧ (s.m.sendingCopy port.val = some (f, c)) ∧ (f.ended = true))
    ∧ (let s : State := queueAgeS; (s.m.works 6 = true) ∧ ((∀ f ∈ s.m.swc.frames, f.tx = none)) ∧ (s.m.swc.ageUs + 1000 ≤ s.m.now))
    ∧ (let s : State := queueAgeS; (s.m.works 6 = true) ∧ (s.m.swc.ageUs + 1000 ≤ s.m.now))
    ∧ (let s : State := queueS; let port : Fin 15 := 5; (s.m.works 7 = true ∧ s.m.phyAlways port.val = false))
    ∧ (let s : State := queueS; let port : Fin 15 := 5; (s.m.works 7 = true ∧ s.m.phyAlways port.val = false) ∧ ((∀ f ∈ s.m.swc.frames, f.tx = none)) ∧ (s.m.receiving port.val = none))
    ∧ (let s : State := sporeS; let r : List Byte := List.replicate 128 7; let rest : List (List Byte) := []; let at_ : Nat := 0x10000000; (s.m.works 6 = true) ∧ (s.m.swc.stage = r :: rest ∧ r.length = 128 ∧ s.m.flag F.SWC_CTRL_SPORE_EN = true ∧ s.m.sporeFull = false) ∧ (at_ = s.m.rd F.SWC_SPORE_BASE_ADDR * 0x1000 + s.m.rd F.SWC_SPORE_WR_IDX * 128) ∧ (0x10000000 ≤ at_ ∧ at_ + 128 ≤ 0x11000000 ∧ s.m.mem.clean ∧ s.m.pbr.sems = []) ∧ (s.admitsMem (s.m.iattr 0x22) at_ 128 1))
    ∧ (let s : State := sporeS; (s.m.works 6 = true) ∧ (s.m.flag F.SWC_CTRL_SPORE_EN = true ∧ s.m.swc.stage ≠ []))
    ∧ (let s : State := streamS; let i : Fin 256 := 3; (s.m.works 6 = true) ∧ ((wordAt (tget [] s.m.swc.streams i.val) 1).testBit 29 = true ∧ (wordAt (tget [] s.m.swc.streams i.val) 2).testBit 17 = true) ∧ ((tget {} s.m.swc.recov i.val).inReset = false) ∧ ((tget {} s.m.swc.recov i.val).last + wordAt (tget [] s.m.swc.streams i.val) 3 / 2 ^ 16 * 1000 ≤ s.m.now))
    ∧ (let s : State := queueAgeS; (s.m.works 6 = true))
    ∧ (let s : State := sporeS; (s.m.works 6 = true))
    ∧ (let s : State := streamS; (s.m.works 6 = true))
    ∧ (let s : State := queueS; (s.m.works 6 = true))
    ∧ (let s : State := sendS; (s.m.works 6 = true)) := by
  refine ⟨?_, ?_, ?_, ?_, ?_, ?_, ?_, ?_, ?_, ?_, ?_, ?_, ?_, ?_, ?_, ?_, ?_, ?_, ?_⟩ <;> decide

/-- The hypotheses of PortMacs can be met: one state and operands for each clause. -/
theorem witness_PortMacs :
    (let s : State := macS; let port : Fin 15 := 1; (s.m.works 7 = true) ∧ (s.m.pauseActs port.val 1 = true))
    ∧ (let s : State := macS; let port : Fin 15 := 2; (s.m.works 7 = true) ∧ (s.m.pauseActs port.val 2 = true))
    ∧ (let s : State := pauseHeldS; let port : Fin 15 := 4; let cls : Fin 8 := 2; let f : Nat := 0; (s.m.works 7 = true) ∧ ((s.m.classHold port.val cls.val).start = some f ∧ (s.m.rd F.MAC_STAT_HELD port.val).testBit cls.val = true) ∧ (f * 1000 + (s.m.classHold port.val cls.val).ns ≤ s.m.now * 1000))
    ∧ (let s : State := pauseS; let port : Fin 15 := 4; (s.m.works 7 = true) ∧ (s.m.fcOn port.val = true ∧ s.m.portBusy port.val = false) ∧ (s.m.rd F.SWC_PORT_STAT_XOFF port.val ≠ (tget {} s.m.mac port.val).told))
    ∧ (let s : State := pauseLateS; let port : Fin 15 := 4; (s.m.works 7 = true) ∧ (s.m.fcOn port.val = true ∧ s.m.portBusy port.val = false) ∧ (s.m.rd F.SWC_PORT_STAT_XOFF port.val ≠ 0) ∧ (Module.quantaNs port.val (s.m.rd F.MAC_PAUSE_CFG_REFRESH port.val) ≤ (s.m.now - (tget {} s.m.mac port.val).sentUs) * 1000))
    ∧ (let s : State := pauseHeldS; let port : Fin 15 := 4; let cls : Fin 8 := 2; (s.m.works 7 = true) ∧ (s.m.rd F.MAC_PAUSE_WDT_MS port.val ≠ 0) ∧ ((s.m.rd F.MAC_STAT_HELD port.val).testBit cls.val = true) ∧ ((s.m.classHold port.val cls.val).since + s.m.rd F.MAC_PAUSE_WDT_MS port.val * 1000 ≤ s.m.now))
    ∧ (let s : State := macS; let port : Fin 15 := 4; (s.m.works 7 = true) ∧ (s.m.rd F.MAC_PAUSE_IGN_REMAIN_MS port.val = 0))
    ∧ (let s : State := phyS; let port : Fin 12 := 1; let g : Nat := 17; (s.m.works 7 = true) ∧ (s.m.sys.serLock = true ∧ s.m.flag F.MAC_PHY_CTRL_EN (port.val + 3) = true) ∧ (portSeg (port.val + 3) = some g ∧ s.m.segState g ≠ 2 ∧ (s.m.seg g).wakeDue = false) ∧ (s.m.phyLoading (Module.phyKind (port.val + 3)) = false))
    ∧ (let s : State := phyWakeS; let port : Fin 12 := 1; let g : Nat := 17; (s.m.works 7 = true) ∧ (s.m.sys.serLock = true ∧ s.m.flag F.MAC_PHY_CTRL_EN (port.val + 3) = true) ∧ (portSeg (port.val + 3) = some g ∧ s.m.segState g ≠ 2 ∧ (s.m.seg g).wakeDue = true) ∧ (s.m.phyLoading (Module.phyKind (port.val + 3)) = false))
    ∧ (let s : State := phyS; (s.m.works 7 = true) ∧ (s.m.sys.serLock = true))
    ∧ (let s : State := phyS; (s.m.works 7 = true))
    ∧ (let s : State := phyFwS; let kind : Fin 256 := 1; (s.m.works 7 = true) ∧ (s.m.phyLoading kind.val = true))
    ∧ (let s : State := macS; let a : Access := core; let port : Fin 16 := 3; (s.admitsWrite a (Module.macAddr port.val 0x70)))
    ∧ (let s : State := macS; (s.m.works 7 = true))
    ∧ (let s : State := pauseHeldS; (s.m.works 7 = true))
    ∧ (let s : State := pauseS; (s.m.works 7 = true))
    ∧ (let s : State := pauseLateS; (s.m.works 7 = true))
    ∧ (let s : State := pauseHeldS; (s.m.works 7 = true))
    ∧ (let s : State := phyWakeS; (s.m.works 7 = true))
    ∧ (let s : State := phyS; (s.m.works 7 = true))
    ∧ (let s : State := phyFwS; (s.m.works 7 = true))
    ∧ (let s : State := macS; (s.m.works 7 = true)) := by
  refine ⟨?_, ?_, ?_, ?_, ?_, ?_, ?_, ?_, ?_, ?_, ?_, ?_, ?_, ?_, ?_, ?_, ?_, ?_, ?_, ?_, ?_, ?_⟩ <;> decide

/-- The hypotheses of HostDma can be met: one state and operands for each clause. -/
theorem witness_HostDma :
    (let s : State := imgS; let a : Access := tenant; let q : Fin 32 := 6; (s.admitsWrite a (Module.hqAddr q.val 0x24)))
    ∧ (let s : State := imgS; let a : Access := tenant; let q : Fin 32 := 6; (s.admitsWrite a (Module.hqAddr q.val 0x0C)))
    ∧ (let s : State := imgS; let a : Access := tenant; let q : Fin 32 := 6; let v : Word := 0x10006; (s.admitsWrite a (Module.hqAddr q.val 0x08)) ∧ (4 ≤ v.toNat % 16 ∧ v.toNat % 16 ≤ 12 ∧ v.toNat.testBit 16 = true ∧ s.m.flag F.HQ_RX_CFG_EN q.val = false))
    ∧ (let s : State := imgS; let a : Access := tenant; let q : Fin 32 := 6; let tx : Bool := true; (s.admitsWrite a (Module.hqAddr q.val (if tx then 0x20 else 0x08))))
    ∧ (let s : State := hqS; (s.m.works 8 = true))
    ∧ (let s : State := hqS; let q : Fin 32 := 6; let i : Nat := 0; (s.m.works 8 = true) ∧ ((s.m.hq q.val).rxNext = i ∧ s.m.ringEn q.val false = true ∧ s.m.mayFetch q.val = true ∧ (s.m.hq q.val).rx.length < 16) ∧ (i ≠ s.m.ringTail q.val false % s.m.ringSize q.val false) ∧ ((i + 1) % s.m.ringSize q.val false = s.m.ringTail q.val false % s.m.ringSize q.val false) ∧ (s.m.mem.clean ∧ 0x10000000 ≤ s.m.ringDesc q.val false i ∧ s.m.ringDesc q.val false i + 32 ≤ 0x11000000) ∧ (s.admitsMem (s.m.hqAccess q.val true) (s.m.ringDesc q.val false i) 32 0))
    ∧ (let s : State := txS; let q : Fin 32 := 6; let f : TxFrame := txFr; (s.m.works 8 = true) ∧ (s.m.txReady q.val = some f ∧ s.m.txSync.txTurn = some q.val))
    ∧ (let s : State := txS; let q : Fin 32 := 6; let f : TxFrame := txFr; (s.m.works 8 = true) ∧ (s.m.txReady q.val = some f ∧ s.m.txSync.txTurn = some q.val) ∧ ((s.m.txSync.readBuffers q.val f.descs).2.2 = none))
    ∧ (let s : State := launchS; let q : Fin 32 := 6; let f : TxFrame := launchFr; let due : Nat := 0; (s.m.works 8 = true) ∧ (s.m.txNextFrame q.val = some f ∧ launchNs s.m.tai f.descs = some due ∧ due < s.m.tai + 1000) ∧ (s.m.flag F.HQ_TX_CFG_EN q.val = true))
    ∧ (let s : State := launchS; let q : Fin 32 := 6; let f : TxFrame := launchFr; let due : Nat := 0; (s.m.works 8 = true) ∧ (s.m.txNextFrame q.val = some f ∧ launchNs s.m.tai f.descs = some due ∧ due < s.m.tai + 1000) ∧ (s.m.flag F.HQ_TX_CFG_EN q.val = true ∧ (s.m.readBuffers q.val f.descs).2.2 = none))
    ∧ (let s : State := tsS; let port : Fin 15 := 4; let e : Nat × Nat × Nat × Nat := (4, 6, 0, 1000); (s.m.works 7 = true) ∧ (s.m.swc.tsDue.find? (fun e => e.1 == port.val) = some e) ∧ ((s.m.hq e.2.1).frames.any (fun f => f.no == e.2.2.1) = true ∧ s.m.rd F.MAC_TXTS_STAT_OCC port.val < 64))
    ∧ (let s : State := { tsS with m := tsS.m.wr F.MAC_TXTS_STAT_OCC 64 4 }; let port : Fin 15 := 4; let e : Nat × Nat × Nat × Nat := (4, 6, 0, 1000); (s.m.works 7 = true) ∧ (s.m.swc.tsDue.find? (fun e => e.1 == port.val) = some e) ∧ ((s.m.hq e.2.1).frames.any (fun f => f.no == e.2.2.1) = true ∧ 64 ≤ s.m.rd F.MAC_TXTS_STAT_OCC port.val))
    ∧ (let s : State := rxHqS; let f : SwFrame := rxHqF; let c : Copy := rxHqC; let q : Nat := 6; (s.m.works 8 = true) ∧ (s.m.sendingCopy 15 = some (f, c) ∧ f.ended = true ∧ s.m.rxQueue f = q) ∧ (s.m.flag F.IMG_INST_CFG_ASSIGNED (64 + q) = true ∧ s.m.flag F.HQ_RX_CFG_EN q = true ∧ (s.m.hq q).park = none) ∧ ((s.m.hq q).rx ≠ [] ∨ (s.m.hq q).rxNext ≠ s.m.rd F.HQ_RX_TAIL_IDX q % s.m.ringSize q false))
    ∧ (let s : State := rxHqS; let f : SwFrame := rxHqF; let c : Copy := rxHqC; let q : Nat := 6; let i : Nat := 0; let w : List Nat := [0x10000000, 0, 1536]; let data : List Byte := rxHqF.out rxHqC 0xFFFFFFFF; (s.m.works 8 = true) ∧ (s.m.sendingCopy 15 = some (f, c) ∧ f.ended = true ∧ s.m.rxQueue f = q ∧ q < 32) ∧ (s.m.flag F.IMG_INST_CFG_ASSIGNED (64 + q) = true ∧ s.m.flag F.HQ_RX_CFG_EN q = true ∧ (s.m.hq q).park = none) ∧ ((s.m.hq q).rx = [(i, w)] ∧ data = f.out c (s.m.vlanUntag f.vid) ∧ 0 < data.length ∧ data.length ≤ w.getD 2 0 % 2 ^ 15) ∧ (s.m.mem.clean ∧ s.m.pbr.sems = [] ∧ 0x10000000 ≤ descAddr w ∧ descAddr w + data.length ≤ 0x11000000) ∧ (s.admitsMem (s.m.hqAccess q false) (descAddr w) data.length 1) ∧ (s.admitsMem (s.m.hqAccess q false) (s.m.ringDesc q false i) 32 1) ∧ (descAddr w + data.length ≤ s.m.ringDesc q false i ∧ s.m.ringDesc q false i + 32 ≤ 0x11000000))
    ∧ (let s : State := parkS; let q : Fin 32 := 6; let r : RxFrame := parkR; (s.m.works 8 = true) ∧ ((s.m.hq q.val).park = some r ∧ s.m.rd F.HQ_STAT_STALL_US q.val < 1000))
    ∧ (let s : State := parkS; let q : Fin 32 := 6; let r : RxFrame := parkR; (s.m.works 8 = true) ∧ ((s.m.hq q.val).park = some r ∧ s.m.rd F.HQ_STAT_STALL_US q.val < 1000) ∧ (r.data.length ≤ r.off ∧ r.filled = []))
    ∧ (let s : State := stallS; let q : Fin 32 := 6; let r : RxFrame := parkR; (s.m.works 8 = true) ∧ ((s.m.hq q.val).park = some r ∧ 1000 ≤ s.m.rd F.HQ_STAT_STALL_US q.val))
    ∧ (let s : State := txS; let status : Nat := 13; (s.m.works 8 = true) ∧ (status < 256))
    ∧ (let s : State := parkS; (s.m.works 8 = true))
    ∧ (let s : State := imgS; let a : Access := secCore; (s.admitsWrite a 0x20600100))
    ∧ (let s : State := txS; (s.m.works 8 = true))
    ∧ (let s : State := launchS; (s.m.works 8 = true))
    ∧ (let s : State := { tsS with m := tsS.m.wr F.MAC_TXTS_STAT_OCC 64 4 }; (s.m.works 7 = true))
    ∧ (let s : State := rxHqS; (s.m.works 8 = true))
    ∧ (let s : State := parkS; (s.m.works 8 = true)) := by
  refine ⟨?_, ?_, ?_, ?_, ?_, ?_, ?_, ?_, ?_, ?_, ?_, ?_, ?_, ?_, ?_, ?_, ?_, ?_, ?_, ?_, ?_, ?_, ?_, ?_, ?_⟩ <;> decide

/-- The hypotheses of TimeUnit can be met: one state and operands for each clause. -/
theorem witness_TimeUnit :
    (let s : State := reg (·.wr F.TMU_SET_SEC_LO_SEC 77); let a : Access := core; let v : Word := 0x544D0001; (s.admitsWrite a 0x2070004C) ∧ (v.toNat / 2 ^ 16 = 0x544D ∧ v.toNat % 4 = 1 ∧ s.m.rd F.TMU_SET_NS_NS < 1000000000) ∧ (s.m.rd F.TMU_SET_SEC_HI_SEC < 2 ^ 16 ∧ s.m.rd F.TMU_SET_SEC_LO_SEC < 2 ^ 32))
    ∧ (let s : State := idleS; let a : Access := core; (s.admitsWrite a 0x2070004C))
    ∧ (let s : State := reg (·.wr F.TMU_ADJ_NS_NS 500); let a : Access := core; let v : Word := 0x544D0002; (s.admitsWrite a 0x2070004C) ∧ (v.toNat / 2 ^ 16 = 0x544D ∧ v.toNat % 4 = 2) ∧ (0 ≤ (s.m.tmu.t : Int) + signed 64 (s.m.rd F.TMU_ADJ_NS_NS) * 4294967296))
    ∧ (let s : State := idleS; let a : Access := core; (s.admitsWrite a 0x2070004C))
    ∧ (let s : State := idleS; let a : Access := core; let v : Word := 3; (s.admitsWrite a 0x20700000) ∧ (v.toNat.testBit 0 = true ∧ s.m.flag F.TMU_CTRL_SERVO_EN = false))
    ∧ (let s : State := idleS; let a : Access := core; (s.admitsWrite a 0x20700000))
    ∧ (let s : State := reg (·.wr F.TMU_CTRL_SERVO_EN 1); let a : Access := core; let v : Word := 100; (s.admitsWrite a 0x20700060) ∧ (s.m.flag F.TMU_CTRL_SERVO_EN = true ∧ s.m.flag F.TMU_CTRL_SRC = false) ∧ (v.toNat ≠ 0x80000000 ∧ (s.m.flag F.TMU_CTRL_STEP_EN = false ∨ (signed 32 v.toNat).natAbs ≤ 1000000)))
    ∧ (let s : State := reg (fun m => (m.wr F.TMU_CTRL_SERVO_EN 1).wr F.TMU_CTRL_STEP_EN 1); let a : Access := core; let v : Word := 0xFFE00000; (s.admitsWrite a 0x20700060) ∧ (s.m.flag F.TMU_CTRL_SERVO_EN = true ∧ s.m.flag F.TMU_CTRL_SRC = false ∧ s.m.flag F.TMU_CTRL_STEP_EN = true) ∧ (v.toNat ≠ 0x80000000 ∧ 1000000 < (signed 32 v.toNat).natAbs) ∧ (0 ≤ (s.m.tmu.t : Int) - signed 32 v.toNat * 4294967296))
    ∧ (let s : State := idleS; let a : Access := core; (s.admitsWrite a 0x20700060))
    ∧ (let s : State := idleS; (s.m.works 9 = true) ∧ (s.m.flag F.TMU_CTRL_SERVO_EN = false ∨ s.m.flag F.TMU_CTRL_SRC = false))
    ∧ (let s : State := ppsS; let m : Module := { ppsS.m.wr F.TMU_PPS_IN_CAP_T ppsS.m.tai with tmu := { ppsS.m.tmu with ppsUs := ppsS.m.boot.us } }; let c : Nat := ppsS.m.tai; let sec : Nat := 1; let tod : Nat := 1; (s.m.works 9 = true) ∧ (s.m.flag F.TMU_CTRL_SERVO_EN = true ∧ s.m.flag F.TMU_CTRL_SRC = true ∧ c = s.m.tai ∧ sec = (c + 500000000) / 1000000000) ∧ (m = { s.m.wr F.TMU_PPS_IN_CAP_T c with tmu := { s.m.tmu with ppsUs := s.m.boot.us } }) ∧ (tod = m.rd F.TMU_TOD_SEC_LO_SEC + m.rd F.TMU_TOD_SEC_HI * 2 ^ 32))
    ∧ (let s : State := reg (fun m => { m.wr F.TMU_CTRL_SRC 1 with boot := { m.boot with us := 20000000 } }); (s.m.works 9 = true) ∧ (s.m.flag F.TMU_CTRL_SRC = true ∧ s.m.tmu.ppsUs + 3000000 ≤ s.m.boot.us))
    ∧ (let s : State := reg (fun m => { m.wr F.TMU_STAT_STATE 2 with boot := { m.boot with us := 20000000 } }); (s.m.works 9 = true) ∧ (s.m.rd F.TMU_STAT_STATE = 1 ∨ s.m.rd F.TMU_STAT_STATE = 2) ∧ (s.m.samplesMissed = true))
    ∧ (let s : State := reg (·.wr F.TMU_STAT_STATE 2); let a : Access := core; let v : Word := 1; (s.admitsWrite a 0x20700074) ∧ (v.toNat.testBit 0 = true) ∧ (s.m.rd F.TMU_STAT_STATE = 1 ∨ s.m.rd F.TMU_STAT_STATE = 2))
    ∧ (let s : State := idleS; let a : Access := core; (s.admitsWrite a 0x20700074))
    ∧ (let s : State := idleS; let a : Access := core; let v : Word := 2; (s.admitsWrite a 0x20700074) ∧ (v.toNat.testBit 1 = true) ∧ (v.toNat.testBit 0 = false ∨ s.m.rd F.TMU_STAT_STATE ≠ 1 ∧ s.m.rd F.TMU_STAT_STATE ≠ 2))
    ∧ (let s : State := idleS; let a : Access := core; (s.admitsWrite a 0x20700074))
    ∧ (let s : State := reg (fun m => { m.wr F.TMU_PPS_OUT_EN 1 with tmu := { m.tmu with ppsDue := true } }); (s.m.works 9 = true) ∧ (s.m.flag F.TMU_PPS_OUT_EN = true ∧ s.m.tmu.ppsDue = true))
    ∧ (let s : State := reg (fun m => { m with boot := { m.boot with us := 20000000 } }); (s.m.works 9 = true) ∧ (s.m.tmu.riseUs + s.m.rd F.TMU_PPS_OUT_WIDTH_US ≤ s.m.boot.us))
    ∧ (let s : State := reg (·.wr F.TMU_EVI_CTRL_EDGE 3 2); let k : Fin 4 := 2; let falling : Bool := true; (s.m.works 9 = true) ∧ ((s.m.rd F.TMU_EVI_CTRL_EDGE k.val).testBit (b2n falling) = true ∧ (s.m.evi k.val).length < 16))
    ∧ (let s : State := idleS; (s.m.works 9 = true))
    ∧ (let s : State := eviS; let a : Access := core; let k : Fin 4 := 1; let e : EviEntry := ⟨77, true⟩; let r : List EviEntry := []; (s.admitsRead a (0x20700108 + 16 * k.val)) ∧ (commitsAtOnce a) ∧ (s.m.evi k.val = e :: r))
    ∧ (let s : State := eviS; let a : Access := specCore; let k : Fin 4 := 1; (s.admitsRead a (0x20700108 + 16 * k.val)) ∧ (a.spec = true))
    ∧ (let s : State := idleS; let a : Access := core; let k : Fin 4 := 1; (s.admitsRead a (0x20700108 + 16 * k.val)) ∧ (s.m.evi k.val = [] ∧ commitsAtOnce a))
    ∧ (let s : State := reg (·.wr F.TMU_EVO_START_NS_NS 100 3); let a : Access := core; let k : Fin 4 := 3; let v : Word := 7; let start : Nat := 100; (s.admitsWrite a (0x20700140 + 32 * k.val)) ∧ (1 ≤ v.toNat % 4) ∧ (start = nearSeconds s.m.taiSec (s.m.rd F.TMU_EVO_START_SEC_SEC k.val) * 1000000000 + s.m.rd F.TMU_EVO_START_NS_NS k.val) ∧ (s.m.tai < start))
    ∧ (let s : State := idleS; let a : Access := core; let k : Fin 4 := 3; let v : Word := 4; (s.admitsWrite a (0x20700140 + 32 * k.val)) ∧ (v.toNat % 4 = 0))
    ∧ (let s : State := idleS; let a : Access := core; let k : Fin 4 := 3; let v : Word := 7; (s.admitsWrite a (0x20700140 + 32 * k.val)) ∧ (1 ≤ v.toNat % 4) ∧ (nearSeconds s.m.tai (s.m.rd F.TMU_EVO_START_SEC_SEC k.val) * 1000000000 + s.m.rd F.TMU_EVO_START_NS_NS k.val ≤ s.m.tai))
    ∧ (let s : State := idleS; let a : Access := core; let k : Fin 4 := 3; (s.admitsWrite a (0x20700140 + 32 * k.val)))
    ∧ (let s : State := reg (fun m => (m.wr F.TMU_EVO_STAT_ARMED 1 3).wr F.TMU_EVO_CTRL_MODE 3 3); let k : Fin 4 := 3; (s.m.works 9 = true) ∧ (s.m.flag F.TMU_EVO_STAT_ARMED k.val = true ∧ s.m.rd F.TMU_EVO_CTRL_MODE k.val = 3 ∧ (s.m.evo k.val).falls = false) ∧ ((s.m.evo k.val).next < s.m.tai + 1000))
    ∧ (let s : State := reg (fun m => (m.wr F.TMU_EVO_STAT_ARMED 1 3).wr F.TMU_EVO_CTRL_MODE 1 3); let k : Fin 4 := 3; (s.m.works 9 = true) ∧ (s.m.evoDue k.val = true))
    ∧ (let s : State := reg (·.wr F.TMU_TMR_CTRL_EN 1 9); let a : Access := core; let n : Fin 16 := 9; (s.admitsWrite a (0x20700204 + 16 * n.val)) ∧ (8 ≤ n.val) ∧ (s.m.flag F.TMU_TMR_CTRL_EN n.val = true))
    ∧ (let s : State := idleS; let a : Access := core; let n : Fin 16 := 9; (s.admitsWrite a (0x20700204 + 16 * n.val)) ∧ (8 ≤ n.val) ∧ (s.m.flag F.TMU_TMR_CTRL_EN n.val = false))
    ∧ (let s : State := idleS; let a : Access := core; let n : Fin 16 := 3; (s.admitsWrite a (0x20700204 + 16 * n.val)) ∧ (n.val < 8))
    ∧ (let s : State := reg (fun m => { m with tmu := { m.tmu with timers := 0x400 } }); let n : Fin 16 := 10; (s.m.works 9 = true) ∧ (s.m.tmu.timers.testBit n.val = true ∧ s.m.rd F.TMU_TMR_REMAIN_US n.val = 0 ∧ 8 ≤ n.val ∧ s.m.flag F.TMU_TMR_CTRL_PERIODIC n.val = false))
    ∧ (let s : State := reg (fun m => { m.wr F.TMU_TMR_CTRL_PERIODIC 1 10 with tmu := { m.tmu with timers := 0x400 } }); let n : Fin 16 := 10; (s.m.works 9 = true) ∧ (s.m.tmu.timers.testBit n.val = true ∧ 8 ≤ n.val ∧ s.m.flag F.TMU_TMR_CTRL_PERIODIC n.val = true) ∧ (s.m.rd F.TMU_TMR_REMAIN_US n.val = 0))
    ∧ (let s : State := idleS; (s.m.works 9 = true))
    ∧ (let s : State := ppsS; (s.m.works 9 = true))
    ∧ (let s : State := eviS; let a : Access := core; (s.genuine a 0)) := by
  refine ⟨?_, ?_, ?_, ?_, ?_, ?_, ?_, ?_, ?_, ?_, ?_, ?_, ?_, ?_, ?_, ?_, ?_, ?_, ?_, ?_, ?_, ?_, ?_, ?_, ?_, ?_, ?_, ?_, ?_, ?_, ?_, ?_, ?_, ?_, ?_, ?_, ?_, ?_⟩ <;> decide

/-- The hypotheses of CanObjectsAndModes can be met: one state and operands for each clause. -/
theorem witness_CanObjectsAndModes :
    (let s : State := canS; let a : Access := core; let c : Fin 12 := 2; let obj : Fin 128 := 4; (s.admitsWrite a (Module.canAddr c.val 0x14)) ∧ (s.m.canRefusal c.val 1 obj.val = none))
    ∧ (let s : State := canOpenS; let a : Access := core; let c : Fin 12 := 2; let obj : Fin 128 := 4; (s.admitsWrite a (Module.canAddr c.val 0x14)) ∧ (s.m.canRefusal c.val 2 obj.val = none) ∧ (s.m.flag F.CAN_OBJ_STAT_SHADOW_FULL c.val obj.val = false))
    ∧ (let s : State := canShadowS; let a : Access := core; let c : Fin 12 := 2; let obj : Fin 128 := 4; (s.admitsWrite a (Module.canAddr c.val 0x14)) ∧ (s.m.canRefusal c.val 2 obj.val = none) ∧ (s.m.flag F.CAN_OBJ_STAT_SHADOW_FULL c.val obj.val = true) ∧ ((tget {} (s.m.canSt c.val).shadow obj.val).f.data.length ≤ 64))
    ∧ (let s : State := canS; let a : Access := core; let c : Fin 12 := 2; let obj : Fin 128 := 5; (s.admitsWrite a (Module.canAddr c.val 0x14)) ∧ (s.m.canRefusal c.val 3 obj.val = none) ∧ (s.m.flag F.CAN_STAT_XCVR_SLEEP c.val = false ∧ s.m.inGrace c.val = false))
    ∧ (let s : State := canPendS; let a : Access := core; let c : Fin 12 := 2; let obj : Fin 128 := 5; (s.admitsWrite a (Module.canAddr c.val 0x14)) ∧ (s.m.canRefusal c.val 4 obj.val = none) ∧ ((s.m.canSt c.val).attempt ≠ some (some obj.val)))
    ∧ (let s : State := canS; let a : Access := core; let c : Fin 12 := 2; let obj : Fin 128 := 0; (s.admitsWrite a (Module.canAddr c.val 0x14)) ∧ (s.m.canRefusal c.val 5 obj.val = none) ∧ ((s.m.canSt c.val).head = none ∧ s.m.rd F.CAN_XTX_TAIL_IDX c.val = s.m.rd F.CAN_XTX_HEAD_IDX c.val) ∧ (s.m.rd F.CAN_XTX_HEAD_IDX c.val < s.m.xlSize c.val true))
    ∧ (let s : State := canOffS; let a : Access := core; let c : Fin 12 := 2; let obj : Fin 128 := 0; (s.admitsWrite a (Module.canAddr c.val 0x14)) ∧ (s.m.canRefusal c.val 6 obj.val = none))
    ∧ (let s : State := canS; let a : Access := core; let c : Fin 12 := 3; let v : Word := 1; (s.admitsWrite a (Module.canAddr c.val 0)) ∧ (v.toNat % 4 ≠ 0 ∧ s.m.rd F.CAN_CTRL_MODE c.val = 0 ∧ s.m.canTimingOk c.val (v.toNat.testBit 8) = true) ∧ (v.toNat.testBit 8 = true → v.toNat / 16 % 4 = 2) ∧ ((s.m.canSt c.val).busOff = false ∧ s.m.rd F.CAN_ERR_TEC c.val < 128 ∧ s.m.rd F.CAN_ERR_REC c.val < 128))
    ∧ (let s : State := canS; let c : Fin 12 := 2; (s.m.works 0x0A = true) ∧ (s.m.rd F.CAN_CTRL_MODE c.val ≠ 0))
    ∧ (let s : State := canOffS; let c : Fin 12 := 3; (s.m.works 0x0A = true) ∧ ((s.m.canSt c.val).busOffDue = true))
    ∧ (let s : State := reg (fun m => (m.wr F.CAN_STAT_RECOVERING 1 2).wr F.CAN_CTRL_MODE 1 2); let c : Fin 12 := 2; (s.m.works 0x0A = true) ∧ (s.m.flag F.CAN_STAT_RECOVERING c.val = true ∧ s.m.rd F.CAN_CTRL_MODE c.val ≠ 0))
    ∧ (let s : State := canS; let c : Fin 12 := 2; (s.m.works 0x0A = true) ∧ ((s.m.canSt c.val).attempt = none))
    ∧ (let s : State := canS; let c : Fin 12 := 2; (s.m.works 0x0A = true) ∧ (s.m.canOnBus c.val = true ∧ s.m.rd F.CAN_CTRL_MODE c.val ≠ 2 ∧ (s.m.canSt c.val).busOff = false))
    ∧ (let s : State := canS; let a : Access := core; let c : Fin 12 := 2; (s.admitsWrite a (Module.canAddr c.val 0x14)))
    ∧ (let s : State := canShadowS; let a : Access := core; let c : Fin 12 := 2; (s.admitsWrite a (Module.canAddr c.val 0x14)))
    ∧ (let s : State := canS; let a : Access := core; let c : Fin 12 := 2; let obj : Fin 128 := 5; (s.admitsWrite a (Module.canAddr c.val 0x14)) ∧ (s.m.canRefusal c.val 3 obj.val = none))
    ∧ (let s : State := canTryS; let a : Access := core; let c : Fin 12 := 2; let obj : Fin 128 := 5; (s.admitsWrite a (Module.canAddr c.val 0x14)) ∧ (s.m.canRefusal c.val 4 obj.val = none) ∧ ((s.m.canSt c.val).attempt = some (some obj.val)))
    ∧ (let s : State := canS; let a : Access := core; let c : Fin 12 := 2; (s.admitsWrite a (Module.canAddr c.val 0x14)))
    ∧ (let s : State := canOffS; let a : Access := core; let c : Fin 12 := 2; (s.admitsWrite a (Module.canAddr c.val 0x14)))
    ∧ (let s : State := canS; let a : Access := core; let c : Fin 12 := 3; (s.admitsWrite a (Module.canAddr c.val 0)))
    ∧ (let s : State := canTryS; let c : Fin 12 := 2; (s.m.works 0x0A = true) ∧ ((s.m.canSt c.val).attempt ≠ none))
    ∧ (let s : State := canS; (s.m.works 0x0A = true))
    ∧ (let s : State := canTryS; let a : Access := core; let c : Fin 12 := 2; (s.admitsWrite a (Module.canAddr c.val 0x14)))
    ∧ (let s : State := canOffS; (s.m.works 0x0A = true))
    ∧ (let s : State := reg (fun m => (m.wr F.CAN_STAT_RECOVERING 1 2).wr F.CAN_CTRL_MODE 1 2); (s.m.works 0x0A = true)) := by
  refine ⟨?_, ?_, ?_, ?_, ?_, ?_, ?_, ?_, ?_, ?_, ?_, ?_, ?_, ?_, ?_, ?_, ?_, ?_, ?_, ?_, ?_, ?_, ?_, ?_, ?_⟩ <;> decide

/-- The hypotheses of CanFrames can be met: one state and operands for each clause. -/
theorem witness_CanFrames :
    (let s : State := canPendS; let c : Fin 12 := 2; let o : Nat := 5; (s.m.works 0x0A = true) ∧ (s.m.rd F.CAN_CTRL_MODE c.val = 1 ∧ s.m.canOnBus c.val = true ∧ s.m.aloneOk c.val = true) ∧ ((s.m.canSt c.val).busOff = false ∧ (s.m.canSt c.val).busOffDue = false ∧ (s.m.canSt c.val).attempt = none) ∧ (s.m.canWinner c.val = some (some o)))
    ∧ (let s : State := canTryS; let c : Fin 12 := 2; let o : Nat := 5; (s.m.works 0x0A = true) ∧ ((s.m.canSt c.val).attempt = some (some o) ∧ o < 128 ∧ (s.m.canSt c.val).initDue = false))
    ∧ (let s : State := canS; let c : Fin 12 := 2; let f : CanFrame := ⟨0x10 * 2 ^ 18, false, false, false, false, false, 2, [1, 2]⟩; let o : Nat := 4; (s.m.works 0x0A = true) ∧ (s.m.canReceives c.val f false = true ∧ f.data.length ≤ 64) ∧ ((List.range 128).find? (fun o => s.m.canAccepts c.val o f) = some o) ∧ (s.m.flag F.CAN_OBJ_STAT_OPEN c.val o = false ∧ s.m.segState c.val = 0))
    ∧ (let s : State := xlS; let c : Fin 12 := 2; let i : Nat := 0; let w : List Nat := [0x10000100, 0, 0, 0, 8, 0, 0, 0]; (s.m.works 0x0A = true) ∧ (s.m.flag F.CAN_XTX_CFG_EN c.val = true ∧ (s.m.canSt c.val).head = none) ∧ (s.m.rd F.CAN_XTX_HEAD_IDX c.val = i ∧ i ≠ s.m.rd F.CAN_XTX_TAIL_IDX c.val ∧ s.m.mem.clean) ∧ (0x10000000 ≤ s.m.xlDesc c.val true i ∧ s.m.xlDesc c.val true i + 32 ≤ 0x11000000) ∧ (s.admitsMem (s.m.iattr 0x25) (s.m.xlDesc c.val true i) 32 0) ∧ (w = Module.words (s.m.mem.bytes (s.m.xlDesc c.val true i) 32) ∧ Module.xtxOk w = true) ∧ (w.getD 1 0 = 0 ∧ 0x10000000 ≤ w.getD 0 0 ∧ w.getD 0 0 + w.getD 4 0 ≤ 0x11000000) ∧ (s.admitsMem (s.m.iattr 0x25) (w.getD 0 0) (w.getD 4 0) 0))
    ∧ (let s : State := xlS; let c : Fin 12 := 2; let f : XlFrame := { prio := 5 }; let k : Nat := 0; (s.m.works 0x0A = true) ∧ (s.m.xlReceives c.val = true ∧ s.m.xlFilter c.val f = some k ∧ (s.m.canSt c.val).held = []) ∧ (s.m.flag F.CAN_XRX_CFG_EN c.val = true ∧ s.m.segState c.val = 0) ∧ ((s.m.rd F.CAN_XRX_TAIL_IDX c.val + s.m.xlSize c.val false - s.m.rd F.CAN_XRX_HEAD_IDX c.val % s.m.xlSize c.val false) % s.m.xlSize c.val false ≠ 0))
    ∧ (let s : State := xlHeldS; let c : Fin 12 := 2; let h : XlHeld := ⟨{ prio := 5, data := [9, 8, 7] }, 0, 0⟩; let r : List XlHeld := []; let i : Nat := 0; let w : List Nat := [0x10000100, 0, 64, 0, 8, 0, 0, 0]; (s.m.works 0x0A = true) ∧ ((s.m.canSt c.val).held = h :: r ∧ s.m.flag F.CAN_XRX_CFG_EN c.val = true) ∧ (s.m.rd F.CAN_XRX_HEAD_IDX c.val = i ∧ s.m.mem.clean ∧ s.m.pbr.sems = []) ∧ (w = Module.words (s.m.mem.bytes (s.m.xlDesc c.val false i) 32) ∧ w.getD 1 0 = 0) ∧ (1 ≤ h.f.data.length ∧ h.f.data.length ≤ w.getD 2 0 % 2 ^ 12) ∧ (0x10000000 ≤ w.getD 0 0 ∧ w.getD 0 0 + h.f.data.length ≤ s.m.xlDesc c.val false i) ∧ (s.m.xlDesc c.val false i + 32 ≤ 0x11000000) ∧ (s.admitsMem (s.m.iattr 0x25) (s.m.xlDesc c.val false i) 32 0 ∧ s.admitsMem (s.m.iattr 0x25) (s.m.xlDesc c.val false i) 32 1) ∧ (s.admitsMem (s.m.iattr 0x25) (w.getD 0 0) h.f.data.length 1))
    ∧ (let s : State := canS; let status : Nat := 2; (s.m.works 0x0A = true) ∧ (status < 256))
    ∧ (let s : State := xlHeadS; let c : Fin 12 := 2; let h : XlHead := xlHd; (s.m.works 0x0A = true) ∧ (s.m.rd F.CAN_CTRL_MODE c.val = 1 ∧ s.m.canOnBus c.val = true ∧ s.m.aloneOk c.val = true) ∧ ((s.m.canSt c.val).busOff = false ∧ (s.m.canSt c.val).busOffDue = false ∧ (s.m.canSt c.val).attempt = none) ∧ (s.m.canWinner c.val = some none ∧ (s.m.canSt c.val).head = some h))
    ∧ (let s : State := canPendS; (s.m.works 0x0A = true))
    ∧ (let s : State := canTryS; (s.m.works 0x0A = true))
    ∧ (let s : State := canS; (s.m.works 0x0A = true))
    ∧ (let s : State := xlS; (s.m.works 0x0A = true))
    ∧ (let s : State := xlS; (s.m.works 0x0A = true))
    ∧ (let s : State := xlHeldS; (s.m.works 0x0A = true))
    ∧ (let s : State := canS; let c : Fin 12 := 2; let status : Nat := 2; (s.m.works 0x0A = true) ∧ (status < 256 ∧ (s.m.canSt c.val).held = []))
    ∧ (let s : State := canS; (s.m.works 0x0A = true)) := by
  refine ⟨?_, ?_, ?_, ?_, ?_, ?_, ?_, ?_, ?_, ?_, ?_, ?_, ?_, ?_, ?_, ?_⟩ <;> decide

/-- The hypotheses of RestAndWake can be met: one state and operands for each clause. -/
theorem witness_RestAndWake :
    (let s : State := npmS; let a : Access := core; let seg : Fin 32 := 14; (s.admitsWrite a npmCmdAddr) ∧ (s.m.restRefusal seg.val = none))
    ∧ (let s : State := npmS; let a : Access := core; let seg : Fin 32 := 15; (s.admitsWrite a npmCmdAddr) ∧ (seg.val < 24 ∧ s.m.segState seg.val = 2 ∧ s.m.running 0x0B = true))
    ∧ (let s : State := npmS; let a : Access := core; let seg : Fin 32 := 15; (s.admitsWrite a npmCmdAddr) ∧ (seg.val < 24))
    ∧ (let s : State := framedS; let seg : Fin 24 := 16; (s.m.works 0x0B = true) ∧ (s.m.inWait seg.val = true ∧ (s.m.seg seg.val).sent = false ∧ s.m.restLeft seg.val = true))
    ∧ (let s : State := npmS; let seg : Fin 24 := 14; (s.m.works 0x0B = true) ∧ (s.m.segState seg.val = 0))
    ∧ (let s : State := npmS; let seg : Fin 24 := 16; let seq : Fin 256 := 0; (s.m.works 0x0B = true) ∧ (s.m.inWait seg.val = true ∧ seq.val = s.m.segSeq seg.val))
    ∧ (let s : State := npmS; let seg : Fin 24 := 14; (s.m.works 0x0B = true) ∧ (s.m.segState seg.val = 0 ∧ s.m.restVeto seg.val = false))
    ∧ (let s : State := framedS; let seg : Fin 24 := 17; (s.m.works 0x0B = true) ∧ (s.m.inGrace seg.val = true ∧ (s.m.seg seg.val).sent = false ∧ s.m.restLeft seg.val = true))
    ∧ (let s : State := waitS; let seg : Fin 24 := 16; (s.m.works 0x0B = true) ∧ (s.m.inWait seg.val = true ∧ (s.m.seg seg.val).sent = true) ∧ (s.m.rd F.NPM_TIMING0_REST_WAIT ≤ (s.m.seg seg.val).ms))
    ∧ (let s : State := waitS; let seg : Fin 24 := 17; (s.m.works 0x0B = true) ∧ (s.m.inGrace seg.val = true ∧ (s.m.seg seg.val).sent = true) ∧ (s.m.rd F.NPM_TIMING0_REST_GRACE ≤ (s.m.seg seg.val).ms))
    ∧ (let s : State := waitS; let seg : Fin 24 := 18; (s.m.works 0x0B = true) ∧ (s.m.segState seg.val = 1 ∧ (s.m.seg seg.val).sent = false ∧ 1000 ≤ (s.m.seg seg.val).ms))
    ∧ (let s : State := npmS; let seg : Fin 24 := 15; (s.m.sys.resetHeld = false) ∧ (s.m.segState seg.val = 2 ∧ s.m.running 0x0B = true))
    ∧ (let s : State := waitS; let seg : Fin 24 := 19; (s.m.works 0x0B = true) ∧ (s.m.segState seg.val = 3 ∧ s.m.rd F.NPM_TIMING1_WAKE_TIMEOUT ≤ (s.m.seg seg.val).ms ∧ (s.m.seg seg.val).falseAt = []))
    ∧ (let s : State := npmS; let seg : Fin 24 := 14; (s.m.works 0x0B = true) ∧ (s.m.flag F.NPM_SEG_CFG_AUTO seg.val = true ∧ s.m.rd F.NPM_SEG_CFG_IDLE_S seg.val * 1000 ≤ (s.m.seg seg.val).idle) ∧ (s.m.restRefusal seg.val = none))
    ∧ (let s : State := npmS; let k : Fin 4 := 1; (s.m.sys.resetHeld = false) ∧ (s.m.flag F.NPM_WAKE_IN_EN k.val = true ∧ s.m.running 0x0B = true))
    ∧ (let s : State := npmS; (s.m.sys.resetHeld = false) ∧ (s.m.running 0x0B = true))
    ∧ (let s : State := npmS; let a : Access := core; let n : Fin 7 := 2; let v : Word := 0x1000001; (s.admitsWrite a (0x20900068 + 8 * n.val)) ∧ (v.toNat.testBit 24 = true))
    ∧ (let s : State := npmS; let a : Access := core; (s.admitsWrite a npmCmdAddr))
    ∧ (let s : State := npmS; let a : Access := core; let key : BitVec 16 := 0; (s.admitsWrite a npmCmdAddr) ∧ (key.toNat ≠ 0x4E50))
    ∧ (let s : State := npmS; let a : Access := core; (s.admitsWrite a npmCmdAddr))
    ∧ (let s : State := npmS; let a : Access := core; let key : BitVec 16 := 0; (s.admitsWrite a npmCmdAddr) ∧ (key.toNat ≠ 0x4E50))
    ∧ (let s : State := npmS; let a : Access := core; (s.admitsWrite a npmCmdAddr))
    ∧ (let s : State := npmS; let a : Access := core; let key : BitVec 16 := 0; (s.admitsWrite a npmCmdAddr) ∧ (key.toNat ≠ 0x4E50))
    ∧ (let s : State := npmS; (s.m.works 0x0B = true))
    ∧ (let s : State := npmS; (s.m.works 0x0B = true))
    ∧ (let s : State := npmS; (s.m.works 0x0B = true))
    ∧ (let s : State := npmS; (s.m.works 0x0B = true))
    ∧ (let s : State := graceS; (s.m.works 0x0B = true))
    ∧ (let s : State := waitS; let seg : Fin 24 := 19; (s.m.works 0x0B = true) ∧ (s.m.segState seg.val = 3 ∧ s.m.rd F.NPM_TIMING1_WAKE_TIMEOUT ≤ (s.m.seg seg.val).ms))
    ∧ (let s : State := npmS; (s.m.sys.resetHeld = false))
    ∧ (let s : State := npmS; (s.m.sys.resetHeld = false))
    ∧ (let s : State := npmS; let k : Fin 4 := 1; (s.m.sys.resetHeld = false) ∧ (s.m.flag F.NPM_WAKE_IN_EN k.val = true))
    ∧ (let s : State := npmS; let a : Access := core; let n : Fin 7 := 2; let v : Word := 1; (s.admitsWrite a (0x20900068 + 8 * n.val)) ∧ (v.toNat.testBit 24 = false))
    ∧ (let s : State := waitS; (s.m.works 0x0B = true))
    ∧ (let s : State := waitS; (s.m.works 0x0B = true))
    ∧ (let s : State := npmS; (s.m.works 0x0B = true))
    ∧ (let s : State := npmS; let a : Access := core; let n : Fin 7 := 2; (s.admitsWrite a (0x20900068 + 8 * n.val))) := by
  refine ⟨?_, ?_, ?_, ?_, ?_, ?_, ?_, ?_, ?_, ?_, ?_, ?_, ?_, ?_, ?_, ?_, ?_, ?_, ?_, ?_, ?_, ?_, ?_, ?_, ?_, ?_, ?_, ?_, ?_, ?_, ?_, ?_, ?_, ?_, ?_, ?_, ?_⟩ <;> decide

/-- The hypotheses of CipherJobs can be met: one state and operands for each clause. -/
theorem witness_CipherJobs :
    (let s : State := cpiS; let a : Access := tenant; let i : Fin 64 := 3; (s.admitsWrite a (0x40000004 + i.val * 0x1000)) ∧ ((tget {} s.m.inst i.val).fence = false) ∧ (s.m.cpiOcc i.val < s.m.rd F.IMG_INST_SHARE_SHARE i.val))
    ∧ (let s : State := cpiFullS; let a : Access := tenant; let i : Fin 64 := 3; (s.admitsWrite a (0x40000004 + i.val * 0x1000)) ∧ ((tget {} s.m.inst i.val).fence = false) ∧ (s.m.rd F.IMG_INST_SHARE_SHARE i.val ≤ s.m.cpiOcc i.val))
    ∧ (let s : State := cpeJobS; let i : Fin 64 := 3; let c : Fin 4 := 0; let l : List Byte := hashDesc; (s.m.works 0x0C = true) ∧ ((s.m.cpi i.val).queue ≠ [] ∧ (s.m.firstJob i.val).inst = i.val) ∧ (s.m.cpe.hold = false ∧ s.m.running 0x0C = true ∧ s.m.sys.blkRst ≠ some 0x0C) ∧ ((s.m.cpi i.val).fifo.length + s.m.cpiReserved i.val < 32) ∧ ((s.m.busRead (Module.jobAccess (s.m.firstJob i.val)) (s.m.firstJob i.val).addr 64 (some i.val)).2 = some l) ∧ ((s.m.afterFetch i.val).dispatchStatus (s.m.fetched i.val l) = 0) ∧ ((s.m.afterFetch i.val).cpeSync.cpeTurn (s.m.fetched i.val l).kind = some i.val) ∧ ((s.m.fetched i.val l).cls ≠ 2 ∧ (s.m.fetched i.val l).mode ≠ 2) ∧ (s.m.unitFree ((s.m.fetched i.val l).onUnit c.val) = true))
    ∧ (let s : State := cpeBadS; let i : Fin 64 := 3; let l : List Byte := badDesc; (s.m.works 0x0C = true) ∧ ((s.m.cpi i.val).queue ≠ [] ∧ (s.m.firstJob i.val).inst = i.val) ∧ (s.m.cpe.hold = false ∧ s.m.running 0x0C = true ∧ s.m.sys.blkRst ≠ some 0x0C) ∧ ((s.m.cpi i.val).fifo.length + s.m.cpiReserved i.val < 32) ∧ ((s.m.busRead (Module.jobAccess (s.m.firstJob i.val)) (s.m.firstJob i.val).addr 64 (some i.val)).2 = some l) ∧ ((s.m.afterFetch i.val).dispatchStatus (s.m.fetched i.val l) ≠ 0))
    ∧ (let s : State := cpeRunS; let n : Fin 6 := 4; let r : CpeRun := hashRun; (s.m.works 0x0C = true) ∧ (s.m.cpe.runs.find? (fun x => x.units.contains n.val) = some r) ∧ (r.job.stale = false ∧ r.job.mode = 8 ∧ r.job.cls = 0 ∧ r.job.qr = none ∧ s.m.cpe.redo = [] ∧ r.job.len ≤ 16 ∧ r.job.len ≠ 0) ∧ ((s.m.busRead (Module.jobAccess r.job) r.job.src r.job.len (some r.job.inst)).2.isSome = true) ∧ (Module.memOf r.job.src = some 0 ∧ Module.memOf r.job.dst = some 0 ∧ Module.memOf (r.job.dst + 31) = some 0 ∧ r.job.src + 256 ≤ r.job.dst) ∧ (s.m.fabricDeny (Module.jobAccess r.job) r.job.dst 16 1 (some r.job.inst) = none) ∧ (s.m.fabricDeny (Module.jobAccess r.job) (r.job.dst + 16) 16 1 (some r.job.inst) = none) ∧ (s.m.mem.clean ∧ s.m.pbr.sems = []))
    ∧ (let s : State := cpeGcmS; let n : Fin 6 := 1; let r : CpeRun := gcmRun; let tag : List Byte := List.replicate 16 0; let data : List Byte := List.replicate 16 0; (s.m.works 0x0C = true) ∧ (s.m.cpe.runs.find? (fun x => x.units.contains n.val) = some r) ∧ (r.job.stale = false ∧ r.job.mode = 0 ∧ r.job.dir = 1 ∧ r.job.cls = 1 ∧ r.job.qr = none ∧ s.m.cpe.redo = []) ∧ (s.m.mem.clean) ∧ ((s.m.readBlocks r.job r.job.aad r.job.aadLen).2.2 = none) ∧ ((s.m.readBlocks r.job r.job.src r.job.len).2 = (data, none)) ∧ ((s.m.busRead (Module.jobAccess r.job) r.job.tagAddr r.job.tagLen (some r.job.inst)).2 = some tag) ∧ (Module.memOf r.job.src = some 0 ∧ Module.memOf r.job.aad = some 0 ∧ Module.memOf r.job.tagAddr = some 0) ∧ (0 < r.job.aadLen ∧ Module.memOf (r.job.aad + r.job.aadLen) = some 0) ∧ (0 < r.job.len ∧ Module.memOf (r.job.src + r.job.len) = some 0))
    ∧ (let s : State := cpeStaleS; let n : Fin 6 := 4; let r : CpeRun := staleRun; (s.m.works 0x0C = true) ∧ (s.m.cpe.runs.find? (fun x => x.units.contains n.val) = some r) ∧ (r.job.stale = true ∧ r.job.qr = none ∧ s.m.cpe.redo = []))
    ∧ (let s : State := cpeZeroS; let q : Fin 8 := 2; let z : CpeZero := zeroZ; let j : CpeJob := zeroJ; let st : Nat := 8; (s.m.works 0x0C = true) ∧ (s.m.cpe.zero.find? (fun x => x.q == q.val) = some z) ∧ (z.ended = some (j, st) ∧ j.stale = false) ∧ (s.m.rd F.FAB_QR_LEN_LEN q.val ≠ 0))
    ∧ (let s : State := cpeFenceS; let n : Fin 5 := 0; let r : CpeRun := gcmRun0; (s.m.works 0x0C = true) ∧ (s.m.cpe.runs.find? (fun x => x.units.contains n.val) = some r) ∧ (n.val < 4 ∧ s.m.cpe.redo = [] ∧ (List.range 4).any (fun c => c != n.val && s.m.unitFree c) = true))
    ∧ (let s : State := cpiS; let a : Access := tenant; let i : Fin 64 := 3; let e : CpeCpl := ⟨7, 0, 8, 0, 32, 0⟩; (s.admitsRead a (0x40000010 + i.val * 0x1000)) ∧ (commitsAtOnce a ∧ (s.m.cpi i.val).fifo.head? = some e))
    ∧ (let s : State := cpiS; let a : Access := core; (s.admitsWrite a 0x20A00020))
    ∧ (let s : State := cpiS; let a : Access := tenant; let i : Fin 64 := 3; (s.admitsWrite a (0x40000004 + i.val * 0x1000)))
    ∧ (let s : State := cpeJobS; (s.m.works 0x0C = true))
    ∧ (let s : State := cpeRunS; let n : Fin 6 := 4; let r : CpeRun := hashRun; (s.m.works 0x0C = true) ∧ (s.m.cpe.runs.find? (fun x => x.units.contains n.val) = some r))
    ∧ (let s : State := cpeZeroS; (s.m.works 0x0C = true))
    ∧ (let s : State := cpeFenceS; (s.m.works 0x0C = true))
    ∧ (let s : State := cpeJobS; let a : Access := tenant; let i : Fin 64 := 3; (s.admitsRead a (0x40000010 + i.val * 0x1000)) ∧ (commitsAtOnce a ∧ (s.m.cpi i.val).fifo = []))
    ∧ (let s : State := cpiS; let a : Access := specTenant; let i : Fin 64 := 3; (s.admitsRead a (0x40000010 + i.val * 0x1000)) ∧ (a.spec = true))
    ∧ (let s : State := cpiS; let a : Access := tenant; (s.genuine a 0)) := by
  refine ⟨?_, ?_, ?_, ?_, ?_, ?_, ?_, ?_, ?_, ?_, ?_, ?_, ?_, ?_, ?_, ?_, ?_, ?_, ?_⟩ <;> decide

/-- The hypotheses of KeyStore can be met: one state and operands for each clause. -/
theorem witness_KeyStore :
    (let s : State := idleS; let a : Access := core; (s.admitsWrite a 0x20B00000) ∧ (s.m.rd F.KST_LOCK_STAT_HOLDER = 0))
    ∧ (let s : State := kstS; let a : Access := core; let g : Fin 256 := 9; (s.admitsWrite a 0x20B00000) ∧ (s.m.rd F.KST_LOCK_STAT_HOLDER = g.val))
    ∧ (let s : State := kstLongS; (s.m.works 0x0D = true) ∧ (s.m.rd F.KST_LOCK_STAT_HOLDER ≠ 0 ∧ 1000 ≤ s.m.rd F.KST_LOCK_STAT_HELD_US))
    ∧ (let s : State := kstS; let a : Access := core; let slot : Fin 64 := 5; let src : Fin 64 := 7; let g : Fin 256 := 9; (s.admitsWrite a 0x20B00008) ∧ (s.m.kstReady g.val ∧ slot ≠ src) ∧ (s.m.keyUse src.val 4 ∧ s.m.rd F.KST_PARAM_DATA 0 % 2 ^ 8 = s.m.newKeyLen + 8))
    ∧ (let s : State := kstFieldS; let a : Access := core; let g : Fin 256 := 9; (s.admitsWrite a 0x20B00008) ∧ (s.m.kstReady g.val ∧ s.m.rd F.SYSCTL_LC_STATE_STATE ≤ 3))
    ∧ (let s : State := kstS; let a : Access := core; let slot : Fin 64 := 5; let src : Fin 64 := 7; let g : Fin 256 := 9; (s.admitsWrite a 0x20B00008) ∧ (s.m.kstReady g.val ∧ slot ≠ src ∧ s.m.keyUse src.val 5))
    ∧ (let s : State := kstUseS; let a : Access := core; let g : Fin 256 := 9; (s.admitsWrite a 0x20B00008) ∧ (s.m.kstReady g.val))
    ∧ (let s : State := kstUseS; let d : Fin 8 := 2; (s.m.sys.resetHeld = false) ∧ ((List.range 3).any (fun b => d.val.testBit b && ! (s.m.rd F.CPE_STAT_GLITCH).testBit b) = true))
    ∧ (let s : State := glitchOverS; (s.m.sys.resetHeld = false) ∧ (s.m.cpe.glitchUs + 100 ≤ s.m.boot.us))
    ∧ (let s : State := kstUseS; (s.m.flag F.HST_MESH_OPEN = false))
    ∧ (let s : State := kstS; let a : Access := core; (s.admitsWrite a 0x20B00000) ∧ (s.m.rd F.KST_LOCK_STAT_HOLDER ≠ 0))
    ∧ (let s : State := kstS; let a : Access := core; let g : Fin 256 := 8; (s.admitsWrite a 0x20B00000) ∧ (s.m.rd F.KST_LOCK_STAT_HOLDER ≠ g.val))
    ∧ (let s : State := kstS; let a : Access := core; (s.admitsWrite a 0x20B00008))
    ∧ (let s : State := kstFieldS; let a : Access := core; (s.admitsWrite a 0x20B00008))
    ∧ (let s : State := kstS; let a : Access := core; (s.admitsWrite a 0x20B00008))
    ∧ (let s : State := kstUseS; let a : Access := core; (s.admitsWrite a 0x20B00008))
    ∧ (let s : State := kstUseS; (s.m.sys.resetHeld = false))
    ∧ (let s : State := reg (·.wr F.HST_MESH_OPEN 1); (s.m.flag F.HST_MESH_OPEN = true))
    ∧ (let s : State := kstS; let a : Access := core; (s.admitsWrite a 0x20B00000)) := by
  refine ⟨?_, ?_, ?_, ?_, ?_, ?_, ?_, ?_, ?_, ?_, ?_, ?_, ?_, ?_, ?_, ?_, ?_, ?_, ?_⟩ <;> decide

/-- The hypotheses of DuplexRoles can be met: one state and operands for each clause. -/
theorem witness_DuplexRoles :
    (let s : State := dupS; let w : List Nat := duplexWords; (s.m.works 0x0E = true) ∧ (s.m.bridgeUp = false ∧ s.m.boot.region = true ∧ recordWords s.m.bootRegion 0x10 = some w) ∧ (s.m.role = 0 ∧ (w.getD 0 0).testBit 0 = true ∧ Module.duplexFault w = none))
    ∧ (let s : State := dpxS 1; (s.m.works 0x0E = true) ∧ (s.m.boot.chanDone = true ∧ s.m.dpx.step9 = false ∧ s.m.mayLead = true) ∧ (s.m.role = 1 ∧ s.m.activeHeard = false ∧ s.m.unitNo = 0))
    ∧ (let s : State := unit1 (dpxS 1); (s.m.works 0x0E = true) ∧ (s.m.role = 1 ∧ s.m.dpx.step9 = true ∧ s.m.unitNo = 1 ∧ s.m.activeHeard = false) ∧ (s.m.mayLead = true ∧ s.m.dpx.step9Us + 300000 ≤ s.m.boot.us))
    ∧ (let s : State := agedS; let a0 : Nat := 400; let a1 : Nat := 401; let a2 : Nat := 402; (s.m.works 0x0E = true) ∧ (s.m.role = 5 ∧ s.m.dpx.ready = true ∧ s.m.dpx.ho = none ∧ s.m.inHoldup = false) ∧ (a0 = s.m.rd F.DPX_PATH_AGE_US 0 ∧ a1 = s.m.rd F.DPX_PATH_AGE_US 1 ∧ a2 = s.m.rd F.DPX_PATH_AGE_US 2) ∧ ((s.m.flag F.DPX_STATE_COLLAR_IN = false ∧ 100 ≤ a0) ∨ (400 ≤ a0 ∧ 400 ≤ a1 ∧ (s.m.flag F.DPX_CFG_CAN_EN = true → 400 ≤ a2))))
    ∧ (let s : State := dpxS 5; let path : Fin 2 := 0; let head : DuplexHead := peer 6; (s.m.works 0x0E = true) ∧ (s.m.role = 5 ∧ s.m.headFaults path.val head = 0 ∧ s.m.pathOpen path.val = true))
    ∧ (let s : State := hoS { out := false, sweep := 0 }; let h : Handover := { out := false, sweep := 0 }; (s.m.works 0x0E = true) ∧ (s.m.role = 6 ∧ s.m.dpx.ho = some h ∧ h.out = false ∧ h.engaged = false) ∧ (s.m.inHoldup = false ∧ (s.m.dpx.peerSweep + 2 ^ 32 - h.sweep) % 2 ^ 32 < 2 ^ 31))
    ∧ (let s : State := hoS { out := true, sweep := 100 }; let path : Fin 2 := 0; let head : DuplexHead := peer 6; let h : Handover := { out := true, sweep := 100 }; (s.m.works 0x0E = true) ∧ (s.m.role = 6 ∧ s.m.dpx.ho = some h ∧ h.out = true ∧ s.m.headFaults path.val head = 0 ∧ s.m.pathOpen path.val = true))
    ∧ (let s : State := hoS { out := false, sweep := 100 }; let path : Fin 2 := 0; let head : DuplexHead := peer 2; let h : Handover := { out := false, sweep := 100 }; (s.m.works 0x0E = true) ∧ (s.m.role = 6 ∧ s.m.dpx.ho = some h ∧ h.out = false ∧ s.m.headFaults path.val head = 0 ∧ s.m.pathOpen path.val = true))
    ∧ (let s : State := hoS { out := true, sweep := 100 }; let h : Handover := { out := true, sweep := 100 }; (s.m.works 0x0E = true) ∧ (s.m.role = 6 ∧ s.m.dpx.ho = some h ∧ h.out = true ∧ h.sentUs + 2000 ≤ s.m.boot.us))
    ∧ (let s : State := dpxS 2; let path : Fin 2 := 0; let head : DuplexHead := peer 5; (s.m.works 0x0E = true) ∧ (s.m.role = 2 ∧ head.role = 5 ∧ s.m.headFaults path.val head = 0 ∧ s.m.pathOpen path.val = true) ∧ (s.m.peerHeard = true ∧ (s.m.pathLost 0 = false ∨ s.m.pathLost 1 = false)))
    ∧ (let s : State := dpxS 2; let a : Access := core; let v : Word := 0x44580001; (s.admitsWrite a 0x20C00038) ∧ (a.world = true ∧ v.toNat / 2 ^ 16 = 0x4458 ∧ v.toNat % 16 = 1 ∧ s.m.flag F.DPX_CTRL_STAT_PEND = false) ∧ (s.m.handoverRefusal = none))
    ∧ (let s : State := dpxS 2; let a : Access := core; let v : Word := 0x44580002; (s.admitsWrite a 0x20C00038) ∧ (a.world = true ∧ v.toNat / 2 ^ 16 = 0x4458 ∧ v.toNat % 16 = 2 ∧ s.m.flag F.DPX_CTRL_STAT_PEND = false))
    ∧ (let s : State := fitS; (s.m.works 0x0E = true) ∧ (s.m.unitNo = 0 ∧ s.m.role = 5 ∧ s.m.flag F.DPX_CFG_REVERT_EN = true ∧ s.m.pathLost 0 = false) ∧ (s.m.fitness = 0x1FFF ∧ (s.m.rd F.DPX_FIT_PEER).testBit 12 = true) ∧ (s.m.dpx.revertUs + s.m.rd F.DPX_TIMING_REVERT_HOLD_S * 1000000 ≤ s.m.boot.us))
    ∧ (let s : State := dpxS 2; (s.m.works 0x0E = true) ∧ ((s.m.role = 2 ∨ s.m.role = 6) ∧ s.m.pbr.effects = [] ∧ s.m.rd F.DPX_SUP_STAT_REMAIN_US = 0))
    ∧ (let s : State := opened 0x0E (dpxS 3); let a : Access := tenant; let v : Word := 0xC011; (s.admitsWrite a 0x20C00030) ∧ (a.world = false ∧ a.part = s.m.rd F.DPX_SUP_CFG_SUP_PART ∧ v.toNat % 2 ^ 16 = 0xC011 ∧ s.m.role ≠ 0 ∧ s.m.role ≠ 7))
    ∧ (let s : State := unheard (dpxS 4); (s.m.works 0x0E = true) ∧ (s.m.role = 4 ∧ s.m.flag F.DPX_STATE_COLLAR_IN = false ∧ s.m.peerHeard = false) ∧ (s.m.mayLead = true ∧ max s.m.dpx.heardUs s.m.dpx.collarUs + 10000000 ≤ s.m.boot.us))
    ∧ (let s : State := unit1 (hemS 125); (s.m.works 0x0E = true) ∧ (s.m.role = 2 ∧ ¬ (s.m.peerRole = 6 ∧ s.m.peerHeard = true) ∧ 125 ≤ s.m.dpx.hemRun) ∧ (s.m.unitNo = 1 ∧ s.m.flag F.DPX_STATE_HEM_DISTRUST = false))
    ∧ (let s : State := dupS; (s.m.works 0x0E = true))
    ∧ (let s : State := dpxS 1; (s.m.works 0x0E = true))
    ∧ (let s : State := heardActiveS; (s.m.works 0x0E = true) ∧ (s.m.boot.chanDone = true ∧ s.m.dpx.step9 = false ∧ s.m.role = 1 ∧ s.m.activeHeard = true))
    ∧ (let s : State := dpxS 5; (s.m.works 0x0E = true))
    ∧ (let s : State := dpxS 5; (s.m.works 0x0E = true))
    ∧ (let s : State := hoS { out := false, sweep := 100 }; (s.m.works 0x0E = true))
    ∧ (let s : State := hoS { out := true, sweep := 100 }; (s.m.works 0x0E = true))
    ∧ (let s : State := hoS { out := false, sweep := 100 }; (s.m.works 0x0E = true))
    ∧ (let s : State := dpxS 2; (s.m.works 0x0E = true))
    ∧ (let s : State := dpxS 2; let a : Access := core; (s.admitsWrite a 0x20C00038) ∧ (a.world = true))
    ∧ (let s : State := dpxS 2; let a : Access := core; (s.admitsWrite a 0x20C00038) ∧ (a.world = true))
    ∧ (let s : State := opened 0x0E (dpxS 3); let a : Access := tenant; (s.admitsWrite a 0x20C00030) ∧ (a.world = false ∧ a.part = s.m.rd F.DPX_SUP_CFG_SUP_PART))
    ∧ (let s : State := unheard (dpxS 4); (s.m.works 0x0E = true))
    ∧ (let s : State := hemS 125; (s.m.works 0x0E = true))
    ∧ (let s : State := dpxS 2; (s.m.works 0x0E = true))
    ∧ (let s : State := fitS; (s.m.works 0x0E = true))
    ∧ (let s : State := hoS { out := true, sweep := 100 }; (s.m.works 0x0E = true)) := by
  refine ⟨?_, ?_, ?_, ?_, ?_, ?_, ?_, ?_, ?_, ?_, ?_, ?_, ?_, ?_, ?_, ?_, ?_, ?_, ?_, ?_, ?_, ?_, ?_, ?_, ?_, ?_, ?_, ?_, ?_, ?_, ?_, ?_, ?_, ?_⟩ <;> decide

/-- The hypotheses of DuplexExchange can be met: one state and operands for each clause. -/
theorem witness_DuplexExchange :
    (let s : State := dpxS 2; (s.m.works 0x0E = true) ∧ (s.m.talks = true))
    ∧ (let s : State := dpxS 4; let path : Fin 3 := 0; let x : Heartbeat := { head := peer 4, fit := 0x1FF }; (s.m.works 0x0E = true) ∧ (s.m.role = 4 ∧ s.m.headFaults path.val x.head = 0 ∧ x.head.role = 4 ∧ s.m.pathOpen path.val = true))
    ∧ (let s : State := dpxS 2; let path : Fin 3 := 0; let x : Heartbeat := { head := { peer 4 with unit := 0 }, fit := 0x1FF }; (s.m.works 0x0E = true) ∧ (s.m.role = 2 ∧ x.head.unit = s.m.unitNo ∧ s.m.pathOpen path.val = true))
    ∧ (let s : State := dpxS 2; let path : Fin 2 := 0; let x : Mirror := { head := peer 5, sweep := 77, cond := 5 }; (s.m.works 0x0E = true) ∧ (s.m.role = 2 ∧ s.m.headFaults path.val x.head = 0 ∧ x.head.role = 5 ∧ x.sweep < 2 ^ 32 ∧ s.m.drives = true) ∧ (s.m.pathOpen path.val = true))
    ∧ (let s : State := silentS; let path : Fin 3 := 0; (s.m.works 0x0E = true) ∧ (s.m.pathLost path.val = false ∧ s.m.pbr.effects = [] ∧ 10000 ≤ s.m.rd F.DPX_PATH_AGE_US path.val) ∧ (path.val = 2 → s.m.flag F.DPX_CFG_CAN_EN = true))
    ∧ (let s : State := lostS; let path : Fin 3 := 0; (s.m.works 0x0E = true) ∧ (s.m.pathLost path.val = true ∧ s.m.rd F.DPX_PATH_AGE_US path.val ≤ 1000) ∧ (tget 0 s.m.dpx.pathRun path.val ≠ 0 ∧ tget 0 s.m.dpx.pathRun path.val + 100000 ≤ s.m.boot.us + 1))
    ∧ (let s : State := dpxS 2; (s.m.works 0x0E = true))
    ∧ (let s : State := collarS; (s.m.works 0x0E = true) ∧ (s.m.role = 2 ∧ s.m.flag F.DPX_STATE_COLLAR_IN = true ∧ ¬ (s.m.peerRole = 6 ∧ s.m.peerHeard = true)) ∧ (s.m.dpx.collarUs + 100 ≤ s.m.boot.us))
    ∧ (let s : State := heldS; (s.m.works 0x0E = true) ∧ (s.m.role ≠ 0 ∧ s.m.flag F.DPX_STATE_COLLAR_IN = false ∧ s.m.dpx.peerHeld = true ∧ s.m.flag F.DPX_STATE_COLLAR_OPEN = false) ∧ (s.m.dpx.collarUs + 1000 ≤ s.m.boot.us))
    ∧ (let s : State := dpxS 2; (s.m.works 0x0E = true) ∧ (s.m.flag F.DPX_CFG_EN = true ∧ s.m.dpx.ho = none ∧ s.m.degraded = false ∧ s.m.cycleDue = true))
    ∧ (let s : State := hoS { out := false, engaged := true, taken := some 1 }; let h : Handover := { out := false, engaged := true, taken := some 1 }; (s.m.works 0x0E = true) ∧ (s.m.flag F.DPX_CFG_EN = true ∧ s.m.degraded = false ∧ s.m.role = 6 ∧ s.m.dpx.ho = some h ∧ h.out = false) ∧ (s.m.cycleDue = true ∧ h.taken = some ((s.m.rd F.DPX_CYCLE_NUM + 1) % 2 ^ F.DPX_CYCLE_NUM.width)))
    ∧ (let s : State := dpxS 2; let a : Access := core; (s.admitsWrite a 0x20C0005C) ∧ (s.m.bridgeUp = false))
    ∧ (let s : State := snapS; let r : Fin 16 := 3; (s.m.works 0x0E = true) ∧ (s.m.rd F.DPX_SNAP_READY_REGIONS = 2 ^ r.val ∧ s.m.bridgeUp = false) ∧ (s.m.flag F.DPX_SNAP_STAT_BUSY = true ∧ s.m.snapPending r.val = false))
    ∧ (let s : State := dpxS 2; (s.m.works 0x0E = true))
    ∧ (let s : State := pulseS; let c : Fin 128 := 3; (s.m.works 0x0E = true) ∧ ((s.m.role = 4 ∨ s.m.role = 5) ∧ tget 0 s.m.dpx.peerCmd c.val = 1 ∧ s.m.dpx.peerCond.testBit c.val = true) ∧ ((s.m.chan c.val).phase = .off ∧ s.m.freeToTurnOn c.val = true ∧ s.m.vauxAllows c.val = true ∧ s.m.pulsing (c.val / 32) = false) ∧ (s.m.steadyFor c.val = true ∧ s.m.pulseDue c.val = true))
    ∧ (let s : State := pulsingS; let c : Fin 128 := 3; (s.m.works 0x0E = true) ∧ ((s.m.chan c.val).pulse = true ∧ (s.m.chan c.val).protOff = false ∧ (s.m.chan c.val).phase = .on ∧ s.m.drives = false) ∧ (tget 0 s.m.dpx.peerCmd c.val = 1 ∧ tget 0 s.m.dpx.pulseRun c.val = 1) ∧ ((s.m.chan c.val).carried = false ∧ (s.m.chan c.val).reverse = false ∧ tget 0 s.m.dpx.pulseFrom c.val + 50 ≤ s.m.boot.us + 1))
    ∧ (let s : State := rotateS; let p : Fin 16 := 2; (s.m.works 0x0E = true) ∧ ((s.m.role = 4 ∨ s.m.role = 5) ∧ s.m.sparePair.isSome = true ∧ s.m.lss.moveReq = none) ∧ (s.m.movable p.val = true ∧ s.m.dpx.rotated = (p.val + 15) % 16) ∧ (s.m.dpx.rotatedUs = 0 ∨ s.m.dpx.rotatedUs + 10000000 ≤ s.m.boot.us + 1))
    ∧ (let s : State := dpxS 2; (s.m.works 0x0E = true))
    ∧ (let s : State := dpxS 2; (s.m.works 0x0E = true))
    ∧ (let s : State := dpxS 4; let path : Fin 2 := 0; let x : Mirror := { head := peer 2, sweep := 77, cond := 5, cmd := [1, 0, 2] }; (s.m.works 0x0E = true) ∧ (s.m.role = 4 ∧ s.m.drives = false ∧ s.m.headFaults path.val x.head = 0 ∧ s.m.pathOpen path.val = true ∧ x.head.role = 2))
    ∧ (let s : State := dpxS 4; (s.m.works 0x0E = true))
    ∧ (let s : State := silentS; (s.m.works 0x0E = true))
    ∧ (let s : State := lostS; (s.m.works 0x0E = true))
    ∧ (let s : State := dpxS 2; (s.m.works 0x0E = true))
    ∧ (let s : State := dpxS 2; let a : Access := core; (s.admitsWrite a 0x20C0005C))
    ∧ (let s : State := snapS; (s.m.works 0x0E = true))
    ∧ (let s : State := pulsedS; let c : Fin 128 := 3; (s.m.works 0x0E = true) ∧ ((s.m.chan c.val).pulse = true ∧ (s.m.chan c.val).protOff = false ∧ (s.m.chan c.val).phase = .on ∧ s.m.drives = false) ∧ (tget 0 s.m.dpx.peerCmd c.val = 1 ∧ tget 0 s.m.dpx.pulseFrom c.val + 50 ≤ s.m.boot.us + 1) ∧ ((s.m.chan c.val).carried = true ∧ (s.m.chan c.val).onAt < tget 0 s.m.dpx.pulseFrom c.val + 10))
    ∧ (let s : State := pulseS; (s.m.works 0x0E = true))
    ∧ (let s : State := pulsingS; (s.m.works 0x0E = true))
    ∧ (let s : State := rotateS; (s.m.works 0x0E = true)) := by
  refine ⟨?_, ?_, ?_, ?_, ?_, ?_, ?_, ?_, ?_, ?_, ?_, ?_, ?_, ?_, ?_, ?_, ?_, ?_, ?_, ?_, ?_, ?_, ?_, ?_, ?_, ?_, ?_, ?_, ?_, ?_⟩ <;> decide

/-- The hypotheses of BridgeLink can be met: one state and operands for each clause. -/
theorem witness_BridgeLink :
    (let s : State := bridgeS; (s.m.works 0x0F = true) ∧ (s.m.flag F.PBR_CTRL_EN = true ∧ s.m.pathOpen s.m.bridgePath = true))
    ∧ (let s : State := blockedS; (s.m.works 0x0F = true) ∧ (s.m.flag F.PBR_STAT_BLOCKED = true ∧ s.m.pathOpen s.m.bridgePath = true))
    ∧ (let s : State := downS; let x : BridgeMsg := helloM; (s.m.works 0x0F = true) ∧ (x.version = 1 ∧ s.m.pathOpen x.path = true ∧ x.kind = 0x10 ∧ x.session < 2 ^ 16 ∧ s.m.bridgeUp = false ∧ s.m.mayLink = true) ∧ (ofNetBytes (x.data.take 4) = s.m.rd F.DPX_PAIR_ID_ID) ∧ (ofNetBytes ((x.data.drop 4).take 2) = s.m.rd F.PBR_SESSION_OWN ∧ s.m.flag F.PBR_SESSION_OWN = true))
    ∧ (let s : State := idleS; let a : Access := core; let v : Word := 1; (s.admitsWrite a 0x20D00000) ∧ (a.world = true ∧ v.toNat % 2 = 1))
    ∧ (let s : State := unackedS; let x : BridgeMsg := { kind := 0x1A, session := 9, ack := 1, seq := 1 }; let h : Unacked := { msg := { kind := 0x13, seq := 1, tag := 3 } }; (s.m.works 0x0F = true) ∧ (s.m.accepts x ∧ x.kind = 0x1A ∧ x.blocked = false ∧ s.m.pbr.queue = []) ∧ (s.m.pbr.unacked.head? = some h ∧ h.msg.seq = x.ack ∧ h.msg.kind ≠ 0x18))
    ∧ (let s : State := unackedS; let h : Unacked := { msg := { kind := 0x13, seq := 1, tag := 3 } }; (s.m.works 0x0F = true) ∧ (s.m.bridgeUp = true ∧ s.m.pbr.unacked.head? = some h ∧ h.sends < 8 ∧ s.m.ackLate = true ∧ s.m.pathOpen s.m.bridgePath = true))
    ∧ (let s : State := lateS; (s.m.works 0x0F = true) ∧ (s.m.bridgeUp = true ∧ s.m.pbr.effects = [] ∧ s.m.pbr.holding = [] ∧ s.m.linkCause.isSome = true))
    ∧ (let s : State := fullS; let x : BridgeMsg := { kind := 0x13, tag := 40 }; (s.m.works 0x0F = true) ∧ (s.m.bridgeUp = true ∧ s.m.pbr.queue.head? = some x ∧ isRequest x.kind = true ∧ 32 ≤ s.m.outstanding) ∧ (s.m.pbr.headUs ≠ 0 ∧ s.m.pbr.headUs + 2 ≤ s.m.boot.us + 1))
    ∧ (let s : State := retractS; (s.m.works 0x0F = true) ∧ (s.m.flag F.PBR_STAT_RETRACTED = true ∧ s.m.pbr.retryTags = []))
    ∧ (let s : State := bridgeS; let a : Access := core; let v : Word := 4; let n : Fin 24 := 2; (s.admitsWrite a 0x20D00014) ∧ (v.toNat = 2 ^ n.val ∧ s.m.bridgeFree))
    ∧ (let s : State := bridgeS; let x : BridgeMsg := { kind := 0x17, op := 5, session := 9, seq := 1 }; (s.m.works 0x0F = true) ∧ (s.m.accepts x ∧ x.kind = 0x17 ∧ x.op < 24 ∧ x.blocked = false ∧ s.m.pbr.inq = []))
    ∧ (let s : State := bridgeS; let n : Fin 16 := 1; (s.m.works 0x0F = true) ∧ (s.m.pbr.sems.all (fun x => x.no != n.val || decide (x.takenUs + 100 ≤ s.m.boot.us)) = true))
    ∧ (let s : State := bridgeS; (s.m.works 0x0F = true))
    ∧ (let s : State := holdS; let w : Nat := 0x20100000; (s.m.works 0x0F = true) ∧ (s.m.pbr.holding.any (fun h => h.addr == w) = true ∧ w < 2 ^ 40) ∧ (s.m.pbr.holding.all (fun h => h.addr != w || decide (h.keptUs + 64 ≤ s.m.boot.us)) = true))
    ∧ (let s : State := bridgeS; (s.m.works 0x0F = true))
    ∧ (let s : State := blockedS; (s.m.works 0x0F = true))
    ∧ (let s : State := downS; (s.m.works 0x0F = true))
    ∧ (let s : State := idleS; let a : Access := core; (s.admitsWrite a 0x20D00000) ∧ (a.world = true))
    ∧ (let s : State := unackedS; (s.m.works 0x0F = true))
    ∧ (let s : State := unackedS; (s.m.works 0x0F = true))
    ∧ (let s : State := lateS; let c : Nat := 0; (s.m.works 0x0F = true) ∧ (s.m.linkCause = some c))
    ∧ (let s : State := fullS; (s.m.works 0x0F = true))
    ∧ (let s : State := retractS; (s.m.works 0x0F = true))
    ∧ (let s : State := bridgeS; let a : Access := core; (s.admitsWrite a 0x20D00014))
    ∧ (let s : State := bridgeS; (s.m.works 0x0F = true))
    ∧ (let s : State := bridgeS; (s.m.works 0x0F = true))
    ∧ (let s : State := holdS; (s.m.works 0x0F = true)) := by
  refine ⟨?_, ?_, ?_, ?_, ?_, ?_, ?_, ?_, ?_, ?_, ?_, ?_, ?_, ?_, ?_, ?_, ?_, ?_, ?_, ?_, ?_, ?_, ?_, ?_, ?_, ?_, ?_⟩ <;> decide

/-- The hypotheses of BridgeTransfers can be met: one state and operands for each clause. -/
theorem witness_BridgeTransfers :
    (let s : State := windowS; let a : Access := core; let addr : Nat := 0x30000104; let w : Fin 16 := 2; (s.admitsRead a addr) ∧ (s.m.bridgeFree ∧ s.m.winOf addr = some w.val ∧ s.m.flag F.PBR_WIN_A_READ w.val = true ∧ s.m.flag F.PBR_WIN_A_PREFETCH w.val = false) ∧ (commitsAtOnce a ∧ s.m.pbr.reqs.all (fun q => q.tag != s.m.freeTag) = true))
    ∧ (let s : State := windowS; let a : Access := core; let addr : Nat := 0x30000104; let w : Fin 16 := 2; (s.admitsWrite a addr) ∧ (s.m.bridgeFree ∧ s.m.winOf addr = some w.val ∧ s.m.flag F.PBR_WIN_A_WRITE w.val = true ∧ s.m.pbr.reqs.all (fun q => q.tag != s.m.freeTag) = true))
    ∧ (let s : State := windowS; let a : Access := core; let addr : Nat := 0x30000104; let w : Fin 16 := 2; (s.admitsWrite a addr) ∧ (s.m.bridgeFree ∧ s.m.winOf addr = some w.val ∧ s.m.flag F.PBR_WIN_A_WRITE w.val = true ∧ s.m.pbr.reqs.all (fun q => q.tag != s.m.freeTag) = true))
    ∧ (let s : State := windowS; let a : Access := core; let addr : Nat := 0x30000104; let w : Fin 16 := 2; (s.admitsWrite a addr) ∧ (s.m.bridgeFree ∧ s.m.winOf addr = some w.val ∧ s.m.flag F.PBR_WIN_A_WRITE w.val = true ∧ s.m.pbr.reqs.all (fun q => q.tag != s.m.freeTag) = true))
    ∧ (let s : State := windowS; let a : Access := core; let addr : Nat := 0x30000104; let w : Fin 16 := 2; (s.admitsWrite a addr) ∧ (s.m.bridgeFree ∧ s.m.winOf addr = some w.val ∧ s.m.flag F.PBR_WIN_A_WRITE w.val = true ∧ s.m.pbr.reqs.all (fun q => q.tag != s.m.freeTag) = true))
    ∧ (let s : State := waitingS 0x11; let x : BridgeMsg := { kind := 0x12, session := 9, seq := 1, tag := 3, data := [5, 6, 7, 8] }; let q : BridgeReq := waitingQ 0x11; (s.m.works 0x0F = true) ∧ (s.m.accepts x ∧ x.kind = 0x12 ∧ x.op = 0 ∧ x.skipped = 0 ∧ x.held = 0 ∧ s.m.pbr.queue = []) ∧ (s.m.pbr.reqs.find? (fun r => r.tag == x.tag && r.kind == 0x11 && r.sent) = some q ∧ q.fill = false ∧ q.waits = true))
    ∧ (let s : State := waitingS 0x13; let x : BridgeMsg := { kind := 0x14, session := 9, seq := 1, tag := 3 }; let q : BridgeReq := waitingQ 0x13; (s.m.works 0x0F = true) ∧ (s.m.accepts x ∧ x.kind = 0x14 ∧ x.op = 0 ∧ s.m.pbr.queue = []) ∧ (s.m.pbr.reqs.find? (fun r => r.tag == x.tag && r.kind == 0x13 && r.sent) = some q ∧ q.fill = false ∧ q.waits = true))
    ∧ (let s : State := waitingS 0x15; let x : BridgeMsg := { kind := 0x16, session := 9, seq := 1, tag := 3, data := [5, 6, 7, 8] }; let q : BridgeReq := waitingQ 0x15; (s.m.works 0x0F = true) ∧ (s.m.accepts x ∧ x.kind = 0x16 ∧ x.op = 0 ∧ s.m.pbr.queue = []) ∧ (s.m.pbr.reqs.find? (fun r => r.tag == x.tag && r.kind == 0x15 && r.sent) = some q ∧ q.fill = false ∧ q.waits = true ∧ q.size = 4))
    ∧ (let s : State := inS; let x : BridgeMsg := inM 0x11; let a : Access := inA; let l : List Byte := [1, 2, 3, 4]; (s.m.works 0x0F = true ∧ (s.m.pbr.inq.filter (fun r => isRequest r.msg.kind)).length < 32) ∧ (s.m.accepts x ∧ x.kind = 0x11 ∧ Module.withinLimits x = true ∧ s.m.inboundAccess x = some a) ∧ ((Module.memOf x.addr).isSome = true ∧ ((s.m.hearPeer x).busRead a x.addr x.len).2 = some l))
    ∧ (let s : State := bridgeS; let x : BridgeMsg := inM 0x11; (s.m.works 0x0F = true ∧ (s.m.pbr.inq.filter (fun r => isRequest r.msg.kind)).length < 32) ∧ (s.m.accepts x ∧ x.kind = 0x11 ∧ Module.withinLimits x = true ∧ s.m.inboundAccess x = none))
    ∧ (let s : State := inS; let x : BridgeMsg := { inM 0x13 with data := [9, 8, 7, 6] }; let a : Access := inA; (s.m.works 0x0F = true ∧ (s.m.pbr.inq.filter (fun r => isRequest r.msg.kind)).length < 32) ∧ (s.m.accepts x ∧ x.kind = 0x13 ∧ Module.withinLimits x = true ∧ s.m.inboundAccess x = some a ∧ x.data.length = x.len) ∧ (s.m.mem.clean ∧ (Module.memOf x.addr).isSome = true ∧ x.firstBe = 15 ∧ x.lastBe = 15) ∧ (((s.m.hearPeer x).busWrite a x.addr x.data).2 = true))
    ∧ (let s : State := inS; let x : BridgeMsg := { inM 0x15 with op := 0x10 }; let a : Access := inA; let l : List Byte := [1, 2, 3, 4]; (s.m.works 0x0F = true ∧ (s.m.pbr.inq.filter (fun r => isRequest r.msg.kind)).length < 32) ∧ (s.m.accepts x ∧ x.kind = 0x15 ∧ x.op = 0x10 ∧ Module.withinLimits x = true ∧ s.m.inboundAccess x = some a) ∧ (((s.m.hearPeer x).busRead a x.addr 4).2 = some l))
    ∧ (let s : State := inSemS; let x : BridgeMsg := { inM 0x15 with op := 0x11, data := [9, 8, 7, 6] }; let a : Access := inA; (s.m.works 0x0F = true ∧ (s.m.pbr.inq.filter (fun r => isRequest r.msg.kind)).length < 32) ∧ (s.m.accepts x ∧ x.kind = 0x15 ∧ x.op = 0x11 ∧ Module.withinLimits x = true ∧ s.m.inboundAccess x = some a) ∧ (s.m.pbr.sems.any (fun e => e.holder == Module.holderOf x && e.granule == x.addr / 64) = true ∧ x.data.length = 4) ∧ (s.m.mem.clean ∧ (Module.memOf x.addr).isSome = true ∧ ((s.m.hearPeer x).busWrite a x.addr x.data).2 = true))
    ∧ (let s : State := doneS; let tag : Fin 256 := 5; let r : BridgeIn := { msg := inM 0x11, answer := Module.answerOf (inM 0x11) 0 [1, 2, 3, 4] }; (s.m.works 0x0F = true) ∧ (s.m.bridgeFree ∧ isRequest r.answer.kind = false ∧ r.answer.kind ≠ 0x17) ∧ (s.m.pbr.inq.find? (fun e => e.msg.tag == tag.val && isRequest e.msg.kind) = some r) ∧ (s.m.pbr.inq.all (fun e => e.msg.kind != 0x17) = true))
    ∧ (let s : State := effS; let x : BridgeMsg := { kind := 0x18, session := 9, seq := 1, cid := 4 }; (s.m.works 0x0F = true) ∧ (s.m.accepts x ∧ x.kind = 0x18 ∧ s.m.pbr.effects.all (fun e => e.cid != x.cid || (e.effect != .tracker && e.keep.isNone)) = true))
    ∧ (let s : State := effS; let x : BridgeMsg := { kind := 0x19, session := 9, seq := 1, cid := 4 }; let i : Fin 16 := 3; let e : ChiCpl := ⟨7, 0, 1, 9, 0, 12⟩; let p : PeerRead := { cid := 4, ini := 0, addr := 0x40063010, effect := .chi 3 ⟨7, 0, 1, 9, 0, 12⟩ 1 2 3 }; (s.m.works 0x0F = true) ∧ (s.m.accepts x ∧ x.kind = 0x19 ∧ p.effect = .chi i.val e 1 2 3) ∧ (s.m.pbr.effects.filter (fun e => e.cid == x.cid) = [p]))
    ∧ (let s : State := windowS; let a : Access := core; (s.genuine a 0))
    ∧ (let s : State := windowS; let a : Access := core; (s.genuine a 1))
    ∧ (let s : State := windowS; let a : Access := core; (s.genuine a 1))
    ∧ (let s : State := windowS; let a : Access := core; (s.genuine a 1))
    ∧ (let s : State := windowS; let a : Access := core; (s.genuine a 1))
    ∧ (let s : State := granuleS; let a : Access := core; let addr : Nat := 0x30000104; let n : Nat := 4; let w : Fin 16 := 2; let l : List Byte := [4, 5, 6, 7]; (s.admitsRead a addr) ∧ (s.m.bridgeUp = true ∧ s.m.winOf addr = some w.val ∧ s.m.flag F.PBR_WIN_A_READ w.val = true ∧ s.m.flag F.PBR_WIN_A_PREFETCH w.val = true) ∧ (s.m.prefetched (s.m.peerAddr w.val addr) n = some l))
    ∧ (let s : State := waitingS 0x11; (s.m.works 0x0F = true))
    ∧ (let s : State := waitingS 0x11; let x : BridgeMsg := { kind := 0x12, session := 9, seq := 1, tag := 3, op := 2 }; let q : BridgeReq := waitingQ 0x11; (s.m.works 0x0F = true) ∧ (s.m.accepts x ∧ x.kind = 0x12 ∧ x.op ≠ 0 ∧ s.m.pbr.queue = []) ∧ (s.m.pbr.reqs.find? (fun r => r.tag == x.tag && r.kind == 0x11 && r.sent) = some q ∧ q.waits = true))
    ∧ (let s : State := waitingS 0x13; (s.m.works 0x0F = true))
    ∧ (let s : State := waitingS 0x13; let x : BridgeMsg := { kind := 0x14, session := 9, seq := 1, tag := 3, op := 2 }; let q : BridgeReq := waitingQ 0x13; (s.m.works 0x0F = true) ∧ (s.m.accepts x ∧ x.kind = 0x14 ∧ x.op ≠ 0 ∧ s.m.pbr.queue = []) ∧ (s.m.pbr.reqs.find? (fun r => r.tag == x.tag && r.kind == 0x13 && r.sent) = some q ∧ q.waits = true))
    ∧ (let s : State := waitingS 0x15; (s.m.works 0x0F = true))
    ∧ (let s : State := waitingS 0x15; let x : BridgeMsg := { kind := 0x16, session := 9, seq := 1, tag := 3, op := 2 }; let q : BridgeReq := waitingQ 0x15; (s.m.works 0x0F = true) ∧ (s.m.accepts x ∧ x.kind = 0x16 ∧ x.op ≠ 0 ∧ s.m.pbr.queue = []) ∧ (s.m.pbr.reqs.find? (fun r => r.tag == x.tag && r.kind == 0x15 && r.sent) = some q ∧ q.waits = true))
    ∧ (let s : State := doneS; (s.m.works 0x0F = true))
    ∧ (let s : State := effS; (s.m.works 0x0F = true))
    ∧ (let s : State := effS; (s.m.works 0x0F = true)) := by
  refine ⟨?_, ?_, ?_, ?_, ?_, ?_, ?_, ?_, ?_, ?_, ?_, ?_, ?_, ?_, ?_, ?_, ?_, ?_, ?_, ?_, ?_, ?_, ?_, ?_, ?_, ?_, ?_, ?_, ?_, ?_, ?_⟩ <;> decide

/-- The hypotheses of Handles can be met: one state and operands for each clause. -/
theorem witness_Handles :
    (let s : State := mbxS 0x10 [0x10001000]; let a : Access := core; let r : Fin 17 := 16; let v : Word := 0x70010; (s.maySubmit a r.val v 0x10))
    ∧ (let s : State := mbxS 0x11 [0]; let a : Access := core; let r : Fin 17 := 16; let v : Word := 0x70011; (s.maySubmit a r.val v 0x11))
    ∧ (let s : State := mbxS 0x11 [1]; let a : Access := core; let r : Fin 17 := 16; let v : Word := 0x70011; (s.maySubmit a r.val v 0x11))
    ∧ (let s : State := mbxS 0x12 []; let a : Access := core; let r : Fin 17 := 16; let v : Word := 0x70012; (s.maySubmit a r.val v 0x12))
    ∧ (let s : State := mbxS 0x13 [0x3F]; let a : Access := core; let r : Fin 17 := 16; let v : Word := 0x70013; (s.maySubmit a r.val v 0x13))
    ∧ (let s : State := mbxS 0x14 [0x7F]; let a : Access := core; let r : Fin 17 := 16; let v : Word := 0x70014; (s.maySubmit a r.val v 0x14))
    ∧ (let s : State := mbxS 0x15 [0]; let a : Access := core; let r : Fin 17 := 16; let v : Word := 0x70015; (s.maySubmit a r.val v 0x15))
    ∧ (let s : State := mbxS 0x15 [1]; let a : Access := core; let r : Fin 17 := 16; let v : Word := 0x70015; (s.maySubmit a r.val v 0x15))
    ∧ (let s : State := mbxS 0x16 [0xFF]; let a : Access := core; let r : Fin 17 := 16; let v : Word := 0x70016; (s.maySubmit a r.val v 0x16))
    ∧ (let s : State := mbxS 0x17 [0x10001000, 0, 4]; let a : Access := core; let r : Fin 17 := 16; let v : Word := 0x70017; (s.maySubmit a r.val v 0x17))
    ∧ (let s : State := mbxS 0x10 [0]; let a : Access := core; let r : Fin 17 := 16; let v : Word := 0x70010; let st : Nat := 0x10; (s.admitsWrite a (Module.winAddr r.val 0x20)) ∧ (Module.requester a = r.val ∧ s.m.submitRefusal r.val (v.toNat % 2 ^ 8) (s.m.mbxArgs r.val) = some st))
    ∧ (let s : State := handleS 0 0x13; let a : Access := core; let r : Fin 17 := 16; let v : Word := 0x70001; (s.maySubmit a r.val v 1))
    ∧ (let s : State := handleS 0 0x13; let a : Access := core; let r : Fin 17 := 16; let v : Word := 0x70002; (s.maySubmit a r.val v 2 ∧ (s.m.slot (s.m.target r.val)).state = 0))
    ∧ (let s : State := handleS 2 0x13; let a : Access := core; let r : Fin 17 := 16; let v : Word := 0x70003; (s.maySubmit a r.val v 3 ∧ (s.m.slot (s.m.target r.val)).state = 2) ∧ ((s.m.slot (s.m.target r.val)).lane = false ∨ (s.m.slot (s.m.target r.val)).op ≠ 0x16))
    ∧ (let s : State := handleS 0 0x13; let a : Access := core; let r : Fin 17 := 16; let v : Word := 0x70004; (s.maySubmit a r.val v 4 ∧ (s.m.slot (s.m.target r.val)).state = 0 ∧ (s.m.slot (s.m.target r.val)).suspends = []))
    ∧ (let s : State := handleS 1 0x13; let a : Access := core; let r : Fin 17 := 16; let v : Word := 0x70004; (s.maySubmit a r.val v 4 ∧ (s.m.slot (s.m.target r.val)).state = 1 ∧ s.m.pastCommit (s.m.target r.val) = false))
    ∧ (let s : State := handleS 4 0x13; let a : Access := core; let r : Fin 17 := 16; let v : Word := 0x70005; (s.maySubmit a r.val v 5 ∧ 4 ≤ (s.m.slot (s.m.target r.val)).state))
    ∧ (let s : State := handleS 0 0x13; let n : Fin 256 := 0x22; (s.m.works 0x13 = true) ∧ (s.m.laneSlot 1 = none ∧ (s.m.slot n.val).state = 0 ∧ (s.m.slot n.val).op = 0x13) ∧ ((s.m.queuedOf 1).all (fun k => k == n.val || decide ((s.m.slot n.val).order < (s.m.slot k).order)) = true))
    ∧ (let s : State := handleS 0 0x14; let n : Fin 256 := 0x22; (s.m.works 0x13 = true) ∧ (s.m.laneSlot 2 = none ∧ (s.m.slot n.val).state = 0 ∧ (s.m.slot n.val).op = 0x14) ∧ ((s.m.queuedOf 2).all (fun k => k == n.val || decide ((s.m.slot n.val).order < (s.m.slot k).order)) = true))
    ∧ (let s : State := suspendS; let l : Fin 5 := 1; let n : Fin 256 := 0x22; let ses : Nat := 9; (s.m.works 0x13 = true) ∧ (s.m.laneRuns l.val = some n.val ∧ (s.m.slot n.val).suspends = [ses] ∧ (s.m.slot n.val).ended = none))
    ∧ (let s : State := endedS; let l : Fin 5 := 1; let n : Fin 256 := 0x22; let st : Nat := 0; (s.m.works 0x13 = true) ∧ (s.m.laneRuns l.val = some n.val ∧ (s.m.slot n.val).ended = some st ∧ (s.m.slot n.val).suspends = []))
    ∧ (let s : State := cancelS; let l : Fin 5 := 2; let n : Fin 256 := 0x22; (s.m.works 0x13 = true) ∧ (s.m.laneSlot l.val = some n.val ∧ (s.m.slot n.val).state = 3 ∧ (s.m.slot n.val).op = 0x14) ∧ ((s.m.slot n.val).cancels = [9] ∧ (s.m.slot n.val).suspends = []))
    ∧ (let s : State := expiredS; let n : Fin 256 := 0x22; (s.m.works 0x13 = true) ∧ (4 ≤ (s.m.slot n.val).state ∧ (s.m.slot n.val).state ≤ 6 ∧ (s.m.slot n.val).finalUs + 60000000 ≤ s.m.boot.us))
    ∧ (let s : State := fifoS; let a : Access := core; let r : Fin 17 := 16; let e : MbxCpl := ⟨9, 0, 1, 0x122, 0, 5, 7⟩; (s.admitsRead a (Module.winAddr r.val 0x24)) ∧ (Module.requester a = r.val ∧ commitsAtOnce a ∧ (tget [] s.m.mbx.fifos r.val) = [e] ∧ e.session < 2 ^ 16))
    ∧ (let s : State := mbxS 0x10 [0x10001000]; let a : Access := core; let r : Fin 17 := 16; (s.admitsWrite a (Module.winAddr r.val 0x20) ∧ Module.requester a = r.val))
    ∧ (let s : State := mbxS 0x11 [0]; let a : Access := core; let r : Fin 17 := 16; (s.admitsWrite a (Module.winAddr r.val 0x20) ∧ Module.requester a = r.val))
    ∧ (let s : State := mbxS 0x11 [1]; let a : Access := core; let r : Fin 17 := 16; (s.admitsWrite a (Module.winAddr r.val 0x20) ∧ Module.requester a = r.val))
    ∧ (let s : State := mbxS 0x12 []; let a : Access := core; let r : Fin 17 := 16; (s.admitsWrite a (Module.winAddr r.val 0x20) ∧ Module.requester a = r.val))
    ∧ (let s : State := mbxS 0x13 [0x3F]; let a : Access := core; let r : Fin 17 := 16; (s.admitsWrite a (Module.winAddr r.val 0x20) ∧ Module.requester a = r.val))
    ∧ (let s : State := mbxS 0x14 [0x7F]; let a : Access := core; let r : Fin 17 := 16; (s.admitsWrite a (Module.winAddr r.val 0x20) ∧ Module.requester a = r.val))
    ∧ (let s : State := mbxS 0x15 [0]; let a : Access := core; let r : Fin 17 := 16; (s.admitsWrite a (Module.winAddr r.val 0x20) ∧ Module.requester a = r.val))
    ∧ (let s : State := mbxS 0x15 [1]; let a : Access := core; let r : Fin 17 := 16; (s.admitsWrite a (Module.winAddr r.val 0x20) ∧ Module.requester a = r.val))
    ∧ (let s : State := mbxS 0x16 [0xFF]; let a : Access := core; let r : Fin 17 := 16; (s.admitsWrite a (Module.winAddr r.val 0x20) ∧ Module.requester a = r.val))
    ∧ (let s : State := mbxS 0x17 [0x10001000, 0, 4]; let a : Access := core; let r : Fin 17 := 16; (s.admitsWrite a (Module.winAddr r.val 0x20) ∧ Module.requester a = r.val))
    ∧ (let s : State := handleS 0 0x13; let a : Access := core; let r : Fin 17 := 16; (s.admitsWrite a (Module.winAddr r.val 0x20) ∧ Module.requester a = r.val))
    ∧ (let s : State := handleS 1 0x13; let a : Access := core; let r : Fin 17 := 16; (s.admitsWrite a (Module.winAddr r.val 0x20) ∧ Module.requester a = r.val))
    ∧ (let s : State := handleS 2 0x13; let a : Access := core; let r : Fin 17 := 16; (s.admitsWrite a (Module.winAddr r.val 0x20) ∧ Module.requester a = r.val))
    ∧ (let s : State := handleS 1 0x13; let a : Access := core; let r : Fin 17 := 16; (s.admitsWrite a (Module.winAddr r.val 0x20) ∧ Module.requester a = r.val))
    ∧ (let s : State := handleS 4 0x13; let a : Access := core; let r : Fin 17 := 16; (s.admitsWrite a (Module.winAddr r.val 0x20) ∧ Module.requester a = r.val))
    ∧ (let s : State := handleS 0 0x14; (s.m.works 0x13 = true))
    ∧ (let s : State := suspendS; (s.m.works 0x13 = true))
    ∧ (let s : State := endedS; (s.m.works 0x13 = true))
    ∧ (let s : State := cancelS; (s.m.works 0x13 = true))
    ∧ (let s : State := handleS 4 0x13; (s.m.works 0x13 = true))
    ∧ (let s : State := idleS; let a : Access := core; let r : Fin 17 := 16; (s.admitsRead a (Module.winAddr r.val 0x24) ∧ Module.requester a = r.val ∧ commitsAtOnce a))
    ∧ (let s : State := fifoS; let a : Access := specCore; let r : Fin 17 := 16; (s.admitsRead a (Module.winAddr r.val 0x24) ∧ Module.requester a = r.val ∧ a.spec = true))
    ∧ (let s : State := fifoS; let a : Access := core; let r : Fin 17 := 3; (s.admitsRead a (Module.winAddr r.val 0x24) ∧ Module.requester a ≠ r.val ∧ Module.pairOf a = none))
    ∧ (let s : State := fifoS; let a : Access := core; (s.genuine a 0)) := by
  refine ⟨?_, ?_, ?_, ?_, ?_, ?_, ?_, ?_, ?_, ?_, ?_, ?_, ?_, ?_, ?_, ?_, ?_, ?_, ?_, ?_, ?_, ?_, ?_, ?_, ?_, ?_, ?_, ?_, ?_, ?_, ?_, ?_, ?_, ?_, ?_, ?_, ?_, ?_, ?_, ?_, ?_, ?_, ?_, ?_, ?_, ?_, ?_, ?_⟩ <;> decide

/-- The hypotheses of LiveUpdate can be met: one state and operands for each clause. -/
theorem witness_LiveUpdate :
    (let s : State := stagingS; let a : Access := core; let v : Word := 0x4E430003; (s.admitsWrite a 0x21300108) ∧ (v.toNat / 2 ^ 16 = 0x4E43 ∧ s.m.flag F.NVC_CHUNK_STAT_PEND = false ∧ s.m.receiving19 = true) ∧ (v.toNat % 2 ^ 15 < s.m.chunkCount))
    ∧ (let s : State := chunkS; let i : Nat := 3; let addr : Nat := 0x10010000; let l : List Byte := List.replicate 4096 0; (s.m.works 0x15 = true) ∧ (s.m.nvc.chunk = some (i, addr) ∧ i < 2 ^ 15 ∧ (s.m.busRead s.m.nvcAccess addr 4096).2 = some l))
    ∧ (let s : State := checkS; let n : Nat := 0x22; (s.m.works 0x15 = true) ∧ (s.m.nvc.stg = 3 ∧ s.m.laneRuns 0 = some n))
    ∧ (let s : State := hoReadyS; let a : Access := { tenant with part := 2 }; let v : Word := 2; let c : Nat := 0; let p : Nat := 2; let n : Nat := 3; (s.admitsWrite a 0x21300214) ∧ (p = v.toNat % 2 ^ 4 ∧ a.world = false ∧ a.part = p ∧ (s.m.rd F.NVC_HO_REQ_PARTS).testBit p = true) ∧ (s.m.nvc.act = some ⟨c, .handover p n⟩ ∧ s.m.movable p = true ∧ (s.m.pair (s.m.rd F.LSS_PART_PAIR p)).wfi = false))
    ∧ (let s : State := hoReadyS; let c : Nat := 0; let p : Nat := 2; let n : Nat := 3; (s.m.works 0x15 = true) ∧ (s.m.nvc.act = some ⟨c, .handover p n⟩ ∧ s.m.nvc.phase = 1 ∧ p < 16) ∧ (s.m.nvc.hoUs + s.m.rd F.NVC_HO_CFG_HO_WAIT_MS * 1000 ≤ s.m.boot.us))
    ∧ (let s : State := probS; let c : Fin 32 := 4; let k : Nat := 1; (s.m.works 0x15 = true) ∧ (s.m.nvc.phase = 2 ∧ s.m.nvc.done = [⟨c.val, k⟩] ∧ k ≤ 1))
    ∧ (let s : State := probFailS; let c : Fin 32 := 4; let cause : Nat := 1; (s.m.works 0x15 = true) ∧ ((s.m.nvc.phase = 2 ∨ s.m.nvc.phase = 1) ∧ s.m.nvc.act = none ∧ s.m.nvc.done = [⟨c.val, 5⟩] ∧ s.m.probationCause c.val = some cause))
    ∧ (let s : State := stagingS; let a : Access := core; (s.admitsWrite a 0x21300108))
    ∧ (let s : State := chunkS; (s.m.works 0x15 = true))
    ∧ (let s : State := checkS; (s.m.works 0x15 = true))
    ∧ (let s : State := hoReadyS; let a : Access := { tenant with part := 2 }; let v : Word := 2; (s.admitsWrite a 0x21300214) ∧ (a.world = false ∧ a.part = v.toNat % 2 ^ 4 ∧ (s.m.rd F.NVC_HO_REQ_PARTS).testBit (v.toNat % 2 ^ 4) = true))
    ∧ (let s : State := hoReadyS; (s.m.works 0x15 = true))
    ∧ (let s : State := probS; (s.m.works 0x15 = true))
    ∧ (let s : State := probFailS; (s.m.works 0x15 = true)) := by
  refine ⟨?_, ?_, ?_, ?_, ?_, ?_, ?_, ?_, ?_, ?_, ?_, ?_, ?_, ?_⟩ <;> decide

/-- The hypotheses of HealthReports can be met: one state and operands for each clause. -/
theorem witness_HealthReports :
    (let s : State := reportS; (s.m.works 0x14 = true) ∧ (s.m.reportDue = true ∧ (s.m.rd F.HST_LR_SEQ_SEQ + 1) % 100 ≠ 0 ∧ s.m.pbr.sems = []) ∧ (Module.memOf s.m.reportAddr = some 0 ∧ s.m.fabricDeny (s.m.iattr 0x26) s.m.reportAddr 256 1 = none))
    ∧ (let s : State := reportBadS; (s.m.works 0x14 = true) ∧ (s.m.reportDue = true ∧ (s.m.fabricDeny (s.m.iattr 0x26) s.m.reportAddr 256 1).isSome = true))
    ∧ (let s : State := sealS; let a : Access := core; let v : Word := 200; (s.admitsWrite a 0x21200044) ∧ (a.world = true ∧ s.m.flag F.HST_SEAL_STAT_PEND = true ∧ v.toNat = s.m.rd F.HST_SEAL_REQ_FIRST_SEQ))
    ∧ (let s : State := sealOldS; (s.m.works 0x14 = true) ∧ (s.m.flag F.HST_SEAL_STAT_PEND = true ∧ s.m.hst.sealLate = false ∧ s.m.hst.sealUs + 1000000 ≤ s.m.boot.us))
    ∧ (let s : State := reportS; (s.m.works 0x14 = true))
    ∧ (let s : State := reportSealS; (s.m.works 0x14 = true ∧ s.m.reportDue = true ∧ (s.m.rd F.HST_LR_SEQ_SEQ + 1) % 100 = 0 ∧ s.m.rd F.WCT_STAT_SEC_STATE = 1) ∧ (Module.memOf s.m.reportAddr = some 0 ∧ s.m.fabricDeny (s.m.iattr 0x26) s.m.reportAddr 256 1 = none ∧ s.m.pbr.sems = []) ∧ (s.m.flag F.HST_SEAL_STAT_PEND = false))
    ∧ (let s : State := sealS; let a : Access := core; (s.admitsWrite a 0x21200044 ∧ a.world = true))
    ∧ (let s : State := sealS; (s.m.works 0x14 = true)) := by
  refine ⟨?_, ?_, ?_, ?_, ?_, ?_, ?_, ?_⟩ <;> decide

end Sys2Proof.Tests
end

section
/-!
SUPPORT. What every command answers: a next state with the same queue. From it, that no run of the block stops.
-/
namespace Sys2Proof.Machine

/-- The outcome `o` of a command in state `s` is a next state in which the same commands wait. -/
def State.Answers (s : State) (o : Host.Outcome State Fault Refusal) : Prop :=
  ∃ t, o = .next t ∧ t.pending = s.pending

/-! ### The ways in which a command is lifted to the state -/

theorem answers_run (s : State) (f : Module → Module) : s.Answers (s.run f) := ⟨_, rfl, rfl⟩

theorem answers_runBy (s : State) (a : Access) (kind : Nat) (f : Access → Module → Module) : s.Answers (s.runBy a kind f) :=
  answers_run s _

theorem answers_ite {s : State} {c : Prop} [Decidable c] {x y : Host.Outcome State Fault Refusal} (hx : s.Answers x)
    (hy : s.Answers y) : s.Answers (if c then x else y) := by
  split
  · exact hx
  · exact hy

/-! ### Register writes that are commands of their own -/

/-- The outcome `o` that a register write may have of its own, if there is one, answers. -/
def State.AnswersAny (s : State) (o : Option (Host.Outcome State Fault Refusal)) : Prop := ∀ r, o = some r → s.Answers r

theorem answersAny_none (s : State) : s.AnswersAny none := fun _ h => nomatch h

theorem answersAny_some {s : State} {r : Host.Outcome State Fault Refusal} (h : s.Answers r) : s.AnswersAny (some r) := by
  intro _ hr
  cases hr
  exact h

theorem answersAny_ite {s : State} {c : Prop} [Decidable c] {x y : Option (Host.Outcome State Fault Refusal)}
    (hx : s.AnswersAny x) (hy : s.AnswersAny y) : s.AnswersAny (if c then x else y) := by
  split
  · exact hx
  · exact hy

/-- Each entry of the tables of commands is a lift of a function on the module. -/
theorem answersAny_tables (a : Access) (addr v : Nat) (s : State) :
    s.AnswersAny (coreCommand a addr v s) ∧ s.AnswersAny (instCommand a addr v s) ∧ s.AnswersAny (netCommand a addr v s)
      ∧ s.AnswersAny (unitCommand a addr v s) := by
  unfold coreCommand instCommand netCommand unitCommand
  dsimp only
  refine ⟨?_, ?_, ?_, ?_⟩
  all_goals
    with_reducible repeat' first
      | exact answersAny_none s | apply answersAny_ite | apply answersAny_some | apply answers_ite
      | split
  all_goals exact ⟨_, rfl, rfl⟩

theorem answersAny_ownCommand (a : Access) (addr v : Nat) (s : State) : s.AnswersAny (ownCommand a addr v s) := by
  obtain ⟨hcore, hinst, hnet, hunit⟩ := answersAny_tables a addr v s
  unfold ownCommand
  split
  next r hr => exact hr ▸ hcore
  split
  next r hr => exact hr ▸ hinst
  split
  next r hr => exact hr ▸ hnet
  next => exact hunit

theorem answers_writeAs (s : State) (a : Access) (addr n v : Nat) (item : Option Nat) :
    s.Answers (s.writeAs a addr n v item) := by
  unfold State.writeAs
  dsimp only
  refine answers_ite (answers_run s _) (answers_ite (answers_runBy s _ _ _) ?_)
  split
  case h_1 => exact answers_run s _
  refine answers_ite (answers_run s _) ?_
  split
  case h_1 => exact answers_run s _
  split
  case h_1 r hr => exact answersAny_ownCommand a addr v s r hr
  split
  · exact answers_run s _
  · exact answers_run s _

theorem answers_regWrite (s : State) (a : Access) (addr n v : Nat) (item : Option Nat) :
    s.Answers (s.regWrite a addr n v item) := by
  unfold State.regWrite
  split
  · exact answers_writeAs s _ addr n v item
  · exact answers_run s _

/-! ### The end of a window -/

theorem pending_ite {s x y : State} {c : Prop} [Decidable c] (hx : x.pending = s.pending) (hy : y.pending = s.pending) :
    (if c then x else y).pending = s.pending := by
  split
  · exact hx
  · exact hy

/-- A store to a view drains as a write of the pair, and its error, if any, is recorded. -/
theorem drain_view_pending (s : State) (a : Access) (addr n v : Nat) (f : State → Module) :
    (match s.writeAs a addr n v none with
      | .next t => if t.m.resp.status = 0 then t else { t with m := f t }
      | _ => s).pending = s.pending := by
  obtain ⟨t, ht, hq⟩ := answers_writeAs s a addr n v none
  simp only [ht]
  exact pending_ite hq hq

theorem drain_pending (s : State) (n : Nat) (p : Option Nat) (x : HeldStore) : (s.drain n p x).pending = s.pending := by
  unfold State.drain
  split
  case h_1 => exact drain_view_pending s _ _ _ _ _
  case h_2 => exact drain_view_pending s _ _ _ _ _
  all_goals rfl

theorem foldl_drain_pending (l : List HeldStore) (s : State) (n : Nat) (p : Option Nat) :
    (l.foldl (fun s x => s.drain n p x) s).pending = s.pending := by
  induction l generalizing s with
  | nil => rfl
  | cons x l ih => exact (ih (s.drain n p x)).trans (drain_pending s n p x)

theorem windowCommit_pending (s : State) (n : Nat) (p : Option Nat) (mine next : List HeldStore) (w : WindowEnd) :
    (s.windowCommit n p mine next w).pending = s.pending :=
  pending_ite (foldl_drain_pending mine s n p) (foldl_drain_pending mine s n p)

theorem windowCompare_pending (s : State) (w : WindowEnd) : (s.windowCompare w).pending = s.pending :=
  pending_ite rfl (pending_ite (windowCommit_pending _ _ _ _ _ _) rfl)

/-! ### Requests that come over the pair bridge -/

theorem writeRegs_pending (a : Access) (x : BridgeMsg) (fuel : Nat) (s : State) (addr stop : Nat) :
    (writeRegs a x fuel s addr stop).1.pending = s.pending := by
  induction fuel generalizing s addr with
  | zero => rfl
  | succ fuel ih =>
    simp only [writeRegs]
    split
    · rfl
    · obtain ⟨t, ht, hq⟩ := answers_regWrite s a addr (Module.stepWidth addr stop)
        (ofBytes ((x.data.drop (addr - x.addr)).take (Module.stepWidth addr stop))) none
      simp only [ht]
      split
      · exact hq
      · exact (ih t _).trans hq

theorem inboundWrite_pending (s : State) (a : Access) (x : BridgeMsg) : (s.inboundWrite a x).pending = s.pending := by
  unfold State.inboundWrite
  refine pending_ite rfl (pending_ite rfl ?_)
  split
  · rfl
  · exact writeRegs_pending a x 64 s _ _

/-- A request changes the queue no more than its execution does. -/
theorem inbound_pending (s : State) (kind : Nat) (x : BridgeMsg) (run : State → Access → State)
    (hrun : ∀ t a, (run t a).pending = t.pending) : (s.inbound kind x run).pending = s.pending := by
  unfold State.inbound
  refine pending_ite rfl (pending_ite rfl (pending_ite rfl (pending_ite rfl ?_)))
  split
  · rfl
  · exact hrun _ _

/-! ### Every command -/

/-- Every command answers a next state, and leaves the queue: the arms are lifts of a function on the module, but for the register
write, which may be a command of its own, the end of a window and the bridge's requests, which write registers in turn. -/
theorem answers_exec (c : Instr) (s : State) : s.Answers (exec c s) := by
  cases c with
  | registerWrite a addr n v item => exact answers_regWrite s a addr n (v % 2 ^ (8 * n)) item
  | windowCompare w => exact ⟨_, rfl, windowCompare_pending s w⟩
  | bridgeRead x => exact ⟨_, rfl, inbound_pending s 0x11 x _ (fun _ _ => rfl)⟩
  | bridgeWrite x => exact ⟨_, rfl, inbound_pending s 0x13 x _ (fun t a => inboundWrite_pending t a x)⟩
  | bridgeAtomic x => exact ⟨_, rfl, inbound_pending s 0x15 x _ (fun _ _ => rfl)⟩
  | _ => exact ⟨_, rfl, rfl⟩

theorem tick_pending (s : State) : s.tick.pending = s.pending := by
  unfold State.tick
  split
  · rfl
  · rfl

/-- A step answers a next state, whatever stands in the queue. -/
theorem step_next (s : State) : ∃ t, step s = .next t := by
  unfold step
  split
  · exact ⟨s.tick, rfl⟩
  next c rest _ =>
    obtain ⟨t, ht, -⟩ := answers_exec c { s with pending := rest }
    exact ⟨t, ht⟩

/-- A run of one step more is the run from the state that its first step answers. -/
theorem run_succ_of_step {s t : State} (n : Nat) (h : step s = .next t) :
    Host.Core.run Sys2Proof.core (n + 1) s = Host.Core.run Sys2Proof.core n t := by
  have hc : Sys2Proof.core.step s = .next t := h
  simp only [Host.Core.run, hc]

/-- Settles O1: `step` looks at the queue's front, and a tick writes the OTP and the module alone. -/
theorem stepRunsTheFrontCommand : Obligations.StepRunsTheFrontCommand := by
  unfold Obligations.StepRunsTheFrontCommand
  refine ⟨fun c rest s => rfl, fun s hs => ⟨?_, (tick_pending s).trans hs⟩⟩
  simp only [step, hs]

/-- Settles O2. -/
theorem everyCommandAnswersAndKeepsTheQueue : Obligations.EveryCommandAnswersAndKeepsTheQueue := by
  unfold Obligations.EveryCommandAnswersAndKeepsTheQueue
  exact answers_exec

/-- Settles O3, by induction on the number of steps: each one answers a next state, from which the rest of them runs. -/
theorem blockNeverStops : Obligations.BlockNeverStops := by
  unfold Obligations.BlockNeverStops State.runsOn
  intro s n
  induction n generalizing s with
  | zero => exact ⟨s, rfl⟩
  | succ n ih =>
    obtain ⟨t, ht⟩ := step_next s
    rw [run_succ_of_step n ht]
    exact ih t

end Sys2Proof.Machine
end

section
/-!
SUPPORT. The registers: which fields stand at an address, what a plain write and a read that takes a count do. From them, the
access codes of R11, the counts of R377, and the values after reset.
-/
namespace Sys2Proof.Machine

/-! ### Fields -/

/-- The last address of a register of the family, counted from its first. -/
def Fam.span (f : Fam) : Nat := f.d1.1 * (f.d1.2 - 1) + f.d2.1 * (f.d2.2 - 1) + f.d3.1 * (f.d3.2 - 1)

/-- An offset within a stride is that of its element and what remains. -/
theorem Fam.split_le {d : Nat × Nat} {r i r' : Nat} (h : Fam.split d r = some (i, r')) : r ≤ d.1 * (d.2 - 1) + r' := by
  unfold Fam.split at h
  split_ifs at h with h0 h1
  · cases h; omega
  · cases h
    have hi : r / d.1 ≤ d.2 - 1 := by omega
    have hm : d.1 * (r / d.1) ≤ d.1 * (d.2 - 1) := Nat.mul_le_mul_left _ hi
    have := Nat.div_add_mod r d.1
    omega

/-- The registers of a family lie within its span. -/
theorem Fam.index?_bounds {f : Fam} {a : Nat} {x : Nat × Nat × Nat} (h : f.index? a = some x) :
    f.base ≤ a ∧ a ≤ f.base + f.span := by
  unfold Fam.index? at h
  split at h
  case isTrue => cases h
  case isFalse hbase =>
  split at h
  case h_1 => cases h
  case h_2 i r1 h1 =>
  split at h
  case h_1 => cases h
  case h_2 j r2 h2 =>
  split at h
  case h_1 => cases h
  case h_2 k r3 h3 =>
  split at h
  case isFalse => cases h
  case isTrue hr3 =>
  have := Fam.split_le h1
  have := Fam.split_le h2
  have := Fam.split_le h3
  unfold Fam.span
  omega

/-- A family has no register outside its span. -/
theorem Fam.index?_eq_none {f : Fam} {a : Nat} (h : a < f.base ∨ f.base + f.span < a) : f.index? a = none := by
  rw [Option.eq_none_iff_forall_ne_some]
  intro x hx
  have := Fam.index?_bounds hx
  omega

/-- The register of element `n` of a family that repeats once. -/
theorem Fam.index?_element {f : Fam} {n : Nat} (h0 : 0 < f.d1.1) (hn : n < f.d1.2) (h2 : f.d2.1 = 0) (h3 : f.d3.1 = 0) :
    f.index? (f.base + n * f.d1.1) = some (n, 0, 0) := by
  simp [Fam.index?, Fam.split, h2, h3, hn, h0.ne', Nat.mul_div_cancel _ h0]

/-- A field that shares no address with another field is alone in its register. -/
theorem fieldsAt_alone {P : Fam} {a lo hi : Nat} {x : Nat × Nat × Nat} (hP : F.all.filter (fun f => f = P) = [P])
    (hall : ∀ f ∈ F.all, f = P ∨ f.base + f.span < lo ∨ hi ≤ f.base) (hlo : lo ≤ a) (hhi : a < hi)
    (hx : P.index? a = some x) (hh : Module.fieldHere P x.1 = true) : Module.fieldsAt a = [(P, x)] := by
  have hone : F.all.filterMap (fun f => (f.index? a).map (fun x => (f, x)))
      = (F.all.filter (fun f => f = P)).filterMap (fun f => (f.index? a).map (fun x => (f, x))) := by
    rw [List.filterMap_filter]
    refine List.filterMap_congr fun f hf => ?_
    by_cases hfP : f = P
    · simp [hfP]
    · have hnone : f.index? a = none := Fam.index?_eq_none (by
        rcases hall f hf with h | h | h
        · exact absurd h hfP
        · exact .inr (by omega)
        · exact .inl (by omega))
      simp [hfP, hnone]
  simp [Module.fieldsAt, hone, hP, hx, hh]

section
set_option maxRecDepth 100000

theorem fieldsAt_id : Module.fieldsAt 0x20000000
    = [(F.SYSCTL_ID_DEVICE, 0, 0, 0), (F.SYSCTL_ID_SILREV, 0, 0, 0), (F.SYSCTL_ID_UNIT, 0, 0, 0), (F.SYSCTL_ID_GRADE, 0, 0, 0)] := by
  rfl

theorem fieldsAt_pllEvt : Module.fieldsAt 0x20000014 = [(F.SYSCTL_PLL_EVT_SER_LOL, 0, 0, 0)] := by rfl

theorem fieldsAt_stgPart : Module.fieldsAt 0x20100214 = [(F.FAB_STG_PART_MASK, 0, 0, 0)] := by rfl

theorem fieldsAt_learnFull : Module.fieldsAt 0x2040001C = [(F.SWC_LEARN_FULL_COUNT, 0, 0, 0)] := by rfl

theorem only_uinPulse : F.all.filter (fun f => f = F.UIN_PULSE_COUNT) = [F.UIN_PULSE_COUNT] := by rfl

theorem uinPulse_apart :
    ∀ f ∈ F.all, f = F.UIN_PULSE_COUNT ∨ f.base + f.span < 0x20300600 ∨ 0x20300700 ≤ f.base := by decide

theorem uinPulse_index {n : Nat} (hn : n < 64) : F.UIN_PULSE_COUNT.index? (0x20300600 + 4 * n) = some (n, 0, 0) := by
  rw [Nat.mul_comm]
  exact Fam.index?_element (f := F.UIN_PULSE_COUNT) (by decide) hn rfl rfl

theorem fieldsAt_uinPulse {n : Nat} (hn : n < 64) :
    Module.fieldsAt (0x20300600 + 4 * n) = [(F.UIN_PULSE_COUNT, n, 0, 0)] :=
  fieldsAt_alone only_uinPulse uinPulse_apart (by omega) (by omega) (uinPulse_index hn) rfl

end

namespace Module

/-- An access of four bytes fits a register whose fields lie in its low 32 bits. -/
theorem misfit_word {addr b : Nat} {x : Fam × Nat × Nat × Nat} {l : List (Fam × Nat × Nat × Nat)}
    (hb : blockOf addr = some b) (hl : fieldsAt addr = x :: l) (hw : (x :: l).any (fun x => decide (32 ≤ x.1.hi)) = false) :
    misfit addr 4 = none := by
  simp only [misfit, hb, regWidth, hl, hw]
  rfl

/-! ### Plain writes -/

/-- A field takes as many bits as it has. -/
theorem wr_mod (m : Module) (f : Fam) (v i j k : Nat) : m.wr f (v % 2 ^ f.width) i j k = m.wr f v i j k := by
  simp [wr]

/-- Nothing but the written field differs, as far as a response does not count. -/
theorem onlyRegs_wr (m : Module) (f : Fam) (v i j k d : Nat) : onlyRegs [f.key i j k] m ((m.wr f v i j k).ok d) := by
  refine ⟨rfl, fun g i2 j2 k2 hg => ?_⟩
  rw [rd_ok]
  exact rd_wr_other m f g v i j k i2 j2 k2 (by simpa using hg)

theorem without_zero (x : Nat) : without x 0 = x := by simp [without]

/-- Without its `w` low bits a number is a multiple of 2 ^ w. -/
theorem without_low (x w : Nat) : without x (2 ^ w - 1) = x / 2 ^ w * 2 ^ w := by
  have := Nat.div_add_mod' x (2 ^ w)
  rw [without, Nat.and_two_pow_sub_one_eq_mod]
  omega

theorem without_low_of_lt {x w : Nat} (h : x < 2 ^ w) : without x (2 ^ w - 1) = 0 := by
  rw [without_low, Nat.div_eq_of_lt h, Nat.zero_mul]

/-- R11: a RW register of one field in its low bits takes the bits written. -/
theorem plainWrite_stgPart (m : Module) (v : Nat) :
    m.plainWrite 0x20100214 allBits v = m.wr F.FAB_STG_PART_MASK v := by
  have hold : without (m.rd F.FAB_STG_PART_MASK) (2 ^ 16 - 1) = 0 := without_low_of_lt (rd_lt m F.FAB_STG_PART_MASK 0 0 0)
  have hnew : bits v 15 0 &&& (2 ^ 16 - 1) = v % 2 ^ F.FAB_STG_PART_MASK.width := by
    rw [Nat.and_two_pow_sub_one_eq_mod, bits, Nat.pow_zero, Nat.div_one]
    exact Nat.mod_mod _ _
  rw [← wr_mod, ← hnew]
  simp only [plainWrite, fieldsAt_stgPart, List.foldl_cons, List.foldl_nil]
  show m.wr _ (without (m.rd F.FAB_STG_PART_MASK) (2 ^ 16 - 1) ||| bits v 15 0 &&& (2 ^ 16 - 1)) = _
  rw [hold, Nat.zero_or]

/-- R11: the W1C bit of SYSCTL_PLL_EVT is cleared by a 1 and kept by a 0. -/
theorem plainWrite_pllEvt (m : Module) (v : Nat) :
    m.plainWrite 0x20000014 allBits v
      = m.wr F.SYSCTL_PLL_EVT_SER_LOL (if v.testBit 1 then 0 else m.rd F.SYSCTL_PLL_EVT_SER_LOL) := by
  have hone : bits v 1 1 &&& bits allBits 1 1 = if v.testBit 1 then 1 else 0 := by
    rw [show bits allBits 1 1 = 2 ^ 1 - 1 from rfl, Nat.and_two_pow_sub_one_eq_mod, Nat.testBit_eq_decide_div_mod_eq, bits]
    simp only [decide_eq_true_eq]
    split <;> omega
  simp only [plainWrite, fieldsAt_pllEvt, List.foldl_cons, List.foldl_nil]
  show m.wr _ (without (m.rd F.SYSCTL_PLL_EVT_SER_LOL) (bits v 1 1 &&& bits allBits 1 1)) = _
  rw [hone]
  split
  · rw [show without (m.rd F.SYSCTL_PLL_EVT_SER_LOL) 1 = 0 from without_low_of_lt (w := 1) (rd_lt m _ 0 0 0)]
  · rw [without_zero]

/-- R11: a RO register stores nothing. -/
theorem plainWrite_id (m : Module) (v : Nat) : m.plainWrite 0x20000000 allBits v = m := by
  simp only [plainWrite, fieldsAt_id, List.foldl_cons, List.foldl_nil]
  rfl

/-! ### Reads that take a count -/

/-- A read that is no pair's takes nothing from a commit buffer. -/
theorem forwarded_of_unpaired {a : Access} (m old : Module) (addr : Nat) (hp : pairOf a = none) :
    m.forwarded old a addr = m := by
  simp [forwarded, forwards, hp]

/-- An access that is no pair's raises no fault in one. -/
theorem pairFault_of_unpaired {a : Access} (m : Module) (kind : Nat) (hp : pairOf a = none) : m.pairFault a kind = m := by
  simp [pairFault, hp]

/-- An admitted read that commits as it completes answers its value, and has its effect. -/
theorem reRead_admitted {m : Module} {a : Access} {addr : Nat} (v : Nat) (what : Option ReEffect) (eff : Module → Module)
    (hc : commitsAtOnce a) (hd : m.accessDeny a addr 4 0 = none) : m.reRead a addr v what eff = (eff m.ok).ok v := by
  obtain ⟨hs, hp⟩ := hc
  rcases reRead_committed addr v what eff hs hp with ⟨d, h, -⟩ | ⟨-, h⟩
  · rw [hd] at h; cases h
  · exact h

/-- R377: an admitted read of the count `f`, in the low bits of its register, that commits as it completes answers the count as
it was served, below the other bits of the register, and takes it. -/
theorem countRead_committed {m : Module} {a : Access} {addr i j k : Nat} {f : Fam} (served : Option Nat)
    (hc : commitsAtOnce a) (hd : m.accessDeny a addr 4 0 = none) (hw : isWindow addr = false)
    (hb : ¬ (blockOf addr = some 0 ∨ (memOf addr).isSome)) (hf : misfit addr 4 = none) (hx : mbxWindow addr = none)
    (hat : countAt addr = some (f, i, j, k)) (hlo : f.lo = 0) :
    m.countRead a addr served
      = (m.countClear f (served.getD (m.rd f i j k) % 2 ^ f.width) i j k).ok
        (m.view addr / 2 ^ f.width * 2 ^ f.width + served.getD (m.rd f i j k) % 2 ^ f.width) := by
  have hr : m.regReadDeny a addr 4 = none := by simp [regReadDeny, hd, hf, hx]
  simp only [countRead, hw, hb, hr, countPlan, hat, rePlanned, Bool.false_eq_true, if_false, hlo, Nat.pow_zero, Nat.mul_one,
    without_low]
  exact reRead_admitted _ _ _ hc hd

theorem countAt_uinPulse {n : Nat} (hn : n < 64) :
    countAt (0x20300600 + 4 * n) = some (F.UIN_PULSE_COUNT, n, 0, 0) := by
  have hout : ∀ f : Fam, f.base + f.span < 0x20300600 ∨ 0x20300700 ≤ f.base → f.index? (0x20300600 + 4 * n) = none :=
    fun f h => Fam.index?_eq_none (by omega)
  rw [countAt, hout _ (by decide), hout _ (by decide), hout _ (by decide), hout _ (by decide), fieldsAt_uinPulse hn]
  have : (0x20300600 + 4 * n == 0x21200408) = false := by simp; omega
  simp [this]
  rfl

theorem countAt_learnFull : countAt 0x2040001C = some (F.SWC_LEARN_FULL_COUNT, 0, 0, 0) := by
  rw [countAt, fieldsAt_learnFull]
  rfl

/-- SWC_LEARN_FULL shows its count alone. -/
theorem view_learnFull (m : Module) : m.view 0x2040001C = m.rd F.SWC_LEARN_FULL_COUNT := by
  have hp : m.plainRead 0x2040001C = m.rd F.SWC_LEARN_FULL_COUNT := by
    simp only [plainRead, fieldsAt_learnFull, List.foldl_cons, List.foldl_nil]
    simp [F.SWC_LEARN_FULL_COUNT, fam]
  have hv : m.viewFields 0x2040001C = [] := rfl
  rw [view, hv, List.foldl_nil, hp]

/-- A count that takes its present value becomes 0. -/
theorem countClear_self (m : Module) (f : Fam) (i j k : Nat) : m.countClear f (m.rd f i j k) i j k = m.wr f 0 i j k := by
  have hlt := rd_lt m f i j k
  rw [countClear, rd_mod, show m.rd f i j k + 2 ^ f.width - m.rd f i j k = 2 ^ f.width by omega, ← wr_mod, Nat.mod_self]

end Module

/-! ### The commands -/

/-- REGISTER_WRITE past its checks stores by the access codes and the rules of its register. -/
theorem exec_registerWrite_plain {s : State} {a : Access} {addr n v : Nat} {item : Option Nat} (hv : v < 2 ^ (8 * n))
    (hw : Module.isWindow addr = false) (hb : Module.blockOf addr ≠ some 0) (hm : Module.memOf addr = none)
    (hg : s.genuine a 1) (hd : s.m.accessDeny a addr n 1 = none) (hf : Module.misfit addr n = none)
    (hwr : Module.writerDeny a addr = none) (hown : ownCommand a addr v s = none)
    (hitem : item = none ∨ s.m.itemBarred addr v = false) :
    exec (.registerWrite a addr n v item) s
      = s.to (if item.isSome then (s.m.ok.registerSet a addr v).itemKeep addr else s.m.ok.registerSet a addr v) := by
  have hbar : (item.isSome && s.m.itemBarred addr v) = false := by
    rcases hitem with h | h <;> simp [h]
  show s.regWrite a addr n (v % 2 ^ (8 * n)) item = _
  rw [Nat.mod_eq_of_lt hv, State.regWrite, show s.m.issued a 1 = some a from hg]
  simp only [State.writeAs, hbar, hw, hd, hb, hm, hf, hown, hwr, Bool.false_eq_true, if_false, Option.isSome_none, or_self]
  rfl

/-- An admitted write of four bytes of a register with no rule of its own. -/
theorem exec_registerWrite_word {s : State} {a : Access} {addr v b : Nat} {x : Fam × Nat × Nat × Nat}
    {l : List (Fam × Nat × Nat × Nat)} (hv : v < 2 ^ 32) (hadm : s.admitsWrite a addr) (hw : Module.isWindow addr = false)
    (hb : Module.blockOf addr = some (b + 1)) (hm : Module.memOf addr = none) (hl : Module.fieldsAt addr = x :: l)
    (hhi : (x :: l).any (fun x => decide (32 ≤ x.1.hi)) = false) (hwr : Module.writerDeny a addr = none)
    (hown : ownCommand a addr v s = none)
    (hset : s.m.ok.registerSet a addr v = s.m.ok.plainWrite addr Module.allBits v) :
    exec (.registerWrite a addr 4 v none) s = s.to (s.m.ok.plainWrite addr Module.allBits v) := by
  rw [← hset]
  exact exec_registerWrite_plain hv hw (by simp [hb]) hm hadm.1 hadm.2 (Module.misfit_word hb hl hhi) hwr hown (.inl rfl)

/-- Settles O8: the three registers have no rule of their own, so that their access codes decide. -/
theorem registerWriteFollowsAccessCode : Obligations.RegisterWriteFollowsAccessCode := by
  unfold Obligations.RegisterWriteFollowsAccessCode
  refine ⟨fun s a v hv hworld hadm => ?_, fun s a v hv hadm => ⟨s.m.ok.plainWrite 0x20000014 Module.allBits v, ?_, ?_⟩,
    fun s a v hv hadm => ?_, ?_⟩
  · have hwr : Module.writerDeny a 0x20100214 = none := by simp [Module.writerDeny, Module.mbxWindow, hworld]
    rw [exec_registerWrite_word (b := 2) hv hadm rfl rfl rfl fieldsAt_stgPart rfl hwr rfl rfl, Module.plainWrite_stgPart]
  · exact exec_registerWrite_word (b := 1) hv hadm rfl rfl rfl fieldsAt_pllEvt rfl rfl rfl rfl
  · rw [Module.plainWrite_pllEvt]
    refine ⟨rfl, ?_, Module.onlyRegs_wr s.m _ _ 0 0 0 0⟩
    rw [Module.rd_wr_same]
    split
    · rfl
    · rfl
  · rw [exec_registerWrite_word (b := 1) hv hadm rfl rfl rfl fieldsAt_id rfl rfl rfl rfl, Module.plainWrite_id]
  · rintro s a addr n v item ⟨hv, hw, hb, hm⟩ ⟨hg, hd, hf, hwr⟩ ⟨hown, hitem⟩
    exact exec_registerWrite_plain hv hw hb hm hg hd hf hwr (Option.isNone_iff_eq_none.1 hown) hitem

/-- COUNT_CLEAR_READ with the attributes that its initiator issues it with. -/
theorem exec_countClearRead {s : State} {a : Access} (addr : Nat) (served : Option Nat) (hg : s.genuine a 0) :
    exec (.countClearRead a addr served) s
      = s.to (((s.m.countRead a addr served).forwarded s.m a addr).pairFault a 0) :=
  State.runBy_issued (fun a m => (m.countRead a addr served).forwarded m a addr) hg

/-- The same where it is no pair's: it is the read. -/
theorem exec_countClearRead_unpaired {s : State} {a : Access} (addr : Nat) (served : Option Nat) (hg : s.genuine a 0)
    (hp : Module.pairOf a = none) : exec (.countClearRead a addr served) s = s.to (s.m.countRead a addr served) := by
  rw [exec_countClearRead addr served hg, Module.forwarded_of_unpaired _ _ _ hp, Module.pairFault_of_unpaired _ _ hp]

theorem exec_hstVauxMvRead {s : State} {a : Access} (hg : s.genuine a 0) :
    exec (.hstVauxMvRead a) s = s.to ((s.m.vauxRead a).pairFault a 0) :=
  State.runBy_issued (fun a m => m.vauxRead a) hg

/-- A read of UIN_PULSE that commits as it completes. -/
theorem countRead_uinPulse {m : Module} {a : Access} {n : Nat} (served : Nat) (hn : n < 64) (hc : commitsAtOnce a)
    (hd : m.accessDeny a (0x20300600 + 4 * n) 4 0 = none) :
    m.countRead a (0x20300600 + 4 * n) (some served)
      = (m.wr F.UIN_PULSE_COUNT (m.rd F.UIN_PULSE_COUNT n + 2 ^ 32 - served % 2 ^ 32) n).ok
        (m.view (0x20300600 + 4 * n) / 2 ^ 32 * 2 ^ 32 + served % 2 ^ 32) := by
  have hblock : Module.blockOf (0x20300600 + 4 * n) = some 5 := by
    rw [Module.blockOf, if_neg (by omega), if_neg (by omega), if_pos (by omega)]
    exact congrArg some (by omega)
  have hmem : Module.memOf (0x20300600 + 4 * n) = none := by
    rw [Module.memOf, if_neg (by omega), if_neg (by omega)]
  have hwin : Module.isWindow (0x20300600 + 4 * n) = false := by simp [Module.isWindow]; omega
  have hmbx : Module.mbxWindow (0x20300600 + 4 * n) = none := by rw [Module.mbxWindow, if_neg (by omega)]
  rw [Module.countRead_committed (some served) hc hd hwin (by simp [hblock, hmem])
    (Module.misfit_word hblock (fieldsAt_uinPulse hn) rfl) hmbx (Module.countAt_uinPulse hn) rfl, Option.getD_some,
    Module.countClear, Nat.mod_mod]
  rfl

/-- A read of SWC_LEARN_FULL that commits as it completes, with no count since it was served. -/
theorem countRead_learnFull {m : Module} {a : Access} (hc : commitsAtOnce a) (hd : m.accessDeny a 0x2040001C 4 0 = none) :
    m.countRead a 0x2040001C none = (m.wr F.SWC_LEARN_FULL_COUNT 0).ok (m.rd F.SWC_LEARN_FULL_COUNT) := by
  rw [Module.countRead_committed none hc hd rfl (by decide) (Module.misfit_word (b := 6) rfl fieldsAt_learnFull rfl) rfl
    Module.countAt_learnFull rfl, Option.getD_none, Module.rd_mod, Module.countClear_self, Module.view_learnFull,
    Nat.div_eq_of_lt (Module.rd_lt m F.SWC_LEARN_FULL_COUNT 0 0 0), Nat.zero_mul, Nat.zero_add]

/-- Settles O9: a committed read takes what it answers. -/
theorem countReadTakesTheCount : Obligations.CountReadTakesTheCount := by
  unfold Obligations.CountReadTakesTheCount
  refine ⟨fun s a n served hn hc hadm => ⟨_, exec_countClearRead_unpaired _ _ hadm.1 hc.2, ?_⟩, fun s a hc hadm => ?_,
    fun s a hc hadm => ?_, fun s a addr served hg => exec_countClearRead addr served hg, fun s a hg => exec_hstVauxMvRead hg⟩
  · rw [countRead_uinPulse served hn hc hadm.2]
    refine ⟨rfl, ?_, ?_, Module.onlyRegs_wr s.m _ _ n 0 0 _⟩
    · simp
    · rw [Module.rd_ok, Module.rd_wr_same]
      rfl
  · rw [exec_countClearRead_unpaired _ _ hadm.1 hc.2, countRead_learnFull hc hadm.2]
  · rw [exec_hstVauxMvRead hadm.1, Module.pairFault_of_unpaired _ _ hc.2]
    exact congrArg s.to (Module.reRead_admitted _ _ _ hc hadm.2)

/-! ### The state after reset -/

theorem Otp.grows_refl (x : Otp) : Otp.grows x x :=
  ⟨fun _ h => h, fun _ h => h, fun _ h => h, fun _ h => h, Nat.le_refl _, rfl, rfl,
    fun _ => ⟨fun h => ⟨h, rfl⟩, fun h => h, fun h => h⟩⟩

set_option maxRecDepth 100000 in
theorem reset_fits : ∀ f ∈ F.all, f.reset < 2 ^ f.width := by decide

/-- Settles O5: no register is listed after reset, so that each field reads its reset value, which fits its width. -/
theorem resetState : Obligations.ResetState := by
  unfold Obligations.ResetState
  refine ⟨rfl, Otp.grows_refl {}, MemSt.wf_empty, ⟨rfl, rfl, rfl, rfl⟩, fun a => rfl, fun f hf i j k => ?_⟩
  exact Nat.mod_eq_of_lt (reset_fits f hf)

end Sys2Proof.Machine
end

section
/-!
SUPPORT. Guarded memory: what the guard finds where nothing fails, and what a record of the error log may overwrite.
-/
namespace Sys2Proof.Machine

/-! ### Memory in which nothing fails -/

namespace MemSt

theorem transientAt_nil (w : Nat) : transientAt [] w = none := rfl

/-- A check of a word of clean memory finds nothing and changes nothing. -/
theorem checkWord_clean {s : MemSt} (h : s.clean) (w : Nat) : s.checkWord w none = (s, {}) := by
  obtain ⟨hperr, -, -, hpoison⟩ := h
  simp [checkWord, poisoned, hperr, hpoison]

theorem checkWords_clean {s : MemSt} (h : s.clean) (ws : List Nat) : s.checkWords [] ws = (s, ws.map (fun _ => {})) := by
  induction ws with
  | nil => rfl
  | cons w ws ih => simp [checkWords, transientAt_nil, checkWord_clean h, ih]

/-- A line of clean memory has no error to clear. -/
theorem clearLine_clean {s : MemSt} (h : s.clean) (l : Nat) : s.clearLine l = s := by
  obtain ⟨hperr, hsperr, hseam, hpoison⟩ := h
  obtain ⟨cells, perr, sperr, seam, poison, l2⟩ := s
  cases hperr
  cases hsperr
  cases hseam
  cases hpoison
  simp [clearLine, tset, tdel]

theorem clearLines_clean {s : MemSt} (h : s.clean) (ls : List Nat) : ls.foldl clearLine s = s := by
  induction ls with
  | nil => rfl
  | cons l ls ih => rw [List.foldl_cons, clearLine_clean h, ih]

/-- A write of clean memory stores its bytes, and its checks find nothing. -/
theorem guardedPut_clean {s : MemSt} (h : s.clean) (a : Nat) (l : List Byte) :
    ∃ ws : List Nat, s.guardedPut [] a l = (s.putBytes a l, ws.map (fun _ => {})) := by
  refine ⟨(touched a l.length).filter (fun w => ! (wholeLines a l.length).contains (line w)), ?_⟩
  simp only [guardedPut, checkWords_clean h, clearLines_clean h]
  rw [if_neg (by simp)]

end MemSt

namespace Module

/-- Checks that find nothing are neither counted nor logged. -/
theorem logChecks_quiet (m : Module) (k : Nat) (r : Rec) (base : Nat) (ws : List Nat) :
    m.logChecks k r base (ws.map (fun _ => {})) = m := by
  unfold logChecks checksBy
  induction ws with
  | nil => rfl
  | cons w ws ih => exact ih

theorem quiet_none_failed (ws : List Nat) : (ws.map (fun _ => ({} : MemSt.Check))).any (·.failed) = false := by simp

/-- No upset strikes. -/
theorem strikes_nil (m : Module) (k : Nat) : m.strikes k [] = m := rfl

theorem guardBase_of_le {k : Nat} (hk : k ≤ 1) : guardBase k = 0 := by
  rw [guardBase, if_neg (by omega), if_neg (by omega)]

theorem guardHit_of_memOf {k addr : Nat} (hk : k ≤ 1) (h : memOf addr = some k) : guardHit k addr = true := by
  obtain rfl | rfl : k = 0 ∨ k = 1 := by omega
  · simp [guardHit, h]
  · simp [guardHit, h]

theorem guardDeny_of_admitted {m : Module} {a : Access} {k addr n kind : Nat} (hk : k ≤ 1)
    (hp : m.pairBars a addr n kind = none) (hf : m.fabricDeny a addr n kind = none) : m.guardDeny a k addr n kind = none := by
  rw [guardDeny, if_neg (by omega), hp]
  exact hf

/-- R368: an admitted read of clean SRAM or DRAM that takes no byte from a commit buffer answers the bytes there. -/
theorem guardedReadAt_clean {m : Module} {a : Access} {k addr n kind : Nat} (hk : k ≤ 1) (hclean : m.mem.clean) (hn : 1 ≤ n)
    (hmem : memOf addr = some k) (hp : m.pairBars a addr n kind = none) (hf : m.fabricDeny a addr n kind = none)
    (hfw : (m.forwards a k addr n kind).1 = []) :
    m.guardedReadAt a k addr n kind [] = m.ok (ofBytes (m.mem.bytes addr n)) := by
  have hk2 : k ≠ 2 := by omega
  have hk3 : ¬ 3 ≤ k := by omega
  have hn0 : n ≠ 0 := by omega
  simp only [guardedReadAt, strikes_nil, guardDeny_of_admitted hk hp hf, guardHit_of_memOf hk hmem, hk2, hk3, hn0, if_false,
    List.map_nil, MemSt.checkWords_clean hclean, logChecks_quiet, quiet_none_failed, guardBase_of_le hk, hfw]
  simp [heldByte, MemSt.bytes]

/-- R367: an admitted write of clean SRAM or DRAM stores its bytes, and takes the semaphores of its granules. -/
theorem guardedWriteAt_clean {m : Module} {a : Access} {k addr : Nat} {data : List Byte} (hk : k ≤ 1) (hclean : m.mem.clean)
    (hn : 1 ≤ data.length) (hmem : memOf addr = some k) (hp : m.pairBars a addr data.length 1 = none)
    (hf : m.fabricDeny a addr data.length 1 = none) :
    m.guardedWriteAt a k addr data []
      = { (m.semWrite addr data.length).ok with mem := m.mem.putBytes addr data } := by
  have hk2 : k ≠ 2 := by omega
  have hk3 : ¬ 3 ≤ k := by omega
  have hn0 : data.length ≠ 0 := by omega
  obtain ⟨l, v, hsem⟩ := semWrite_frame m addr data.length
  obtain ⟨ws, hput⟩ := MemSt.guardedPut_clean hclean addr data
  simp only [guardedWriteAt, strikes_nil, guardDeny_of_admitted hk hp hf, guardHit_of_memOf hk hmem, hk, hk2, hk3, hn0,
    if_true, if_false, List.map_nil, guardBase_of_le hk, Nat.zero_add, hsem, hput, logChecks_quiet, quiet_none_failed]
  simp [ok]

end Module

theorem exec_guardedRead {s : State} {a : Access} {kind : ReadKind} (mem : Fin 7) (addr n : Nat) (ups : List Upset)
    (hg : s.genuine a (readCode kind)) :
    exec (.guardedRead a kind mem addr n ups) s
      = s.to ((s.m.guardedReadAt a mem.val addr n (readCode kind) ups).pairFault a (readCode kind)) :=
  State.runBy_issued (fun a m => m.guardedReadAt a mem.val addr n (readCode kind) ups) hg

theorem exec_guardedWrite {s : State} {a : Access} (mem : Fin 7) (addr : Nat) (data : List Byte) (ups : List Upset)
    (hg : s.genuine a 1) :
    exec (.guardedWrite a mem addr data ups) s = s.to (s.m.guardedWriteAt a mem.val addr data ups) :=
  State.runBy_issued (fun a m => m.guardedWriteAt a mem.val addr data ups) hg

/-- An access that succeeds raises no fault in its pair. -/
theorem Module.pairFault_ok (m : Module) (d : Nat) (a : Access) (kind : Nat) : (m.ok d).pairFault a kind = m.ok d := by
  unfold Module.pairFault
  split
  · rfl
  · split
    · rfl
    · exact if_pos rfl

/-- Settles O10: the checks of clean memory find nothing, so that the guard adds nothing to the read and the write. -/
theorem guardedAccessOfCleanMemory : Obligations.GuardedAccessOfCleanMemory := by
  unfold Obligations.GuardedAccessOfCleanMemory
  refine ⟨?_, ?_, fun s a mem addr data ups hg => exec_guardedWrite mem addr data ups hg,
    fun s a kind mem addr n ups hg => exec_guardedRead mem addr n ups hg⟩
  · rintro s a kind mem addr n hclean hn ⟨hk, hmem, -⟩ ⟨hg, hp, hf⟩ hfw
    rw [exec_guardedRead mem addr n [] hg, Module.guardedReadAt_clean hk hclean hn hmem hp hf hfw, Module.pairFault_ok]
  · rintro s a mem addr data hclean hn ⟨hk, hmem, -⟩ ⟨hg, hp, hf⟩
    refine ⟨_, exec_guardedWrite mem addr data [] hg, Module.guardedWriteAt_clean hk hclean hn hmem hp hf, ?_, ?_⟩
    · intro i hi
      rw [Module.guardedWriteAt_clean hk hclean hn hmem hp hf]
      exact MemSt.byte_putBytes_at data s.m.mem addr i hi
    · intro b hb
      rw [Module.guardedWriteAt_clean hk hclean hn hmem hp hf]
      exact MemSt.byte_putBytes_other data s.m.mem addr b hb

/-- The next state tells the module. -/
theorem State.to_inj {s : State} {m n : Module} (h : s.to m = s.to n) : m = n := by
  injection h with h
  exact congrArg State.m h

/-! ### A rebuilt word in the ring of the error log -/

/-- Module reset is released after power-on, and core 0 is in the secure world; the ring of the error log stands where reset
puts it, at 0x10FFE000. -/
def releasedState : State := { m := { sys := { resetHeld := false }, wct := { cores := [(0, { secure := true })] } } }

/-- A data access of core 0 in the secure world. -/
def secureLoad : Access := { ini := 0, world := true, part := 0 }

/-- The third word of the ring's first slot: block, initiator and code of a record (R391). -/
def ringWord : Nat := 0x10FFE008

theorem ringWord_admitted : releasedState.admitsMem secureLoad ringWord 4 0 := by decide

theorem ringWord_reads_zero : releasedState.m.mem.word ringWord = 0 := rfl

set_option maxRecDepth 100000 in
/-- After the rebuild the word holds the code, the initiator and the block of the record that the rebuild logs. -/
theorem ringWord_answered :
    (releasedState.m.guardedReadAt secureLoad 0 ringWord 4 0 [.word ringWord 1 false]).resp.data = 0x01020001 := by
  rfl

/-- Refutes O11: the rebuild of a word is logged before the read answers, and where the word lies in the ring of the error log
the record overwrites it, so that the read answers the record's word. -/
theorem not_badWordsOfALine : ¬ Obligations.BadWordsOfALine := by
  unfold Obligations.BadWordsOfALine
  rintro ⟨hrebuild, -⟩
  obtain ⟨t, ht, hresp, -⟩ := hrebuild releasedState secureLoad ringWord 1 (by decide) (by decide) (by decide) (by decide)
    (by decide) (by decide) ringWord_admitted (by decide)
  rw [exec_guardedRead (kind := .data) 0 ringWord 4 _ ringWord_admitted.1,
    Module.pairFault_of_unpaired (a := secureLoad) _ _ (by decide)] at ht
  have hdata : t.resp.data = 0x01020001 := State.to_inj ht ▸ ringWord_answered
  rw [hresp] at hdata
  exact absurd (ringWord_reads_zero.symm.trans hdata) (by decide)

end Sys2Proof.Machine
end

section
/-!
SUPPORT. Bits of bit-map fields, the registers that an operation leaves (`Module.regsBut`), and ranges of registers that return
to their reset values or to their retained copies.
-/
namespace Sys2Proof.Machine

/-! ### Bits -/

theorem bit_eq_testBit (v n : Nat) : bit v n = v.testBit n := by
  rw [Nat.testBit_eq_decide_div_mod_eq]
  rfl

theorem bit_mod_two_pow {n w : Nat} (v : Nat) (h : n < w) : bit (v % 2 ^ w) n = bit v n := by
  simp [bit_eq_testBit, Nat.testBit_mod_two_pow, h]

@[simp] theorem bit_setBit (v n : Nat) (b : Bool) : bit (setBit v n b) n = b := by
  unfold setBit
  split
  next h => exact eq_of_beq h
  next h =>
    cases b with
    | true =>
      have hv : v.testBit n = false := by simpa [bit_eq_testBit] using h
      rw [if_pos rfl, bit_eq_testBit, Nat.add_comm, Nat.testBit_two_pow_add_eq, hv]
      rfl
    | false =>
      have hv : v.testBit n = true := by simpa [bit_eq_testBit] using h
      have hback : v - 2 ^ n + 2 ^ n = v := Nat.sub_add_cancel (Nat.ge_two_pow_of_testBit hv)
      have hflip := Nat.testBit_two_pow_add_eq (v - 2 ^ n) n
      rw [Nat.add_comm, hback, hv] at hflip
      rw [if_neg (by decide), bit_eq_testBit]
      simpa using hflip.symm

/-! ### Keys -/

theorem Fam.key_div (f : Fam) {i j k : Nat} (h : f.lo < 64) : f.key i j k / 64 = f.addr i j k := by
  unfold Fam.key
  omega

/-- What a table reads when only the keys of `p` are kept. -/
theorem tget_tkeep {α : Type} (d : α) (p : Nat → Bool) (t : Tbl α) (k : Nat) :
    tget d (tkeep p t) k = if p k then tget d t k else d := by
  induction t with
  | nil => simp [tkeep]
  | cons e t ih =>
    obtain ⟨k', v⟩ := e
    unfold tkeep at ih ⊢
    by_cases hp : p k' = true
    · by_cases hk : k = k'
      · simp [hp, hk, tget]
      · simp [hp, hk, tget, ih]
    · by_cases hk : k = k'
      · subst hk
        simpa [hp, tget] using ih
      · simp [hp, hk, tget, ih]

namespace Module

/-! ### The registers that an operation leaves -/

theorem regsBut_refl (K : List Nat) (m : Module) : regsBut K m m := fun _ _ _ _ _ => rfl

theorem regsBut_trans {K : List Nat} {m n t : Module} (h : regsBut K m n) (h' : regsBut K n t) : regsBut K m t :=
  fun f i j k hk => (h' f i j k hk).trans (h f i j k hk)

theorem regsBut_mono {K L : List Nat} {m n : Module} (hKL : K ⊆ L) (h : regsBut K m n) : regsBut L m n :=
  fun f i j k hk => h f i j k (fun hK => hk (hKL hK))

/-- What is not in the registers does not count. -/
theorem regsBut_set {K : List Nat} {m n t : Module} (ht : t.regs = n.regs) (h : regsBut K m n) : regsBut K m t :=
  fun f i j k hk => (by rw [rd, rd, ht] : t.rd f i j k = n.rd f i j k).trans (h f i j k hk)

theorem regsBut_wr {K : List Nat} {m n : Module} {f : Fam} {i j k : Nat} (v : Nat) (hk : f.key i j k ∈ K)
    (h : regsBut K m n) : regsBut K m (n.wr f v i j k) :=
  fun g i2 j2 k2 hg => (rd_wr_other n f g v i j k i2 j2 k2 (fun e => hg (e ▸ hk))).trans (h g i2 j2 k2 hg)

theorem regsBut_setMap {K : List Nat} {m n : Module} {f : Fam} {i j k : Nat} (x : Nat) (b : Bool) (hk : f.key i j k ∈ K)
    (h : regsBut K m n) : regsBut K m (n.setMap f x b i j k) := regsBut_wr _ hk h

theorem regsBut_when {K : List Nat} {m n : Module} {c : Bool} {f : Module → Module} (h : regsBut K m n)
    (hf : regsBut K m (f n)) : regsBut K m (n.when c f) := when_keeps (P := regsBut K m) h hf

/-- A bit of a bit-map field after it is set or cleared. -/
theorem bit_rd_setMap (m : Module) (f : Fam) {n : Nat} (b : Bool) (i j k : Nat) (hn : n < f.width) :
    bit ((m.setMap f n b i j k).rd f i j k) n = b := by
  rw [setMap, rd_wr_same, bit_mod_two_pow _ hn, bit_setBit]

/-! ### Ranges of registers -/

/-- A range of registers returns to its reset values, but for those kept; a field holds no more of the value than its width. -/
theorem rd_clrRange (m : Module) (lo hi : Nat) (keep : Nat → Bool) {f : Fam} (i j k : Nat) (hf : f.lo < 64) :
    (m.clrRange lo hi keep).rd f i j k
      = if lo ≤ f.addr i j k ∧ f.addr i j k < hi ∧ keep (f.addr i j k) = false then f.reset % 2 ^ f.width
        else m.rd f i j k := by
  simp only [rd, clrRange, tget_tkeep, f.key_div hf]
  by_cases hlo : lo ≤ f.addr i j k
  · by_cases hhi : f.addr i j k < hi
    · cases keep (f.addr i j k) <;> simp [hlo, hhi]
    · simp [hhi]
  · simp [hlo]

theorem tget_restored (l : Tbl Nat) (t : Tbl Nat) (d key : Nat) (h : ∀ e ∈ l, e.1 ≠ key) :
    tget d (l.foldl (fun t e => if e.2 = 0 then tdel t e.1 else tput t e.1 e.2) t) key = tget d t key := by
  induction l generalizing t with
  | nil => rfl
  | cons e l ih =>
    have he : key ≠ e.1 := (h e (List.mem_cons_self ..)).symm
    rw [List.foldl_cons, ih _ (fun x hx => h x (List.mem_cons_of_mem _ hx))]
    split
    · exact tget_tdel_other d t he
    · exact tget_tput_other d t e.2 he

/-- Registers outside the range whose CFG fields are restored read as before. -/
theorem rd_restoreCfg_outside (m : Module) {lo hi : Nat} {f : Fam} {i j k : Nat} (hf : f.lo < 64)
    (h : ¬ (lo ≤ f.addr i j k ∧ f.addr i j k < hi)) : (m.restoreCfg lo hi).rd f i j k = m.rd f i j k := by
  simp only [rd, restoreCfg]
  rw [tget_restored]
  intro e he hkey
  simp only [List.mem_filter, Bool.and_eq_true, decide_eq_true_eq, hkey, f.key_div hf] at he
  exact h he.2

end Module
end Sys2Proof.Machine
end

section
/-!
SUPPORT. The module reset, the write that asks for it, and the writes that a request in progress discards (R49, R52, R57).
-/
namespace Sys2Proof.Machine

/-- A write of a register that is a command of its own: issued as it stands and admitted, it has its effect. -/
theorem State.runBy_admittedWrite {s : State} {a : Access} {addr : Nat} (eff : Access → Module → Module)
    (h : s.admitsWrite a addr) : s.runBy a 1 (fun a m => m.access a addr 1 (eff a)) = s.to (eff a s.m.ok) := by
  obtain ⟨hg, hd⟩ := h
  simp [State.runBy_issued _ hg, Module.access_admitted _ hd]

/-! ### A request to reset the module -/

/-- KEY stands in the upper half of a 32-bit word. -/
theorem bits_31_16 (v : Word) : bits v.toNat 31 16 = v.toNat / 2 ^ 16 :=
  Nat.mod_eq_of_lt (Nat.div_lt_of_lt_mul v.isLt)

theorem exec_moduleResetRequest {s : State} {a : Access} (v : Word) (h : s.admitsWrite a 0x20000060) :
    exec (.moduleResetRequest a v) s
      = s.to (s.m.ok.when (a.world && bit v.toNat 0 && bits v.toNat 31 16 == 0xA5C3)
        (·.moduleReset F.SYSCTL_RST_CAUSE_SOFT)) :=
  State.runBy_admittedWrite _ h

/-- Settles O6: the three conditions of R52 are those under which the write has an effect. -/
theorem softResetRequest : Obligations.SoftResetRequest := by
  unfold Obligations.SoftResetRequest
  refine ⟨fun s a v hadm ⟨hworld, hmodule, hkey⟩ => ?_, fun s a v hadm hignored => ?_⟩
  · rw [exec_moduleResetRequest v hadm, bits_31_16, bit_eq_testBit, hworld, hmodule, hkey]
    rfl
  · have hcond : (a.world && bit v.toNat 0 && bits v.toNat 31 16 == 0xA5C3) = false := by
      rw [bits_31_16, bit_eq_testBit]
      rcases hignored with hworld | hmodule | hkey
      · rw [hworld, Bool.false_and, Bool.false_and]
      · rw [hmodule, Bool.and_false, Bool.false_and]
      · rw [beq_eq_false_iff_ne.2 hkey, Bool.and_false]
    rw [exec_moduleResetRequest v hadm, hcond, Module.when_false]

/-! ### Requests that a request in progress discards -/

/-- BLOCK_RESET with attributes that are issued, and admitted. -/
theorem exec_blockReset {s : State} {a : Access} (v : Word) (h : s.admitsWrite a 0x20000064) :
    exec (.blockReset a v) s = .next { s with
      otp := (Module.blockResetWrite s.otp s.m.ok v.toNat).1
      m := (Module.blockResetWrite s.otp s.m.ok v.toNat).2 } := by
  obtain ⟨hg, hd⟩ := h
  show execBlockReset a v s = _
  simp only [execBlockReset, runOtp_eq, show s.m.issued a 1 = some a from hg, hd]

theorem exec_partitionReset {s : State} {a : Access} (v : Word) (h : s.admitsWrite a 0x20000068) :
    exec (.partitionReset a v) s = s.to (s.m.ok.partResetWrite v.toNat) :=
  State.runBy_admittedWrite _ h

/-- A gating request of operation `op`, as each of the four rows writes it. -/
theorem State.runBy_gateRequest {s : State} {a : Access} (b op : Nat) (h : s.admitsWrite a 0x20000040) :
    s.runBy a 1 (fun a m => m.access a 0x20000040 1 (·.gateRequest a b op)) = s.to (s.m.ok.gateRequest a b op) :=
  State.runBy_admittedWrite (fun a m => m.gateRequest a b op) h

namespace Module

theorem blockResetWrite_busy {m : Module} (o : Otp) (v : Nat) (h : m.sys.blkRst ≠ none) :
    blockResetWrite o m v = (o, m) := by
  simp [blockResetWrite, Option.isSome_iff_ne_none.2 h]

theorem partResetWrite_busy {m : Module} (v : Nat) (h : m.sys.partRst ≠ none) : m.partResetWrite v = m := by
  simp [partResetWrite, Option.isSome_iff_ne_none.2 h]

theorem gateRequest_busy {m : Module} {a : Access} (b op : Nat)
    (h : (if a.world then m.flag F.SYSCTL_GATE_STAT_S_PEND else m.flag F.SYSCTL_GATE_STAT_N_PEND) = true) :
    m.gateRequest a b op = m := by
  simp [gateRequest, h]

end Module

/-- A gating request that a pending one of its world discards. -/
theorem State.runBy_gateRequest_busy {s : State} {a : Access} (b op : Nat) (hadm : s.admitsWrite a 0x20000040)
    (h : (if a.world then s.m.flag F.SYSCTL_GATE_STAT_S_PEND else s.m.flag F.SYSCTL_GATE_STAT_N_PEND) = true) :
    s.runBy a 1 (fun a m => m.access a 0x20000040 1 (·.gateRequest a b op)) = s.to s.m.ok := by
  rw [State.runBy_gateRequest b op hadm]
  exact congrArg s.to (Module.gateRequest_busy (m := s.m.ok) b op h)

/-- Settles O7. -/
theorem oneRequestAtATime : Obligations.OneRequestAtATime := by
  unfold Obligations.OneRequestAtATime
  refine ⟨fun s a v hadm hbusy => ?_, fun s a v hadm hbusy => ?_,
    fun s a b hadm hbusy => State.runBy_gateRequest_busy b.val 0 hadm hbusy,
    fun s a b hadm hbusy => State.runBy_gateRequest_busy b.val 1 hadm hbusy,
    fun s a b hadm hbusy => State.runBy_gateRequest_busy b.val 2 hadm hbusy,
    fun s a b hadm hbusy => State.runBy_gateRequest_busy b.val 3 hadm hbusy⟩
  · rw [exec_blockReset v hadm, Module.blockResetWrite_busy (m := s.m.ok) s.otp v.toNat hbusy]
  · rw [exec_partitionReset v hadm, Module.partResetWrite_busy (m := s.m.ok) v.toNat hbusy]

/-! ### What a module reset keeps -/

/-- After a module reset a field of another register than that of its cause reads as before where R49, R85, R164 or R166 keep its
register, and elsewhere its reset value, as far as the field holds it. -/
theorem Module.rd_moduleReset (m : Module) {cause f : Fam} {i j k : Nat} (requested entry : Bool) (hf : f.lo < 64)
    (hk : f.key i j k ≠ cause.key 0 0 0) :
    (m.moduleReset cause requested entry).rd f i j k
      = if keptByReset (f.addr i j k) then m.rd f i j k else f.reset % 2 ^ f.width := by
  unfold moduleReset
  rw [raise_eq, rd_wr_other _ _ _ _ _ _ _ _ _ _ hk]
  simp only [rd, tget_tkeep, f.key_div hf]
  split <;> rfl

/-- A field of one bit in the window of UIN whose reset value, 2, does not fit it; no register table lists it. -/
def unfitField : Fam := fam 0x20300000 0 0 .rw 2

/-- What such a field reads is never its reset value. -/
theorem Module.rd_unfitField_ne (m : Module) : m.rd unfitField ≠ unfitField.reset := by
  have hlt : m.rd unfitField < 2 := m.rd_lt unfitField 0 0 0
  show m.rd unfitField ≠ 2
  omega

/-- Refutes O14: the statement speaks of every `Fam`, and a field whose reset value does not fit its width reads what is left of
it (`Module.rd_moduleReset`): after a reset of the module `unfitField` reads 0, and not 2. -/
theorem not_moduleResetKeepsOnlyWhatItsRulesName : ¬ Obligations.ModuleResetKeepsOnlyWhatItsRulesName := by
  unfold Obligations.ModuleResetKeepsOnlyWhatItsRulesName
  intro h
  obtain ⟨-, hregs, -⟩ := h {} F.SYSCTL_RST_CAUSE_SOFT false false (by decide)
  have hclaim := hregs unfitField 0 0 0 (by decide) (by decide)
  rw [Module.rd_moduleReset _ _ _ (by decide) (by decide)] at hclaim
  exact absurd hclaim (by decide)

/-- Refutes O18: an admitted BLOCK_RESET of UIN is said to bring every `Fam` in the window of UIN to its reset value, and
`unfitField` cannot read 2 in any state. -/
theorem not_blockAndPartitionReset : ¬ Obligations.BlockAndPartitionReset := by
  unfold Obligations.BlockAndPartitionReset
  rintro ⟨-, huin, -⟩
  obtain ⟨t, -, -, -, -, -, hreset, -⟩ :=
    huin releasedState secureLoad 5 (by decide) (by decide) (by decide) (by decide)
  exact Module.rd_unfitField_ne t (hreset unfitField 0 0 0 (by decide) (by decide) (by decide))

/-! ### The loss of SERPLL -/

/-- SERPLL is locked and the link of port 0 is up, with a frame queued for it whose time-stamp HDMA waits for; its descriptor
stands first in a ring at the start of SRAM. -/
def stampedFrameState : State :=
  { m := { ((({} : Module).wr F.MAC_STAT_LINK 1).wr F.HQ_TX_CFG_EN 1).wr F.HQ_TX_BASE_ADDR 0x10000 with
    sys := { resetHeld := false, serLock := true }
    swc := { frames := [{ id := 0, inPort := 15, bytes := [], tx := some { hq := 0, no := 0, direct := false, tsReq := true }
                          copies := [{ port := 0, cls := 0 }] }] }
    hdma := { hqs := [(0, { frames := [{ no := 0, descs := [(0, [])] }] })] } } }

/-- The status in the last word of that descriptor. -/
def stampedStatus : Nat := 0x1000001C

theorem stampedStatus_before : stampedFrameState.m.mem.byte stampedStatus = 0 := rfl

set_option maxRecDepth 100000 in
/-- The frame is dropped with LINK_DOWN, and its descriptor is written back with UNAVAILABLE (R491, R532, R538). -/
theorem stampedStatus_after : stampedFrameState.m.serLost.mem.byte stampedStatus = 0x0F := by rfl

/-- Refutes O15: the loss of SERPLL takes the links down, which drops their frames, and the descriptor of a dropped TS_REQ frame
is written back to memory (R538), so that memory does not stay as it was. -/
theorem not_resetAndClockEvents : ¬ Obligations.ResetAndClockEvents := by
  unfold Obligations.ResetAndClockEvents
  rintro ⟨-, -, -, -, -, hloss, -⟩
  obtain ⟨t, ht, -, -, -, -, -, hmem, -⟩ := hloss stampedFrameState rfl
  have hlost : stampedFrameState.m.serLost = t := State.to_inj ht
  have hafter := stampedStatus_after
  rw [hlost, hmem, stampedStatus_before] at hafter
  exact absurd hafter (by decide)

end Sys2Proof.Machine
end

section
/-!
SUPPORT. Power-on reset, and the start of the boot ROM (R46, R49, R51, R85, R99, R153, R159).
-/
namespace Sys2Proof.Machine

namespace Module

theorem b2n_mod_two (b : Bool) : b2n b % 2 = b2n b := by cases b <;> rfl

/-! ### Power-on reset -/

/-- The module after power-on reset, before its challenge is drawn (R49, R85, R99). -/
def powerOnBare (m : Module) (unit : Bool) : Module :=
  (({ regs := tkeep (fun k => k / 64 == 0x20000000) m.regs, mem := m.mem, fresh := m.fresh, nvm := m.nvm, out := m.out
      nvc := nvcAfterReset m.nvc false } : Module).wrb F.SYSCTL_ID_UNIT unit).wrb F.SYSCTL_RST_CAUSE_LOWV m.boot.lowv

/-- Drawing the challenge changes its eight registers and the model's counter alone. -/
theorem powerOn_challenge (m : Module) (unit : Bool) :
    ∃ r c, m.powerOn unit = { m.powerOnBare unit with regs := r, fresh := c } := by
  refine forEach_keeps (P := fun t : Module => ∃ r c, t = { m.powerOnBare unit with regs := r, fresh := c }) _ _ ?_ _
    ⟨(m.powerOnBare unit).regs, m.fresh, rfl⟩
  rintro n _ ⟨r, c, rfl⟩
  exact ⟨_, _, rfl⟩

/-- The fields of other registers stand as power-on reset leaves them. -/
theorem rd_powerOn (m : Module) (unit : Bool) {f : Fam} {i j k : Nat}
    (hf : f.key i j k < 0x20000840 * 64) : (m.powerOn unit).rd f i j k = (m.powerOnBare unit).rd f i j k := by
  refine forEach_keeps (P := fun t : Module => t.rd f i j k = (m.powerOnBare unit).rd f i j k) _ _ ?_ _ rfl
  intro n t ht
  refine (rd_wr_other _ _ _ _ _ _ _ _ _ _ ?_).trans ht
  have hbase : 0x20000840 * 64 ≤ F.SYSCTL_DBG_CHAL_CHAL.key n 0 0 := by
    simp only [Fam.key, Fam.addr, F.SYSCTL_DBG_CHAL_CHAL, fam]
    omega
  omega

/-- A register other than SYSCTL_ID reads its reset value after power-on reset, but LOWV. -/
theorem rd_powerOnBare_reset (m : Module) (unit : Bool) {f : Fam} (hf : f.lo < 64) (hid : f.addr 0 0 0 ≠ 0x20000000)
    (hunit : f.key 0 0 0 ≠ F.SYSCTL_ID_UNIT.key 0 0 0) (hlowv : f.key 0 0 0 ≠ F.SYSCTL_RST_CAUSE_LOWV.key 0 0 0) :
    (m.powerOnBare unit).rd f = f.reset % 2 ^ f.width := by
  rw [powerOnBare, wrb_eq, rd_wr_other _ _ _ _ _ _ _ _ _ _ hlowv, wrb_eq, rd_wr_other _ _ _ _ _ _ _ _ _ _ hunit]
  simp [rd, tget_tkeep, f.key_div hf, hid]

theorem rd_powerOnBare_unit (m : Module) (unit : Bool) : (m.powerOnBare unit).rd F.SYSCTL_ID_UNIT = b2n unit := by
  rw [powerOnBare, wrb_eq, rd_wr_other _ _ _ _ _ _ _ _ _ _ (by decide), wrb_eq, rd_wr_same]
  exact b2n_mod_two unit

theorem rd_powerOnBare_lowv (m : Module) (unit : Bool) :
    (m.powerOnBare unit).rd F.SYSCTL_RST_CAUSE_LOWV = b2n m.boot.lowv := by
  rw [powerOnBare, wrb_eq, rd_wr_same]
  exact b2n_mod_two m.boot.lowv

/-! ### The start of the boot ROM -/

theorem regsBut_setCore (m : Module) (n : Nat) (c : CoreSt) :
    regsBut [F.WCT_STAT_FRAME_HELD.key 0 0 0] m (m.setCore n c) :=
  regsBut_setMap _ _ (by decide) (regsBut_set rfl (regsBut_refl _ m))

theorem core_setCore (m : Module) (n : Nat) (c : CoreSt) : (m.setCore n c).core n = c := tget_tset_same _ _ _ _

/-- The registers that the boot ROM's start shows of the OTP beside the life-cycle state and the counter (R158, R787). -/
def otpKeys : List Nat :=
  [F.SYSCTL_OWNER_SLOT_TRUSTED.key 0 0 0, F.SYSCTL_OWNER_SLOT_REVOKE.key 0 0 0, F.NVC_BROM_SLOTS_USED.key 0 0 0,
    F.NVC_BROM_SLOTS_REVOKED.key 0 0 0]

theorem regsBut_showOtp (m : Module) (o : Otp) : regsBut otpKeys m ((m.showOwner o).showBrom o) := by
  unfold showOwner showBrom
  dsimp only
  exact regsBut_wr _ (by decide) (regsBut_wr _ (by decide) (regsBut_wr _ (by decide) (regsBut_wr _ (by decide)
    (regsBut_refl _ m))))

/-- The registers in which page 0 is assigned, and NPM's tick starts (R436, R626). -/
def firstTaskKeys : List Nat :=
  [F.WCT_STAT_FRAME_HELD.key 0 0 0, F.IMG_INST_CFG_ASSIGNED.key 0 0 0, F.IMG_INST_CFG_PART.key 0 0 0,
    F.IMG_INST_SHARE_SHARE.key 0 0 0, F.IMG_INST_SHARE_WEIGHT.key 0 0 0, F.WCT_INST_WORLD_SECURE.key 0 0 0,
    F.TMU_TMR_LOAD_US.key 0 0 0, F.TMU_TMR_CTRL_EN.key 0 0 0, F.TMU_TMR_CTRL_PERIODIC.key 0 0 0,
    F.TMU_TMR_REMAIN_US.key 0 0 0]

theorem regsBut_preAssign (m : Module) : regsBut firstTaskKeys m m.preAssign := by
  unfold preAssign putMapBit
  exact regsBut_setMap _ _ (by decide) (regsBut_wr _ (by decide) (regsBut_wr _ (by decide) (regsBut_wr _ (by decide)
    (regsBut_wr _ (by decide) (regsBut_refl _ m)))))

theorem regsBut_timerStart {K : List Nat} {m n : Module} {t : Nat} (us : Nat) (hk : F.TMU_TMR_REMAIN_US.key t 0 0 ∈ K)
    (h : regsBut K m n) : regsBut K m (n.timerStart t us) :=
  regsBut_set (n := n.wr F.TMU_TMR_REMAIN_US us t) rfl (regsBut_wr us hk h)

theorem regsBut_npmTickStart (m : Module) : regsBut firstTaskKeys m m.npmTickStart := by
  unfold npmTickStart
  exact regsBut_timerStart _ (by decide) (regsBut_wr _ (by decide) (regsBut_wr _ (by decide) (regsBut_wr _ (by decide)
    (regsBut_refl _ m))))

/-- AC0 starts in the secure world, page 0 is assigned, and NPM's tick starts. -/
def firstTask (m : Module) : Module := (m.setCore 0 { m.core 0 with secure := true, ctx := {} }).preAssign.npmTickStart

theorem regsBut_firstTask (m : Module) : regsBut firstTaskKeys m m.firstTask :=
  regsBut_trans (regsBut_trans (regsBut_mono (by decide) (regsBut_setCore m 0 _)) (regsBut_preAssign _))
    (regsBut_npmTickStart _)

theorem firstTask_secure (m : Module) : (m.firstTask.core 0).secure = true :=
  congrArg CoreSt.secure (core_setCore m 0 { m.core 0 with secure := true, ctx := {} })

/-- SYSCTL_LC_STATE takes the life-cycle state `lc`, and a recorded grant that the entry reset brings stands (R161, R166). -/
def showLife (m : Module) (lc : Nat) (o : Otp) : Module :=
  let n := (m.wr F.SYSCTL_LC_STATE_STATE lc).wrb F.SYSCTL_LC_STATE_OTP_DISAGREE o.disagree
  match m.boot.entry && m.boot.grant.isSome, m.boot.grant with
  | true, some (parts, minutes) => (n.wr F.SYSCTL_DBG_GRANT_PARTS parts).wr F.SYSCTL_DBG_GRANT_MINUTES_LEFT minutes
  | _, _ => n

theorem showLife_eq (m : Module) (lc : Nat) (o : Otp) : m.showLife lc o = { m with regs := (m.showLife lc o).regs } := by
  unfold showLife
  dsimp only
  split <;> rfl

theorem rd_showLife (m : Module) (lc : Nat) (o : Otp) : (m.showLife lc o).rd F.SYSCTL_LC_STATE_STATE = lc % 2 ^ 3 := by
  have hshown : ((m.wr F.SYSCTL_LC_STATE_STATE lc).wrb F.SYSCTL_LC_STATE_OTP_DISAGREE o.disagree).rd
      F.SYSCTL_LC_STATE_STATE = lc % 2 ^ 3 := by
    rw [wrb_eq, rd_wr_other _ _ _ _ _ _ _ _ _ _ (by decide), rd_wr_same]
    rfl
  unfold showLife
  dsimp only
  split
  · rw [rd_wr_other _ _ _ _ _ _ _ _ _ _ (by decide), rd_wr_other _ _ _ _ _ _ _ _ _ _ (by decide), hshown]
  · exact hshown

/-- What the start sequence remembers begins anew (R161, R167, R786). -/
def startBoot (m : Module) (o : Otp) : Module :=
  { m with boot := { m.boot with us := 0, entry := false, grant := none, lowv := false, grantUs := 60000000,
                                 patches := romPatches o } }

/-- The boot ROM enables the PLLs, and the clocks leave bypass once both lock (R46, R64). -/
def enablePlls (m : Module) : Module :=
  ((m.raise F.SYSCTL_PLL_CTRL_SYS_EN).raise F.SYSCTL_PLL_CTRL_SER_EN).raise F.SYSCTL_PLL_CTRL_SWITCH

/-- While reset is held, the boot ROM's start releases it, shows the OTP, and starts AC0. -/
theorem romStart_held {m : Module} (o : Otp) (h : m.sys.resetHeld = true) :
    m.romStart o = (((((({ m with sys := { m.sys with resetHeld := false } } : Module).showLife (m.lifeCycle o) o).startBoot
      o).wr F.SYSCTL_SECVER_COUNTER o.counter).showOwner o).showBrom o).enablePlls.firstTask := by
  unfold romStart
  rw [if_neg (by simp [h])]
  rfl

theorem regsBut_enablePlls (m : Module) :
    regsBut [F.SYSCTL_PLL_CTRL_SYS_EN.key 0 0 0, F.SYSCTL_PLL_CTRL_SER_EN.key 0 0 0, F.SYSCTL_PLL_CTRL_SWITCH.key 0 0 0] m
      m.enablePlls := by
  unfold enablePlls raise
  exact regsBut_wr _ (by decide) (regsBut_wr _ (by decide) (regsBut_wr _ (by decide) (regsBut_refl _ m)))

theorem rd_enablePlls_switch (m : Module) : m.enablePlls.rd F.SYSCTL_PLL_CTRL_SWITCH = 1 := by
  rw [enablePlls, raise_eq, rd_wr_same]
  rfl

/-- The last steps of the start leave the fields of the OTP that it has shown. -/
theorem rd_startEnd (m : Module) (o : Otp) {f : Fam} (hotp : f.key 0 0 0 ∉ otpKeys)
    (hpll : f.key 0 0 0 ∉ [F.SYSCTL_PLL_CTRL_SYS_EN.key 0 0 0, F.SYSCTL_PLL_CTRL_SER_EN.key 0 0 0,
      F.SYSCTL_PLL_CTRL_SWITCH.key 0 0 0]) (htask : f.key 0 0 0 ∉ firstTaskKeys) :
    ((m.showOwner o).showBrom o).enablePlls.firstTask.rd f = m.rd f := by
  rw [regsBut_firstTask _ f 0 0 0 htask, regsBut_enablePlls _ f 0 0 0 hpll, regsBut_showOtp m o f 0 0 0 hotp]

/-- The life-cycle state is that of the fuses, but in the entry reset of a recorded grant FIELD_DEBUG (R159, R161). -/
theorem lifeCycle_held {m : Module} (o : Otp) (h : m.sys.resetHeld = true) :
    m.lifeCycle o % 2 ^ 3 = if m.boot.entry && m.boot.grant.isSome then 3 else o.lcState % 2 ^ 3 := by
  rw [lifeCycle, if_neg (by simp [h])]
  split <;> rfl

end Module

/-- Settles O16: the challenge and the first task touch none of the fields in question. -/
theorem powerOnAndRomStart : Obligations.PowerOnAndRomStart := by
  unfold Obligations.PowerOnAndRomStart
  refine ⟨fun s unitSel => ⟨s.m.powerOn unitSel, rfl, ?_⟩, fun s hheld => ⟨s.m.romStart s.otp, rfl, ?_⟩⟩
  · obtain ⟨r, c, hframe⟩ := s.m.powerOn_challenge unitSel
    refine ⟨?_, ?_, ?_, ?_, by rw [hframe]; rfl, by rw [hframe]; rfl, by rw [hframe]; rfl, by rw [hframe]; rfl⟩
    · rw [Module.rd_powerOn _ _ (by decide), Module.rd_powerOnBare_unit]
    · rw [Module.rd_powerOn _ _ (by decide), Module.rd_powerOnBare_reset _ _ (by decide) (by decide) (by decide) (by decide)]
      rfl
    · rw [Module.rd_powerOn _ _ (by decide), Module.rd_powerOnBare_lowv]
    · rw [Module.rd_powerOn _ _ (by decide), Module.rd_powerOnBare_reset _ _ (by decide) (by decide) (by decide) (by decide)]
      rfl
  · rw [Module.romStart_held s.otp hheld]
    refine ⟨?_, ?_, ?_, ?_, Module.firstTask_secure _, ?_, ?_⟩
    · rw [Module.showLife_eq]; rfl
    · rw [Module.rd_startEnd _ _ (by decide) (by decide) (by decide), Module.rd_wr_other _ _ _ _ _ _ _ _ _ _ (by decide)]
      exact (Module.rd_showLife _ _ _).trans (Module.lifeCycle_held s.otp hheld)
    · rw [Module.rd_startEnd _ _ (by decide) (by decide) (by decide), Module.rd_wr_same]
    · rw [Module.regsBut_firstTask _ _ 0 0 0 (by decide), Module.rd_enablePlls_switch]
    · rfl
    · rw [Module.showLife_eq]; rfl

end Sys2Proof.Machine
end

section
/-!
SUPPORT. The gating requests (R57–R62, R66, R418, R420): what a request that nothing refuses does, and how it ends.
-/
namespace Sys2Proof.Machine

/-! ### The fields of SYSCTL_GATE_STAT that a world sees -/

/-- STATUS, BLOCK and PEND of SYSCTL_GATE_STAT, as world `sec` sees them (R417). -/
abbrev gateStatus (sec : Bool) : Fam := gateField sec F.SYSCTL_GATE_STAT_S_STATUS F.SYSCTL_GATE_STAT_N_STATUS
abbrev gateBlock (sec : Bool) : Fam := gateField sec F.SYSCTL_GATE_STAT_S_BLOCK F.SYSCTL_GATE_STAT_N_BLOCK
abbrev gatePend (sec : Bool) : Fam := gateField sec F.SYSCTL_GATE_STAT_S_PEND F.SYSCTL_GATE_STAT_N_PEND

/-- No request of world `sec` drains or powers up. -/
def SysSt.gateIdle (x : SysSt) (sec : Bool) : SysSt := if sec then { x with gateS := none } else { x with gateN := none }

namespace Module

/-! ### The end of a request -/

theorem gateDone_eq (m : Module) (sec : Bool) (b st : Nat) :
    m.gateDone sec b st
      = { ((m.wr (gateStatus sec) st).wr (gateBlock sec) b).wr (gatePend sec) 0 with sys := m.sys.gateIdle sec } := by
  cases sec <;> rfl

theorem regsBut_gateDone (m : Module) (sec : Bool) (b st : Nat) : regsBut (gateKeys sec) m (m.gateDone sec b st) := by
  rw [gateDone_eq]
  exact regsBut_set (n := ((m.wr (gateStatus sec) st).wr (gateBlock sec) b).wr (gatePend sec) 0) rfl
    (regsBut_wr _ (by simp [gateKeys]) (regsBut_wr _ (by simp [gateKeys]) (regsBut_wr _ (by simp [gateKeys])
      (regsBut_refl _ m))))

theorem rd_gateDone_status (m : Module) (sec : Bool) (b : Nat) {st : Nat} (h : st < 2 ^ 8) :
    (m.gateDone sec b st).rd (gateStatus sec) = st := by
  rw [gateDone_eq]
  show (((m.wr (gateStatus sec) st).wr (gateBlock sec) b).wr (gatePend sec) 0).rd (gateStatus sec) = st
  rw [rd_wr_other _ _ _ _ _ _ _ _ _ _ (by cases sec <;> decide), rd_wr_other _ _ _ _ _ _ _ _ _ _ (by cases sec <;> decide),
    rd_wr_same]
  cases sec <;> exact Nat.mod_eq_of_lt h

theorem rd_gateDone_block (m : Module) (sec : Bool) {b : Nat} (st : Nat) (h : b < 2 ^ 8) :
    (m.gateDone sec b st).rd (gateBlock sec) = b := by
  rw [gateDone_eq]
  show (((m.wr (gateStatus sec) st).wr (gateBlock sec) b).wr (gatePend sec) 0).rd (gateBlock sec) = b
  rw [rd_wr_other _ _ _ _ _ _ _ _ _ _ (by cases sec <;> decide), rd_wr_same]
  cases sec <;> exact Nat.mod_eq_of_lt h

theorem rd_gateDone_pend (m : Module) (sec : Bool) (b st : Nat) : (m.gateDone sec b st).rd (gatePend sec) = 0 := by
  rw [gateDone_eq]
  show (((m.wr (gateStatus sec) st).wr (gateBlock sec) b).wr (gatePend sec) 0).rd (gatePend sec) = 0
  rw [rd_wr_same, Nat.zero_mod]

/-- A completed request changes, beside registers, its world's request alone. -/
theorem gateDone_frame (m : Module) (sec : Bool) (b st : Nat) :
    m.gateDone sec b st = { m with regs := (m.gateDone sec b st).regs, sys := m.sys.gateIdle sec } := by
  cases sec <;> rfl

/-- The clocks and the power of the blocks are none of the fields in which a completed request shows. -/
theorem rd_gateDone_clock (m : Module) (sec : Bool) (b st : Nat) :
    (m.gateDone sec b st).rd F.SYSCTL_CLK_STATE_RUN = m.rd F.SYSCTL_CLK_STATE_RUN :=
  regsBut_gateDone m sec b st _ 0 0 0 (by cases sec <;> decide)

theorem rd_gateDone_power (m : Module) (sec : Bool) (b st : Nat) :
    (m.gateDone sec b st).rd F.SYSCTL_PWR_STATE_ON = m.rd F.SYSCTL_PWR_STATE_ON :=
  regsBut_gateDone m sec b st _ 0 0 0 (by cases sec <;> decide)

/-! ### A request that nothing refuses -/

/-- What R59 and R60 look at: the running blocks, the channels, the partitions, and the block reset in progress. -/
theorem gateRefusal_congr {m n : Module} (hrun : n.running = m.running) (hdpx : n.rd F.DPX_CFG_EN = m.rd F.DPX_CFG_EN)
    (hpart : ∀ p, n.rd F.LSS_PART_STATE p = m.rd F.LSS_PART_STATE p) (hchc : n.chc = m.chc)
    (hrst : n.sys.blkRst = m.sys.blkRst) (b op : Nat) : n.gateRefusal b op = m.gateRefusal b op := by
  have hquiet : n.chcQuiet = m.chcQuiet := by simp only [chcQuiet, chan, chi, hchc]
  have hfurther : n.furtherOk b = m.furtherOk b := by simp only [furtherOk, hquiet, noPairRuns, hpart, flag_eq, hdpx]
  simp only [gateRefusal, hrun, hfurther, hrst]

/-- The fields of registers above SYSCTL_GATE_STAT while a request becomes pending. -/
theorem rd_pend (m : Module) (sec : Bool) {f : Fam} (i : Nat)
    (hf : F.SYSCTL_GATE_STAT_N_PEND.key 0 0 0 < f.key 0 0 0) : (m.wr (gatePend sec) 1).rd f i = m.rd f i := by
  refine rd_wr_other _ _ _ _ _ _ _ _ _ _ (Nat.ne_of_gt ?_)
  have hpend : (gatePend sec).key 0 0 0 ≤ F.SYSCTL_GATE_STAT_N_PEND.key 0 0 0 := by cases sec <;> decide
  have hup : f.key 0 0 0 ≤ f.key i 0 0 := by
    simp only [Fam.key, Fam.addr]
    omega
  omega

/-- That a request is pending plays no part in R60. -/
theorem gateRefusal_pend (m : Module) (sec : Bool) (b op : Nat) :
    (m.wr (gatePend sec) 1).gateRefusal b op = m.gateRefusal b op := by
  refine gateRefusal_congr (m := m) (n := m.wr (gatePend sec) 1) ?_ (rd_pend m sec 0 (by decide))
    (fun p => rd_pend m sec p (by decide)) rfl rfl b op
  funext x
  simp only [running]
  rw [rd_wr_other _ _ _ _ _ _ _ _ _ _ (by cases sec <;> decide), rd_wr_other _ _ _ _ _ _ _ _ _ _ (by cases sec <;> decide)]

theorem gateOf_pend (m : Module) (sec : Bool) (b : Nat) : (m.wr (gatePend sec) 1).gateOf b = m.gateOf b := by
  simp only [gateOf, rd_pend m sec b (f := F.WCT_BLK_GATE) (by decide)]

/-- A request that is not refused is for a block outside the core domain. -/
theorem lt_of_gateRefusal {m : Module} {b op : Nat} (h : m.gateRefusal b op = none) : b < 0x16 := by
  by_contra hb
  have hcore : coreDomain b = true := by simp [coreDomain, Nat.not_lt.1 hb]
  simp [gateRefusal, hcore] at h

/-- A request that nothing discards, refuses or defers goes on with R60. -/
theorem gateRequest_goesOn {m : Module} {a : Access} {b op : Nat} (h : m.mayGate a b op) :
    m.gateRequest a b op = (m.wr (gatePend a.world) 1).gateContinue a.world b op := by
  obtain ⟨hpend, -, hworld⟩ := h
  cases hw : a.world with
  | true =>
    have hidle : m.flag F.SYSCTL_GATE_STAT_S_PEND = false := by
      rw [hw] at hpend
      rw [flag_eq, show m.rd F.SYSCTL_GATE_STAT_S_PEND = 0 from hpend]
      rfl
    simp only [gateRequest, hw, hidle, if_true, Bool.not_true, Bool.false_and, Bool.false_eq_true, if_false]
    rfl
  | false =>
    have hidle : m.flag F.SYSCTL_GATE_STAT_N_PEND = false := by
      rw [hw] at hpend
      rw [flag_eq, show m.rd F.SYSCTL_GATE_STAT_N_PEND = 0 from hpend]
      rfl
    obtain ⟨hsecure, hhold⟩ : m.gateOf b ≠ 1 ∧ (op % 2 = 1 ∨ m.gateOf b ≠ 2 ∨ m.rd F.WCT_HOLD_COUNT b = 0) := by
      simpa [hw] using hworld
    have hdefer : ((m.wr (gatePend false) 1).gateOf b == 2 && op % 2 == 0
        && decide (0 < (m.wr (gatePend false) 1).rd F.WCT_HOLD_COUNT b)) = false := by
      rw [gateOf_pend, rd_pend m false b (by decide)]
      rcases hhold with h | h | h <;> simp [h]
    simp only [gateRequest, hw, hidle, hsecure, Bool.not_false, Bool.true_and, Bool.false_eq_true, if_false, beq_iff_eq]
    exact if_neg (by rw [show m.raise F.SYSCTL_GATE_STAT_N_PEND = m.wr (gatePend false) 1 from rfl, hdefer]; decide)

/-- Unless it asks for a clock whose block is powered, it then waits for its block to drain or to power up. -/
theorem gateRequest_waits {m : Module} {a : Access} {b op : Nat} (h : m.mayGate a b op)
    (hop : ¬ (op = 1 ∨ (op = 3 ∧ bit (m.rd F.SYSCTL_PWR_STATE_ON) b = true))) :
    m.gateRequest a b op = m.gateWaits a.world ⟨b, op⟩ := by
  rw [gateRequest_goesOn h, gateContinue, gateRefusal_pend, h.2.1]
  have hpower : (m.wr (gatePend a.world) 1).rd F.SYSCTL_PWR_STATE_ON = m.rd F.SYSCTL_PWR_STATE_ON :=
    rd_wr_other _ _ _ _ _ _ _ _ _ _ (by cases a.world <;> decide)
  dsimp only
  rw [hpower, if_neg hop]
  rfl

/-- The clock of a powered block runs at once (R60). -/
theorem gateRequest_clockOn {m : Module} {a : Access} {b : Nat} (h : m.mayGate a b 1)
    (hon : bit (m.rd F.SYSCTL_PWR_STATE_ON) b = true) :
    m.gateRequest a b 1 = ((m.wr (gatePend a.world) 1).setMap F.SYSCTL_CLK_STATE_RUN b).gateDone a.world b 0 := by
  rw [gateRequest_goesOn h, gateContinue, gateRefusal_pend, h.2.1]
  have hpower : (m.wr (gatePend a.world) 1).rd F.SYSCTL_PWR_STATE_ON = m.rd F.SYSCTL_PWR_STATE_ON :=
    rd_wr_other _ _ _ _ _ _ _ _ _ _ (by cases a.world <;> decide)
  dsimp only
  rw [if_pos (.inl rfl), hpower, hon, when_true]

/-! ### The end of a drain -/

/-- The clock of block `b` stops, and its power goes where `op` asks for that. -/
def blockOff (m : Module) (b op : Nat) : Module :=
  (m.setMap F.SYSCTL_CLK_STATE_RUN b false).when (op == 2) (·.setMap F.SYSCTL_PWR_STATE_ON b false)

theorem regsBut_blockOff (m : Module) (b op : Nat) :
    regsBut [F.SYSCTL_CLK_STATE_RUN.key 0 0 0, F.SYSCTL_PWR_STATE_ON.key 0 0 0] m (m.blockOff b op) := by
  have hclock : regsBut [F.SYSCTL_CLK_STATE_RUN.key 0 0 0, F.SYSCTL_PWR_STATE_ON.key 0 0 0] m
      (m.setMap F.SYSCTL_CLK_STATE_RUN b false) := regsBut_setMap b false (by decide) (regsBut_refl _ m)
  exact regsBut_when hclock (regsBut_setMap b false (by decide) hclock)

theorem bit_blockOff_clock (m : Module) {b : Nat} (op : Nat) (hb : b < 32) :
    bit ((m.blockOff b op).rd F.SYSCTL_CLK_STATE_RUN) b = false := by
  have hclock : bit ((m.setMap F.SYSCTL_CLK_STATE_RUN b false).rd F.SYSCTL_CLK_STATE_RUN) b = false :=
    bit_rd_setMap m _ false 0 0 0 hb
  refine when_keeps (P := fun t : Module => bit (t.rd F.SYSCTL_CLK_STATE_RUN) b = false) hclock ?_
  rw [setMap, rd_wr_other _ _ _ _ _ _ _ _ _ _ (by decide)]
  exact hclock

theorem bit_blockOff_power (m : Module) {b op : Nat} (hb : b < 32) :
    bit ((m.blockOff b op).rd F.SYSCTL_PWR_STATE_ON) b = (bit (m.rd F.SYSCTL_PWR_STATE_ON) b && op != 2) := by
  cases hop : op == 2 with
  | true =>
    rw [blockOff, hop, when_true, bit_rd_setMap _ _ false 0 0 0 hb, bne, hop]
    simp
  | false =>
    rw [blockOff, hop, when_false, setMap, rd_wr_other _ _ _ _ _ _ _ _ _ _ (by decide), bne, hop]
    simp

theorem blockOff_frame (m : Module) (b op : Nat) : m.blockOff b op = { m with regs := (m.blockOff b op).regs } :=
  when_keeps (P := fun t : Module => t = { m with regs := t.regs }) rfl rfl

/-- A drain that no quarantine range holds, and that no deferred request of its block waits for, ends (R61). -/
theorem gateDrained_eq {m : Module} {sec : Bool} {b op : Nat} (hjob : m.gateJob sec = some ⟨b, op⟩) (hop : op = 0 ∨ op = 2)
    (hheld : m.drainHeld b = false) (hdefer : sec = false ∨ m.rd F.WCT_DEFER_PEND = 0 ∨ m.rd F.WCT_DEFER_BLOCK ≠ b) :
    m.gateDrained sec = (m.blockOff b op).gateDone sec b 0 := by
  have hpend : ((m.blockOff b op).gateDone sec b 0).rd F.WCT_DEFER_PEND = m.rd F.WCT_DEFER_PEND :=
    (regsBut_gateDone _ sec b 0 _ 0 0 0 (by cases sec <;> decide)).trans (regsBut_blockOff m b op _ 0 0 0 (by decide))
  have hblock : ((m.blockOff b op).gateDone sec b 0).rd F.WCT_DEFER_BLOCK = m.rd F.WCT_DEFER_BLOCK :=
    (regsBut_gateDone _ sec b 0 _ 0 0 0 (by cases sec <;> decide)).trans (regsBut_blockOff m b op _ 0 0 0 (by decide))
  have hnone : (sec && ((m.blockOff b op).gateDone sec b 0).flag F.WCT_DEFER_PEND
      && ((m.blockOff b op).gateDone sec b 0).rd F.WCT_DEFER_BLOCK == b) = false := by
    rw [flag_eq, hpend, hblock]
    rcases hdefer with h | h | h <;> simp [h]
  have heven : (op % 2 = 1 || m.drainHeld b) = false := by
    rw [hheld]
    rcases hop with rfl | rfl <;> rfl
  unfold gateDrained
  rw [hjob]
  dsimp only
  rw [heven, if_neg Bool.false_ne_true]
  change ((m.blockOff b op).gateDone sec b 0).when (sec && ((m.blockOff b op).gateDone sec b 0).flag F.WCT_DEFER_PEND
    && ((m.blockOff b op).gateDone sec b 0).rd F.WCT_DEFER_BLOCK == b) _ = _
  rw [hnone, when_false]

theorem gateTimedOut_eq {m : Module} {sec : Bool} {b op : Nat} (hjob : m.gateJob sec = some ⟨b, op⟩)
    (hop : op = 0 ∨ op = 2) : m.gateTimedOut sec = m.gateDone sec b 0x0E := by
  unfold gateTimedOut
  rw [hjob]
  exact if_pos (show op % 2 = 0 by omega)

/-! ### The end of a power-up -/

theorem powerUpEnd_eq {m : Module} {sec : Bool} {b op : Nat} (o : Otp) (hjob : m.gateJob sec = some ⟨b, op⟩)
    (hop : op = 1 ∨ op = 3) :
    powerUpEnd o m sec
      = ((blockClear o (m.powered b) b).1, ((blockClear o (m.powered b) b).2.blockRestart b).gateDone sec b 0) := by
  unfold powerUpEnd
  rw [hjob]
  exact if_neg (show ¬ op % 2 = 0 by omega)

theorem bit_powered_clock (m : Module) {b : Nat} (hb : b < 32) : bit ((m.powered b).rd F.SYSCTL_CLK_STATE_RUN) b = true :=
  bit_rd_setMap _ _ true 0 0 0 hb

theorem bit_powered_power (m : Module) {b : Nat} (hb : b < 32) : bit ((m.powered b).rd F.SYSCTL_PWR_STATE_ON) b = true := by
  rw [powered, setMap, rd_wr_other _ _ _ _ _ _ _ _ _ _ (by decide)]
  exact bit_rd_setMap _ _ true 0 0 0 hb

/-- HST after its reset: what stands outside its window is as before. -/
theorem rd_hstReset (m : Module) (o : Otp) {f : Fam} {i j k : Nat} (hf : f.lo < 64)
    (hout : ¬ (0x21200000 ≤ f.addr i j k ∧ f.addr i j k < 0x21300000)) :
    ((blockClear o m 0x14).2.blockRestart 0x14).rd f i j k = m.rd f i j k := by
  refine (rd_restoreCfg_outside _ hf hout).trans ((rd_clrRange _ _ _ _ i j k hf).trans ?_)
  exact if_neg (fun h => hout ⟨h.1, h.2.1⟩)

theorem hstReset_frame (m : Module) (o : Otp) :
    ((blockClear o m 0x14).2.blockRestart 0x14).sys = m.sys ∧ ((blockClear o m 0x14).2.blockRestart 0x14).mem = m.mem :=
  ⟨rfl, rfl⟩

end Module

theorem exec_gatePowerUpDone {s : State} {sec : Bool} {b op : Nat} (hjob : s.m.gateJob sec = some ⟨b, op⟩)
    (hop : op = 1 ∨ op = 3) :
    exec (.gatePowerUpDone sec) s = .next { s with
      otp := (Module.blockClear s.otp (s.m.powered b) b).1
      m := ((Module.blockClear s.otp (s.m.powered b) b).2.blockRestart b).gateDone sec b 0 } := by
  show Host.Outcome.next { s with
    otp := (Module.powerUpEnd s.otp s.m sec).1
    m := (Module.powerUpEnd s.otp s.m sec).2 } = _
  rw [Module.powerUpEnd_eq s.otp hjob hop]

/-- Settles O17: the requests of both worlds through the fields that a world sees, and the ends of drains and power-ups. -/
theorem gateRequests : Obligations.GateRequests := by
  unfold Obligations.GateRequests
  refine ⟨?clockOff, ?clockOn, ?powerOff, ?powerOn, ?drained, ?timedOut, ?poweredUp, ?hstPoweredUp,
    fun s a block hadm => State.runBy_gateRequest block.val 0 hadm,
    fun s a block hadm => State.runBy_gateRequest block.val 1 hadm,
    fun s a block hadm => State.runBy_gateRequest block.val 2 hadm,
    fun s a block hadm => State.runBy_gateRequest block.val 3 hadm, fun s secure => rfl, fun s secure => rfl,
    fun s secure => rfl⟩
  case clockOff =>
    intro s a block hadm hmay
    exact (State.runBy_gateRequest block.val 0 hadm).trans (congrArg s.to
      (Module.gateRequest_waits (m := s.m.ok) hmay (by omega)))
  case clockOn =>
    intro s a block hadm hmay hon
    have hlt : block.val < 32 := Nat.lt_trans (Module.lt_of_gateRefusal hmay.2.1) (by decide)
    refine ⟨_, (State.runBy_gateRequest block.val 1 hadm).trans (congrArg s.to
      (Module.gateRequest_clockOn (m := s.m.ok) hmay hon)), ?_, Module.rd_gateDone_status _ _ _ (by decide),
      Module.rd_gateDone_block _ _ _ (by omega), Module.rd_gateDone_pend _ _ _ _, ?_, ?_, ?_⟩
    · rw [Module.rd_gateDone_clock]
      exact Module.bit_rd_setMap _ _ true 0 0 0 hlt
    · rw [Module.gateDone_frame]
      rfl
    · rw [Module.gateDone_frame]
      rfl
    · refine Module.regsBut_trans ?_ (Module.regsBut_mono (List.subset_cons_self _ _) (Module.regsBut_gateDone _ _ _ _))
      exact Module.regsBut_setMap _ _ (List.mem_cons_self ..) (Module.regsBut_wr _ (by simp [gateKeys])
        (Module.regsBut_set rfl (Module.regsBut_refl _ s.m)))
  case powerOff =>
    intro s a block hadm hmay
    exact (State.runBy_gateRequest block.val 2 hadm).trans (congrArg s.to
      (Module.gateRequest_waits (m := s.m.ok) hmay (by omega)))
  case powerOn =>
    intro s a block hadm hmay hoff
    exact (State.runBy_gateRequest block.val 3 hadm).trans (congrArg s.to
      (Module.gateRequest_waits (m := s.m.ok) hmay (by simpa using hoff)))
  case drained =>
    intro s sec b op hjob hop hb hheld hdefer
    refine ⟨_, congrArg s.to (Module.gateDrained_eq hjob hop hheld hdefer), ?_, ?_,
      Module.rd_gateDone_status _ _ _ (by decide), Module.rd_gateDone_block _ _ _ (by omega),
      Module.rd_gateDone_pend _ _ _ _, ?_, ?_, ?_⟩
    · rw [Module.rd_gateDone_clock, Module.bit_blockOff_clock _ _ hb]
    · rw [Module.rd_gateDone_power, Module.bit_blockOff_power _ hb]
    · rw [Module.gateDone_frame, Module.blockOff_frame]
    · rw [Module.gateDone_frame, Module.blockOff_frame]
      rfl
    · exact Module.regsBut_trans (Module.regsBut_mono (by simp) (Module.regsBut_blockOff s.m b op))
        (Module.regsBut_mono (fun x hx => by simp [hx]) (Module.regsBut_gateDone _ _ _ _))
  case timedOut =>
    intro s sec b op hjob hop
    refine ⟨_, congrArg s.to (Module.gateTimedOut_eq hjob hop), Module.rd_gateDone_status _ _ _ (by decide),
      Module.rd_gateDone_pend _ _ _ _, ?_, ?_, Module.regsBut_gateDone _ _ _ _⟩
    · rw [Module.gateDone_frame]
    · rw [Module.gateDone_frame]
      rfl
  case poweredUp =>
    exact fun s sec b op hjob hop => exec_gatePowerUpDone hjob hop
  case hstPoweredUp =>
    intro s op hjob hop
    obtain ⟨hsys, hmem⟩ := Module.hstReset_frame (s.m.powered 0x14) s.otp
    refine ⟨_, exec_gatePowerUpDone (sec := true) hjob hop, ?_, ?_, Module.rd_gateDone_status _ true _ (by decide),
      Module.rd_gateDone_pend _ true _ _, ?_, ?_⟩
    · rw [Module.rd_gateDone_clock, Module.rd_hstReset _ _ (by decide) (by decide), Module.bit_powered_clock _ (by decide)]
    · rw [Module.rd_gateDone_power, Module.rd_hstReset _ _ (by decide) (by decide), Module.bit_powered_power _ (by decide)]
    · rw [Module.gateDone_frame]
      exact congrArg (SysSt.gateIdle · true) hsys
    · rw [Module.gateDone_frame]
      exact hmem

end Sys2Proof.Machine
end

section
/-!
SUPPORT. The registers of the supply (R91, R119, R122), and what a record of the error log leaves of the module.
-/
namespace Sys2Proof.Machine
namespace Module

/-! ### CLK_AC -/

theorem regsBut_showClk (m : Module) :
    regsBut [F.SYSCTL_CLK_AC_DIV_ACT.key 0 0 0, F.HST_SUP_STAT_THROTTLE.key 0 0 0] m m.showClk :=
  regsBut_wr _ (by decide) (regsBut_wr _ (by decide) (regsBut_refl _ m))

theorem rd_showClk_divider (m : Module) :
    m.showClk.rd F.SYSCTL_CLK_AC_DIV_ACT = if m.clkForced then 2 else m.rd F.SYSCTL_CLK_AC_DIV_DIV % 4 := by
  rw [showClk, wrb_eq, rd_wr_other _ _ _ _ _ _ _ _ _ _ (by decide), rd_wr_same]
  split <;> rfl

theorem rd_showClk_throttle (m : Module) : m.showClk.rd F.HST_SUP_STAT_THROTTLE = b2n m.clkForced := by
  rw [showClk, wrb_eq, rd_wr_same]
  exact b2n_mod_two m.clkForced

/-! ### The VAUX state -/

theorem regsBut_setVaux (m : Module) (v : Nat) :
    regsBut [F.HST_SUP_STAT_VAUX_STATE.key 0 0 0, F.SYSCTL_CLK_AC_DIV_ACT.key 0 0 0, F.HST_SUP_STAT_THROTTLE.key 0 0 0] m
      (m.setVaux v) :=
  regsBut_trans (regsBut_wr v (by decide) (regsBut_refl _ m)) (regsBut_mono (by simp) (regsBut_showClk _))

theorem rd_setVaux_state (m : Module) (v : Nat) : (m.setVaux v).rd F.HST_SUP_STAT_VAUX_STATE = v % 4 :=
  (regsBut_showClk _ _ 0 0 0 (by decide)).trans (rd_wr_same m F.HST_SUP_STAT_VAUX_STATE v 0 0 0)

/-- CLK_AC is forced outside the normal state, and by the controller's temperature (R119). -/
theorem clkForced_vaux (m : Module) (v : Nat) :
    (m.wr F.HST_SUP_STAT_VAUX_STATE v).clkForced = (v % 4 != 0 || m.sys.tempForce) := by
  rw [clkForced, flag_eq, rd_wr_same]
  rfl

theorem rd_setVaux_divider (m : Module) (v : Nat) :
    (m.setVaux v).rd F.SYSCTL_CLK_AC_DIV_ACT
      = if v % 4 != 0 || m.sys.tempForce then 2 else m.rd F.SYSCTL_CLK_AC_DIV_DIV % 4 := by
  rw [setVaux, rd_showClk_divider, clkForced_vaux, rd_wr_other _ _ _ _ _ _ _ _ _ _ (by decide)]

theorem rd_setVaux_throttle (m : Module) (v : Nat) :
    (m.setVaux v).rd F.HST_SUP_STAT_THROTTLE = b2n (v % 4 != 0 || m.sys.tempForce) := by
  rw [setVaux, rd_showClk_throttle, clkForced_vaux]

/-! ### The events of HST_SUP_EVT -/

/-- The fields of HST_SUP_EVT. -/
def supEventKeys : List Nat :=
  [F.HST_SUP_EVT_DIP.key 0 0 0, F.HST_SUP_EVT_DIP_EXT.key 0 0 0, F.HST_SUP_EVT_WEAK.key 0 0 0, F.HST_SUP_EVT_VS_UV.key 0 0 0,
    F.HST_SUP_EVT_TEMP_WARN.key 0 0 0, F.HST_SUP_EVT_TEMP_THROTTLE.key 0 0 0, F.HST_SUP_EVT_BP_HIGH.key 0 0 0]

/-- An event changes, beside HST_SUP_EVT, HST's own latch of it alone. -/
theorem supEvent_frame (m : Module) (n : Nat) :
    m.supEvent n = { m with regs := (m.supEvent n).regs, hst := { m.hst with sup := setBit m.hst.sup n true } } := by
  unfold supEvent
  split_ifs <;> rfl

theorem supEvent_dip (m : Module) :
    m.supEvent 0 = (m.raise F.HST_SUP_EVT_DIP).latch (fun h => { h with sup := setBit h.sup 0 true }) := rfl

theorem supEvent_vsUv (m : Module) {g : Nat} (hg : g < 4) :
    m.supEvent (4 + g) = (m.setMap F.HST_SUP_EVT_VS_UV g).latch (fun h => { h with sup := setBit h.sup (4 + g) true }) := by
  unfold supEvent
  rw [if_neg (by omega), if_neg (by omega), if_neg (by omega), if_neg (by omega), if_neg (by omega), if_neg (by omega),
    Nat.add_sub_cancel_left]

theorem regsBut_latch {K : List Nat} {m n : Module} {f : HstSt → HstSt} (h : regsBut K m n) : regsBut K m (n.latch f) :=
  regsBut_set rfl h

theorem regsBut_supEvent (m : Module) (n : Nat) : regsBut supEventKeys m (m.supEvent n) := by
  unfold supEvent
  refine regsBut_latch ?_
  split_ifs
  all_goals exact regsBut_wr _ (by decide) (regsBut_refl _ m)

@[simp] theorem supEvent_sys (m : Module) (n : Nat) : (m.supEvent n).sys = m.sys := by rw [supEvent_frame]
@[simp] theorem supEvent_mem (m : Module) (n : Nat) : (m.supEvent n).mem = m.mem := by rw [supEvent_frame]
@[simp] theorem supEvent_chc (m : Module) (n : Nat) : (m.supEvent n).chc = m.chc := by rw [supEvent_frame]

/-- A flag of HST_SUP_STAT that shows `b`, with its event where `c` holds. -/
theorem regsBut_shownEvent (m : Module) (f : Fam) (b c : Bool) (n : Nat) :
    regsBut (f.key 0 0 0 :: supEventKeys) m ((m.wrb f b).when c (·.supEvent n)) := by
  have hflag : regsBut (f.key 0 0 0 :: supEventKeys) m (m.wrb f b) :=
    regsBut_wr _ (List.mem_cons_self ..) (regsBut_refl _ m)
  exact regsBut_when hflag (regsBut_trans hflag (regsBut_mono (List.subset_cons_self _ _) (regsBut_supEvent _ n)))

theorem rd_shownEvent (m : Module) {f : Fam} (b c : Bool) (n : Nat) (hwidth : f.width = 1)
    (hf : f.key 0 0 0 ∉ supEventKeys) : ((m.wrb f b).when c (·.supEvent n)).rd f = b2n b := by
  have hflag : (m.wrb f b).rd f = b2n b := by
    rw [wrb_eq, rd_wr_same, hwidth]
    exact b2n_mod_two b
  refine when_keeps (P := fun t : Module => t.rd f = b2n b) hflag ?_
  rw [regsBut_supEvent _ _ _ 0 0 0 hf]
  exact hflag

/-- The events of HST_SUP_EVT play no part in whether CLK_AC is forced. -/
theorem clkForced_supEvent (m : Module) (n : Nat) : (m.supEvent n).clkForced = m.clkForced := by
  rw [clkForced, clkForced, flag_eq, flag_eq, regsBut_supEvent _ _ _ 0 0 0 (by decide), supEvent_sys]

theorem clkForced_showClk (m : Module) : m.showClk.clkForced = m.clkForced := by
  rw [clkForced, clkForced, flag_eq, flag_eq, regsBut_showClk _ _ 0 0 0 (by decide)]
  rfl

/-! ### Records of the error log -/

/-- The registers that a record changes: FAB's counts, its events, the indices of the ring, and the counts of the guard of
SRAM, in which the ring lies (R368, R390, R394, R397). -/
def logKeys : List Nat :=
  [F.FAB_CNT_DENY_COUNT.key 0 0 0, F.FAB_CNT_UNMAPPED_COUNT.key 0 0 0, F.FAB_CNT_OTHER_COUNT.key 0 0 0,
    F.FAB_EVT_UNCORR.key 0 0 0, F.FAB_EVT_SEAM.key 0 0 0, F.FAB_EVT_RE_LIMIT.key 0 0 0, F.FAB_EVT_LOST.key 0 0 0,
    F.FAB_EVT_NEW.key 0 0 0, F.FAB_LOG_RD_IDX.key 0 0 0, F.FAB_LOG_LOST_COUNT.key 0 0 0, F.FAB_LOG_WR_IDX.key 0 0 0,
    F.FAB_LOG_WR_SEQ.key 0 0 0, F.FAB_MG_CNT_REBUILT.key 0 0 0, F.FAB_MG_CNT_TRANSIENT.key 0 0 0,
    F.FAB_MG_CNT_UNCORR.key 0 0 0]

/-- From `m` to `n` the registers change as by records, and HST latches no event of its own window. -/
structure RecordsOnly (m n : Module) : Prop where
  regs : regsBut logKeys m n
  sup : n.hst.sup = m.hst.sup

theorem recordsOnly_refl (m : Module) : RecordsOnly m m := ⟨regsBut_refl _ m, rfl⟩

theorem recordsOnly_trans {m n t : Module} (h : RecordsOnly m n) (h' : RecordsOnly n t) : RecordsOnly m t :=
  ⟨regsBut_trans h.regs h'.regs, h'.sup.trans h.sup⟩

theorem recordsOnly_mem {m n : Module} (x : MemSt) (h : RecordsOnly m n) : RecordsOnly m { n with mem := x } :=
  ⟨regsBut_set rfl h.regs, h.sup⟩

theorem recordsOnly_fab {m n : Module} (x : FabSt) (h : RecordsOnly m n) : RecordsOnly m { n with fab := x } :=
  ⟨regsBut_set rfl h.regs, h.sup⟩

theorem recordsOnly_latch {m n : Module} {f : HstSt → HstSt} (hf : ∀ x, (f x).sup = x.sup) (h : RecordsOnly m n) :
    RecordsOnly m (n.latch f) :=
  ⟨regsBut_latch h.regs, (hf n.hst).trans h.sup⟩

theorem recordsOnly_wr {m n : Module} {f : Fam} {v i j k : Nat} (hk : f.key i j k ∈ logKeys) (h : RecordsOnly m n) :
    RecordsOnly m (n.wr f v i j k) :=
  ⟨regsBut_wr v hk h.regs, h.sup⟩

theorem recordsOnly_when {m n : Module} {c : Bool} {f : Module → Module} (h : RecordsOnly m n) (hf : RecordsOnly m (f n)) :
    RecordsOnly m (n.when c f) := when_keeps (P := RecordsOnly m) h hf

theorem recordsOnly_logCounts (m : Module) (c : Nat) : RecordsOnly m (m.logCounts c) := by
  unfold logCounts
  extract_lets n1 n2 n3
  have h1 : RecordsOnly m n1 := by
    unfold n1
    split_ifs
    · exact recordsOnly_wr (by decide) (recordsOnly_refl m)
    · exact recordsOnly_wr (by decide) (recordsOnly_refl m)
    · exact recordsOnly_wr (by decide) (recordsOnly_refl m)
    · exact recordsOnly_refl m
  have h2 : RecordsOnly m n2 := recordsOnly_when h1 (recordsOnly_wr (by decide) h1)
  have h3 : RecordsOnly m n3 := recordsOnly_when h2 (recordsOnly_wr (by decide) h2)
  exact recordsOnly_when h3 (recordsOnly_wr (by decide) h3)

theorem recordsOnly_record (m : Module) (r : Rec) : RecordsOnly m (m.record r).1 := by
  have h0 : RecordsOnly m ((m.logCounts r.code).latch (fun h => { h with written := h.written + 1 })) :=
    recordsOnly_latch (fun _ => rfl) (recordsOnly_logCounts m r.code)
  unfold record
  generalize (m.logCounts r.code).latch (fun h => { h with written := h.written + 1 }) = n at h0
  extract_lets m1 t same
  split
  · split
    · exact recordsOnly_mem _ (recordsOnly_fab _ h0)
    · exact h0
  · rename_i i q full m3 x m4 _ _
    have hfull : RecordsOnly m m3 := recordsOnly_when h0 (recordsOnly_latch (fun _ => rfl) (recordsOnly_wr (by decide)
      (recordsOnly_wr (by decide) (recordsOnly_wr (by decide) h0))))
    have hput : RecordsOnly m x.1 := recordsOnly_mem _ hfull
    have hnew : RecordsOnly m m4 :=
      recordsOnly_wr (by decide) (recordsOnly_wr (by decide) (recordsOnly_wr (by decide) hput))
    exact recordsOnly_fab _ hnew

theorem recordsOnly_checksBy {put : Module → Rec → Module} (hput : ∀ m r, RecordsOnly m (put m r)) (m : Module) (r : Rec)
    (base : Nat) (cs : List MemSt.Check) : RecordsOnly m (checksBy put m 0 r base cs) := by
  induction cs generalizing m with
  | nil => exact recordsOnly_refl m
  | cons c cs ih =>
    refine recordsOnly_trans ?_ (ih _)
    dsimp only
    split
    · exact recordsOnly_refl m
    · refine recordsOnly_trans ?_ (hput _ _)
      refine recordsOnly_latch (fun _ => rfl) ?_
      split_ifs
      · exact recordsOnly_wr (by decide) (recordsOnly_refl m)
      · exact recordsOnly_wr (by decide) (recordsOnly_refl m)
      · exact recordsOnly_wr (by decide) (recordsOnly_refl m)
      · exact recordsOnly_refl m

theorem recordsOnly_logN (n : Nat) (m : Module) (r : Rec) : RecordsOnly m (logN n m r) := by
  induction n generalizing m r with
  | zero => exact recordsOnly_record m r
  | succ n ih => exact recordsOnly_trans (recordsOnly_record m r) (recordsOnly_checksBy ih _ _ _ _)

theorem recordsOnly_logBlk (m : Module) (b code addr d0 d1 : Nat) : RecordsOnly m (m.logBlk b code addr d0 d1) :=
  recordsOnly_logN 32 m _

end Module
end Sys2Proof.Machine
end

section
/-!
SUPPORT. The channels: what the operations on one of them, and on each in turn, change and leave (R171, R187, R192, R238).
-/
namespace Sys2Proof.Machine

/-! ### Rounds -/

/-- What each round gives its own index, and every other round keeps, each index of the loop has in the end. -/
theorem forEach_range_each {σ : Type} {P : Nat → σ → Prop} (f : Nat → σ → σ) (hown : ∀ i s, P i (f i s))
    (hkeep : ∀ i j s, j ≠ i → P j s → P j (f i s)) (n : Nat) (s : σ) : ∀ j < n, P j (forEach (List.range n) f s) := by
  induction n with
  | zero => exact fun j hj => absurd hj (Nat.not_lt_zero j)
  | succ n ih =>
    intro j hj
    have hlast : forEach (List.range (n + 1)) f s = f n (forEach (List.range n) f s) := by simp [forEach, List.range_succ]
    rw [hlast]
    by_cases h : j = n
    · subst h
      exact hown j _
    · exact hkeep n j _ h (ih j (by omega))

/-! ### Events of a channel -/

/-- A change that raises no flag latches nothing. -/
theorem Chan.rises_eq_zero {c d : Chan} (hflags : d.flags = c.flags) (hexh : d.exhausted = c.exhausted)
    (hfw : d.fwMissing = c.fwMissing) (hlim : d.limitEnd = c.limitEnd) : c.rises d = 0 := by
  have hnone : ∀ l : List Nat, (∀ b ∈ l, bit c.flags b = true) →
      l.foldl (fun v b => if bit c.flags b then v else v + 2 ^ b) 0 = 0 := by
    intro l hl
    induction l with
    | nil => rfl
    | cons b l ih =>
      rw [List.foldl_cons, if_pos (hl b (List.mem_cons_self ..))]
      exact ih (fun x hx => hl x (List.mem_cons_of_mem _ hx))
  simp only [Chan.rises, hflags, hexh, hfw, hlim, Bool.not_and_self, bitsSet]
  rw [hnone _ (fun b hb => (List.mem_filter.1 hb).2)]
  rfl

namespace Module

/-- A field is aside of the channels' events: it stands below the command pages, and not where CHC_CH_EVT has the word of any
channel (R289). -/
abbrev asideKey (key : Nat) : Prop := key < 0x40060000 * 64 ∧ key / 64 % 16 ≠ 12

/-- What a change of channels, with the events that it latches, changes: channels and HST's latches, and no register field that
stands aside. -/
structure ChannelsOnly (m n : Module) : Prop where
  frame : n = { m with regs := n.regs, chc := { m.chc with chans := n.chc.chans }, hst := n.hst }
  regs : ∀ f i j k, asideKey (f.key i j k) → n.rd f i j k = m.rd f i j k

theorem channelsOnly_refl (m : Module) : ChannelsOnly m m := ⟨rfl, fun _ _ _ _ _ => rfl⟩

theorem channelsOnly_trans {m n t : Module} (h : ChannelsOnly m n) (h' : ChannelsOnly n t) : ChannelsOnly m t :=
  ⟨by rw [h'.frame, h.frame], fun f i j k hk => (h'.regs f i j k hk).trans (h.regs f i j k hk)⟩

theorem grp_of_channelsOnly {m n : Module} (h : ChannelsOnly m n) (g : Nat) : n.grp g = m.grp g := by
  rw [h.frame]
  rfl

theorem mem_of_channelsOnly {m n : Module} (h : ChannelsOnly m n) : n.mem = m.mem := by
  rw [h.frame]

/-- A register of the channels' events is written. -/
theorem channelsOnly_wr (m : Module) {f : Fam} (v : Nat) {i j k : Nat} (hk : ¬ asideKey (f.key i j k)) :
    ChannelsOnly m (m.wr f v i j k) :=
  ⟨rfl, fun g i2 j2 k2 hg => rd_wr_other m f g v i j k i2 j2 k2 (fun e => hk (e ▸ hg))⟩

theorem chcEvt_notAside (n : Nat) : ¬ asideKey (F.CHC_CH_EVT_EVT.key n 0 0) := by
  simp only [asideKey, Fam.key, Fam.addr, F.CHC_CH_EVT_EVT, fam]
  omega

theorem chiEvt_notAside (i n : Nat) : ¬ asideKey (F.CHI_CH_EVT_EVT.key i n 0) := by
  simp only [asideKey, Fam.key, Fam.addr, F.CHI_CH_EVT_EVT, fam]
  omega

theorem chiIrq_notAside (i : Nat) : ¬ asideKey (F.CHI_IRQ_STAT_EVT.key i 0 0) := by
  simp only [asideKey, Fam.key, Fam.addr, F.CHI_IRQ_STAT_EVT, fam]
  omega

/-- Nothing changes but channel `k`, as a change of channels does. -/
structure ChannelOnly (k : Nat) (m n : Module) : Prop extends ChannelsOnly m n where
  others : ∀ i, i ≠ k → n.chan i = m.chan i

theorem channelOnly_refl (k : Nat) (m : Module) : ChannelOnly k m m := ⟨channelsOnly_refl m, fun _ _ => rfl⟩

theorem channelOnly_trans {k : Nat} {m n t : Module} (h : ChannelOnly k m n) (h' : ChannelOnly k n t) : ChannelOnly k m t :=
  ⟨channelsOnly_trans h.toChannelsOnly h'.toChannelsOnly, fun i hi => (h'.others i hi).trans (h.others i hi)⟩

theorem channelOnly_when {k : Nat} {m n : Module} {c : Bool} {f : Module → Module} (h : ChannelOnly k m n)
    (hf : ChannelOnly k n (f n)) : ChannelOnly k m (n.when c f) :=
  when_keeps (P := ChannelOnly k m) h (channelOnly_trans h hf)

theorem channelOnly_wr (k : Nat) (m : Module) {f : Fam} (v : Nat) {i j l : Nat} (hk : ¬ asideKey (f.key i j l)) :
    ChannelOnly k m (m.wr f v i j l) :=
  ⟨channelsOnly_wr m v hk, fun _ _ => rfl⟩

theorem channelOnly_latch (k : Nat) (m : Module) (f : HstSt → HstSt) : ChannelOnly k m (m.latch f) :=
  ⟨⟨rfl, fun _ _ _ _ _ => rfl⟩, fun _ _ => rfl⟩

theorem channelOnly_putChan (k : Nat) (m : Module) (c : Chan) : ChannelOnly k m (m.putChan k c) :=
  ⟨⟨rfl, fun _ _ _ _ _ => rfl⟩, fun i hi => (chan_putChan m k i c).trans (if_neg hi)⟩

theorem channelOnly_latchEvt (k : Nat) (m : Module) (n b : Nat) : ChannelOnly k m (m.latchEvt n b) := by
  unfold latchEvt
  split
  · exact channelOnly_refl k m
  · extract_lets m1 c old m2
    have h1 : ChannelOnly k m m1 := channelOnly_wr k m _ (chcEvt_notAside n)
    have h2 : ChannelOnly k m m2 := channelOnly_trans h1 (channelOnly_wr k m1 _ (chiEvt_notAside _ n))
    split
    · exact h1
    · exact channelOnly_when h2 (channelOnly_wr k m2 1 (chiIrq_notAside _))

theorem channelOnly_setChan (m : Module) (n : Nat) (f : Chan → Chan) : ChannelOnly n m (m.setChan n f) :=
  channelOnly_trans (channelOnly_putChan n m _) (channelOnly_latchEvt n _ _ _)

theorem channelOnly_unlatch (k : Nat) (m : Module) (n : Nat) (t : TripFrom) : ChannelOnly k m (m.unlatch n t) := by
  unfold unlatch
  extract_lets back m1 c
  have h1 : ChannelOnly k m m1 := channelOnly_wr k m _ (chcEvt_notAside n)
  exact channelOnly_when h1 (channelOnly_wr k m1 _ (chiEvt_notAside _ n))

theorem channelOnly_tripRecord (m : Module) (n cause : Nat) (l : Bool) : ChannelOnly n m (m.tripRecord n cause l) := by
  unfold tripRecord
  exact channelOnly_setChan m n _

theorem channelOnly_tripUndo (m : Module) (n : Nat) (t : TripFrom) : ChannelOnly n m (m.tripUndo n t) :=
  channelOnly_trans (channelOnly_putChan n m _) (channelOnly_unlatch n _ n t)

theorem channelOnly_tripAgain (m : Module) (n cause : Nat) (l : Bool) : ChannelOnly n m (m.tripAgain n cause l) := by
  unfold tripAgain
  extract_lets c m1
  have h1 : ChannelOnly n m m1 := channelOnly_when (channelOnly_refl n m) (channelOnly_putChan n m _)
  split
  · split
    · exact channelOnly_trans h1 (channelOnly_trans (channelOnly_tripUndo m1 n _)
        (channelOnly_trans (channelOnly_tripRecord _ n cause l) (channelOnly_setChan _ n _)))
    · exact h1
  · exact h1

theorem channelOnly_trip (m : Module) (n cause : Nat) (hard l : Bool) : ChannelOnly n m (m.trip n cause hard l) := by
  unfold trip
  extract_lets c offPhase turning acts t old m1 m2
  have h2 : ChannelOnly n m m2 := channelOnly_trans (channelOnly_setChan m n _) (channelOnly_tripRecord m1 n cause l)
  split
  · exact channelOnly_tripAgain m n cause l
  · exact channelOnly_when h2 (channelOnly_trans (channelOnly_latchEvt n m2 n _) (channelOnly_latch n _ _))

theorem channelOnly_turnOn (m : Module) (n ns : Nat) (win slew0 : Bool) : ChannelOnly n m (m.turnOn n win ns slew0) := by
  unfold turnOn
  exact channelOnly_when (channelOnly_setChan m n _) (channelOnly_latchEvt n _ n _)

theorem channelOnly_restart (m : Module) (n : Nat) : ChannelOnly n m (m.restart n) := by
  unfold restart
  exact channelOnly_when (channelOnly_refl n m) (channelOnly_turnOn m n 0 true false)

/-- A round that changes one channel each changes channels alone. -/
theorem channelsOnly_forEach (l : List Nat) (f : Nat → Module → Module)
    (hf : ∀ p m, ∃ n, ChannelOnly n m (f p m)) (m : Module) : ChannelsOnly m (forEach l f m) := by
  refine forEach_keeps (P := ChannelsOnly m) l f ?_ m (channelsOnly_refl m)
  intro p t ht
  obtain ⟨n, h⟩ := hf p t
  exact channelsOnly_trans ht h.toChannelsOnly

/-! ### What a channel reads -/

theorem chan_of_chc {m n : Module} (h : n.chc = m.chc) (k : Nat) : n.chan k = m.chan k := by
  rw [chan, chan, h]

theorem chan_setSup (m : Module) (x : SupSt) (k : Nat) : ({ m with sup := x } : Module).chan k = m.chan k := rfl

theorem chan_latchEvt (m : Module) (n b k : Nat) : (m.latchEvt n b).chan k = m.chan k :=
  (channelOnly_latchEvt (k + 1) m n b).others k (Nat.ne_of_lt (Nat.lt_succ_self k))

theorem chan_unlatch (m : Module) (n k : Nat) (t : TripFrom) : (m.unlatch n t).chan k = m.chan k :=
  (channelOnly_unlatch (k + 1) m n t).others k (Nat.ne_of_lt (Nat.lt_succ_self k))

theorem chan_setChan_same (m : Module) (n : Nat) (f : Chan → Chan) : (m.setChan n f).chan n = f (m.chan n) := by
  rw [chan_setChan, if_pos rfl]

theorem chan_putChan_same (m : Module) (n : Nat) (c : Chan) : (m.putChan n c).chan n = c := by
  rw [chan_putChan, if_pos rfl]

theorem chan_latch (m : Module) (f : HstSt → HstSt) (k : Nat) : (m.latch f).chan k = m.chan k := rfl

/-! ### A protection turn-off ends conduction -/

theorem conducting_of_phase {c d : Chan} (h : d.phase = c.phase) : d.conducting = c.conducting := by
  unfold Chan.conducting
  rw [h]

theorem conducting_of_turning {c : Chan} {hard : Bool} (h : c.phase = .turningOff hard) : c.conducting = false := by
  unfold Chan.conducting
  rw [h]
  rfl

theorem conducting_setChan (m : Module) (n : Nat) {f : Chan → Chan} (hf : ∀ c, (f c).phase = c.phase) :
    ((m.setChan n f).chan n).conducting = (m.chan n).conducting := by
  rw [chan_setChan_same]
  exact conducting_of_phase (hf _)

theorem conducting_tripRecord (m : Module) (n cause : Nat) (l : Bool) :
    ((m.tripRecord n cause l).chan n).conducting = (m.chan n).conducting := by
  unfold tripRecord
  exact conducting_setChan m n (fun _ => rfl)

theorem conducting_tripUndo (m : Module) (n : Nat) (t : TripFrom) :
    ((m.tripUndo n t).chan n).conducting = (m.chan n).conducting := by
  rw [tripUndo, chan_unlatch, chan_putChan_same]
  exact conducting_of_phase rfl

/-- A protection that acts on a channel that does not conduct leaves it so. -/
theorem conducting_tripAgain (m : Module) (n cause : Nat) (l : Bool) (h : (m.chan n).conducting = false) :
    ((m.tripAgain n cause l).chan n).conducting = false := by
  unfold tripAgain
  extract_lets c m1
  have h1 : (m1.chan n).conducting = false := by
    refine when_keeps (P := fun t : Module => (t.chan n).conducting = false) h ?_
    rw [chan_putChan_same]
    cases hp : (m.chan n).phase with
    | turningOff hard => exact conducting_of_turning (hard := true) rfl
    | _ => exact (conducting_of_phase hp.symm).trans h
  split
  · split
    · refine (conducting_setChan _ n ?_).trans ?_
      · exact fun _ => rfl
      · rw [conducting_tripRecord, conducting_tripUndo]
        exact h1
    · exact h1
  · exact h1

/-- After a protection turn-off the channel does not conduct (R187, R192). -/
theorem conducting_trip (m : Module) (n cause : Nat) (hard l : Bool) :
    ((m.trip n cause hard l).chan n).conducting = false := by
  unfold trip
  extract_lets c offPhase turning acts t old m1 m2
  have h1 : (m1.chan n).conducting = false := by
    rw [chan_setChan_same]
    cases hc : c.conducting with
    | true => rfl
    | false => exact hc
  have h2 : (m2.chan n).conducting = false := (conducting_tripRecord m1 n cause l).trans h1
  split
  next hidle =>
    have hc : c.conducting = false := by
      cases hc : c.conducting with
      | true => simp [acts, hc] at hidle
      | false => rfl
    exact conducting_tripAgain m n cause l hc
  next =>
    refine when_keeps (P := fun t : Module => (t.chan n).conducting = false) h2 ?_
    rw [chan_latch, chan_latchEvt]
    exact h2

/-! ### Diagnostics -/

/-- Abandoning a diagnostic raises no flag, so that it changes the channel alone. -/
theorem setChan_diag (m : Module) (n : Nat) :
    m.setChan n (fun c => { c with diag := .none }) = m.putChan n { m.chan n with diag := .none } := by
  unfold setChan latchEvt
  exact if_pos (Chan.rises_eq_zero rfl rfl rfl rfl)

/-- Abandoning every diagnostic changes channels alone, and no register. -/
theorem diagAbandon_frame (m : Module) : ∃ chans, m.diagAbandon = { m with chc := { m.chc with chans := chans } } := by
  unfold diagAbandon
  refine forEach_keeps (P := fun t : Module => ∃ chans, t = { m with chc := { m.chc with chans := chans } }) _ _ ?_ m
    ⟨m.chc.chans, rfl⟩
  rintro n t ⟨chans, rfl⟩
  rw [setChan_diag]
  exact ⟨_, rfl⟩

theorem diag_diagAbandon (m : Module) {n : Nat} (hn : n < 128) : (m.diagAbandon.chan n).diag = .none := by
  unfold diagAbandon
  refine forEach_range_each (P := fun i t => (chan t i).diag = .none) _ ?_ ?_ 128 m n hn
  · intro i t
    rw [chan_setChan_same]
  · intro i j t hij hj
    rw [chan_setChan, if_neg hij]
    exact hj

theorem withoutDiag_self {c : Chan} (h : c.diag = .none) : { c with diag := .none } = c := by
  rw [← h]

/-- Every channel stands as before, but for its diagnostic. -/
theorem chan_diagAbandon (m : Module) {n : Nat} (hn : n < 128) :
    m.diagAbandon.chan n = { m.chan n with diag := .none } := by
  have hrest : { m.diagAbandon.chan n with diag := .none } = { m.chan n with diag := .none } := by
    unfold diagAbandon
    refine forEach_keeps (P := fun t : Module => { t.chan n with diag := .none } = { m.chan n with diag := .none }) _ _ ?_ m rfl
    intro i t ht
    rw [chan_setChan]
    split
    next h => exact h ▸ ht
    next => exact ht
  exact (withoutDiag_self (diag_diagAbandon m hn)).symm.trans hrest

end Module
end Sys2Proof.Machine
end

section
/-!
SUPPORT. What VAUX and the load supplies bring (R91, R92, R95, R96, R109, R119, R262): a dip and its end, hold-up, and the
undervoltage of a group.
-/
namespace Sys2Proof.Machine
namespace Module

/-! ### A dip -/

/-- VAUX shows a dip, with its event, and CLK_AC is throttled (R91, R119). -/
def dipShown (m : Module) : Module := (m.setVaux 1).supEvent 0

theorem dipBegins_eq {m : Module} (hup : m.sys.resetHeld = false) (hok : m.rd F.HST_SUP_STAT_VAUX_STATE = 0) :
    m.dipBegins = { m.dipShown.diagAbandon with sup := { m.dipShown.diagAbandon.sup with dipMin := 0xFFFF } } := by
  unfold dipBegins dipShown
  rw [if_neg (by simp [hup, hok])]

/-- The registers do not change while the diagnostics are abandoned. -/
theorem rd_dipBegins {m : Module} (hup : m.sys.resetHeld = false) (hok : m.rd F.HST_SUP_STAT_VAUX_STATE = 0) (f : Fam)
    (i j k : Nat) : m.dipBegins.rd f i j k = m.dipShown.rd f i j k := by
  obtain ⟨chans, hframe⟩ := m.dipShown.diagAbandon_frame
  rw [dipBegins_eq hup hok, hframe]
  rfl

theorem chan_dipBegins {m : Module} (hup : m.sys.resetHeld = false) (hok : m.rd F.HST_SUP_STAT_VAUX_STATE = 0) {n : Nat}
    (hn : n < 128) : m.dipBegins.chan n = { m.chan n with diag := .none } := by
  have hshown : m.dipShown.chan n = m.chan n := chan_of_chc (supEvent_chc _ 0) n
  rw [dipBegins_eq hup hok, chan_setSup, chan_diagAbandon _ hn, hshown]

theorem regsBut_dipShown (m : Module) :
    regsBut [F.HST_SUP_STAT_VAUX_STATE.key 0 0 0, F.HST_SUP_EVT_DIP.key 0 0 0, F.SYSCTL_CLK_AC_DIV_ACT.key 0 0 0,
      F.HST_SUP_STAT_THROTTLE.key 0 0 0] m m.dipShown :=
  regsBut_latch (regsBut_wr 1 (by decide) (regsBut_mono (by decide) (regsBut_setVaux m 1)))

theorem rd_dipShown (m : Module) {f : Fam} {i j k : Nat} (hf : f.key i j k ≠ F.HST_SUP_EVT_DIP.key 0 0 0) :
    m.dipShown.rd f i j k = (m.setVaux 1).rd f i j k := by
  rw [dipShown, supEvent_dip]
  exact rd_wr_other (m.setVaux 1) F.HST_SUP_EVT_DIP f 1 0 0 0 i j k hf

theorem dipEnds_eq {m : Module} (h : m.rd F.HST_SUP_STAT_VAUX_STATE = 1) :
    m.dipEnds = (m.setVaux 0).lower F.HST_SUP_STAT_DIP_EXT := by
  rw [dipEnds, h]
  rfl

/-- DIP_EXT shows a long dip, with its event (R95). -/
def dipLongShown (m : Module) : Module := (m.raise F.HST_SUP_STAT_DIP_EXT).supEvent 1

theorem dipLong_eq {m : Module} (h : m.rd F.HST_SUP_STAT_VAUX_STATE = 1) :
    m.dipLong = m.dipLongShown.logBlk 0x14 0x3403 0 (m.sup.dipMin % 2 ^ 16) := by
  rw [dipLong, h]
  rfl

end Module

/-- Settles O19: the abandoned diagnostics raise no event of a channel, and the record of a long dip leaves the registers of
HST. -/
theorem dipAndItsEnd : Obligations.DipAndItsEnd := by
  unfold Obligations.DipAndItsEnd
  refine ⟨?entry, ?exit, ?extended, fun s => rfl, fun s => rfl, fun s => rfl⟩
  case entry =>
    intro s hup hok
    refine ⟨s.m.dipBegins, rfl, ?_, ?_, ?_, ?_, ?_, ?_, ?_⟩
    · rw [Module.rd_dipBegins hup hok, Module.rd_dipShown _ (by decide), Module.rd_setVaux_state]
    · rw [Module.rd_dipBegins hup hok]
      exact Module.rd_wr_same _ F.HST_SUP_EVT_DIP 1 0 0 0
    · rw [Module.rd_dipBegins hup hok, Module.rd_dipShown _ (by decide), Module.rd_setVaux_divider]
      rfl
    · rw [Module.rd_dipBegins hup hok, Module.rd_dipShown _ (by decide), Module.rd_setVaux_throttle]
      rfl
    · exact fun n hn => Module.chan_dipBegins hup hok (List.mem_range.1 hn)
    · exact fun f i j k hk => (Module.rd_dipBegins hup hok f i j k).trans (s.m.regsBut_dipShown f i j k hk)
    · obtain ⟨chans, hframe⟩ := s.m.dipShown.diagAbandon_frame
      rw [Module.dipBegins_eq hup hok, hframe]
      rfl
  case exit =>
    intro s hdip
    refine ⟨_, congrArg s.to (Module.dipEnds_eq hdip), ?_, ?_, ?_, ?_, rfl⟩
    · rw [Module.lower_eq, Module.rd_wr_other _ _ _ _ _ _ _ _ _ _ (by decide), Module.rd_setVaux_state]
    · rw [Module.lower_eq, Module.rd_wr_same, Nat.zero_mod]
    · rw [Module.lower_eq, Module.rd_wr_other _ _ _ _ _ _ _ _ _ _ (by decide), Module.rd_setVaux_divider]
      rfl
    · rw [Module.lower_eq, Module.rd_wr_other _ _ _ _ _ _ _ _ _ _ (by decide), Module.rd_setVaux_throttle]
      rfl
  case extended =>
    intro s hdip
    have hlog := s.m.dipLongShown.recordsOnly_logBlk 0x14 0x3403 0 (s.m.sup.dipMin % 2 ^ 16) 0
    refine ⟨_, congrArg s.to (Module.dipLong_eq hdip), ?_, ?_, ?_, ?_⟩
    · rw [hlog.regs _ 0 0 0 (by decide), Module.dipLongShown, Module.regsBut_supEvent _ _ _ 0 0 0 (by decide)]
      exact Module.rd_wr_same _ F.HST_SUP_STAT_DIP_EXT 1 0 0 0
    · rw [hlog.regs _ 0 0 0 (by decide)]
      exact Module.rd_wr_same _ F.HST_SUP_EVT_DIP_EXT 1 0 0 0
    · rw [hlog.sup]
      rfl
    · have hchc := congrArg Module.chc (s.m.dipLongShown.logless_logBlk 0x14 0x3403 0 (s.m.sup.dipMin % 2 ^ 16) 0)
      exact hchc

/-! ### Hold-up -/

/-- The image is applied and VAUX is normal, on the ACTIVE unit of a duplex; the ring of the error log is empty. -/
def activeUnitState : State :=
  { m := { (({} : Module).wr F.WCT_LOCK_WORLD_LOCK 1).wr F.DPX_STATE_ROLE 2 with sys := { resetHeld := false } } }

theorem activeUnit_ring_before : activeUnitState.m.mem.byte ringWord = 0 := rfl

set_option maxRecDepth 100000 in
/-- The ring's first record is that of DPX: the supervisor failed by hold-up and the role was released (R694, R695, R724). -/
theorem activeUnit_ring_after : activeUnitState.m.holdupBegins.mem.byte ringWord = 0x0E := by rfl

/-- Refutes O20: on the ACTIVE unit of a duplex hold-up fails the supervisor, which DPX logs, so that the ring of the error log
in memory does not stay as it was at HOLDUP_ENTRY. -/
theorem not_holdupKeepsWhatItMust : ¬ Obligations.HoldupKeepsWhatItMust := by
  unfold Obligations.HoldupKeepsWhatItMust
  rintro ⟨-, hentry, -⟩
  obtain ⟨t, ht, -, -, -, hmem, -⟩ := hentry activeUnitState rfl (by decide) (by decide)
  have hbegun : activeUnitState.m.holdupBegins = t := State.to_inj ht
  have hafter := activeUnit_ring_after
  rw [hbegun, hmem, activeUnit_ring_before] at hafter
  exact absurd hafter (by decide)

namespace Module

/-! ### The undervoltage of a load supply -/

/-- Channel `n` turns off hard because its supply is in undervoltage (R109, R192, R238). -/
def uvTurnsOff (m : Module) (n : Nat) : Module :=
  (m.trip n 6 true).setChan n (fun c =>
    { c with pulse := false, phase := match c.phase with | .turningOff _ => .turningOff true | x => x })

theorem channelOnly_uvTurnsOff (m : Module) (n : Nat) : ChannelOnly n m (m.uvTurnsOff n) :=
  channelOnly_trans (channelOnly_trip m n 6 true false) (channelOnly_setChan _ n _)

/-- Then it is off, or in a hard turn-off. -/
theorem phase_uvTurnsOff (m : Module) (n : Nat) :
    ((m.uvTurnsOff n).chan n).phase = .off ∨ ((m.uvTurnsOff n).chan n).phase = .turningOff true := by
  have hoff := conducting_trip m n 6 true false
  unfold uvTurnsOff
  rw [chan_setChan_same]
  cases hp : ((m.trip n 6 true).chan n).phase with
  | off => exact .inl rfl
  | turningOff hard => exact .inr rfl
  | turningOn => simp [Chan.conducting, hp] at hoff
  | on => simp [Chan.conducting, hp] at hoff

/-- VS_UV of group `g`, and its event, show the undervoltage. -/
def uvShown (m : Module) (g : Nat) : Module := (m.setMap F.HST_SUP_STAT_VS_UV g).supEvent (4 + g)

theorem uvEnters_eq {m : Module} {g : Nat} (hup : m.sys.resetHeld = false) (hok : bit (m.rd F.HST_SUP_STAT_VS_UV) g = false) :
    m.uvEnters g = forEach (List.range 32) (fun p t => t.uvTurnsOff (32 * g + p)) (m.uvShown g) := by
  unfold uvEnters
  rw [if_neg (by simp [hup, hok])]
  rfl

theorem uvShown_bits (m : Module) {g : Nat} (hg : g < 4) :
    bit ((m.uvShown g).rd F.HST_SUP_STAT_VS_UV) g = true ∧ bit ((m.uvShown g).rd F.HST_SUP_EVT_VS_UV) g = true := by
  constructor
  · rw [uvShown, regsBut_supEvent _ _ _ 0 0 0 (by decide)]
    exact bit_rd_setMap m F.HST_SUP_STAT_VS_UV true 0 0 0 hg
  · rw [uvShown, supEvent_vsUv _ hg]
    exact bit_rd_setMap _ F.HST_SUP_EVT_VS_UV true 0 0 0 hg

/-- VS_UV of group `g` clears, and the conversions of its VS_ref are gone (R262). -/
def uvCleared (m : Module) (g : Nat) : Module :=
  (m.setMap F.HST_SUP_STAT_VS_UV g false).setGrp g { m.grp g with vsConv := [], droopRun := 0, droop := false }

theorem uvLeaves_eq {m : Module} {g : Nat} (hup : m.sys.resetHeld = false) (huv : bit (m.rd F.HST_SUP_STAT_VS_UV) g = true) :
    m.uvLeaves g = forEach (List.range 32) (fun p t => t.restart (32 * g + p)) (m.uvCleared g) := by
  unfold uvLeaves
  rw [if_neg (by simp [hup, huv])]
  rfl

end Module

/-- Settles O21: each of the 32 rounds ends the conduction of its own channel and leaves the other channels, the registers of HST
and memory. -/
theorem loadSupplyUndervoltage : Obligations.LoadSupplyUndervoltage := by
  unfold Obligations.LoadSupplyUndervoltage
  refine ⟨?enters, ?leaves, fun s group => rfl, fun s group => rfl⟩
  case enters =>
    intro s group hup hok
    have hrounds := Module.channelsOnly_forEach (List.range 32) (fun p t => t.uvTurnsOff (32 * group.val + p))
      (fun p t => ⟨_, Module.channelOnly_uvTurnsOff t (32 * group.val + p)⟩) (s.m.uvShown group.val)
    obtain ⟨hstat, hevt⟩ := s.m.uvShown_bits group.isLt
    refine ⟨_, congrArg s.to (Module.uvEnters_eq hup hok), ?_, ?_, ?_, ?_⟩
    · rw [hrounds.regs _ 0 0 0 (by decide)]
      exact hstat
    · rw [hrounds.regs _ 0 0 0 (by decide)]
      exact hevt
    · intro p hp
      refine forEach_range_each (P := fun p t => (Module.chan t (32 * group.val + p)).phase = .off
        ∨ (Module.chan t (32 * group.val + p)).phase = .turningOff true) _ ?_ ?_ 32 _ p (List.mem_range.1 hp)
      · exact fun i t => t.phase_uvTurnsOff (32 * group.val + i)
      · intro i j t hij hj
        rw [(t.channelOnly_uvTurnsOff (32 * group.val + i)).others _ (by omega)]
        exact hj
    · rw [Module.mem_of_channelsOnly hrounds, Module.uvShown, Module.supEvent_mem]
      rfl
  case leaves =>
    intro s group hup huv
    have hrounds := Module.channelsOnly_forEach (List.range 32) (fun p t => t.restart (32 * group.val + p))
      (fun p t => ⟨_, Module.channelOnly_restart t (32 * group.val + p)⟩) (s.m.uvCleared group.val)
    refine ⟨_, congrArg s.to (Module.uvLeaves_eq hup huv), ?_, ?_, ?_⟩
    · rw [hrounds.regs _ 0 0 0 (by decide)]
      exact Module.bit_rd_setMap s.m F.HST_SUP_STAT_VS_UV false 0 0 0 group.isLt
    · rw [Module.grp_of_channelsOnly hrounds, Module.uvCleared, Module.grp_setGrp, if_pos rfl]
    · rw [Module.mem_of_channelsOnly hrounds]
      rfl

end Sys2Proof.Machine
end

section
/-!
SUPPORT. The monitors (R102, R119, R120, R122): what a conversion shows, and what is judged after it.
-/
namespace Sys2Proof.Machine

theorem sat_of_lt {w v : Nat} (h : v < 2 ^ w) : sat w v = v := Nat.min_eq_left (by omega)

theorem unsigned_mod (w : Nat) (x : Int) : unsigned w x % 2 ^ w = unsigned w x := by
  refine Nat.mod_eq_of_lt ?_
  have hpos : (0 : Int) < 2 ^ w := by positivity
  have hlt := Int.emod_lt_of_pos x hpos
  rw [unsigned, Int.toNat_lt (Int.emod_nonneg x hpos.ne')]
  exact_mod_cast hlt

/-- A value that fits a field stands in it as it is. -/
theorem sat_mod {w v : Nat} (h : v < 2 ^ w) : sat w v % 2 ^ w = v := by
  rw [sat_of_lt h]
  exact Nat.mod_eq_of_lt h

namespace Module

/-! ### HOLDUP_WEAK (R102) -/

theorem regsBut_weakJudge (m : Module) (mv : Nat) :
    regsBut (F.HST_SUP_STAT_HOLDUP_WEAK.key 0 0 0 :: supEventKeys) m (m.weakJudge mv) := by
  unfold weakJudge
  exact regsBut_shownEvent m _ _ _ 2

theorem weakJudge_frame (m : Module) (mv : Nat) : ∃ r h, m.weakJudge mv = { m with regs := r, hst := h } := by
  unfold weakJudge
  refine when_keeps (P := fun t : Module => ∃ r h, t = { m with regs := r, hst := h }) ⟨_, _, rfl⟩ ?_
  rw [supEvent_frame]
  exact ⟨_, _, rfl⟩

theorem rd_weakJudge (m : Module) (mv : Nat) :
    (m.weakJudge mv).rd F.HST_SUP_STAT_HOLDUP_WEAK
      = b2n (! m.sup.measured || decide (mv < 29000) || decide (m.rd F.HST_HOLDUP_CAP_UF < 2000)) := by
  unfold weakJudge
  exact rd_shownEvent m _ _ 2 rfl (by decide)

/-! ### The voltages (R122) -/

/-- The conversions as HST shows them. -/
def voltagesShown (m : Module) (vaux vhold : Nat) (vs : List Nat) : Module :=
  (((((m.wr F.HST_VAUX_MV_NOW (sat 16 vaux)).wr F.HST_VHOLD_MV_NOW (sat 16 vhold)).wr F.HST_VS_MV_A_NOW
    (sat 16 (vs.getD 0 0))).wr F.HST_VS_MV_B_NOW (sat 16 (vs.getD 1 0))).wr F.HST_VS_MV_C_NOW (sat 16 (vs.getD 2 0))).wr
    F.HST_VS_MV_D_NOW (sat 16 (vs.getD 3 0))

/-- The lowest VAUX so far: that of the register, that of HST's report, and in a dip that of the dip. -/
def vauxTracked (m : Module) (v : Nat) : Module :=
  let n := (m.wr F.HST_VAUX_MV_MIN (min v (m.rd F.HST_VAUX_MV_MIN))).latch (fun h => { h with vmin := min v h.vmin })
  n.when (n.rd F.HST_SUP_STAT_VAUX_STATE == 1) (fun t => { t with sup := { t.sup with dipMin := min v t.sup.dipMin } })

theorem voltages_eq {m : Module} (hup : m.sys.resetHeld = false) (vaux vhold : Nat) (vs : List Nat) :
    m.voltages vaux vhold vs = ((m.voltagesShown vaux vhold vs).vauxTracked (sat 16 vaux)).weakJudge vhold := by
  unfold voltages
  rw [if_neg (by simp [hup])]
  rfl

theorem regs_vauxTracked (m : Module) (v : Nat) :
    (m.vauxTracked v).regs = (m.wr F.HST_VAUX_MV_MIN (min v (m.rd F.HST_VAUX_MV_MIN))).regs :=
  when_keeps (P := fun t : Module => t.regs = (m.wr F.HST_VAUX_MV_MIN (min v (m.rd F.HST_VAUX_MV_MIN))).regs) rfl rfl

theorem vauxTracked_frame (m : Module) (v : Nat) : ∃ r h x, m.vauxTracked v = { m with regs := r, hst := h, sup := x } := by
  unfold vauxTracked
  exact when_keeps (P := fun t : Module => ∃ r h x, t = { m with regs := r, hst := h, sup := x }) ⟨_, _, _, rfl⟩
    ⟨_, _, _, rfl⟩

theorem voltages_frame {m : Module} (hup : m.sys.resetHeld = false) (vaux vhold : Nat) (vs : List Nat) :
    ∃ r h x, m.voltages vaux vhold vs = { m with regs := r, hst := h, sup := x } := by
  obtain ⟨r, h, hweak⟩ := weakJudge_frame ((m.voltagesShown vaux vhold vs).vauxTracked (sat 16 vaux)) vhold
  obtain ⟨r', h', x, htrack⟩ := vauxTracked_frame (m.voltagesShown vaux vhold vs) (sat 16 vaux)
  rw [voltages_eq hup, hweak, htrack]
  exact ⟨r, h, x, rfl⟩

/-- The judgement of hold-up leaves what the conversions show. -/
theorem rd_voltages {m : Module} (hup : m.sys.resetHeld = false) (vaux vhold : Nat) (vs : List Nat) {f : Fam}
    (hf : f.key 0 0 0 ∉ F.HST_SUP_STAT_HOLDUP_WEAK.key 0 0 0 :: supEventKeys) :
    (m.voltages vaux vhold vs).rd f = ((m.voltagesShown vaux vhold vs).wr F.HST_VAUX_MV_MIN
      (min (sat 16 vaux) ((m.voltagesShown vaux vhold vs).rd F.HST_VAUX_MV_MIN))).rd f := by
  rw [voltages_eq hup, regsBut_weakJudge _ _ _ 0 0 0 hf, rd, rd, regs_vauxTracked]

/-! ### The temperatures (R119, R120, R122) -/

/-- The conversions as HST shows them. -/
def temperaturesShown (m : Module) (ctl bp : Int) (ps : List Int) : Module :=
  (((((m.wr F.HST_TEMP_CTL_DEG (unsigned 16 ctl)).wr F.HST_TEMP_BP_DEG (unsigned 16 bp)).wr F.HST_TEMP_PS_A_DEG
    (unsigned 16 (ps.getD 0 0))).wr F.HST_TEMP_PS_B_DEG (unsigned 16 (ps.getD 1 0))).wr F.HST_TEMP_PS_C_DEG
    (unsigned 16 (ps.getD 2 0))).wr F.HST_TEMP_PS_D_DEG (unsigned 16 (ps.getD 3 0))

/-- TEMP_WARN shows `warn`, and its event follows where it rises. -/
def tempWarned (m : Module) (warn : Bool) : Module :=
  (m.wrb F.HST_SUP_STAT_TEMP_WARN warn).when (warn && ! m.flag F.HST_SUP_STAT_TEMP_WARN) (·.supEvent 8)

/-- CLK_AC is forced from 120 °C of the controller, in 1/16 °C, until it is below 110 °C; `before` is what it was. -/
def tempThrottled (m : Module) (before ctl : Int) : Module :=
  ((m.when (decide (120 * 16 ≤ ctl) && decide (before < 120 * 16)) (·.supEvent 9)).when (decide (120 * 16 ≤ ctl))
    (fun t => { t with sys := { t.sys with tempForce := true } })).when (decide (ctl < 110 * 16))
    (fun t => { t with sys := { t.sys with tempForce := false } })

/-- The module before the divider and the baseplate are judged. -/
def tempJudged (m : Module) (ctl bp : Int) (ps : List Int) : Module :=
  ((m.temperaturesShown ctl bp ps).tempWarned (decide (115 * 16 ≤ ctl))).tempThrottled (signed 16 (m.rd F.HST_TEMP_CTL_DEG)) ctl

theorem temperatures_eq {m : Module} (hup : m.sys.resetHeld = false) (ctl bp : Int) (ps : List Int) :
    m.temperatures ctl bp ps = (m.tempJudged ctl bp ps).showClk.when
      (decide ((m.tempJudged ctl bp ps).bpLimit * 16 < bp)) (·.supEvent 10) := by
  unfold temperatures
  rw [if_neg (by simp [hup])]
  rfl

theorem regsBut_tempWarned (m : Module) (warn : Bool) :
    regsBut (F.HST_SUP_STAT_TEMP_WARN.key 0 0 0 :: supEventKeys) m (m.tempWarned warn) := by
  unfold tempWarned
  exact regsBut_shownEvent m _ _ _ 8

theorem rd_tempWarned (m : Module) (warn : Bool) : (m.tempWarned warn).rd F.HST_SUP_STAT_TEMP_WARN = b2n warn := by
  unfold tempWarned
  exact rd_shownEvent m _ _ 8 rfl (by decide)

theorem tempWarned_sys (m : Module) (warn : Bool) : (m.tempWarned warn).sys = m.sys := by
  unfold tempWarned
  exact when_keeps (P := fun t : Module => t.sys = m.sys) rfl (supEvent_sys _ 8)

theorem regsBut_tempThrottled (m : Module) (before ctl : Int) : regsBut supEventKeys m (m.tempThrottled before ctl) := by
  have hevent : regsBut supEventKeys m
      (m.when (decide (120 * 16 ≤ ctl) && decide (before < 120 * 16)) (·.supEvent 9)) :=
    regsBut_when (regsBut_refl _ m) (regsBut_supEvent m 9)
  have hforced := regsBut_when (c := decide (120 * 16 ≤ ctl))
    (f := fun t => { t with sys := { t.sys with tempForce := true } }) hevent (regsBut_set rfl hevent)
  exact regsBut_when hforced (regsBut_set rfl hforced)

theorem tempThrottled_sys (m : Module) (before ctl : Int) :
    (m.tempThrottled before ctl).sys = { m.sys with
      tempForce := decide (120 * 16 ≤ ctl) || (m.sys.tempForce && decide (110 * 16 ≤ ctl)) } := by
  have hevent : (m.when (decide (120 * 16 ≤ ctl) && decide (before < 120 * 16)) (·.supEvent 9)).sys = m.sys :=
    when_keeps (P := fun t : Module => t.sys = m.sys) rfl (supEvent_sys m 9)
  unfold tempThrottled
  generalize m.when (decide (120 * 16 ≤ ctl) && decide (before < 120 * 16)) (·.supEvent 9) = n at hevent ⊢
  rw [← hevent]
  by_cases hhot : 120 * 16 ≤ ctl
  · have hwarm : ¬ ctl < 110 * 16 := by omega
    rw [decide_eq_true hhot, decide_eq_false hwarm, when_true, when_false, Bool.true_or]
  · rw [decide_eq_false hhot, when_false, Bool.false_or]
    by_cases hcool : ctl < 110 * 16
    · have hbelow : ¬ 110 * 16 ≤ ctl := by omega
      rw [decide_eq_true hcool, decide_eq_false hbelow, when_true, Bool.and_false]
    · have habove : 110 * 16 ≤ ctl := by omega
      rw [decide_eq_false hcool, decide_eq_true habove, when_false, Bool.and_true]

/-- After the conversion, everything but HST_SUP_EVT stands as with the divider shown. -/
theorem rd_temperatures {m : Module} (hup : m.sys.resetHeld = false) (ctl bp : Int) (ps : List Int) {f : Fam}
    (hf : f.key 0 0 0 ∉ supEventKeys) : (m.temperatures ctl bp ps).rd f = (m.tempJudged ctl bp ps).showClk.rd f := by
  rw [temperatures_eq hup]
  exact regsBut_when (regsBut_refl _ _) (regsBut_supEvent _ 10) f 0 0 0 hf

theorem clkForced_temperatures {m : Module} (hup : m.sys.resetHeld = false) (ctl bp : Int) (ps : List Int) :
    (m.temperatures ctl bp ps).clkForced = (m.tempJudged ctl bp ps).clkForced := by
  rw [temperatures_eq hup]
  refine when_keeps (P := fun t : Module => t.clkForced = (m.tempJudged ctl bp ps).clkForced) (clkForced_showClk _) ?_
  exact (clkForced_supEvent _ 10).trans (clkForced_showClk _)

theorem temperatures_sys {m : Module} (hup : m.sys.resetHeld = false) (ctl bp : Int) (ps : List Int) :
    (m.temperatures ctl bp ps).sys = { m.sys with
      tempForce := decide (120 * 16 ≤ ctl) || (m.sys.tempForce && decide (110 * 16 ≤ ctl)) } := by
  have hjudged : (m.tempJudged ctl bp ps).sys = { m.sys with
      tempForce := decide (120 * 16 ≤ ctl) || (m.sys.tempForce && decide (110 * 16 ≤ ctl)) } := by
    rw [tempJudged, tempThrottled_sys, tempWarned_sys]
    rfl
  rw [temperatures_eq hup]
  refine when_keeps (P := fun t : Module => t.sys = _) hjudged ?_
  exact (supEvent_sys _ 10).trans hjudged

/-- The fields that the judgements leave read what the conversions show. -/
theorem rd_tempJudged (m : Module) (ctl bp : Int) (ps : List Int) {f : Fam}
    (hf : f.key 0 0 0 ∉ F.HST_SUP_STAT_TEMP_WARN.key 0 0 0 :: supEventKeys) :
    (m.tempJudged ctl bp ps).rd f = (m.temperaturesShown ctl bp ps).rd f :=
  regsBut_trans (regsBut_tempWarned _ _) (regsBut_mono (List.subset_cons_self _ _) (regsBut_tempThrottled _ _ _)) f 0 0 0 hf

/-! ### The capacitance (R102) -/

/-- HST_HOLDUP_CAP shows the capacitance, and the measurement is over. -/
def capShown (m : Module) (uf : Nat) : Module :=
  { (m.wr F.HST_HOLDUP_CAP_UF (sat 16 uf)).raise F.HST_HOLDUP_CAP_VALID with
    sup := { m.sup with measuring := false, measured := true } }

theorem capMeasured_eq {m : Module} (h : m.sup.measuring = true) (uf : Nat) :
    m.capMeasured uf = (m.capShown uf).weakJudge ((m.capShown uf).rd F.HST_VHOLD_MV_NOW) := by
  unfold capMeasured
  rw [if_neg (by simp [h])]
  rfl

theorem rd_capShown_uf (m : Module) {uf : Nat} (h : uf < 2 ^ 16) : (m.capShown uf).rd F.HST_HOLDUP_CAP_UF = uf := by
  refine (rd_wr_other _ F.HST_HOLDUP_CAP_VALID F.HST_HOLDUP_CAP_UF 1 0 0 0 0 0 0 (by decide)).trans ?_
  rw [rd_wr_same]
  exact sat_mod h

theorem rd_capShown_valid (m : Module) (uf : Nat) : (m.capShown uf).rd F.HST_HOLDUP_CAP_VALID = 1 :=
  rd_wr_same _ F.HST_HOLDUP_CAP_VALID 1 0 0 0

theorem rd_capShown_vhold (m : Module) (uf : Nat) :
    (m.capShown uf).rd F.HST_VHOLD_MV_NOW = m.rd F.HST_VHOLD_MV_NOW :=
  (rd_wr_other _ F.HST_HOLDUP_CAP_VALID F.HST_VHOLD_MV_NOW 1 0 0 0 0 0 0 (by decide)).trans
    (rd_wr_other m F.HST_HOLDUP_CAP_UF F.HST_VHOLD_MV_NOW _ 0 0 0 0 0 0 (by decide))

end Module

/-- Settles O22: each conversion is a row of register writes, and what is judged after it leaves them. -/
theorem monitorConversions : Obligations.MonitorConversions := by
  unfold Obligations.MonitorConversions
  refine ⟨?voltages, ?temperatures, ?measure, ?measured, fun s vaux vhold vs => rfl, fun s uf => rfl⟩
  case voltages =>
    intro s vaux vhold v0 v1 v2 v3 hup hv
    obtain ⟨hvaux, hvhold, h0, h1, h2, h3⟩ := hv
    have hrd := fun f hf => Module.rd_voltages (f := f) hup vaux vhold [v0, v1, v2, v3] hf
    obtain ⟨r, h, x, hframe⟩ := Module.voltages_frame hup vaux vhold [v0, v1, v2, v3]
    refine ⟨s.m.voltages vaux vhold [v0, v1, v2, v3], rfl, ?_, ?_, ?_, ?_, ?_, ?_, ?_, by rw [hframe], by rw [hframe]⟩
    all_goals
      rw [hrd _ (by decide)]
      simp (disch := decide) only [Module.voltagesShown, Module.rd_wr_same, Module.rd_wr_other]
    · exact sat_mod hvaux
    · exact sat_mod hvhold
    · exact sat_mod h0
    · exact sat_mod h1
    · exact sat_mod h2
    · exact sat_mod h3
    · rw [sat_of_lt hvaux]
      exact Nat.mod_eq_of_lt (lt_of_le_of_lt (min_le_left _ _) hvaux)
  case temperatures =>
    intro s ctl bp p0 p1 p2 p3 hup
    have hrd := fun f hf => Module.rd_temperatures (f := f) hup ctl bp [p0, p1, p2, p3] hf
    have hforced : (s.m.temperatures ctl bp [p0, p1, p2, p3]).clkForced
        = (s.m.tempJudged ctl bp [p0, p1, p2, p3]).clkForced := Module.clkForced_temperatures hup ctl bp _
    refine ⟨s.m.temperatures ctl bp [p0, p1, p2, p3], rfl, ?_, ?_, ?_, ?_, ?_, ?_, ?warn,
      Module.temperatures_sys hup ctl bp _, ?divider⟩
    case warn =>
      rw [hrd _ (by decide), Module.regsBut_showClk _ _ 0 0 0 (by decide), Module.tempJudged,
        Module.regsBut_tempThrottled _ _ _ _ 0 0 0 (by decide), Module.rd_tempWarned]
    case divider =>
      rw [hforced, hrd _ (by decide), Module.rd_showClk_divider, Module.rd_tempJudged _ _ _ _ (by decide)]
      simp (disch := decide) only [Module.temperaturesShown, Module.rd_wr_other]
    all_goals
      rw [hrd _ (by decide), Module.regsBut_showClk _ _ 0 0 0 (by decide), Module.rd_tempJudged _ _ _ _ (by decide)]
      simp (disch := decide) only [Module.temperaturesShown, Module.rd_wr_same, Module.rd_wr_other]
      exact unsigned_mod 16 _
  case measure =>
    intro s hup
    show s.to (s.m.when (! s.m.sys.resetHeld) _) = _
    rw [hup]
    rfl
  case measured =>
    intro s uf hmeas huf
    obtain ⟨r, h, hframe⟩ := Module.weakJudge_frame (s.m.capShown uf) ((s.m.capShown uf).rd F.HST_VHOLD_MV_NOW)
    refine ⟨_, congrArg s.to (Module.capMeasured_eq hmeas uf), ?_, ?_, ?_, ?_⟩
    · rw [Module.regsBut_weakJudge _ _ _ 0 0 0 (by decide), Module.rd_capShown_uf _ huf]
    · rw [Module.regsBut_weakJudge _ _ _ 0 0 0 (by decide), Module.rd_capShown_valid]
    · rw [Module.rd_weakJudge, Module.rd_capShown_uf _ huf, Module.rd_capShown_vhold]
      rfl
    · rw [hframe]
      rfl

end Sys2Proof.Machine
end

section
/-!
SUPPORT. Fuses only blow (R153, R158, R159, R786): each operation that programs the OTP lets it grow, and every command and
tick is one of them or leaves the OTP.
-/
namespace Sys2Proof.Machine

/-! ### Growth -/

theorem BromSlot.grows_trans {x y z : BromSlot} (h : x.grows y) (h' : y.grows z) : x.grows z := by
  obtain ⟨hu, hv, hr⟩ := h
  obtain ⟨hu', hv', hr'⟩ := h'
  refine ⟨fun hx => ?_, hv' ∘ hv, hr' ∘ hr⟩
  obtain ⟨hy, hb⟩ := hu hx
  obtain ⟨hz, hb'⟩ := hu' hy
  exact ⟨hz, hb'.trans hb⟩

/-- The second slot of a growth may be revoked. -/
theorem BromSlot.grows_revoke {x y : BromSlot} (h : x.grows y) : x.grows { y with revoked := true } := by
  obtain ⟨hu, hv, -⟩ := h
  exact ⟨hu, hv, fun _ => rfl⟩

/-- A free slot may be programmed. -/
theorem BromSlot.grows_program {x y : BromSlot} (hx : x.used = false) (h : x.grows y) (b : List Byte) :
    x.grows { y with block := b, used := true, valid := true } := by
  obtain ⟨-, -, hr⟩ := h
  exact ⟨fun hu => absurd hu (by simp [hx]), fun _ => rfl, hr⟩

theorem within_or (x y : Nat) : within x (x ||| y) := fun n h => by simp [h]

namespace Otp

theorem grows_trans {x y z : Otp} (h : x.grows y) (h' : y.grows z) : x.grows z := by
  obtain ⟨h0, h1, h2, hr, hc, he, hh, hb⟩ := h
  obtain ⟨h0', h1', h2', hr', hc', he', hh', hb'⟩ := h'
  exact ⟨fun n => h0' n ∘ h0 n, fun n => h1' n ∘ h1 n, fun n => h2' n ∘ h2 n, fun n => hr' n ∘ hr n, hc.trans hc',
    he'.trans he, hh'.trans hh, fun i => BromSlot.grows_trans (hb i) (hb' i)⟩

theorem grows_blow (o : Otp) (b : Nat) :
    o.grows { o with lc0 := o.lc0 ||| b, lc1 := o.lc1 ||| b, lc2 := o.lc2 ||| b } := by
  obtain ⟨-, -, -, hr, hc, he, hh, hb⟩ := grows_refl o
  exact ⟨within_or _ _, within_or _ _, within_or _ _, hr, hc, he, hh, hb⟩

theorem grows_revoke (o : Otp) (k : Nat) : o.grows { o with revoked := o.revoked ||| k } := by
  obtain ⟨h0, h1, h2, -, hc, he, hh, hb⟩ := grows_refl o
  exact ⟨h0, h1, h2, within_or _ _, hc, he, hh, hb⟩

theorem grows_count (o : Otp) (n : Nat) : o.grows { o with counter := o.counter + n } := by
  obtain ⟨h0, h1, h2, hr, -, he, hh, hb⟩ := grows_refl o
  exact ⟨h0, h1, h2, hr, Nat.le_add_right _ _, he, hh, hb⟩

theorem grows_brom {o : Otp} {t : Tbl BromSlot} (h : ∀ i, BromSlot.grows (tget {} o.brom i) (tget {} t i)) :
    o.grows { o with brom := t } := by
  obtain ⟨h0, h1, h2, hr, hc, he, hh, -⟩ := grows_refl o
  exact ⟨h0, h1, h2, hr, hc, he, hh, h⟩

end Otp

/-- Changes of patch slots, one after the other, of which none takes back what stood at first. -/
theorem brom_foldl_grows {t0 : Tbl BromSlot} (key : Nat → Nat) (f : Nat → BromSlot → BromSlot) (l : List Nat)
    (hf : ∀ n ∈ l, ∀ x, BromSlot.grows (tget {} t0 (key n)) x → BromSlot.grows (tget {} t0 (key n)) (f n x)) (i : Nat) :
    BromSlot.grows (tget {} t0 i) (tget {} (l.foldl (fun t n => tmod {} t (key n) (f n)) t0) i) := by
  refine List.foldlRecOn (motive := fun t => ∀ i, BromSlot.grows (tget {} t0 i) (tget {} t i)) l _ (fun i => ?_)
    (fun t ht n hn i => ?_) i
  · exact (Otp.grows_refl { brom := t0 }).2.2.2.2.2.2.2 i
  · rw [tget_tmod]
    split
    next h => exact h ▸ hf n hn _ (ht (key n))
    next => exact ht i

/-- What both outcomes leave blown, a choice between them does. -/
theorem Otp.grows_ite {o : Otp} {c : Prop} [Decidable c] {x y : Otp × Module} (hx : o.grows x.1) (hy : o.grows y.1) :
    o.grows (if c then x else y).1 := by
  split
  · exact hx
  · exact hy

namespace Module

/-! ### The start and the life cycle (R158, R161) -/

theorem lcProgramDone_grows (o : Otp) (m : Module) : o.grows (lcProgramDone o m).1 := by
  unfold lcProgramDone
  split
  · exact Otp.grows_refl o
  · exact Otp.grows_blow o _

theorem ownerRevoke_grows (o : Otp) (m : Module) (a : Access) (v : Nat) : o.grows (ownerRevoke o m a v).1 := by
  unfold ownerRevoke
  split
  · exact Otp.grows_refl o
  · exact Otp.grows_ite (Otp.grows_refl o) (Otp.grows_revoke o _)

/-! ### Updates (R774–R792) -/

/-- Operations on OTP and module, one after the other. -/
theorem foldl_grows {f : Otp × Module → Nat → Otp × Module} (hf : ∀ s n, Otp.grows s.1 (f s n).1) (l : List Nat)
    (s : Otp × Module) : s.1.grows (l.foldl f s).1 :=
  List.foldlRecOn (motive := fun t : Otp × Module => s.1.grows t.1) l f (Otp.grows_refl s.1)
    fun t ht n _ => Otp.grows_trans ht (hf t n)

theorem undo_grows (o : Otp) (m : Module) (c : Nat) : o.grows (undo o m c).1 := by
  have hkept := Otp.grows_refl o
  have hrevoked : o.grows { o with
      brom := m.nvc.bromSlots.foldl (fun t k => tmod {} t k (fun s => { s with revoked := true })) o.brom } :=
    Otp.grows_brom (brom_foldl_grows id _ _ fun _ _ _ h => BromSlot.grows_revoke h)
  exact Otp.grows_ite hkept (Otp.grows_ite hkept (Otp.grows_ite hkept (Otp.grows_ite hkept (Otp.grows_ite hrevoked hkept))))

theorem rollback_grows (o : Otp) (m : Module) : o.grows (rollback o m).1 := by
  have hundone := foldl_grows (f := fun s c => undo s.1 s.2 c) (fun s c => undo_grows s.1 s.2 c) m.activated.reverse
    (o, m.setNvc (fun n => { n with phase := 4, backWaits := false }))
  exact Otp.grows_ite hundone hundone

theorem actEnd_grows (o : Otp) (m : Module) (c st : Nat) : o.grows (actEnd o m c st).1 :=
  Otp.grows_ite (rollback_grows o _) (Otp.grows_refl o)

theorem actPartition_grows (o : Otp) (m : Module) (c : Nat) (x : Comp) : o.grows (actPartition o m c x).1 := by
  unfold actPartition
  extract_lets w
  split
  · exact Otp.grows_refl o
  · exact actEnd_grows o m c 1

theorem actMicrocode_grows (o : Otp) (m : Module) (c : Nat) (x : Comp) : o.grows (actMicrocode o m c x).1 :=
  Otp.grows_ite (actEnd_grows o m c _) (Otp.grows_ite (actEnd_grows o _ c _) (Otp.grows_refl o))

theorem actSwitch_grows (o : Otp) (m : Module) (c : Nat) : o.grows (actSwitch o m c).1 :=
  Otp.grows_ite (actEnd_grows o m c _) (Otp.grows_ite (actEnd_grows o m c _) (Otp.grows_refl o))

theorem actModule_grows (o : Otp) (m : Module) (c : Nat) (restart : Bool) : o.grows (actModule o m c restart).1 := by
  unfold actModule
  split
  · exact actEnd_grows o m c _
  · exact Otp.grows_refl o

/-- The slots that a bundle programs were free (R787). -/
theorem actBrom_grows (o : Otp) (m : Module) (c : Nat) (x : Comp) : o.grows (actBrom o m c x).1 := by
  unfold actBrom
  extract_lets free slots o' m'
  split
  next => exact actEnd_grows o m c _
  next hroom =>
    have hfree : ∀ k ∈ free, (tget {} o.brom k).used = false := fun k hk => by
      simpa using (List.mem_filter.1 hk).2
    have hslot : ∀ k < x.auxLen, slots.getD k 0 ∈ free := fun k hk => by
      have hlen : k < slots.length := by simp_all [slots]
      rw [List.getD_eq_getElem _ _ hlen]
      exact List.mem_of_mem_take (List.getElem_mem hlen)
    have hprogrammed : o.grows o' := Otp.grows_brom (brom_foldl_grows (fun k => slots.getD k 0) _ _ fun k hk y h =>
      BromSlot.grows_program (hfree _ (hslot k (List.mem_range.1 hk))) h _)
    exact Otp.grows_trans hprogrammed (actEnd_grows o' _ c 0)

theorem actNext_grows (o : Otp) (m : Module) (restart : Bool) : o.grows (actNext o m restart).1 := by
  have hkept := Otp.grows_refl o
  refine Otp.grows_ite hkept (Otp.grows_ite hkept (Otp.grows_ite (actEnd_grows o m _ _)
    (Otp.grows_ite (actEnd_grows o m _ _) ?_)))
  split
  · exact actPartition_grows o m _ _
  · exact actMicrocode_grows o m _ _
  · exact actSwitch_grows o m _
  · exact hkept
  · exact actModule_grows o m _ _
  · exact actBrom_grows o m _ _

theorem actRollback_grows (o : Otp) (m : Module) : o.grows (actRollback o m).1 := by
  unfold actRollback
  split
  · exact Otp.grows_refl o
  next d _ =>
    have hrolled := rollback_grows o ((m.probationFails d.comp 0).opCommits 0)
    exact Otp.grows_ite (Otp.grows_refl o) hrolled

theorem actPoll_grows (o : Otp) (m : Module) : o.grows (actPoll o m).1 := by
  unfold actPoll
  split
  · exact Otp.grows_refl o
  · split
    · exact actEnd_grows o m _ _
    · exact Otp.grows_refl o

theorem hoTimeout_grows (o : Otp) (m : Module) : o.grows (hoTimeout o m).1 := by
  unfold hoTimeout
  split
  · exact Otp.grows_ite (Otp.grows_refl o) (actEnd_grows o _ _ _)
  · exact Otp.grows_refl o

theorem probationFail_grows (o : Otp) (m : Module) (c : Nat) : o.grows (probationFail o m c).1 := by
  unfold probationFail
  extract_lets serves
  split
  · extract_lets m1
    split
    · exact actEnd_grows o m1 _ _
    · exact Otp.grows_refl o
    · exact rollback_grows o m1
  · exact Otp.grows_refl o

theorem commitEnd_grows (o : Otp) (m : Module) : o.grows (commitEnd o m).1 :=
  Otp.grows_ite (Otp.grows_refl o) (Otp.grows_count o _)

/-! ### The operations of the mailbox (R803–R808) -/

theorem beginWork_grows (o : Otp) (m : Module) (op : Nat) (g : List Nat) : o.grows (beginWork o m op g).1 := by
  unfold beginWork
  extract_lets x
  split
  case h_2 => exact Otp.grows_ite (actRollback_grows o m) (actNext_grows o m _)
  all_goals exact Otp.grows_refl o

theorem laneStart_grows (o : Otp) (m : Module) (l : Nat) : o.grows (laneStart o m l).1 := by
  refine Otp.grows_ite (Otp.grows_refl o) ?_
  dsimp only
  split
  · exact Otp.grows_refl o
  · exact beginWork_grows o _ _ _

theorem endWork_grows (o : Otp) (m : Module) (n : Nat) (t : SelftestResult) : o.grows (endWork o m n t).1 := by
  refine Otp.grows_ite (Otp.grows_refl o) ?_
  split
  case h_1 => exact actPoll_grows o m
  case h_2 => exact commitEnd_grows o m
  all_goals exact Otp.grows_refl o

theorem opFinishes_grows (o : Otp) (m : Module) (l : Nat) (t : SelftestResult) : o.grows (opFinishes o m l t).1 := by
  unfold opFinishes
  split
  · exact Otp.grows_refl o
  next n _ =>
    have hended := endWork_grows o m n t
    dsimp only
    split
    · exact hended
    · exact hended

theorem undoWork_grows (o : Otp) (m : Module) (n : Nat) (t : SelftestResult) : o.grows (undoWork o m n t).1 := by
  unfold undoWork
  extract_lets x
  split
  case h_2 =>
    split
    · exact actEnd_grows o m _ _
    · exact Otp.grows_refl o
  all_goals exact Otp.grows_refl o

theorem rollbackEnds_grows (o : Otp) (m : Module) (l st : Nat) (t : SelftestResult) :
    o.grows (rollbackEnds o m l st t).1 := by
  unfold rollbackEnds
  split
  · exact Otp.grows_refl o
  · exact Otp.grows_ite (undoWork_grows o m _ t) (Otp.grows_refl o)

theorem mbxBlockReset_grows (o : Otp) (m : Module) : o.grows (mbxBlockReset o m).1 := by
  have hround : ∀ (s : Otp × Module) (n : Nat), s.1.grows (if ! s.2.pastCommit n then undoWork s.1 s.2 n {}
      else if (s.2.slot n).op = 0x12 then commitEnd s.1 s.2 else s).1 := fun s n =>
    Otp.grows_ite (undoWork_grows s.1 s.2 n {}) (Otp.grows_ite (commitEnd_grows s.1 s.2) (Otp.grows_refl s.1))
  exact foldl_grows hround _ (o, m)

/-! ### Block resets (R53, R62) -/

/-- No block but MBX programs the OTP as it is reset. -/
theorem blockClear_otp (o : Otp) (m : Module) {b : Nat} (hb : b ≠ 0x13) : (blockClear o m b).1 = o := by
  simp only [blockClear, hb, if_false, apply_ite Prod.fst, ite_self]

theorem blockClear_grows (o : Otp) (m : Module) (b : Nat) : o.grows (blockClear o m b).1 := by
  by_cases hb : b = 0x13
  · subst hb
    exact mbxBlockReset_grows o _
  · rw [blockClear_otp o m hb]
    exact Otp.grows_refl o

theorem blockResetWrite_grows (o : Otp) (m : Module) (v : Nat) : o.grows (blockResetWrite o m v).1 :=
  Otp.grows_ite (Otp.grows_refl o) (blockClear_grows o _ _)

theorem powerUpEnd_grows (o : Otp) (m : Module) (sec : Bool) : o.grows (powerUpEnd o m sec).1 := by
  unfold powerUpEnd
  split
  · exact Otp.grows_refl o
  · exact Otp.grows_ite (Otp.grows_refl o) (blockClear_grows o _ _)

end Module

/-! ### Every command -/

/-- The outcome `o` of a command in state `s` is a next state, in which every fuse blown in `s` is blown. -/
def State.Blows (s : State) (o : Host.Outcome State Fault Refusal) : Prop := ∃ t, o = .next t ∧ s.otp.grows t.otp

theorem blows_run (s : State) (f : Module → Module) : s.Blows (s.run f) := ⟨_, rfl, Otp.grows_refl _⟩

theorem blows_runBy (s : State) (a : Access) (kind : Nat) (f : Access → Module → Module) : s.Blows (s.runBy a kind f) :=
  blows_run s _

theorem blows_runOtp (s : State) {f : Otp → Module → Otp × Module} (h : ∀ o m, Otp.grows o (f o m).1) :
    s.Blows (s.runOtp f) := ⟨_, rfl, h s.otp s.m⟩

theorem blows_runOtpIn (s : State) (b : Nat) {f : Otp → Module → Otp × Module} (h : ∀ o m, Otp.grows o (f o m).1) :
    s.Blows (s.runOtpIn b f) :=
  blows_runOtp s fun o m => Otp.grows_ite (h o m) (Otp.grows_refl o)

theorem blows_blockReset (s : State) (a : Access) (v : Word) : s.Blows (execBlockReset a v s) := by
  refine blows_runOtp s fun o m => ?_
  split
  · exact Otp.grows_refl _
  · split
    · exact Otp.grows_refl _
    · exact Module.blockResetWrite_grows _ _ _

theorem blows_ownerSlotRevoke (s : State) (a : Access) (v : Word) : s.Blows (execOwnerSlotRevoke a v s) := by
  refine blows_runOtp s fun o m => ?_
  split
  · exact Otp.grows_refl _
  · exact Module.ownerRevoke_grows _ _ _ _

theorem blows_ite {s : State} {c : Prop} [Decidable c] {x y : Host.Outcome State Fault Refusal} (hx : s.Blows x)
    (hy : s.Blows y) : s.Blows (if c then x else y) := by
  split
  · exact hx
  · exact hy

/-! ### Register writes that are commands of their own -/

/-- The outcome `o` that a register write may have of its own, if there is one, leaves every blown fuse blown. -/
def State.BlowsAny (s : State) (o : Option (Host.Outcome State Fault Refusal)) : Prop := ∀ r, o = some r → s.Blows r

theorem blowsAny_none (s : State) : s.BlowsAny none := fun _ h => nomatch h

theorem blowsAny_some {s : State} {r : Host.Outcome State Fault Refusal} (h : s.Blows r) : s.BlowsAny (some r) := by
  intro _ hr
  cases hr
  exact h

theorem blowsAny_ite {s : State} {c : Prop} [Decidable c] {x y : Option (Host.Outcome State Fault Refusal)}
    (hx : s.BlowsAny x) (hy : s.BlowsAny y) : s.BlowsAny (if c then x else y) := by
  split
  · exact hx
  · exact hy

/-- Of the tables of commands only those of SYSCTL_BLK_RST and SYSCTL_OWNER_SLOT program the OTP. -/
theorem blowsAny_tables (a : Access) (addr v : Nat) (s : State) :
    s.BlowsAny (coreCommand a addr v s) ∧ s.BlowsAny (instCommand a addr v s) ∧ s.BlowsAny (netCommand a addr v s)
      ∧ s.BlowsAny (unitCommand a addr v s) := by
  unfold coreCommand instCommand netCommand unitCommand
  dsimp only
  refine ⟨?_, ?_, ?_, ?_⟩
  all_goals
    with_reducible repeat' first
      | exact blowsAny_none s | exact blows_blockReset s a _ | exact blows_ownerSlotRevoke s a _
      | apply blowsAny_ite | apply blowsAny_some | apply blows_ite | split
  all_goals exact ⟨_, rfl, Otp.grows_refl _⟩

theorem blowsAny_ownCommand (a : Access) (addr v : Nat) (s : State) : s.BlowsAny (ownCommand a addr v s) := by
  obtain ⟨hcore, hinst, hnet, hunit⟩ := blowsAny_tables a addr v s
  unfold ownCommand
  split
  next r hr => exact hr ▸ hcore
  split
  next r hr => exact hr ▸ hinst
  split
  next r hr => exact hr ▸ hnet
  next => exact hunit

theorem blows_writeAs (s : State) (a : Access) (addr n v : Nat) (item : Option Nat) :
    s.Blows (s.writeAs a addr n v item) := by
  unfold State.writeAs
  dsimp only
  refine blows_ite (blows_run s _) (blows_ite (blows_runBy s _ _ _) ?_)
  split
  case h_1 => exact blows_run s _
  refine blows_ite (blows_run s _) ?_
  split
  case h_1 => exact blows_run s _
  split
  case h_1 r hr => exact blowsAny_ownCommand a addr v s r hr
  split
  · exact blows_run s _
  · exact blows_run s _

theorem blows_regWrite (s : State) (a : Access) (addr n v : Nat) (item : Option Nat) :
    s.Blows (s.regWrite a addr n v item) := by
  unfold State.regWrite
  split
  · exact blows_writeAs s _ addr n v item
  · exact blows_run s _

/-! ### The end of a window -/

theorem State.grows_ite {s x y : State} {c : Prop} [Decidable c] (hx : s.otp.grows x.otp) (hy : s.otp.grows y.otp) :
    s.otp.grows (if c then x else y).otp := by
  split
  · exact hx
  · exact hy

/-- A store to a view drains as a write of the pair, and its error, if any, is recorded. -/
theorem drain_view_grows (s : State) (a : Access) (addr n v : Nat) (f : State → Module) :
    s.otp.grows (match s.writeAs a addr n v none with
      | .next t => if t.m.resp.status = 0 then t else { t with m := f t }
      | _ => s).otp := by
  obtain ⟨t, ht, hotp⟩ := blows_writeAs s a addr n v none
  simp only [ht]
  exact State.grows_ite hotp hotp

theorem drain_grows (s : State) (n : Nat) (p : Option Nat) (x : HeldStore) : s.otp.grows (s.drain n p x).otp := by
  unfold State.drain
  split
  case h_1 => exact drain_view_grows s _ _ _ _ _
  case h_2 => exact drain_view_grows s _ _ _ _ _
  all_goals exact Otp.grows_refl _

theorem windowCommit_grows (s : State) (n : Nat) (p : Option Nat) (mine next : List HeldStore) (w : WindowEnd) :
    s.otp.grows (s.windowCommit n p mine next w).otp := by
  have hdrained : s.otp.grows (mine.foldl (fun s x => s.drain n p x) s).otp :=
    List.foldlRecOn (motive := fun t : State => s.otp.grows t.otp) mine _ (Otp.grows_refl _)
      fun t ht x _ => Otp.grows_trans ht (drain_grows t n p x)
  exact State.grows_ite hdrained hdrained

theorem windowCompare_grows (s : State) (w : WindowEnd) : s.otp.grows (s.windowCompare w).otp := by
  have hkept := Otp.grows_refl s.otp
  unfold State.windowCompare
  extract_lets n p split runs m
  generalize m.admitStores n w.stores = r
  obtain ⟨m1, l⟩ := r
  refine State.grows_ite hkept (State.grows_ite ?_ hkept)
  generalize m1.admitStores n w.next = r
  obtain ⟨m2, next⟩ := r
  exact windowCommit_grows { s with m := m2 } n p _ next w

/-! ### Requests that come over the pair bridge -/

theorem writeRegs_grows (a : Access) (x : BridgeMsg) (fuel : Nat) (s : State) (addr stop : Nat) :
    s.otp.grows (writeRegs a x fuel s addr stop).1.otp := by
  induction fuel generalizing s addr with
  | zero => exact Otp.grows_refl _
  | succ fuel ih =>
    simp only [writeRegs]
    split
    · exact Otp.grows_refl _
    · obtain ⟨t, ht, hotp⟩ := blows_regWrite s a addr (Module.stepWidth addr stop)
        (ofBytes ((x.data.drop (addr - x.addr)).take (Module.stepWidth addr stop))) none
      simp only [ht]
      split
      · exact hotp
      · exact Otp.grows_trans hotp (ih t _)

theorem inboundWrite_grows (s : State) (a : Access) (x : BridgeMsg) : s.otp.grows (s.inboundWrite a x).otp := by
  unfold State.inboundWrite
  refine State.grows_ite (Otp.grows_refl _) (State.grows_ite (Otp.grows_refl _) ?_)
  split
  · exact Otp.grows_refl _
  · exact writeRegs_grows a x 64 s _ _

/-- A request programs the OTP no more than its execution does. -/
theorem inbound_grows (s : State) (kind : Nat) (x : BridgeMsg) (run : State → Access → State)
    (hrun : ∀ (t : State) (a : Access), t.otp.grows (run t a).otp) : s.otp.grows (s.inbound kind x run).otp := by
  have hkept := Otp.grows_refl s.otp
  unfold State.inbound
  refine State.grows_ite hkept (State.grows_ite hkept (State.grows_ite hkept (State.grows_ite hkept ?_)))
  split
  · exact hkept
  next a _ => exact hrun { s with m := s.m.hearPeer x } a

/-! ### Every step -/

/-- Every command leaves each blown fuse blown: those that program the OTP are named, and the register write, the end of a window
and the bridge's writes may be one of them. -/
theorem blows_exec (c : Instr) (s : State) : s.Blows (exec c s) := by
  cases c with
  | registerWrite a addr n v item => exact blows_regWrite s a addr n (v % 2 ^ (8 * n)) item
  | windowCompare w => exact ⟨_, rfl, windowCompare_grows s w⟩
  | bridgeRead x => exact ⟨_, rfl, inbound_grows s 0x11 x _ (fun _ _ => Otp.grows_refl _)⟩
  | bridgeWrite x => exact ⟨_, rfl, inbound_grows s 0x13 x _ (fun t a => inboundWrite_grows t a x)⟩
  | bridgeAtomic x => exact ⟨_, rfl, inbound_grows s 0x15 x _ (fun _ _ => Otp.grows_refl _)⟩
  | lcOtpProgramDone => exact blows_runOtp s Module.lcProgramDone_grows
  | ownerSlotRevoke a v => exact blows_ownerSlotRevoke s a v
  | blockReset a v => exact blows_blockReset s a v
  | gatePowerUpDone sec => exact blows_runOtp s (fun o m => Module.powerUpEnd_grows o m sec)
  | hoTimeout => exact blows_runOtpIn s 0x15 Module.hoTimeout_grows
  | probationFail comp => exact blows_runOtpIn s 0x15 (fun o m => Module.probationFail_grows o m comp.val)
  | handleStart lane => exact blows_runOtpIn s 0x13 (fun o m => Module.laneStart_grows o m lane.val)
  | longOpEnd lane tests => exact blows_runOtpIn s 0x13 (fun o m => Module.opFinishes_grows o m lane.val tests)
  | rollbackComplete lane st tests => exact blows_runOtpIn s 0x13 (fun o m => Module.rollbackEnds_grows o m lane.val st.val tests)
  | _ => exact ⟨_, rfl, Otp.grows_refl _⟩

theorem tick_grows (s : State) : s.otp.grows s.tick.otp :=
  State.grows_ite (Otp.grows_refl _) (Module.actPoll_grows _ _)

theorem blows_step (s : State) : s.Blows (step s) := by
  unfold step
  split
  · exact ⟨s.tick, rfl, tick_grows s⟩
  next c rest _ => exact blows_exec c { s with pending := rest }

/-- Settles O4. -/
theorem fusesOnlyBlow : Obligations.FusesOnlyBlow := by
  unfold Obligations.FusesOnlyBlow
  intro o s t ho hstep
  obtain ⟨t', ht', hgrows⟩ := blows_step s
  cases hstep.symm.trans ht'
  exact Otp.grows_trans ho hgrows

end Sys2Proof.Machine
end

section
/-!
SUPPORT. The life cycle: the requests of SYSCTL_LC_REQ by state and target, and the fuses that a state and a revoke blow
(R158–R166).
-/
namespace Sys2Proof.Machine
namespace Module

/-! ### A request (R160–R164) -/

/-- Nothing defers a request (R162). -/
abbrev LcOpen (m : Module) : Prop :=
  (m.rd F.SYSCTL_LC_STAT_PEND = 0 ∧ m.rd F.HST_SUP_STAT_VAUX_STATE = 0 ∧ m.rd F.HST_SUP_STAT_HOLDUP_WEAK = 0)
    ∧ m.activeInDuplex = false

/-- What a request for `t` in state `lc` does where nothing defers it (R160). -/
def lcRow (m : Module) (o : Otp) (a : Access) (lc t : Nat) : Module :=
  if lc = 0 ∧ t = 1 then if a.world ∧ o.trustedMap ≠ 0 then m.lcProgram 1 else m.lcDone 2
  else if lc = 1 ∧ t = 2 then if a.world then m.lcProgram 2 else m.lcDone 2
  else if lc = 2 ∧ t = 3 then
    match m.tokenRead o with
    | some w =>
      ({ m.newChallenge with boot := { m.newChallenge.boot with
          grant := some (bits (w.getD 10 0) 15 0, bits (w.getD 11 0) 10 0) } } : Module).moduleReset
        F.SYSCTL_RST_CAUSE_LC_CHANGE false true
    | none => m.newChallenge.lcDone 2
  else if lc = 3 ∧ t = 2 then m.moduleReset F.SYSCTL_RST_CAUSE_LC_CHANGE
  else if (lc = 1 ∨ lc = 2) ∧ t = 4 then
    if ! a.world then m.lcDone 2 else
    match m.tokenRead o with
    | some w => if bit (w.getD 10 0) 16 then m.newChallenge.lcProgram 4 else m.newChallenge.lcDone 2
    | none => m.newChallenge.lcDone 2
  else if (lc = 0 ∨ lc = 4) ∧ t = 5 then if a.world ∨ a.ini = 0x3F then m.lcProgram 5 else m.lcDone 2
  else if (lc = 1 ∨ lc = 2) ∧ t = 5 then if a.world then m.lcProgram 5 else m.lcDone 2
  else m.lcDone 2

theorem lcRequest_eq_lcRow {m : Module} {v t : Nat} (h : m.LcOpen) (o : Otp) (a : Access) (hkey : bits v 31 16 = 0x5A3C)
    (ht : bits v 2 0 = t) : m.lcRequest o a v = m.lcRow o a (m.rd F.SYSCTL_LC_STATE_STATE) t := by
  obtain ⟨⟨hpend, hvaux, hweak⟩, hduplex⟩ := h
  have hopen : ¬ (m.flag F.SYSCTL_LC_STAT_PEND ∨ m.flag F.HST_SUP_STAT_VAUX_STATE ∨ m.flag F.HST_SUP_STAT_HOLDUP_WEAK
      ∨ m.activeInDuplex) := by
    simp [flag_eq, hpend, hvaux, hweak, hduplex]
  unfold lcRequest
  rw [if_neg (not_not.2 hkey), if_neg hopen, ht]
  rfl

theorem tokenRead_ok (m : Module) (o : Otp) : m.ok.tokenRead o = m.tokenRead o := rfl

theorem rd_lcDone (m : Module) : (m.lcDone 2).rd F.SYSCTL_LC_STAT_STATUS = 2 := rd_wr_same m _ 2 0 0 0

theorem rd_lcProgram (m : Module) (x : Nat) : (m.lcProgram x).rd F.SYSCTL_LC_STAT_PEND = 1 := rd_wr_same m _ 1 0 0 0

/-- A module reset shows its cause. -/
theorem rd_moduleReset_cause (m : Module) (cause : Fam) (requested entry : Bool) :
    (m.moduleReset cause requested entry).rd cause = 1 % 2 ^ cause.width := rd_wr_same _ _ _ _ _ _

/-! ### The rows of R160 that lead on -/

theorem lcRow_provisioned {m : Module} {o : Otp} {a : Access} (hw : a.world = true) (ht : o.trustedMap ≠ 0) :
    m.lcRow o a 0 1 = m.lcProgram 1 := by
  simp [lcRow, hw, ht]

theorem lcRow_field {m : Module} {a : Access} (o : Otp) (hw : a.world = true) : m.lcRow o a 1 2 = m.lcProgram 2 := by
  simp [lcRow, hw]

theorem lcRow_leaveDebug (m : Module) (o : Otp) (a : Access) :
    m.lcRow o a 3 2 = m.moduleReset F.SYSCTL_RST_CAUSE_LC_CHANGE := rfl

theorem lcRow_end {m : Module} {a : Access} {lc : Nat} (o : Otp)
    (h : ((a.world = true ∨ a.ini = 0x3F) ∧ (lc = 0 ∨ lc = 4)) ∨ (a.world = true ∧ (lc = 1 ∨ lc = 2))) :
    m.lcRow o a lc 5 = m.lcProgram 5 := by
  rcases h with ⟨hw, rfl | rfl⟩ | ⟨hw, rfl | rfl⟩ <;> simp [lcRow, hw]

theorem lcRow_manufacture (m : Module) (o : Otp) (a : Access) (lc : Nat) : m.lcRow o a lc 0 = m.lcDone 2 := by
  simp [lcRow]

/-- RETURN with a token (R163, R164): OTP is programmed where the token verifies and permits it. -/
theorem lcRow_return {m : Module} {a : Access} {lc : Nat} (o : Otp) (hw : a.world = true) (hlc : lc = 1 ∨ lc = 2) :
    m.lcRow o a lc 4 = if (m.tokenRead o).any (fun w => bit (w.getD 10 0) 16) then m.newChallenge.lcProgram 4
      else m.newChallenge.lcDone 2 := by
  cases h : m.tokenRead o <;> simp [lcRow, hw, hlc, h]

/-- What FIELD_DEBUG with the words `w` of a token that verifies leads to (R161, R163): the entry reset, with the grant recorded. -/
def debugEntered (m : Module) (w : List Nat) : Module :=
  ({ m.newChallenge with boot := { m.newChallenge.boot with
      grant := some (bits (w.getD 10 0) 15 0, bits (w.getD 11 0) 10 0) } } : Module).moduleReset
    F.SYSCTL_RST_CAUSE_LC_CHANGE false true

theorem lcRow_enterDebug {m : Module} {o : Otp} {w : List Nat} (a : Access) (h : m.tokenRead o = some w) :
    m.lcRow o a 2 3 = m.debugEntered w := by
  simp [lcRow, h, debugEntered]

theorem lcRow_debugDenied {m : Module} {o : Otp} (a : Access) (h : m.tokenRead o = none) :
    m.lcRow o a 2 3 = m.newChallenge.lcDone 2 := by
  simp [lcRow, h]

/-! ### Fuses (R158, R159, R161) -/

theorem lcProgramDone_eq {m : Module} {x b : Nat} (o : Otp) (h : m.boot.lcNext = some x)
    (hb : (x = 1 ∧ b = 1) ∨ (x = 2 ∧ b = 2) ∨ (x = 4 ∧ b = 4) ∨ (x = 5 ∧ b = 8)) :
    lcProgramDone o m = ({ o with lc0 := o.lc0 ||| b, lc1 := o.lc1 ||| b, lc2 := o.lc2 ||| b },
      m.moduleReset F.SYSCTL_RST_CAUSE_LC_CHANGE) := by
  unfold lcProgramDone
  rw [h]
  rcases hb with ⟨rfl, rfl⟩ | ⟨rfl, rfl⟩ | ⟨rfl, rfl⟩ | ⟨rfl, rfl⟩ <;> rfl

/-- A revoke by the secure world outside END takes effect, unless it would take the last trusted slot. -/
theorem ownerRevoke_eq {m : Module} {o : Otp} {a : Access} {v : Nat} (hd : m.accessDeny a 0x20000838 4 1 = none)
    (hw : a.world = true) (hlc : m.rd F.SYSCTL_LC_STATE_STATE ≠ 5)
    (hlast : o.trustedMap = 0 ∨ ({ o with revoked := o.revoked ||| bits v 11 8 } : Otp).trustedMap ≠ 0) :
    ownerRevoke o m a v = ({ o with revoked := o.revoked ||| bits v 11 8 },
      m.ok.showOwner { o with revoked := o.revoked ||| bits v 11 8 }) := by
  have hmay : ¬ ((! a.world) ∨ (o.trustedMap != 0
      && ({ o with revoked := o.revoked ||| bits v 11 8 } : Otp).trustedMap == 0) ∨ m.rd F.SYSCTL_LC_STATE_STATE = 5) := by
    simp only [hw, hlc, Bool.not_true, Bool.false_eq_true, or_false, false_or, Bool.and_eq_true, bne_iff_ne, beq_iff_eq]
    tauto
  unfold ownerRevoke
  rw [hd]
  exact if_neg hmay

end Module

/-! ### The commands -/

/-- The rows of SYSCTL_LC_REQ all run this. -/
theorem State.runBy_lcAccess {s : State} {a : Access} (v : Word) (h : s.genuine a 1) :
    s.runBy a 1 (fun a m => m.lcAccess s.otp a v.toNat) = s.to (s.m.lcAccess s.otp a v.toNat) :=
  State.runBy_issued _ h

/-- An admitted request that nothing defers does what its row says. -/
theorem State.runBy_lcRow {s : State} {a : Access} {v : Word} {t : Nat}
    (hadm : s.admitsWrite a 0x20000804 ∧ bits v.toNat 31 16 = 0x5A3C ∧ bits v.toNat 2 0 = t) (hopen : s.m.LcOpen) :
    s.runBy a 1 (fun a m => m.lcAccess s.otp a v.toNat)
      = s.to (s.m.ok.lcRow s.otp a (s.m.rd F.SYSCTL_LC_STATE_STATE) t) := by
  obtain ⟨hw, hkey, ht⟩ := hadm
  refine (State.runBy_admittedWrite (fun a m => m.lcRequest s.otp a v.toNat) hw).trans (congrArg s.to ?_)
  exact Module.lcRequest_eq_lcRow (m := s.m.ok) hopen s.otp a hkey ht

/-- Settles O24: each clause is a row of R160. -/
theorem lifeCycleRequests : Obligations.LifeCycleRequests := by
  unfold Obligations.LifeCycleRequests
  refine ⟨fun s a v ⟨hw, hadm⟩ hready hdpx hlc htrust => ?provisioned, fun s a v ⟨hw, hadm⟩ hready hdpx hlc => ?field,
    fun s a v hadm hready hdpx hlc => ?leaveDebug, fun s a v hw hadm hready hdpx hlc => ?endEarly,
    fun s a v ⟨hw, hadm⟩ hready hdpx hlc => ?endLate, fun s a v ⟨hw, hadm⟩ hready hdpx hlc => ?ret,
    fun s a v hadm hready hdpx hlc => ?debug, fun s a v hadm hready hdpx => ?manufacture,
    fun s a v h => s.runBy_lcAccess v h, fun s a v h => s.runBy_lcAccess v h, fun s a v h => s.runBy_lcAccess v h,
    fun s a v h => s.runBy_lcAccess v h, fun s a v h => s.runBy_lcAccess v h, fun s a v h => s.runBy_lcAccess v h⟩
  all_goals have hrun := State.runBy_lcRow hadm ⟨hready, hdpx⟩
  case provisioned =>
    rw [hlc, Module.lcRow_provisioned hw htrust] at hrun
    exact hrun
  case field =>
    rw [hlc, Module.lcRow_field s.otp hw] at hrun
    exact hrun
  case leaveDebug =>
    rw [hlc, Module.lcRow_leaveDebug] at hrun
    exact hrun
  case endEarly =>
    rw [Module.lcRow_end s.otp (.inl ⟨hw, hlc⟩)] at hrun
    exact hrun
  case endLate =>
    rw [Module.lcRow_end s.otp (.inr ⟨hw, hlc⟩)] at hrun
    exact hrun
  case ret =>
    refine ⟨_, hrun, ?_⟩
    rw [Module.lcRow_return s.otp hw hlc, Module.tokenRead_ok]
    by_cases htoken : (s.m.tokenRead s.otp).any (fun w => bit (w.getD 10 0) 16) = true
    · rw [if_pos htoken, if_pos htoken]
      exact ⟨⟨Module.rd_lcProgram _ 4, rfl⟩, rfl, rfl⟩
    · rw [if_neg htoken, if_neg htoken]
      exact ⟨⟨Module.rd_lcDone _, rfl⟩, rfl, rfl⟩
  case debug =>
    refine ⟨_, hrun, ?_⟩
    rw [hlc]
    cases htoken : s.m.tokenRead s.otp with
    | some w =>
      rw [Module.lcRow_enterDebug (m := s.m.ok) a htoken]
      exact ⟨⟨Module.rd_moduleReset_cause _ _ _ _, rfl, rfl⟩, rfl, rfl⟩
    | none =>
      rw [Module.lcRow_debugDenied (m := s.m.ok) a htoken]
      exact ⟨⟨Module.rd_lcDone _, rfl⟩, rfl, rfl⟩
  case manufacture =>
    rw [Module.lcRow_manufacture] at hrun
    exact hrun

theorem exec_ownerSlotRevoke {s : State} {a : Access} (v : Word) (h : s.genuine a 1) :
    exec (.ownerSlotRevoke a v) s = .next { s with
      otp := (Module.ownerRevoke s.otp s.m a v.toNat).1
      m := (Module.ownerRevoke s.otp s.m a v.toNat).2 } := by
  show execOwnerSlotRevoke a v s = _
  simp only [execOwnerSlotRevoke, runOtp_eq, show s.m.issued a 1 = some a from h]

/-- Settles O25. -/
theorem fusesOfTheLifeCycle : Obligations.FusesOfTheLifeCycle := by
  unfold Obligations.FusesOfTheLifeCycle
  refine ⟨fun s x b hnext hb => ?_, fun s hlc hleft => ?_, fun s a v hw hadm hlc hlast => ?_, fun s => rfl,
    fun s a v h => exec_ownerSlotRevoke v h⟩
  · show s.runOtp Module.lcProgramDone = _
    rw [runOtp_eq, Module.lcProgramDone_eq s.otp hnext hb]
  · have hexpired : (s.m.rd F.SYSCTL_LC_STATE_STATE == 3 && ! s.m.flag F.SYSCTL_DBG_GRANT_MINUTES_LEFT) = true := by
      simp [Module.flag_eq, hlc, hleft]
    exact congrArg (fun c => s.to (s.m.when c (·.moduleReset F.SYSCTL_RST_CAUSE_LC_CHANGE))) hexpired
  · obtain ⟨hg, hd⟩ := hadm
    rw [exec_ownerSlotRevoke v hg, Module.ownerRevoke_eq hd hw hlc hlast]

end Sys2Proof.Machine
end

section
/-!
SUPPORT. The stages of the start: the wipe, the self-tests, the candidates and the boot watchdog (R131–R152).
-/
namespace Sys2Proof.Machine

/-- Setting a bit leaves the others. -/
theorem bit_setBit_other (v : Nat) {n k : Nat} (h : k ≠ n) : bit (setBit v n true) k = bit v k := by
  unfold setBit
  split
  next => rfl
  next hclear =>
    have hzero : v / 2 ^ n % 2 = 0 := by
      simp only [bit, beq_iff_eq] at hclear
      omega
    rw [if_pos rfl]
    rcases Nat.lt_or_gt_of_ne h with hlt | hgt
    · rw [bit_eq_testBit, bit_eq_testBit, Nat.add_comm, Nat.testBit_two_pow_add_gt hlt]
    · obtain ⟨d, rfl⟩ := Nat.exists_eq_add_of_lt hgt
      have hhigh : (v + 2 ^ n) / 2 ^ n / 2 = v / 2 ^ n / 2 := by
        rw [Nat.add_div_right _ (Nat.two_pow_pos n)]
        omega
      simp only [bit, show n + d + 1 = n + 1 + d by omega, Nat.pow_add _ (n + 1) d, Nat.pow_succ _ n,
        ← Nat.div_div_eq_div_mul, hhigh]

namespace Module

/-- A bit of a bit-map field after another is set. -/
theorem bit_rd_setMap_other (m : Module) (f : Fam) {n k : Nat} (i j l : Nat) (hk : k < f.width) (h : k ≠ n) :
    bit ((m.setMap f n true i j l).rd f i j l) k = bit (m.rd f i j l) k := by
  rw [setMap, rd_wr_same, bit_mod_two_pow _ hk, bit_setBit_other _ h]

/-! ### The self-tests (R134–R137) -/

/-- The result of the injection on pair `n`, and its bit of SYSCTL_SELFTEST where it fails (R136). -/
def pairTested (missed : List Nat) (ff n : Nat) (m : Module) : Module :=
  (m.injectionResult n (missed.getD n 0) (bit ff n)).when (missed.getD n 0 != 0 || bit ff n)
    (·.setMap F.SYSCTL_SELFTEST_PAIR_FAIL n)

/-- The registers of pair `n` that its test shows. -/
def pairTestKeys (n : Nat) : List Nat :=
  [F.LSS_INJ_RES_MISSED.key n 0 0, F.LSS_INJ_RES_FALSE_FLAG.key n 0 0, F.LSS_INJ_RES_PASS.key n 0 0,
    F.LSS_INJ_RES_RUNS.key n 0 0, F.LSS_PAIR_STAT_FAIL_CAUSE.key n 0 0, F.LSS_PAIR_STAT_STATE.key n 0 0,
    F.LSS_PAIR_STAT_PART.key n 0 0, F.LSS_PAIR_STAT_WINDOW.key n 0 0, F.LSS_EVT_SELFTEST_FAIL.key 0 0 0]

/-- The other blocks' registers and the states of the other pairs are none of them. -/
theorem notMem_pairTestKeys {key n : Nat}
    (h : key < 0x20F00000 * 64 ∨ ∃ j < 4, j ≠ n ∧ key = F.LSS_PAIR_STAT_STATE.key j 0 0) : key ∉ pairTestKeys n := by
  simp only [pairTestKeys, List.mem_cons, List.not_mem_nil, or_false, Fam.key, Fam.addr, fam, F.LSS_INJ_RES_MISSED,
    F.LSS_INJ_RES_FALSE_FLAG, F.LSS_INJ_RES_PASS, F.LSS_INJ_RES_RUNS, F.LSS_PAIR_STAT_FAIL_CAUSE, F.LSS_PAIR_STAT_STATE,
    F.LSS_PAIR_STAT_PART, F.LSS_PAIR_STAT_WINDOW, F.LSS_EVT_SELFTEST_FAIL] at h ⊢
  rcases h with h | ⟨j, hj, hjn, h⟩
  · omega
  · omega

theorem regsBut_injectionResult (m : Module) (n missed : Nat) (ff : Bool) :
    regsBut (pairTestKeys n) m (m.injectionResult n missed ff) := by
  have hshown : regsBut (pairTestKeys n) m ((((m.wr F.LSS_INJ_RES_MISSED missed n).wrb F.LSS_INJ_RES_FALSE_FLAG ff n).wrb
      F.LSS_INJ_RES_PASS (missed == 0 && ! ff) n).addW F.LSS_INJ_RES_RUNS 1 n) :=
    regsBut_wr _ (by simp [pairTestKeys]) (regsBut_wr _ (by simp [pairTestKeys]) (regsBut_wr _ (by simp [pairTestKeys])
      (regsBut_wr _ (by simp [pairTestKeys]) (regsBut_refl _ m))))
  unfold injectionResult
  dsimp only
  split
  · exact regsBut_set rfl hshown
  · unfold setPairState
    exact regsBut_wr _ (by simp [pairTestKeys]) (regsBut_wr _ (by simp [pairTestKeys]) (regsBut_wr _ (by simp [pairTestKeys])
      (regsBut_wr _ (by simp [pairTestKeys]) (regsBut_wr _ (by simp [pairTestKeys]) hshown))))

theorem rd_injectionResult_state (m : Module) (n : Nat) {missed : Nat} {ff : Bool} (hbad : (missed != 0 || ff) = true) :
    (m.injectionResult n missed ff).rd F.LSS_PAIR_STAT_STATE n = 5 := by
  have hfail : (missed == 0 && ! ff) = false := by
    cases ff <;> simp_all
  have hother : ∀ f ∈ [F.LSS_PAIR_STAT_PART, F.LSS_PAIR_STAT_WINDOW], F.LSS_PAIR_STAT_STATE.key n 0 0 ≠ f.key n 0 0 := by
    simp only [List.forall_mem_cons, Fam.key, Fam.addr, F.LSS_PAIR_STAT_STATE, F.LSS_PAIR_STAT_PART, F.LSS_PAIR_STAT_WINDOW, fam]
    exact ⟨by omega, by omega, fun _ h => nomatch h⟩
  have hevt : F.LSS_PAIR_STAT_STATE.key n 0 0 ≠ F.LSS_EVT_SELFTEST_FAIL.key 0 0 0 := by
    simp only [Fam.key, Fam.addr, F.LSS_PAIR_STAT_STATE, F.LSS_EVT_SELFTEST_FAIL, fam]
    omega
  simp only [injectionResult, hfail, setPairState, raise_eq]
  rw [if_neg (by decide), rd_wr_other _ _ _ _ _ _ _ _ _ _ hevt, rd_wr_other _ _ _ _ _ _ _ _ _ _ (hother _ (by simp)),
    rd_wr_other _ _ _ _ _ _ _ _ _ _ (hother _ (by simp)), rd_wr_same]
  rfl

theorem bit_pairTested (missed : List Nat) (ff n : Nat) (m : Module) {k : Nat} (hk : k < 4) :
    bit ((pairTested missed ff n m).rd F.SYSCTL_SELFTEST_PAIR_FAIL) k
      = (bit (m.rd F.SYSCTL_SELFTEST_PAIR_FAIL) k || (k == n && (missed.getD n 0 != 0 || bit ff n))) := by
  have hleft : (m.injectionResult n (missed.getD n 0) (bit ff n)).rd F.SYSCTL_SELFTEST_PAIR_FAIL
      = m.rd F.SYSCTL_SELFTEST_PAIR_FAIL := by
    exact regsBut_injectionResult m n _ _ _ 0 0 0 (notMem_pairTestKeys (.inl (by decide)))
  unfold pairTested
  cases missed.getD n 0 != 0 || bit ff n with
  | false => rw [when_false, hleft, Bool.and_false, Bool.or_false]
  | true =>
    rw [when_true]
    by_cases hkn : k = n
    · subst hkn
      rw [bit_rd_setMap _ _ _ _ _ _ hk]
      simp
    · rw [bit_rd_setMap_other _ _ _ _ _ hk hkn, hleft]
      simp [hkn]

theorem rd_pairTested_state (missed : List Nat) (ff n : Nat) (m : Module) (k : Nat) :
    (pairTested missed ff n m).rd F.LSS_PAIR_STAT_STATE k
      = (m.injectionResult n (missed.getD n 0) (bit ff n)).rd F.LSS_PAIR_STAT_STATE k := by
  refine when_keeps (P := fun t : Module => t.rd F.LSS_PAIR_STAT_STATE k = _) rfl (rd_wr_other _ _ _ _ _ _ _ _ _ _ ?_)
  simp only [Fam.key, Fam.addr, F.LSS_PAIR_STAT_STATE, F.SYSCTL_SELFTEST_PAIR_FAIL, fam]
  omega

/-- The pairs that fail are FAILED once all four are tested (R351). -/
theorem rd_pairsTested_state (missed : List Nat) (ff : Nat) (m : Module) {k : Nat} (hk : k < 4)
    (hbad : (missed.getD k 0 != 0 || bit ff k) = true) :
    (forEach (List.range 4) (pairTested missed ff) m).rd F.LSS_PAIR_STAT_STATE k = 5 := by
  refine forEach_range_each (P := fun k s => k < 4 → (missed.getD k 0 != 0 || bit ff k) = true →
    Module.rd s F.LSS_PAIR_STAT_STATE k = 5) (pairTested missed ff)
    (fun n s _ h => ?_) (fun n j s hj hs hj4 h => ?_) 4 m k hk hk hbad
  · rw [rd_pairTested_state]
    exact rd_injectionResult_state s n h
  · rw [rd_pairTested_state, regsBut_injectionResult s n _ _ _ _ _ _ (notMem_pairTestKeys (.inr ⟨j, hj4, hj, rfl⟩))]
    exact hs hj4 h

/-- The bits of the pairs that fail have joined SYSCTL_SELFTEST once all four are tested (R136). -/
theorem bit_pairsTested (missed : List Nat) (ff : Nat) (m : Module) {k : Nat} (hk : k < 4) :
    bit ((forEach (List.range 4) (pairTested missed ff) m).rd F.SYSCTL_SELFTEST_PAIR_FAIL) k
      = (bit (m.rd F.SYSCTL_SELFTEST_PAIR_FAIL) k || (missed.getD k 0 != 0 || bit ff k)) := by
  have hrounds : forEach (List.range 4) (pairTested missed ff) m
      = pairTested missed ff 3 (pairTested missed ff 2 (pairTested missed ff 1 (pairTested missed ff 0 m))) := rfl
  simp only [hrounds, bit_pairTested _ _ _ _ hk]
  have hcases : k = 0 ∨ k = 1 ∨ k = 2 ∨ k = 3 := by omega
  rcases hcases with rfl | rfl | rfl | rfl <;> simp

/-- What the tests of the cipher engine show (R137). -/
def unitsTested (m : Module) (cores : Nat) (hash modular : Bool) : Module :=
  ((((((m.wr F.SYSCTL_SELFTEST_CORE_FAIL cores).wrb F.SYSCTL_SELFTEST_HASH_FAIL hash).wrb F.SYSCTL_SELFTEST_MOD_FAIL
    modular).wr F.CPE_STAT_FENCED cores).wrb F.CPE_STAT_HASH_FAIL hash).wrb F.CPE_STAT_MA_FAIL modular).wrb
    F.SYSCTL_BOOT_STAT_SW_CRYPTO (hash || modular)

/-- The registers that they show it in. -/
def unitTestKeys : List Nat :=
  [F.SYSCTL_SELFTEST_CORE_FAIL.key 0 0 0, F.SYSCTL_SELFTEST_HASH_FAIL.key 0 0 0, F.SYSCTL_SELFTEST_MOD_FAIL.key 0 0 0,
    F.CPE_STAT_FENCED.key 0 0 0, F.CPE_STAT_HASH_FAIL.key 0 0 0, F.CPE_STAT_MA_FAIL.key 0 0 0,
    F.SYSCTL_BOOT_STAT_SW_CRYPTO.key 0 0 0]

theorem regsBut_unitsTested (m : Module) (cores : Nat) (hash modular : Bool) :
    regsBut unitTestKeys m (m.unitsTested cores hash modular) :=
  regsBut_wr _ (by decide) (regsBut_wr _ (by decide) (regsBut_wr _ (by decide) (regsBut_wr _ (by decide)
    (regsBut_wr _ (by decide) (regsBut_wr _ (by decide) (regsBut_wr _ (by decide) (regsBut_refl _ m)))))))

theorem rd_unitsTested (m : Module) {cores : Nat} (hash modular : Bool) (hc : cores < 16) :
    (m.unitsTested cores hash modular).rd F.SYSCTL_SELFTEST_CORE_FAIL = cores
      ∧ (m.unitsTested cores hash modular).rd F.CPE_STAT_FENCED = cores
      ∧ (m.unitsTested cores hash modular).rd F.SYSCTL_SELFTEST_HASH_FAIL = b2n hash
      ∧ (m.unitsTested cores hash modular).rd F.CPE_STAT_HASH_FAIL = b2n hash
      ∧ (m.unitsTested cores hash modular).rd F.SYSCTL_SELFTEST_MOD_FAIL = b2n modular
      ∧ (m.unitsTested cores hash modular).rd F.CPE_STAT_MA_FAIL = b2n modular
      ∧ (m.unitsTested cores hash modular).rd F.SYSCTL_BOOT_STAT_SW_CRYPTO = b2n (hash || modular) := by
  have hcores : cores % 2 ^ 4 = cores := Nat.mod_eq_of_lt hc
  simp (disch := decide) only [unitsTested, wrb_eq, rd_wr_other, rd_wr_same]
  exact ⟨hcores, hcores, b2n_mod_two _, b2n_mod_two _, b2n_mod_two _, b2n_mod_two _, b2n_mod_two _⟩

/-! ### The candidates (R148–R151) -/

/-- The registers that the choice of a candidate shows. -/
def candidateKeys : List Nat :=
  [F.SYSCTL_BOOT_ERR_A.key 0 0 0, F.SYSCTL_BOOT_ERR_B.key 0 0 0, F.SYSCTL_BOOT_STAT_STAGE.key 0 0 0]

theorem bootErr_frame (m : Module) (b code : Nat) : m.bootErr b code = { m with regs := (m.bootErr b code).regs } := by
  unfold bootErr
  split
  · rfl
  · rfl

theorem bootErr_boot (m : Module) (b code : Nat) : (m.bootErr b code).boot = m.boot := by rw [bootErr_frame]

theorem regsBut_bootErr {m n : Module} (b code : Nat) (h : regsBut candidateKeys m n) :
    regsBut candidateKeys m (n.bootErr b code) := by
  unfold bootErr
  split
  · exact regsBut_wr _ (by decide) h
  · exact regsBut_wr _ (by decide) h

theorem regsBut_bootHalt (m : Module) : regsBut candidateKeys m m.bootHalt :=
  regsBut_wr _ (by decide) (regsBut_trans (regsBut_when (regsBut_refl _ m) (regsBut_bootErr _ _ (regsBut_refl _ m)))
    (regsBut_when (regsBut_refl _ _) (regsBut_bootErr _ _ (regsBut_refl _ _))))

/-- The next candidate's check begins with the registers as they are, or the start halts. -/
theorem nextCandidate_cases (m : Module) : m.nextCandidate.regs = m.regs ∨ m.nextCandidate = m.bootHalt := by
  unfold nextCandidate
  split
  · exact .inr rfl
  · refine .inl ?_
    split
    · exact when_keeps (P := fun t : Module => t.regs = m.regs) rfl rfl
    · rfl

theorem regsBut_nextCandidate (m : Module) : regsBut candidateKeys m m.nextCandidate := by
  rcases nextCandidate_cases m with h | h
  · exact regsBut_set h (regsBut_refl _ m)
  · rw [h]
    exact regsBut_bootHalt m

theorem stage_nextCandidate (m : Module) :
    m.nextCandidate.rd F.SYSCTL_BOOT_STAT_STAGE = m.rd F.SYSCTL_BOOT_STAT_STAGE
      ∨ m.nextCandidate.rd F.SYSCTL_BOOT_STAT_STAGE = 0xF := by
  rcases nextCandidate_cases m with h | h
  · exact .inl (by rw [rd, rd, h])
  · exact .inr (by rw [h, bootHalt, rd_wr_same]; rfl)

/-- The banks that are no candidate, or are barred, are recorded (R148, R150, R152). -/
def candidatesJudged (m : Module) : Module :=
  forEach [0, 1] (fun b m =>
    if ! m.isCandidate b then m.bootErr b 0xD
    else if (m.bank b).state == stCommitted && m.barred b then m.bootErr b 0xF else m) m

theorem regsBut_candidatesJudged (m : Module) : regsBut candidateKeys m m.candidatesJudged := by
  refine forEach_keeps (P := regsBut candidateKeys m) _ _ (fun b t ht => ?_) m (regsBut_refl _ m)
  split
  · exact regsBut_bootErr _ _ ht
  · split
    · exact regsBut_bootErr _ _ ht
    · exact ht

/-- The candidates stand in the order of their checks (R150). -/
def candidatesListed (m : Module) : Module := { m with boot := { m.boot with cands := m.bootOrder } }

/-- The candidates are chosen, and STAGE 3 begins with the first check (R150). -/
def candidatesChosen (m : Module) : Module :=
  (m.candidatesJudged.candidatesListed.wr F.SYSCTL_BOOT_STAT_STAGE 3).nextCandidate

theorem regs_candidatesListed (m : Module) : m.candidatesListed.regs = m.regs := rfl

theorem regsBut_candidatesChosen (m : Module) : regsBut candidateKeys m m.candidatesChosen := by
  have hlisted := regsBut_set (regs_candidatesListed m.candidatesJudged) (regsBut_candidatesJudged m)
  exact regsBut_trans (regsBut_wr 3 (by decide) hlisted) (regsBut_nextCandidate _)

theorem stage_candidatesChosen (m : Module) :
    m.candidatesChosen.rd F.SYSCTL_BOOT_STAT_STAGE = 3 ∨ m.candidatesChosen.rd F.SYSCTL_BOOT_STAT_STAGE = 0xF := by
  have hstage := rd_wr_same m.candidatesJudged.candidatesListed F.SYSCTL_BOOT_STAT_STAGE 3 0 0 0
  rcases stage_nextCandidate (m.candidatesJudged.candidatesListed.wr F.SYSCTL_BOOT_STAT_STAGE 3) with h | h
  · exact .inl (h.trans hstage)
  · exact .inr h

theorem selftestEnd_eq {m : Module} (h : m.rd F.SYSCTL_BOOT_STAT_STAGE = 2) (missed : List Nat) (ff cores : Nat)
    (hash modular : Bool) : m.selftestEnd missed ff cores hash modular
      = ((forEach (List.range 4) (pairTested missed ff) m).unitsTested cores hash modular).candidatesChosen := by
  unfold selftestEnd
  rw [if_neg (not_not.2 h)]
  extract_lets tested core unit shown judged listed
  have htested : tested = forEach (List.range 4) (pairTested missed ff) m := rfl
  have hshown : shown = tested.unitsTested cores hash modular := rfl
  have hjudged : judged = shown.candidatesJudged := rfl
  rw [← htested, ← hshown, candidatesChosen, ← hjudged]
  rfl

/-- A field that the choice of a candidate leaves stands as the tests leave it. -/
theorem rd_selftestEnd {m : Module} (h : m.rd F.SYSCTL_BOOT_STAT_STAGE = 2) (missed : List Nat) (ff cores : Nat)
    (hash modular : Bool) {f : Fam} {i : Nat} (hf : f.key i 0 0 ∉ candidateKeys) :
    (m.selftestEnd missed ff cores hash modular).rd f i
      = ((forEach (List.range 4) (pairTested missed ff) m).unitsTested cores hash modular).rd f i := by
  rw [selftestEnd_eq h]
  exact regsBut_candidatesChosen _ f i 0 0 hf

theorem stage_selftestEnd {m : Module} (h : m.rd F.SYSCTL_BOOT_STAT_STAGE = 2) (missed : List Nat) (ff cores : Nat)
    (hash modular : Bool) : (m.selftestEnd missed ff cores hash modular).rd F.SYSCTL_BOOT_STAT_STAGE = 3
      ∨ (m.selftestEnd missed ff cores hash modular).rd F.SYSCTL_BOOT_STAT_STAGE = 0xF := by
  rw [selftestEnd_eq h]
  exact stage_candidatesChosen _

/-- The states of the pairs are shown elsewhere. -/
theorem candidateKeys_apart (n : Nat) : F.LSS_PAIR_STAT_STATE.key n 0 0 ∉ candidateKeys := by
  simp only [candidateKeys, List.mem_cons, List.not_mem_nil, or_false, Fam.key, Fam.addr, fam, F.LSS_PAIR_STAT_STATE,
    F.SYSCTL_BOOT_ERR_A, F.SYSCTL_BOOT_ERR_B, F.SYSCTL_BOOT_STAT_STAGE]
  omega

theorem unitTestKeys_apart (n : Nat) : F.LSS_PAIR_STAT_STATE.key n 0 0 ∉ unitTestKeys := by
  simp only [unitTestKeys, List.mem_cons, List.not_mem_nil, or_false, Fam.key, Fam.addr, fam, F.LSS_PAIR_STAT_STATE,
    F.SYSCTL_SELFTEST_CORE_FAIL, F.SYSCTL_SELFTEST_HASH_FAIL, F.SYSCTL_SELFTEST_MOD_FAIL, F.CPE_STAT_FENCED,
    F.CPE_STAT_HASH_FAIL, F.CPE_STAT_MA_FAIL, F.SYSCTL_BOOT_STAT_SW_CRYPTO]
  omega

theorem candidateDone_eq {m : Module} {b : Nat} {trial : Bool} {rest : List (Nat × Bool)}
    (h : m.rd F.SYSCTL_BOOT_STAT_STAGE = 3) (hc : m.boot.cands = (b, trial) :: rest) (o : Otp) (e : Bool) :
    m.candidateDone o e = if m.candCode o e b = 0 then (m.bootErr b 0).runImage b trial
      else { (m.bootErr b (m.candCode o e b)).when trial (·.programState b stRejected) with
        boot := { m.boot with cands := rest } }.nextCandidate := by
  unfold candidateDone
  rw [if_neg (not_not.2 h)]
  simp only [hc, bootErr_boot]
  by_cases hcode : m.candCode o e b = 0
  · rw [if_pos hcode]
    exact (if_pos hcode).trans (congrArg (fun code => (m.bootErr b code).runImage b trial) hcode)
  · rw [if_neg hcode]
    exact if_neg hcode

/-! ### The boot watchdog (R152) -/

/-- The expiries in a row of the bank that runs, with the present one. -/
def wdtRun (m : Module) : Nat :=
  if m.boot.wdtBank = some (m.rd F.SYSCTL_BOOT_STAT_BANK) then m.rd F.SYSCTL_BOOT_WDT_COUNT + 1 else 1

theorem three_le_wdtRun (m : Module) : 3 ≤ m.wdtRun
    ↔ m.boot.wdtBank = some (m.rd F.SYSCTL_BOOT_STAT_BANK) ∧ 2 ≤ m.rd F.SYSCTL_BOOT_WDT_COUNT := by
  unfold wdtRun
  split
  next h =>
    simp only [h, true_and]
    omega
  next h => simp [h]

/-- The third expiry in a row bars the bank that runs. -/
def bankBarred (m : Module) : Module :=
  let n := if m.rd F.SYSCTL_BOOT_STAT_BANK = 0 then m.raise F.SYSCTL_BOOT_WDT_BAR_A else m.raise F.SYSCTL_BOOT_WDT_BAR_B
  { n.lower F.SYSCTL_BOOT_WDT_COUNT with boot := { n.boot with wdtBank := none } }

/-- An earlier one is counted for it. -/
def expiryCounted (m : Module) : Module :=
  { m.wr F.SYSCTL_BOOT_WDT_COUNT m.wdtRun with boot := { m.boot with wdtBank := some (m.rd F.SYSCTL_BOOT_STAT_BANK) } }

/-- The expiry resets the module, and is counted where a COMMITTED image runs (R152). -/
theorem bootWatchdog_eq {m : Module} (hup : m.sys.resetHeld = false) (hus : 1800000 ≤ m.boot.us)
    (hst : m.rd F.SYSCTL_BOOT_STAT_STAGE < 7) :
    m.bootWatchdog = (if m.rd F.SYSCTL_BOOT_STAT_STAGE < 5 ∨ m.flag F.SYSCTL_BOOT_STAT_TRIAL then m
      else if 3 ≤ m.wdtRun then m.bankBarred else m.expiryCounted).moduleReset F.SYSCTL_RST_CAUSE_BOOT_WDT := by
  have hruns : ¬ (7 ≤ m.rd F.SYSCTL_BOOT_STAT_STAGE ∨ m.sys.resetHeld ∨ m.boot.us < 1800000) := by
    simp only [hup, Bool.false_eq_true, false_or]
    omega
  unfold bootWatchdog
  rw [if_neg hruns]
  rfl

theorem bootWatchdog_uncounted {m : Module} (hup : m.sys.resetHeld = false) (hus : 1800000 ≤ m.boot.us)
    (hst : m.rd F.SYSCTL_BOOT_STAT_STAGE < 5
      ∨ (m.rd F.SYSCTL_BOOT_STAT_STAGE < 7 ∧ m.rd F.SYSCTL_BOOT_STAT_TRIAL = 1)) :
    m.bootWatchdog = m.moduleReset F.SYSCTL_RST_CAUSE_BOOT_WDT := by
  have huncounted : m.rd F.SYSCTL_BOOT_STAT_STAGE < 5 ∨ m.flag F.SYSCTL_BOOT_STAT_TRIAL = true := by
    rcases hst with h | ⟨-, h⟩
    · exact .inl h
    · exact .inr (by rw [flag_eq, h]; rfl)
  rw [bootWatchdog_eq hup hus (by omega), if_pos huncounted]

theorem bootWatchdog_counted {m : Module} (hup : m.sys.resetHeld = false) (hus : 1800000 ≤ m.boot.us)
    (hst : m.rd F.SYSCTL_BOOT_STAT_STAGE = 5 ∨ m.rd F.SYSCTL_BOOT_STAT_STAGE = 6) (htrial : m.rd F.SYSCTL_BOOT_STAT_TRIAL = 0) :
    m.bootWatchdog = (if 3 ≤ m.wdtRun then m.bankBarred else m.expiryCounted).moduleReset F.SYSCTL_RST_CAUSE_BOOT_WDT := by
  have hcounted : ¬ (m.rd F.SYSCTL_BOOT_STAT_STAGE < 5 ∨ m.flag F.SYSCTL_BOOT_STAT_TRIAL = true) := by
    simp only [flag_eq, htrial, bne_self_eq_false, Bool.false_eq_true, or_false]
    omega
  rw [bootWatchdog_eq hup hus (by omega), if_neg hcounted]

/-- SYSCTL_BOOT_WDT is kept by a module reset (R166). -/
theorem rd_wdtReset (m : Module) {f : Fam} (hf : f.lo < 64) (haddr : f.addr 0 0 0 = 0x20000820) :
    (m.moduleReset F.SYSCTL_RST_CAUSE_BOOT_WDT).rd f = m.rd f := by
  have hcause : f.key 0 0 0 ≠ F.SYSCTL_RST_CAUSE_BOOT_WDT.key 0 0 0 := fun h => by
    have := congrArg (· / 64) h
    simp only [f.key_div hf, F.SYSCTL_RST_CAUSE_BOOT_WDT.key_div (by decide), haddr] at this
    exact absurd this (by decide)
  rw [rd_moduleReset m false false hf hcause, haddr]
  rfl

theorem bankBarred_frame (m : Module) : m.bankBarred.nvm = m.nvm ∧ m.bankBarred.mem = m.mem := by
  unfold bankBarred
  dsimp only
  split
  · exact ⟨rfl, rfl⟩
  · exact ⟨rfl, rfl⟩

theorem rd_bankBarred_count (m : Module) : m.bankBarred.rd F.SYSCTL_BOOT_WDT_COUNT = 0 := rd_wr_same _ _ 0 0 0 0

theorem rd_bankBarred_bar (m : Module) :
    m.bankBarred.rd (if m.rd F.SYSCTL_BOOT_STAT_BANK = 0 then F.SYSCTL_BOOT_WDT_BAR_A else F.SYSCTL_BOOT_WDT_BAR_B) = 1 := by
  unfold bankBarred
  dsimp only
  split
  · exact (rd_wr_other (m.raise F.SYSCTL_BOOT_WDT_BAR_A) F.SYSCTL_BOOT_WDT_COUNT _ 0 0 0 0 0 0 0 (by decide)).trans
      (rd_wr_same m _ 1 0 0 0)
  · exact (rd_wr_other (m.raise F.SYSCTL_BOOT_WDT_BAR_B) F.SYSCTL_BOOT_WDT_COUNT _ 0 0 0 0 0 0 0 (by decide)).trans
      (rd_wr_same m _ 1 0 0 0)

theorem rd_expiryCounted (m : Module) (h : ¬ 3 ≤ m.wdtRun) : m.expiryCounted.rd F.SYSCTL_BOOT_WDT_COUNT = m.wdtRun := by
  have hfits : m.wdtRun % 2 ^ 2 = m.wdtRun := Nat.mod_eq_of_lt (by omega)
  exact (rd_wr_same m _ _ 0 0 0).trans hfits

end Module

end Sys2Proof.Machine
end

section
/-!
SUPPORT. Step 8 of the start (R201, R266–R273): what it applies to channels, inputs and microcode leaves memory, what the start
remembers, and CHC_STAT.RUN.
-/
namespace Sys2Proof.Machine
namespace Module

/-- From `m` to `n` memory, what the start remembers, and CHC_STAT.RUN are as they were. -/
structure KeepsStart (m n : Module) : Prop where
  boot : n.boot = m.boot
  mem : n.mem = m.mem
  run : n.rd F.CHC_STAT_RUN = m.rd F.CHC_STAT_RUN

theorem keepsStart_refl (m : Module) : KeepsStart m m := ⟨rfl, rfl, rfl⟩

theorem keepsStart_trans {m n t : Module} (h : KeepsStart m n) (h' : KeepsStart n t) : KeepsStart m t :=
  ⟨h'.boot.trans h.boot, h'.mem.trans h.mem, h'.run.trans h.run⟩

/-- What is not in the registers, in memory or in the start does not count. -/
theorem keepsStart_set {m n t : Module} (h : KeepsStart m n) (hregs : t.regs = n.regs) (hmem : t.mem = n.mem)
    (hboot : t.boot = n.boot) : KeepsStart m t :=
  keepsStart_trans h ⟨hboot, hmem, by rw [rd, rd, hregs]⟩

/-- A write of a register above CHC_STAT. -/
theorem keepsStart_wr {m n : Module} {f : Fam} {v i j k : Nat} (hf : 0x20200000 < f.base) (h : KeepsStart m n) :
    KeepsStart m (n.wr f v i j k) := by
  refine keepsStart_trans h ⟨rfl, rfl, rd_wr_other _ _ _ _ _ _ _ _ _ _ ?_⟩
  simp only [Fam.key, Fam.addr, F.CHC_STAT_RUN, fam]
  omega

theorem keepsStart_when {m n : Module} {c : Bool} {f : Module → Module} (h : KeepsStart m n) (hf : KeepsStart m (f n)) :
    KeepsStart m (n.when c f) :=
  when_keeps (P := KeepsStart m) h hf

theorem keepsStart_forEach {m n : Module} (l : List Nat) {f : Nat → Module → Module}
    (hf : ∀ i t, KeepsStart m t → KeepsStart m (f i t)) (h : KeepsStart m n) : KeepsStart m (forEach l f n) :=
  forEach_keeps (P := KeepsStart m) l f hf n h

theorem keepsStart_saveCfg {m n : Module} (lo hi : Nat) (h : KeepsStart m n) : KeepsStart m (n.saveCfg lo hi) :=
  keepsStart_set h rfl rfl rfl

/-! ### Inputs and outputs -/

theorem keepsStart_setUin {m n : Module} (k : Nat) (x : UinIn) (h : KeepsStart m n) : KeepsStart m (n.setUin k x) :=
  keepsStart_set h rfl rfl rfl

theorem keepsStart_uin {m n : Module} (x : UinSt) (h : KeepsStart m n) : KeepsStart m { n with uin := x } :=
  keepsStart_set h rfl rfl rfl

theorem keepsStart_setChi {m n : Module} (i : Nat) (x : Chi) (h : KeepsStart m n) : KeepsStart m (n.setChi i x) :=
  keepsStart_set h rfl rfl rfl

theorem keepsStart_setExcite {m n : Module} (on : Bool) (h : KeepsStart m n) : KeepsStart m (n.setExcite on) := by
  unfold setExcite
  split
  · exact h
  · exact keepsStart_uin _ (keepsStart_wr (by decide) h)

theorem keepsStart_driveOn {m n : Module} (h : KeepsStart m n) : KeepsStart m n.driveOn := by
  refine keepsStart_forEach _ (fun i t ht => ?_) (keepsStart_setExcite true (keepsStart_wr (by decide) h))
  split
  · exact keepsStart_setChi i _ ht
  · exact ht

theorem keepsStart_putUinWord {m n : Module} (k v : Nat) (h : KeepsStart m n) : KeepsStart m (n.putUinWord k v) :=
  keepsStart_setUin k _ (keepsStart_wr (by decide) (keepsStart_wr (by decide) (keepsStart_wr (by decide)
    (keepsStart_wr (by decide) (keepsStart_wr (by decide) (keepsStart_wr (by decide) (keepsStart_wr (by decide) h)))))))

theorem keepsStart_uinLatch {m n : Module} (k : Nat) (h : KeepsStart m n) : KeepsStart m (n.uinLatch k) := by
  unfold uinLatch
  extract_lets x w set r25 b bad y judged shown fresh cleared
  have hjudged : KeepsStart m judged := keepsStart_wr (by decide) h
  have hshown : KeepsStart m shown := keepsStart_when hjudged (keepsStart_wr (by decide) hjudged)
  have hcleared : KeepsStart m cleared := keepsStart_wr (by decide) (keepsStart_wr (by decide) (keepsStart_wr (by decide)
    (keepsStart_wr (by decide) (keepsStart_setUin k _ hshown))))
  split
  · exact h
  · split
    · exact keepsStart_setUin k y hshown
    · exact keepsStart_when hcleared (keepsStart_wr (by decide) hcleared)

theorem keepsStart_inputApply {m n : Module} (w : List Nat) (h : KeepsStart m n) : KeepsStart m (n.inputApply w) := by
  unfold inputApply
  extract_lets words ntc saved resv uin kept
  have hwords : KeepsStart m words := keepsStart_forEach _ (fun k t ht => keepsStart_putUinWord k _ ht) h
  have hntc : KeepsStart m ntc :=
    keepsStart_forEach _ (fun k t ht => keepsStart_wr (by decide) (keepsStart_wr (by decide) ht)) hwords
  have hsaved : KeepsStart m saved := keepsStart_saveCfg _ _ (keepsStart_saveCfg _ _ hntc)
  have hkept : KeepsStart m kept := keepsStart_uin _ hsaved
  exact keepsStart_forEach _ (fun k t ht => keepsStart_uinLatch k ht) hkept

/-! ### Channels -/

theorem keepsStart_channelOnly {m n t : Module} {k : Nat} (ht : ChannelOnly k n t) (h : KeepsStart m n) : KeepsStart m t :=
  keepsStart_trans h ⟨by rw [ht.frame], mem_of_channelsOnly ht.toChannelsOnly, ht.regs _ 0 0 0 (by decide)⟩

theorem keepsStart_chanConfigure {m n : Module} (w : List Nat) (k : Nat) (h : KeepsStart m n) :
    KeepsStart m (n.chanConfigure w k) := by
  unfold chanConfigure
  extract_lets g x c attached bad put judged
  have hput : KeepsStart m put := keepsStart_wr (by decide) (keepsStart_channelOnly (channelOnly_putChan k n _) h)
  have hjudged : KeepsStart m judged := keepsStart_when hput
    (keepsStart_channelOnly (channelOnly_setChan _ k _) (keepsStart_channelOnly (channelOnly_putChan k put _) hput))
  exact keepsStart_when hjudged (keepsStart_wr (by decide) hjudged)

theorem keepsStart_chanRecordApply {m n : Module} (w : List Nat) (h : KeepsStart m n) :
    KeepsStart m (n.chanRecordApply w) := by
  have hround : ∀ (i : Nat) (t : Module), KeepsStart m t →
      KeepsStart m ((t.wr F.CHI_WDT_TIMEOUT (bits (w.getD (4 + i) 0) 13 0) i).setChi i
        { (t.wr F.CHI_WDT_TIMEOUT (bits (w.getD (4 + i) 0) 13 0) i).chi i with
          leftUs := (t.wr F.CHI_WDT_TIMEOUT (bits (w.getD (4 + i) 0) 13 0) i).wdtUs i }) :=
    fun i t ht => keepsStart_setChi i _ (keepsStart_wr (by decide) ht)
  exact keepsStart_forEach _ (fun k t ht => keepsStart_chanConfigure w k ht) (keepsStart_forEach _ hround h)

theorem keepsStart_chcSave {m n : Module} (h : KeepsStart m n) : KeepsStart m n.chcSave := by
  unfold chcSave
  extract_lets saved
  have hsaved : KeepsStart m saved := keepsStart_saveCfg _ _ (keepsStart_saveCfg _ _ (keepsStart_saveCfg _ _ h))
  refine keepsStart_forEach _ (fun i t ht => ?_) hsaved
  exact keepsStart_saveCfg _ _ (keepsStart_saveCfg _ _ ht)

theorem keepsStart_wireStart {m n : Module} (k : Nat) (theta : Option Int) (h : KeepsStart m n) :
    KeepsStart m (n.wireStart k theta) := by
  unfold wireStart
  exact keepsStart_channelOnly (channelOnly_setChan n k _) h

theorem keepsStart_chanInitial {m n : Module} (k : Nat) (saved : Option Commanded) (h : KeepsStart m n) :
    KeepsStart m (n.chanInitial k saved) := by
  unfold chanInitial
  extract_lets c plain cmd commanded
  have hcommanded : KeepsStart m commanded := keepsStart_channelOnly (channelOnly_setChan n k _) h
  split
  · exact h
  · exact keepsStart_when hcommanded (keepsStart_channelOnly (channelOnly_turnOn commanded k 0 true false) hcommanded)

theorem keepsStart_chc {m n : Module} (x : ChcSt) (h : KeepsStart m n) : KeepsStart m { n with chc := x } :=
  keepsStart_set h rfl rfl rfl

theorem keepsStart_nvm {m n : Module} (x : NvmSt) (h : KeepsStart m n) : KeepsStart m { n with nvm := x } :=
  keepsStart_set h rfl rfl rfl

/-! ### Step 8 -/

/-- The microcode runs (R294), and memory and the start are as they were. -/
theorem ucStart_keeps (m : Module) (l : List Byte) :
    (m.ucStart l).boot = m.boot ∧ (m.ucStart l).mem = m.mem ∧ (m.ucStart l).rd F.CHC_STAT_RUN = 1 :=
  ⟨rfl, rfl, rd_wr_same _ _ 1 0 0 0⟩

/-- The end of step 8 (R130, R167, R273), with `b` what the start remembers: the boot region is wiped, and the time is stored. -/
def channelsStarted (b : BootSt) (m : Module) : Module :=
  let m := { m with mem := m.mem.wipe 0x800000000 0x804000000, boot := { b with chanDone := true, region := false } }
  m.wr F.SYSCTL_BOOT_T_CHAN_US (sat 32 m.boot.us)

theorem channelsStart_eq {m : Module} (hst : m.rd F.SYSCTL_BOOT_STAT_STAGE = 7) (hdone : m.boot.chanDone = false) :
    ∃ (b : BootSt) (n : Module), m.channelsStart = n.channelsStarted b ∧ b = m.boot ∧ n.mem = m.mem ∧
      n.rd F.CHC_STAT_RUN = 1 := by
  unfold channelsStart
  rw [if_neg (by simp [hst, hdone])]
  extract_lets r driven excited inputs micro l w chc profiles channels lowv saved wired commanded nvm used boot wiped
  have hdriven : KeepsStart m driven := keepsStart_when (keepsStart_refl m) (keepsStart_driveOn (keepsStart_refl m))
  have hexcited : KeepsStart m excited := keepsStart_setExcite _ hdriven
  have hinputs : KeepsStart m inputs := by
    unfold inputs
    split
    · exact keepsStart_inputApply _ hexcited
    · exact hexcited
  have hprofiles : KeepsStart micro profiles := keepsStart_chc _ (keepsStart_refl micro)
  have hchannels : KeepsStart micro channels := keepsStart_chcSave (keepsStart_chanRecordApply w hprofiles)
  have hwired : KeepsStart micro wired := keepsStart_forEach _ (fun k t ht => keepsStart_wireStart k _ ht) hchannels
  have hcommanded : KeepsStart micro commanded := keepsStart_forEach _ (fun k t ht => keepsStart_chanInitial k _ ht) hwired
  have hused : KeepsStart micro used := keepsStart_nvm _ hcommanded
  obtain ⟨hboot, hmem, hrun⟩ := ucStart_keeps inputs (((recordsOf r 8).head?).getD [])
  exact ⟨boot, used, rfl, hused.boot.trans (hboot.trans hinputs.boot), hused.mem.trans (hmem.trans hinputs.mem),
    hused.run.trans hrun⟩

theorem rd_channelsStarted_run (b : BootSt) (m : Module) : (m.channelsStarted b).rd F.CHC_STAT_RUN = m.rd F.CHC_STAT_RUN :=
  rd_wr_other _ _ F.CHC_STAT_RUN _ 0 0 0 0 0 0 (by decide)

theorem rd_channelsStarted_time (b : BootSt) (m : Module) :
    (m.channelsStarted b).rd F.SYSCTL_BOOT_T_CHAN_US = sat 32 b.us := by
  have hfits : sat 32 b.us % 2 ^ 32 = sat 32 b.us := Nat.mod_eq_of_lt (by unfold sat; omega)
  exact (rd_wr_same _ F.SYSCTL_BOOT_T_CHAN_US _ 0 0 0).trans hfits

end Module

/-- A wiped byte is 0 (R131). -/
theorem MemSt.byte_wipe (s : MemSt) {lo hi b : Nat} (hlo : lo ≤ b) (hhi : b < hi) : (s.wipe lo hi).byte b = 0 := by
  simp only [MemSt.byte, MemSt.wipe, tget_tkeep]
  rw [if_neg (by simp [hlo, hhi])]
  rfl

/-- Settles O23. -/
theorem bootStages : Obligations.BootStages := by
  unfold Obligations.BootStages
  refine ⟨fun s hst => ?wipe, fun s missed ff cores hash modular hst => ?selftest, fun s e trial b rest hst hcands => ?candidate,
    fun s hst hlc => ?retry, fun s hup hst => ?uncounted, fun s hup hst htrial => ?counted, fun s hst hdone => ?channels,
    fun s => rfl, fun s _ _ _ _ _ => rfl, fun s _ => rfl, fun s => rfl, fun s => rfl, fun s => rfl⟩
  case wipe => exact congrArg s.to (if_neg (not_not.2 hst))
  case selftest =>
    refine ⟨_, rfl, ?_⟩
    have hrd := fun {f : Fam} {i : Nat} (hf : f.key i 0 0 ∉ Module.candidateKeys) =>
      Module.rd_selftestEnd hst (missed.map Fin.val) ff.val cores.val hash modular hf
    obtain ⟨hcore, hfenced, hhash, hcpeHash, hmod, hma, hcrypto⟩ := Module.rd_unitsTested
      (forEach (List.range 4) (Module.pairTested (missed.map Fin.val) ff.val) s.m) hash modular cores.isLt
    refine ⟨fun n hn => ?_, fun n hn hbad => ?_, (hrd (by decide)).trans hcore, (hrd (by decide)).trans hfenced,
      (hrd (by decide)).trans hhash, (hrd (by decide)).trans hcpeHash, (hrd (by decide)).trans hmod,
      (hrd (by decide)).trans hma, (hrd (by decide)).trans hcrypto, ?_⟩
    · have hn4 : n < 4 := List.mem_range.1 hn
      rw [hrd (by decide), Module.regsBut_unitsTested _ _ _ _ _ _ _ _ (by decide), Module.bit_pairsTested _ _ _ hn4,
        Bool.or_assoc]
    · have hn4 : n < 4 := List.mem_range.1 hn
      rw [hrd (Module.candidateKeys_apart n), Module.regsBut_unitsTested _ _ _ _ _ _ _ _ (Module.unitTestKeys_apart n)]
      exact Module.rd_pairsTested_state _ _ _ hn4 hbad
    · exact Module.stage_selftestEnd hst _ _ _ _ _
  case candidate => exact congrArg s.to (Module.candidateDone_eq hst hcands s.otp e)
  case retry =>
    have hhalted : (s.m.rd F.SYSCTL_BOOT_STAT_STAGE == 0xF && s.m.rd F.SYSCTL_LC_STATE_STATE != 5) = true := by
      simp [hst, hlc]
    exact congrArg (fun c => s.to (s.m.when c (·.moduleReset F.SYSCTL_RST_CAUSE_BOOT_RETRY))) hhalted
  case uncounted =>
    obtain ⟨hheld, hus⟩ := hup
    exact congrArg s.to (Module.bootWatchdog_uncounted hheld hus hst)
  case counted =>
    obtain ⟨hheld, hus⟩ := hup
    refine ⟨_, congrArg s.to (Module.bootWatchdog_counted hheld hus hst htrial), Module.rd_moduleReset_cause _ _ _ _, ?_⟩
    by_cases hthird : 3 ≤ s.m.wdtRun
    · rw [if_pos hthird, if_pos ((Module.three_le_wdtRun s.m).1 hthird)]
      obtain ⟨hnvm, hmem⟩ := Module.bankBarred_frame s.m
      refine ⟨⟨?_, rfl, ?_⟩, hnvm, hmem⟩
      · rw [Module.rd_wdtReset _ (by decide) (by decide), Module.rd_bankBarred_count]
      · rw [Module.rd_wdtReset, Module.rd_bankBarred_bar]
        · split <;> decide
        · split <;> decide
    · rw [if_neg hthird, if_neg (fun h => hthird ((Module.three_le_wdtRun s.m).2 h))]
      refine ⟨⟨?_, rfl⟩, rfl, rfl⟩
      rw [Module.rd_wdtReset _ (by decide) (by decide), Module.rd_expiryCounted _ hthird]
      rfl
  case channels =>
    obtain ⟨x, n, hn, hboot, hmem, hrun⟩ := Module.channelsStart_eq hst hdone
    refine ⟨_, congrArg s.to hn, ?_, ?_, ?_, ?_, fun b hlo hhi => ?_⟩
    · exact congrArg (fun y : BootSt => { y with chanDone := true, region := false }) hboot
    · rw [Module.rd_channelsStarted_run, hrun]
    · rw [Module.rd_channelsStarted_time, hboot]
    · exact congrArg (MemSt.wipe · 0x800000000 0x804000000) hmem
    · exact MemSt.byte_wipe n.mem hlo hhi

end Sys2Proof.Machine
end

section
/-!
SUPPORT. A change of one channel in full: beside it the registers of its own events alone (R289), and what a protection turn-off
makes of it (R187, R190, R192, R193, R250, R253).
-/
namespace Sys2Proof.Machine
namespace Module

/-! ### The events of one channel -/

theorem eventKeys_of_ctrl {m t : Module} {n : Nat} (h : (t.chan n).ctrl = (m.chan n).ctrl) :
    t.eventKeys n = m.eventKeys n := by
  rw [eventKeys, eventKeys, Chan.owner, Chan.owner, h]

/-- Nothing changes but channel `n`, which keeps its control word, the registers of its events, and HST's latches. -/
structure OwnEvents (n : Nat) (m t : Module) : Prop extends ChannelOnly n m t where
  events : regsBut (m.eventKeys n) m t
  ctrl : (t.chan n).ctrl = (m.chan n).ctrl

theorem ownEvents_refl (n : Nat) (m : Module) : OwnEvents n m m := ⟨channelOnly_refl n m, regsBut_refl _ m, rfl⟩

theorem ownEvents_trans {n : Nat} {m t u : Module} (h : OwnEvents n m t) (h' : OwnEvents n t u) : OwnEvents n m u :=
  ⟨channelOnly_trans h.toChannelOnly h'.toChannelOnly, regsBut_trans h.events (eventKeys_of_ctrl h.ctrl ▸ h'.events),
    h'.ctrl.trans h.ctrl⟩

theorem ownEvents_when {n : Nat} {m t : Module} {c : Bool} {f : Module → Module} (h : OwnEvents n m t)
    (hf : OwnEvents n t (f t)) : OwnEvents n m (t.when c f) :=
  when_keeps (P := OwnEvents n m) h (ownEvents_trans h hf)

theorem ownEvents_wr {n : Nat} (m : Module) {f : Fam} (v : Nat) {i j k : Nat} (haside : ¬ asideKey (f.key i j k))
    (hkey : f.key i j k ∈ m.eventKeys n) : OwnEvents n m (m.wr f v i j k) :=
  ⟨channelOnly_wr n m v haside, regsBut_wr v hkey (regsBut_refl _ m), rfl⟩

theorem ownEvents_wrBlock (n : Nat) (m : Module) (v : Nat) : OwnEvents n m (m.wr F.CHC_CH_EVT_EVT v n) :=
  ownEvents_wr m v (chcEvt_notAside n) (List.mem_cons_self ..)

theorem ownEvents_wrPage (n : Nat) (m : Module) (v : Nat) :
    OwnEvents n m (m.wr F.CHI_CH_EVT_EVT v (m.chan n).owner n) :=
  ownEvents_wr m v (chiEvt_notAside _ n) (List.mem_cons_of_mem _ (List.mem_cons_self ..))

theorem ownEvents_raiseIrq (n : Nat) (m : Module) : OwnEvents n m (m.raise F.CHI_IRQ_STAT_EVT (m.chan n).owner) :=
  ownEvents_wr m 1 (chiIrq_notAside _) (List.mem_cons_of_mem _ (List.mem_cons_of_mem _ (List.mem_cons_self ..)))

theorem ownEvents_latch (n : Nat) (m : Module) (f : HstSt → HstSt) : OwnEvents n m (m.latch f) :=
  ⟨channelOnly_latch n m f, fun _ _ _ _ _ => rfl, rfl⟩

theorem ownEvents_putChan {n : Nat} {m : Module} {c : Chan} (hc : c.ctrl = (m.chan n).ctrl) :
    OwnEvents n m (m.putChan n c) :=
  ⟨channelOnly_putChan n m c, fun _ _ _ _ _ => rfl, (congrArg Chan.ctrl (chan_putChan_same m n c)).trans hc⟩

theorem ownEvents_latchEvt (n : Nat) (m : Module) (b : Nat) : OwnEvents n m (m.latchEvt n b) := by
  unfold latchEvt
  split
  · exact ownEvents_refl n m
  · extract_lets m1 c old m2
    have h1 : OwnEvents n m m1 := ownEvents_wrBlock n m _
    have h2 : OwnEvents n m m2 := ownEvents_trans h1 (ownEvents_wrPage n m1 _)
    split
    · exact h1
    · exact ownEvents_when h2 (ownEvents_raiseIrq n m2)

theorem ownEvents_setChan (n : Nat) (m : Module) {f : Chan → Chan} (hf : ∀ c, (f c).ctrl = c.ctrl) :
    OwnEvents n m (m.setChan n f) :=
  ownEvents_trans (ownEvents_putChan (hf _)) (ownEvents_latchEvt n _ _)

theorem ownEvents_unlatch (n : Nat) (m : Module) (t : TripFrom) : OwnEvents n m (m.unlatch n t) := by
  unfold unlatch
  extract_lets back m1 c
  have h1 : OwnEvents n m m1 := ownEvents_wrBlock n m _
  exact ownEvents_when h1 (ownEvents_wrPage n m1 _)

theorem ownEvents_tripRecord (n : Nat) (m : Module) (cause : Nat) (l : Bool) : OwnEvents n m (m.tripRecord n cause l) := by
  unfold tripRecord
  exact ownEvents_setChan n m (fun _ => rfl)

theorem ownEvents_tripUndo (n : Nat) (m : Module) (t : TripFrom) : OwnEvents n m (m.tripUndo n t) := by
  unfold tripUndo
  refine ownEvents_trans (ownEvents_putChan ?_) (ownEvents_unlatch n _ t)
  rfl

theorem ownEvents_tripAgain (n : Nat) (m : Module) (cause : Nat) (l : Bool) : OwnEvents n m (m.tripAgain n cause l) := by
  unfold tripAgain
  extract_lets c m1
  have h1 : OwnEvents n m m1 := ownEvents_when (ownEvents_refl n m) (ownEvents_putChan rfl)
  split
  · split
    · refine ownEvents_trans h1 (ownEvents_trans (ownEvents_tripUndo n m1 _)
        (ownEvents_trans (ownEvents_tripRecord n _ cause l) (ownEvents_setChan n _ ?_)))
      exact fun _ => rfl
    · exact h1
  · exact h1

theorem ownEvents_trip (n : Nat) (m : Module) (cause : Nat) (hard l : Bool) : OwnEvents n m (m.trip n cause hard l) := by
  unfold trip
  extract_lets c offPhase turning acts t old m1 m2
  have h1 : OwnEvents n m m1 := by
    refine ownEvents_setChan n m fun x => ?_
    cases x.conducting <;> rfl
  have h2 : OwnEvents n m m2 := ownEvents_trans h1 (ownEvents_tripRecord n m1 cause l)
  split
  · exact ownEvents_tripAgain n m cause l
  · exact ownEvents_when h2 (ownEvents_trans (ownEvents_latchEvt n m2 _) (ownEvents_latch n _ _))

theorem ownEvents_limitCheck (n : Nat) (m : Module) : OwnEvents n m (m.limitCheck n) := by
  unfold limitCheck
  split
  · split
    · exact ownEvents_trip n m 2 false true
    · exact ownEvents_refl n m
  · exact ownEvents_refl n m

/-- Beside HST's latches, that is a change of channel `n` alone. -/
theorem onlyChannel_of_ownEvents {n : Nat} {m t : Module} (h : OwnEvents n m t) :
    onlyChannel n { m with hst := t.hst } t :=
  ⟨h.frame, h.others, h.events⟩

theorem hst_latchEvt (m : Module) (n b : Nat) : (m.latchEvt n b).hst = m.hst := by
  unfold latchEvt
  split
  · rfl
  · extract_lets m1 c old m2
    split
    · rfl
    · exact when_keeps (P := fun t : Module => t.hst = m.hst) rfl rfl

/-- A change of a channel that is no protection turn-off leaves HST's latches. -/
theorem hst_setChan (m : Module) (n : Nat) (f : Chan → Chan) : (m.setChan n f).hst = m.hst := hst_latchEvt _ n _

theorem onlyChannel_setChan (n : Nat) (m : Module) {f : Chan → Chan} (hf : ∀ c, (f c).ctrl = c.ctrl) :
    onlyChannel n m (m.setChan n f) := by
  have h := onlyChannel_of_ownEvents (ownEvents_setChan n m hf)
  rwa [hst_setChan] at h

theorem rd_latch (m : Module) (g : HstSt → HstSt) (f : Fam) (i j k : Nat) : (m.latch g).rd f i j k = m.rd f i j k := rfl

/-- A latched bit shows in the block's copy of the channel's events (R289). -/
theorem bit_evt_latchEvt (m : Module) {n x b : Nat} (hb : b < F.CHC_CH_EVT_EVT.width) (hx : bit x b = true) :
    bit ((m.latchEvt n x).rd F.CHC_CH_EVT_EVT n) b = true := by
  have hpage : ∀ o, F.CHC_CH_EVT_EVT.key n 0 0 ≠ F.CHI_CH_EVT_EVT.key o n 0 := by
    intro o
    simp only [Fam.key, Fam.addr, F.CHC_CH_EVT_EVT, F.CHI_CH_EVT_EVT, fam]
    omega
  have hirq : ∀ o, F.CHC_CH_EVT_EVT.key n 0 0 ≠ F.CHI_IRQ_STAT_EVT.key o 0 0 := by
    intro o
    simp only [Fam.key, Fam.addr, F.CHC_CH_EVT_EVT, F.CHI_IRQ_STAT_EVT, fam]
    omega
  unfold latchEvt
  rw [if_neg (fun h => by simp [h, bit] at hx)]
  extract_lets m1 c old m2
  have h1 : bit (m1.rd F.CHC_CH_EVT_EVT n) b = true := by
    rw [rd_wr_same, bit_mod_two_pow _ hb, bit_eq_testBit, Nat.testBit_or, ← bit_eq_testBit x, hx, Bool.or_true]
  have h2 : bit (m2.rd F.CHC_CH_EVT_EVT n) b = true := by
    rw [rd_wr_other _ _ _ _ _ _ _ _ _ _ (hpage _)]
    exact h1
  split
  · exact h1
  · refine when_keeps (P := fun t : Module => bit (t.rd F.CHC_CH_EVT_EVT n) b = true) h2 ?_
    rw [raise_eq, rd_wr_other _ _ _ _ _ _ _ _ _ _ (hirq _)]
    exact h2

/-! ### A protection turn-off -/

end Module

/-- The turn-off that a protection of cause `cause` begins at `t` (R187, R227, R243, R250), with the record `old` of how the
channel stood: in the off-phase of a PWM only the PWM ends. -/
def Chan.tripBegun (t cause : Nat) (hard : Bool) (old : TripFrom) (c : Chan) : Chan :=
  let c := if c.conducting then Module.beginOff c t hard false (cause != 1) else { c with window := none }
  { c with pwm := none, firstEdge := false, ocCount := 0, steadyAt := none, tripFrom := some old }

/-- What the channel then records (R192, R250, R251, R253). -/
def Chan.tripRecorded (cause : Nat) (limitEnd : Bool) (c : Chan) : Chan :=
  let counted := cause == 1 || cause == 2
  let exh := counted && c.retryLeft == 0
  let left := if counted then c.retryLeft - 1 else c.retryLeft
  let waits := counted && ! exh
  { c with
    protOff := true, cause := cause, limitEnd := c.limitEnd || limitEnd, retryLeft := left
    thermOff := c.thermOff || cause == 3 || cause == 4
    backoff := c.backoff || waits
    backoffUs := if waits then c.backoffBase * 4 ^ (c.retryMax - left - 1) else c.backoffUs
    backoffFrom := if waits then none else c.backoffFrom
    exhausted := c.exhausted || exh
    cmd := if exh then .off else c.cmd }

namespace Module

theorem tripRecord_eq (m : Module) (n cause : Nat) (l : Bool) :
    m.tripRecord n cause l = m.setChan n (Chan.tripRecorded cause l) := rfl

/-- A protection acts on a channel that conducts, and for the causes 3, 4 and 6 in the off-phase of a PWM. -/
def tripActs (c : Chan) (cause : Nat) : Prop :=
  c.conducting = true ∨ (c.pwm.isSome = true ∧ (cause = 3 ∨ cause = 4 ∨ cause = 6))

/-- Where it acts, the turn-off begins, it is recorded, and EVT bit 16 and HST's latch show it (R289, R811). -/
theorem trip_eq {m : Module} {n cause : Nat} (hard l : Bool) (h : tripActs (m.chan n) cause) :
    ∃ old, m.trip n cause hard l
      = ((((m.setChan n (Chan.tripBegun m.now cause hard old)).tripRecord n cause l).latchEvt n (2 ^ 16)).latch
          (fun h => { h with trips := setBit h.trips n true })) := by
  unfold trip
  extract_lets c offPhase turning acts t old m1 m2
  have hacts : acts = true := by
    rcases h with hc | ⟨hp, hcause⟩
    · simp [acts, c, hc]
    · simp only [acts, offPhase, c, hp]
      rcases hcause with rfl | rfl | rfl <;> simp
  refine ⟨old, ?_⟩
  rw [if_neg (by simp [hacts])]
  simp only [m2, m1, hacts, if_true, when_true]
  rfl

theorem chan_trip {m : Module} {n cause : Nat} (hard l : Bool) (h : tripActs (m.chan n) cause) :
    ∃ old, (m.trip n cause hard l).chan n = ((m.chan n).tripBegun m.now cause hard old).tripRecorded cause l := by
  obtain ⟨old, heq⟩ := trip_eq hard l h
  exact ⟨old, by rw [heq, chan_latch, chan_latchEvt, tripRecord_eq, chan_setChan_same, chan_setChan_same]⟩

theorem bit_evt_trip {m : Module} {n cause : Nat} (hard l : Bool) (h : tripActs (m.chan n) cause) :
    bit ((m.trip n cause hard l).rd F.CHC_CH_EVT_EVT n) 16 = true := by
  obtain ⟨old, heq⟩ := trip_eq hard l h
  rw [heq, rd_latch]
  exact bit_evt_latchEvt _ (by decide) (by decide)

theorem now_of_channelsOnly {m t : Module} (h : ChannelsOnly m t) : t.now = m.now := by
  rw [h.frame]
  rfl

/-- The same after a change `f` of the channel. -/
theorem setChan_trip {m : Module} {n cause : Nat} {f : Chan → Chan} (hard l : Bool) (hf : ∀ c, (f c).ctrl = c.ctrl)
    (h : tripActs (f (m.chan n)) cause) :
    ∃ t old, (m.setChan n f).trip n cause hard l = t
      ∧ t.chan n = ((f (m.chan n)).tripBegun m.now cause hard old).tripRecorded cause l
      ∧ bit (t.rd F.CHC_CH_EVT_EVT n) 16 = true ∧ onlyChannel n { m with hst := t.hst } t := by
  have hset : OwnEvents n m (m.setChan n f) := ownEvents_setChan n m hf
  have hacts : tripActs ((m.setChan n f).chan n) cause := (chan_setChan_same m n f).symm ▸ h
  obtain ⟨old, hchan⟩ := chan_trip hard l hacts
  rw [chan_setChan_same, now_of_channelsOnly hset.toChannelsOnly] at hchan
  exact ⟨_, old, rfl, hchan, bit_evt_trip hard l hacts,
    onlyChannel_of_ownEvents (ownEvents_trans hset (ownEvents_trip n _ cause hard l))⟩

end Module

/-- Settles O26: the protections act on the channel in question, and what they make of it is `tripBegun`, then `tripRecorded`. -/
theorem protectionTripsTurnOff : Obligations.ProtectionTripsTurnOff := by
  unfold Obligations.ProtectionTripsTurnOff
  refine ⟨?short, ?hot, ?pwm, fun s c => rfl, fun s c => rfl⟩
  case short =>
    intro s c hc
    have hacts : Module.tripActs (s.m.chan c.val) 1 := .inl hc
    obtain ⟨old, hchan⟩ := Module.chan_trip true false hacts
    refine ⟨s.m.trip c.val 1 true, rfl, ?_⟩
    rw [hchan]
    refine ⟨?_, ?_, ?_, ?_, ?_, ?_, ?_, ?_, ?_, Module.bit_evt_trip true false hacts,
      Module.onlyChannel_of_ownEvents (Module.ownEvents_trip _ _ _ _ _)⟩
    all_goals simp [Chan.tripRecorded, Chan.tripBegun, hc, Module.beginOff, Module.closeWindow, bne]
  case hot =>
    intro s c hc
    obtain ⟨t, old, ht, hchan, hevt, honly⟩ := Module.setChan_trip (m := s.m) (n := c.val) (cause := 3)
      (f := fun c => { c with thermLatch := true }) false false (fun _ => rfl) (.inl hc)
    have hconducts : ({ s.m.chan c.val with thermLatch := true } : Chan).conducting = true := hc
    refine ⟨t, congrArg s.to ht, ?_⟩
    rw [hchan]
    refine ⟨?_, ?_, ?_, ?_, ?_, ?_, ?_, ?_, hevt, honly⟩
    all_goals simp [Chan.tripRecorded, Chan.tripBegun, hconducts, Module.beginOff, Module.closeWindow]
  case pwm =>
    rintro s c ⟨hc, hpwm⟩
    obtain ⟨t, old, ht, hchan, hevt, honly⟩ := Module.setChan_trip (m := s.m) (n := c.val) (cause := 3)
      (f := fun c => { c with thermLatch := true }) false false (fun _ => rfl)
      (.inr ⟨Option.isSome_iff_ne_none.2 hpwm, .inl rfl⟩)
    have hidle : ({ s.m.chan c.val with thermLatch := true } : Chan).conducting = false := hc
    refine ⟨t, congrArg s.to ht, ?_⟩
    rw [hchan]
    refine ⟨?_, ?_, ?_, ?_, ?_, ?_, hevt, honly⟩
    all_goals simp [Chan.tripRecorded, Chan.tripBegun, hidle]

end Sys2Proof.Machine
end

section
/-!
SUPPORT. Latches, and what one change of a channel, or of a row of them, does (R170, R175, R177, R190, R191).
-/
namespace Sys2Proof.Machine

theorem forEach_range_succ {σ : Type} (n : Nat) (f : Nat → σ → σ) (s : σ) :
    forEach (List.range (n + 1)) f s = f n (forEach (List.range n) f s) := by
  simp [forEach, List.range_succ]

namespace Module

/-- A command that changes channel `n` by `f`, where `f` makes it `x`. -/
theorem setChan_spec {m : Module} {n : Nat} {f : Chan → Chan} {x : Chan} (hf : ∀ c, (f c).ctrl = c.ctrl)
    (hx : f (m.chan n) = x) : (m.setChan n f).chan n = x ∧ onlyChannel n m (m.setChan n f) :=
  ⟨(chan_setChan_same m n f).trans hx, onlyChannel_setChan n m hf⟩

/-- The `k` channels from `base` on change by `f`, and the others stand. -/
theorem chan_setChans (f : Chan → Chan) (base k : Nat) (m : Module) (n : Nat) :
    (forEach (List.range k) (fun p t => t.setChan (base + p) f) m).chan n
      = if base ≤ n ∧ n < base + k then f (m.chan n) else m.chan n := by
  induction k with
  | zero =>
    rw [if_neg (by omega)]
    rfl
  | succ k ih =>
    rw [forEach_range_succ, chan_setChan]
    by_cases hlast : n = base + k
    · rw [if_pos hlast, ← hlast, ih, if_neg (by omega), if_pos (by omega)]
    · rw [if_neg hlast, ih]
      exact if_congr (by omega) rfl rfl

/-- Beside the channels only registers change. -/
theorem setChans_frame (f : Chan → Chan) (base : Nat) (l : List Nat) (m : Module) :
    ∃ v c, forEach l (fun p t => t.setChan (base + p) f) m = { m with regs := v, chc := { m.chc with chans := c } } := by
  refine forEach_keeps (P := fun t : Module => ∃ v c, t = { m with regs := v, chc := { m.chc with chans := c } }) l _ ?_ m
    ⟨m.regs, m.chc.chans, rfl⟩
  rintro p t ⟨v, c, rfl⟩
  have h := (channelOnly_setChan { m with regs := v, chc := { m.chc with chans := c } } (base + p) f).frame
  rw [hst_setChan] at h
  exact ⟨_, _, h⟩

/-- A cluster is the four channels of its number (R170). -/
theorem setCluster_spec (f : Chan → Chan) (g k : Nat) (m : Module) :
    ∃ t, forEach (List.range 4) (fun q t => t.setChan (32 * g + 4 * k + q) f) m = t
      ∧ (∀ n ∈ List.range 128, t.chan n = if n / 4 = 8 * g + k then f (m.chan n) else m.chan n)
      ∧ t = { m with regs := t.regs, chc := { m.chc with chans := t.chc.chans } } := by
  refine ⟨_, rfl, fun n _ => ?_, ?_⟩
  · rw [chan_setChans]
    exact if_congr (by omega) rfl rfl
  · obtain ⟨v, c, h⟩ := setChans_frame f (32 * g + 4 * k) (List.range 4) m
    rw [h]

end Module

/-- Settles O27: each command is one change of a channel, or the same change of the four of a cluster. -/
theorem latchesAndReverseSwitch : Obligations.LatchesAndReverseSwitch := by
  unfold Obligations.LatchesAndReverseSwitch
  refine ⟨fun s c => ⟨_, rfl, Module.setChan_spec (fun _ => rfl) rfl⟩, fun s g k => ?set, fun s g k => ?clear,
    fun s c hc => ⟨_, rfl, Module.setChan_spec (fun d => ?_) (if_pos hc)⟩,
    fun s c => ⟨_, rfl, Module.setChan_spec (fun _ => rfl) rfl⟩, ?test,
    fun s c mv hc => ⟨_, rfl, Module.setChan_spec (fun d => ?_) (if_pos hc)⟩⟩
  case set =>
    obtain ⟨t, ht, hspec⟩ := Module.setCluster_spec (fun c => { c with clusterWarn := true }) g.val k.val s.m
    exact ⟨t, congrArg s.to ht, hspec⟩
  case clear =>
    obtain ⟨t, ht, hspec⟩ := Module.setCluster_spec (fun c => { c with clusterWarn := false }) g.val k.val s.m
    exact ⟨t, congrArg s.to ht, hspec⟩
  case test =>
    rintro s c ⟨hphase, hpwm, hrev⟩ hten hvaux hon
    refine ⟨_, congrArg s.to (if_pos ?_), Module.setChan_spec (fun _ => rfl) rfl⟩
    simp [hphase, hpwm, hrev, hten, hvaux, hon]
  · split <;> rfl
  · split <;> rfl

end Sys2Proof.Machine
end

section
/-!
SUPPORT. The timers and comparators of a channel (R212, R227, R234, R235, R238, R248, R251, R252).
-/
namespace Sys2Proof.Machine
namespace Module

/-- Outside an engagement the end of a turn-on has no further effect (R704). -/
theorem engageEnd_idle {m : Module} (h : m.dpx.engaging = false) : m.engageEnd = m := by
  unfold engageEnd
  rw [if_pos (by simp [h])]

theorem dpx_of_channelsOnly {m t : Module} (h : ChannelsOnly m t) : t.dpx = m.dpx := by
  rw [h.frame]

/-- A limit bound that is reached turns the channel off (R235). -/
theorem limitCheck_reached {m : Module} {n : Nat} {w : InrushWindow} (hw : (m.chan n).window = some w)
    (h : limitReached n w = true) : m.limitCheck n = m.trip n 2 false true := by
  simp only [limitCheck, hw, h, if_true]

theorem limitCheck_below {m : Module} {n : Nat} {w : InrushWindow} (hw : (m.chan n).window = some w)
    (h : limitReached n w = false) : m.limitCheck n = m := by
  simp only [limitCheck, hw, h, Bool.false_eq_true, if_false]

/-- The end of an inrush window (R227, R235). -/
theorem inrushWindowEnd_eq (s : State) (c : Fin 128) {w : InrushWindow} (hw : (s.m.chan c.val).window = some w)
    (hend : (envEnd w.profile : Int) ≤ envTime w 8000) :
    exec (.inrushWindowEnd c) s = s.to ((s.m.limitCheck c.val).setChan c.val (fun x => closeWindow x s.m.now)) := by
  have hends : (s.m.chan c.val).window.any (fun w => decide ((envEnd w.profile : Int) ≤ envTime w 8000)) = true := by
    simp [hw, hend]
  exact congrArg s.to (if_pos hends)

/-- The free-wheel comparator is watched until 1 ms after the turn-off (R248). -/
theorem fwWatched {c : Chan} {now : Nat} (hphase : c.phase = .turningOff true ∨ c.phase = .turningOff false
    ∨ (c.phase = .off ∧ now ≤ c.offAt + 1000)) :
    (match c.phase with | .turningOff _ => true | .off => decide (now ≤ c.offAt + 1000) | _ => false) = true := by
  rcases hphase with h | h | ⟨h, hnow⟩
  · rw [h]
  · rw [h]
  · rw [h]
    exact decide_eq_true hnow

end Module

/-- A time of `k` µs that runs from `f` has elapsed. -/
theorem timeElapsed {start : Option Nat} {f k now : Nat} (hstart : start = some f) (hdue : f + k ≤ now) :
    start.any (fun f => decide (f + k ≤ now)) = true := by
  rw [hstart]
  exact decide_eq_true hdue

/-- Settles O28: every clause is one change of the channel, but for the end of a window that has reached a limit bound. -/
theorem channelTimersAndComparators : Obligations.ChannelTimersAndComparators := by
  unfold Obligations.ChannelTimersAndComparators
  refine ⟨?off, ?on, ?engaged, ?undercurrent, ?windowEnd, ?limitEnd, ?limitOn,
    fun s c => ⟨_, rfl, Module.setChan_spec (fun _ => rfl) rfl⟩, ?fw, ?backoff, ?reload⟩
  case off =>
    intro s c h hphase
    refine ⟨_, rfl, Module.setChan_spec (fun d => ?_) ?_⟩
    · split <;> rfl
    · simp only [hphase]
  case on =>
    intro s c hphase hidle
    have hset : Module.ChannelOnly c.val s.m (s.m.setChan c.val (fun x => { x with phase := .on, onAt := s.m.now })) :=
      Module.channelOnly_setChan s.m c.val _
    have hend := Module.engageEnd_idle ((congrArg DpxSt.engaging (Module.dpx_of_channelsOnly hset.toChannelsOnly)).trans hidle)
    refine ⟨_, congrArg s.to ((if_pos (by simp [hphase])).trans hend), Module.setChan_spec (fun _ => rfl) rfl⟩
  case engaged =>
    intro s c hphase
    exact congrArg s.to (if_pos (by simp [hphase]))
  case undercurrent =>
    rintro s c ⟨hon, hpwm, hset⟩ hrun
    refine ⟨_, rfl, Module.setChan_spec (fun d => ?_) (if_pos ?_)⟩
    · split <;> rfl
    · simp [hon, hpwm, hset, hrun]
  case windowEnd =>
    rintro s c w hw ⟨hend, hbelow⟩
    have hexec := Module.inrushWindowEnd_eq s c hw hend
    rw [Module.limitCheck_below hw hbelow] at hexec
    refine ⟨_, hexec, Module.setChan_spec (fun _ => rfl) ?_⟩
    simp [Module.closeWindow, hw]
  case limitEnd =>
    rintro s c w ⟨hw, hon⟩ ⟨hend, hreached⟩
    obtain ⟨old, hchan⟩ := Module.chan_trip (m := s.m) (n := c.val) (cause := 2) false true (.inl hon)
    refine ⟨_, Module.inrushWindowEnd_eq s c hw hend, ?_⟩
    rw [Module.limitCheck_reached hw hreached, Module.chan_setChan_same, hchan]
    refine ⟨?_, ?_, ?_, rfl, rfl, Module.onlyChannel_of_ownEvents
      (Module.ownEvents_trans (Module.ownEvents_trip c.val s.m 2 false true) (Module.ownEvents_setChan _ _ fun _ => rfl))⟩
    all_goals simp [Module.closeWindow, Chan.tripRecorded, Chan.tripBegun, hon, Module.beginOff]
  case limitOn =>
    rintro s c w hw ⟨hlimit, hclass, hon⟩
    refine ⟨_, rfl, Module.setChan_spec (fun d => ?_) ?_⟩
    · split
      · split <;> rfl
      · rfl
    · simp [hw, Module.limitWindow, hlimit, hclass, hon]
  case fw =>
    intro s c hwatch hphase
    refine ⟨_, rfl, Module.setChan_spec (fun d => ?_) (if_pos ?_)⟩
    · exact (apply_ite Chan.ctrl _ _ _).trans (ite_self _)
    · rw [hwatch]
      exact Module.fwWatched hphase
  case backoff =>
    rintro s c f ⟨hfrom, hdue⟩
    refine ⟨_, rfl, Module.setChan_spec (fun d => ?_) (if_pos (timeElapsed hfrom hdue))⟩
    split <;> rfl
  case reload =>
    rintro s c f ⟨hcmd, hw⟩ ⟨hsteady, hdue⟩
    refine ⟨_, rfl, Module.setChan_spec (fun d => ?_) (if_pos ?_)⟩
    · split <;> rfl
    · rw [timeElapsed hsteady hdue]
      simp [hcmd, hw]

end Sys2Proof.Machine
end

section
/-!
SUPPORT. The diagnostics of an off channel (R207–R211).
-/
namespace Sys2Proof.Machine
namespace Module

/-- The change of channel `n` after one of DPX alone, that of its coverage (R716). -/
theorem setChan_coverage {m u : Module} {n : Nat} {f : Chan → Chan} {x : Chan} (hu : u = { m with dpx := u.dpx })
    (hf : ∀ c, (f c).ctrl = c.ctrl) (hx : f (m.chan n) = x) :
    (u.setChan n f).chan n = x ∧ onlyChannel n { m with dpx := (u.setChan n f).dpx } (u.setChan n f) := by
  have hchan : u.chan n = m.chan n := chan_of_chc (by rw [hu]) n
  have hdpx := dpx_of_channelsOnly (channelOnly_setChan u n f).toChannelsOnly
  rw [hdpx, ← hu]
  exact setChan_spec hf (hchan ▸ hx)

theorem covDiag_frame (m : Module) (n : Nat) : m.covDiag n = { m with dpx := (m.covDiag n).dpx } := rfl

theorem ctrl_supplyReading (c : Chan) (e peerOff : Bool) : (supplyReading c e peerOff).ctrl = c.ctrl := by
  cases e
  · rfl
  · cases peerOff <;> rfl

/-- The mirror shows channel `n` off on the peer, or there is no duplex (R210, R211). -/
def peerShownOff (m : Module) (n : Nat) : Bool := ! m.inDuplex || (m.dpx.mirrored && tget 0 m.dpx.peerCmd n == 0)

/-- A cycle goes on to the open-load check where its output was not energised and the channel has OL_DIAG (R208, R210). -/
def supplyNext (c : Chan) (e : Bool) (now : Nat) : DiagPhase :=
  if e = false ∧ c.olDiag = true then .openLoad now else .none

/-- The supply check ends after its 25 samples (R208, R210, R211). -/
theorem supplyCheckEnd_spec (s : State) (c : Fin 128) {e : Bool} {k : Nat} (hdiag : (s.m.chan c.val).diag = .supply e k)
    (hk : 25 ≤ k) :
    ∃ t, exec (.supplyCheckEnd c) s = s.to t
      ∧ t.chan c.val = { supplyReading (s.m.chan c.val) e (s.m.peerShownOff c.val) with
          diag := supplyNext (s.m.chan c.val) e s.m.now }
      ∧ onlyChannel c.val { s.m with dpx := t.dpx } t := by
  have hexec : exec (.supplyCheckEnd c) s = s.to ((s.m.when (! (! e && (s.m.chan c.val).olDiag)) (·.covDiag c.val)).setChan c.val
      (fun ch => { supplyReading ch e (s.m.peerShownOff c.val) with
        diag := if ! e && (s.m.chan c.val).olDiag then .openLoad s.m.now else .none })) := by
    have hgo : ¬ k < 25 := Nat.not_lt.2 hk
    change execSupplyCheckEnd c s = _
    simp only [execSupplyCheckEnd, run_eq, hdiag, hgo, if_false]
    rfl
  refine ⟨_, hexec, setChan_coverage ?_ (fun d => ctrl_supplyReading d e _) ?_⟩
  · exact when_keeps (P := fun u : Module => u = { s.m with dpx := u.dpx }) rfl rfl
  · cases e <;> simp [supplyNext]

/-- The third energised reading in a row sets SHORT_TO_SUPPLY (R210). -/
theorem supplyReading_third {c : Chan} (hflag : c.shortToSupply = false) (hrun : c.stsRun = 2) :
    supplyReading c true true = { c with shortToSupply := true, stsRun := 0 } := by
  simp [supplyReading, count3, hflag, hrun]

/-- The open-load check ends 1 ms after the source was applied (R208, R209). -/
theorem openLoadCheckEnd_spec (s : State) (c : Fin 128) (r : Bool) {f : Nat} (hdiag : (s.m.chan c.val).diag = .openLoad f)
    (hdue : f + 1000 ≤ s.m.now) :
    ∃ t, exec (.openLoadCheckEnd c r) s = s.to t
      ∧ t.chan c.val = { s.m.chan c.val with
          openLoad := (count3 (s.m.chan c.val).openLoad (s.m.chan c.val).olRun r).1
          olRun := (count3 (s.m.chan c.val).openLoad (s.m.chan c.val).olRun r).2
          diag := .none }
      ∧ onlyChannel c.val { s.m with dpx := t.dpx } t := by
  have hexec : exec (.openLoadCheckEnd c r) s = s.to ((s.m.covDiag c.val).setChan c.val (fun ch =>
      { ch with openLoad := (count3 ch.openLoad ch.olRun r).1, olRun := (count3 ch.openLoad ch.olRun r).2, diag := .none })) := by
    have hgo : ¬ s.m.now < f + 1000 := Nat.not_lt.2 hdue
    change execOpenLoadCheckEnd c r s = _
    simp only [execOpenLoadCheckEnd, run_eq, hdiag, hgo, if_false]
  exact ⟨_, hexec, setChan_coverage (s.m.covDiag_frame c.val) (fun _ => rfl) rfl⟩

end Module

/-- Settles O29: the ends of the two checks change one channel each, and DPX's coverage. -/
theorem diagnosticsOfAnOffChannel : Obligations.DiagnosticsOfAnOffChannel := by
  unfold Obligations.DiagnosticsOfAnOffChannel
  refine ⟨fun s c h => ⟨_, congrArg s.to (if_pos h), Module.setChan_spec (fun _ => rfl) rfl⟩,
    fun s c e k ⟨hdiag, hk⟩ => Module.supplyCheckEnd_spec s c hdiag hk, ?third, ?openLoad⟩
  case third =>
    rintro s c k ⟨hdiag, hk⟩ ⟨hflag, hrun⟩ hen
    obtain ⟨t, hexec, hchan, honly⟩ := Module.supplyCheckEnd_spec s c hdiag hk
    have halone : s.m.peerShownOff c.val = true := by
      simp [Module.peerShownOff, Module.inDuplex, Module.flag_eq, hen]
    rw [halone, Module.supplyReading_third hflag hrun] at hchan
    exact ⟨t, hexec, hchan, honly⟩
  case openLoad =>
    rintro s c r f ⟨hdiag, hdue⟩
    obtain ⟨t, hexec, hchan, honly⟩ := Module.openLoadCheckEnd_spec s c r hdiag hdue
    refine ⟨t, hexec, hchan.trans ?_, honly⟩
    unfold Module.count3
    by_cases hsame : r = (s.m.chan c.val).openLoad
    · simp [hsame]
    · by_cases hthird : 2 ≤ (s.m.chan c.val).olRun
      · simp [hsame, hthird]
      · simp [hsame, hthird]

end Sys2Proof.Machine
end

section
/-!
SUPPORT. The samples of a sweep (R182–R189, R205, R212, R228, R229, R235, R243, R262).
-/
namespace Sys2Proof.Machine
namespace Module

/-! ### A current sample -/

/-- The sample counts against the overcurrent threshold (R189, R235, R243). -/
def sampleCounts (m : Module) (n : Nat) : Bool :=
  let c := m.chan n
  let suspended := match c.window with | some w => limitWindow n w | none => false
  c.conducting && ! suspended && (c.pwm.isNone || settled n c)

/-- The ADC is at an end of its range (R184). -/
def saturated (x : Int) : Bool := decide (4095 ≤ x) || decide (x ≤ -512)

/-- What the sample `x` makes of channel `n`, which stands as `c` (R182–R189, R205, R212). -/
def sampled (m : Module) (n : Nat) (x : Int) (energised low : Bool) (vout : Nat) (c : Chan) : Chan :=
  let used : Int := if (m.chan n).phase == .off then 0 else x
  { countLow c (decide (x * (lsbOf (classOf n) : Int) < (c.iUc * 16 : Nat))) with
    sample := x, sat := saturated x
    carried := c.carried || (c.pulse && decide ((contOf (classOf n) * 16 : Nat) ≤ x * (lsbOf (classOf n) : Int) * 100))
    energised := energised, low := low, used := used
    vout := if m.hemTurn n then vout else c.vout
    sq := c.sq + (used.natAbs * used.natAbs : Nat)
    sqOwn := c.sqOwn + used.natAbs * used.natAbs
    ocCount := if ! m.sampleCounts n then c.ocCount else if m.overThreshold n x (saturated x) then c.ocCount + 1 else 0
    diag := match c.diag with | .supply e k => if k < 25 then .supply (e && energised) (k + 1) else .supply e k | d => d }

/-- The sample is taken, and the third in a row that counts above the threshold trips the channel (R189). -/
theorem sampleChannel_eq (m : Module) (n : Nat) (x : Int) (energised low : Bool) (vout : Nat) :
    m.sampleChannel n x energised low vout
      = (m.setChan n (m.sampled n x energised low vout)).when
          (m.sampleCounts n && decide (3 ≤ (m.sampled n x energised low vout (m.chan n)).ocCount)) (·.trip n 2 false) := by
  rw [← chan_setChan_same m n (m.sampled n x energised low vout)]
  rfl

/-- Below the third sample in a row the channel does not trip. -/
theorem sampleChannel_untripped {m : Module} {n : Nat} {x : Int} {energised low : Bool} {vout : Nat}
    (h : (m.chan n).ocCount < 2 ∨ m.overThreshold n x (saturated x) = false) :
    m.sampleChannel n x energised low vout = m.setChan n (m.sampled n x energised low vout) := by
  have hfew : (m.sampleCounts n && decide (3 ≤ (m.sampled n x energised low vout (m.chan n)).ocCount)) = false := by
    cases hcounts : m.sampleCounts n with
    | false => rfl
    | true =>
      simp only [sampled, hcounts, Bool.not_true, Bool.false_eq_true, if_false, Bool.true_and, decide_eq_false_iff_not]
      rcases h with hcount | habove
      · split <;> omega
      · simp [habove]
  rw [sampleChannel_eq, hfew, when_false]

/-- The third sample above the threshold of an ON channel outside a window and PWM trips it (R185, R189). -/
theorem sampleChannel_tripped {m : Module} {n : Nat} {x : Int} {energised low : Bool} {vout : Nat}
    (hphase : (m.chan n).phase = .on) (hpwm : (m.chan n).pwm = none) (hwindow : (m.chan n).window = none)
    (hcount : (m.chan n).ocCount = 2) (habove : m.overThreshold n x (saturated x) = true) :
    m.sampleChannel n x energised low vout = (m.setChan n (m.sampled n x energised low vout)).trip n 2 false := by
  have hcounts : m.sampleCounts n = true := by simp [sampleCounts, Chan.conducting, hphase, hpwm, hwindow]
  have hthird : (m.sampleCounts n && decide (3 ≤ (m.sampled n x energised low vout (m.chan n)).ocCount)) = true := by
    simp [sampled, hcounts, habove, hcount]
  rw [sampleChannel_eq, hthird, when_true]

/-! ### A supply conversion -/

/-- Group `g` after the conversion `vs` (R205, R262). -/
def supplied (x : Group) (vs : Nat) : Group :=
  let d := isDroop x.vsConv vs
  { x with vs := vs, droop := d, droopRun := if d then x.droopRun + 1 else 0
           vsConv := if d then x.vsConv else (vs :: x.vsConv).take 16 }

/-- The group takes the conversion, and the sums of limit mode and the envelope clocks advance in a round over its channels, each
of which acts on an open window alone (R235, R264). -/
theorem sampleSupply_rounds (m : Module) (g vs : Nat) :
    ∃ f, m.sampleSupply g vs = forEach (List.range 32) f (m.setGrp g (supplied (m.grp g) vs))
      ∧ (∀ p t, OwnEvents (32 * g + p) t (f p t)) ∧ ∀ p t, (chan t (32 * g + p)).window = none → f p t = t := by
  refine ⟨_, rfl, fun p t => ?_, fun p t h => ?_⟩
  · dsimp only
    split
    · exact ownEvents_refl _ t
    · refine ownEvents_trans (ownEvents_setChan _ t ?_) (ownEvents_limitCheck _ _)
      exact fun _ => rfl
  · simp only [h]

/-- With no open window in the group only the group changes. -/
theorem sampleSupply_idle {m : Module} {g vs : Nat} (h : ∀ p ∈ List.range 32, (m.chan (32 * g + p)).window = none) :
    m.sampleSupply g vs = m.setGrp g (supplied (m.grp g) vs) := by
  obtain ⟨f, heq, -, hidle⟩ := m.sampleSupply_rounds g vs
  rw [heq]
  refine List.foldlRecOn (motive := fun t : Module => t = m.setGrp g (supplied (m.grp g) vs)) _ _ rfl ?_
  rintro t rfl p hp
  exact hidle p _ (h p hp)

/-- The rounds change channels of the group alone. -/
theorem sampleSupply_channels (m : Module) (g vs : Nat) :
    ChannelsOnly (m.setGrp g (supplied (m.grp g) vs)) (m.sampleSupply g vs)
      ∧ ∀ n, n / 32 ≠ g → (m.sampleSupply g vs).chan n = m.chan n := by
  obtain ⟨f, heq, hown, -⟩ := m.sampleSupply_rounds g vs
  rw [heq]
  refine ⟨channelsOnly_forEach _ f (fun p t => ⟨_, (hown p t).toChannelOnly⟩) _, fun n hn => ?_⟩
  refine List.foldlRecOn (motive := fun t : Module => t.chan n = m.chan n) _ _ rfl ?_
  intro t ht p hp
  have hother : n ≠ 32 * g + p := by
    have := List.mem_range.1 hp
    omega
  exact ((hown p t).others n hother).trans ht

end Module
end Sys2Proof.Machine
end

section
/-!
SUPPORT. The wire models and the groups (R171, R196, R215–R217, R219, R293): rounds in which each channel, and each group, has its
turn.
-/
namespace Sys2Proof.Machine

/-! ### Turns -/

/-- In a loop in which the turn of `i` leaves what the others look at, and what they make, each makes at its turn what it would
have made at the start. -/
theorem forEach_range_turns {σ β : Type} {view : Nat → σ → β} {P : Nat → β → σ → Prop} {f : Nat → σ → σ} (n : Nat)
    (hown : ∀ i s, i < n → P i (view i s) (f i s))
    (hview : ∀ i j s, i < n → j ≠ i → view j (f i s) = view j s)
    (hkeep : ∀ i j b s, i < n → j < n → j ≠ i → P j b s → P j b (f i s)) (s : σ) :
    ∀ j < n, P j (view j s) (forEach (List.range n) f s) := by
  have hboth : ∀ k ≤ n, (∀ j, k ≤ j → view j (forEach (List.range k) f s) = view j s)
      ∧ ∀ j < k, P j (view j s) (forEach (List.range k) f s) := by
    intro k
    induction k with
    | zero => exact fun _ => ⟨fun _ _ => rfl, fun j hj => absurd hj (Nat.not_lt_zero j)⟩
    | succ k ih =>
      intro hk
      obtain ⟨hahead, hdone⟩ := ih (by omega)
      rw [forEach_range_succ]
      refine ⟨fun j hj => ?_, fun j hj => ?_⟩
      · rw [hview k j _ hk (by omega), hahead j (by omega)]
      · by_cases hlast : j = k
        · rw [hlast, ← hahead k (Nat.le_refl k)]
          exact hown k _ hk
        · exact hkeep k j _ _ hk (by omega) hlast (hdone j (by omega))
  exact (hboth n (Nat.le_refl n)).2

namespace Module

/-! ### Registers that no event of a channel reaches -/

/-- The registers of CHC below those of its channels read as before. -/
def BelowEvents (m t : Module) : Prop := ∀ f i j k, f.key i j k < 0x20201000 * 64 → t.rd f i j k = m.rd f i j k

theorem belowEvents_refl (m : Module) : BelowEvents m m := fun _ _ _ _ _ => rfl

theorem belowEvents_trans {m t u : Module} (h : BelowEvents m t) (h' : BelowEvents t u) : BelowEvents m u :=
  fun f i j k hk => (h' f i j k hk).trans (h f i j k hk)

/-- The places of the registers of a channel's events. -/
theorem eventKeys_place {m : Module} {n key : Nat} (h : key ∈ m.eventKeys n) :
    key = (0x2020100C + n * 0x10) * 64 ∨ 0x40060000 * 64 ≤ key := by
  simp only [eventKeys, List.mem_cons, List.not_mem_nil, or_false, Fam.key, Fam.addr, F.CHC_CH_EVT_EVT, F.CHI_CH_EVT_EVT,
    F.CHI_IRQ_STAT_EVT, fam] at h
  omega

theorem belowEvents_of_ownEvents {n : Nat} {m t : Module} (h : OwnEvents n m t) : BelowEvents m t := by
  intro f i j k hk
  refine h.events f i j k fun hmem => ?_
  have := eventKeys_place hmem
  omega

theorem belowEvents_setChans (f : Chan → Chan) (hf : ∀ c, (f c).ctrl = c.ctrl) (base : Nat) (l : List Nat) (m : Module) :
    BelowEvents m (forEach l (fun p t => t.setChan (base + p) f) m) :=
  forEach_keeps (P := BelowEvents m) l _
    (fun p t ht => belowEvents_trans ht (belowEvents_of_ownEvents (ownEvents_setChan (base + p) t hf))) m (belowEvents_refl m)

/-- A field of the universal inputs is no event of a channel. -/
theorem rd_uin_of_ownEvents {n : Nat} {m t : Module} (h : OwnEvents n m t) (hn : n < 128) {f : Fam}
    (hf : f.base / 0x1000 = 0x20300 ∧ f.base % 0x1000 ≤ 0x400 ∧ f.d1.1 = 4 ∧ f.lo < 64) {u : Nat} (hu : u < 64) :
    t.rd f u = m.rd f u := by
  obtain ⟨hpage, hoffset, hstride, hlo⟩ := hf
  refine h.events f u 0 0 fun hmem => ?_
  have hplace := eventKeys_place hmem
  simp only [Fam.key, Fam.addr, hstride] at hplace
  omega

/-- The ambient of a channel plays no part in the events of another (R199). -/
theorem ambient_of_ownEvents {n : Nat} {m t : Module} (h : OwnEvents n m t) (hn : n < 128) (c : Chan) :
    t.ambient c = m.ambient c := by
  have hu : c.ambInput < 64 := Nat.mod_lt _ (by decide)
  simp only [ambient, flag_eq, rd_uin_of_ownEvents h hn (f := F.UIN_CFG_MODE) (by decide) hu,
    rd_uin_of_ownEvents h hn (f := F.UIN_VAL_VALID) (by decide) hu,
    rd_uin_of_ownEvents h hn (f := F.UIN_VAL_FAULT) (by decide) hu,
    rd_uin_of_ownEvents h hn (f := F.UIN_VAL_CFG_BAD) (by decide) hu,
    rd_uin_of_ownEvents h hn (f := F.UIN_VAL_VALUE) (by decide) hu]
  congr

end Module

/-! ### The wire model -/

/-- What the wire model of a channel holds: θ_w, the sum of the step, and the junction temperature. -/
def Chan.wireState (c : Chan) : Int × Int × Int := (c.theta, c.sq, c.tj)

namespace Module

theorem wireState_setChan (m : Module) (n : Nat) {f : Chan → Chan} (hf : ∀ c, (f c).wireState = c.wireState) :
    ((m.setChan n f).chan n).wireState = (m.chan n).wireState := by
  rw [chan_setChan_same]
  exact hf _

theorem wireState_tripRecord (m : Module) (n cause : Nat) (l : Bool) :
    ((m.tripRecord n cause l).chan n).wireState = (m.chan n).wireState := by
  unfold tripRecord
  exact wireState_setChan m n (fun _ => rfl)

theorem wireState_tripUndo (m : Module) (n : Nat) (t : TripFrom) :
    ((m.tripUndo n t).chan n).wireState = (m.chan n).wireState := by
  rw [tripUndo, chan_unlatch, chan_putChan_same]
  rfl

theorem wireState_tripAgain (m : Module) (n cause : Nat) (l : Bool) :
    ((m.tripAgain n cause l).chan n).wireState = (m.chan n).wireState := by
  unfold tripAgain
  extract_lets c m1
  have h1 : (m1.chan n).wireState = (m.chan n).wireState := by
    refine when_keeps (P := fun t : Module => (t.chan n).wireState = (m.chan n).wireState) rfl ?_
    rw [chan_putChan_same]
    rfl
  split
  · split
    · refine (wireState_setChan _ n ?_).trans ?_
      · exact fun _ => rfl
      · rw [wireState_tripRecord, wireState_tripUndo, h1]
    · exact h1
  · exact h1

/-- No protection turn-off changes the wire model. -/
theorem wireState_trip (m : Module) (n cause : Nat) (hard l : Bool) :
    ((m.trip n cause hard l).chan n).wireState = (m.chan n).wireState := by
  unfold trip
  extract_lets c offPhase turning acts t old m1 m2
  have h1 : (m1.chan n).wireState = (m.chan n).wireState := by
    refine wireState_setChan m n fun x => ?_
    cases x.conducting <;> rfl
  have h2 : (m2.chan n).wireState = (m.chan n).wireState := (wireState_tripRecord m1 n cause l).trans h1
  split
  · exact wireState_tripAgain m n cause l
  · refine when_keeps (P := fun t : Module => (t.chan n).wireState = (m.chan n).wireState) h2 ?_
    rw [chan_latch, chan_latchEvt]
    exact h2

/-- The step of channel `n` from `c` with the ambient `amb` and the junction temperature `tj` (R171, R196). -/
def wireStepped (n : Nat) (c : Chan) (amb tj : Int) : Int × Int × Int :=
  (wireStep c.wireXs c.theta amb c.sq.toNat (lsbOf (classOf n)), min c.sq 0, tj)

/-- A model step changes the channel, and where its trip point is reached turns it off (R196, R198). -/
theorem wireChannel_eq (m : Module) (n : Nat) (tj : Int) :
    ∃ f hit, m.wireChannel n tj = (m.setChan n f).when hit (·.trip n 4 false) ∧ (∀ c, (f c).ctrl = c.ctrl)
      ∧ (f (m.chan n)).wireState = wireStepped n (m.chan n) (m.ambient (m.chan n)).1 tj :=
  ⟨_, _, rfl, fun _ => rfl, rfl⟩

theorem ownEvents_wireChannel (n : Nat) (m : Module) (tj : Int) : OwnEvents n m (m.wireChannel n tj) := by
  obtain ⟨f, hit, heq, hf, -⟩ := m.wireChannel_eq n tj
  rw [heq]
  exact ownEvents_when (ownEvents_setChan n m hf) (ownEvents_trip n _ 4 false false)

theorem wireState_wireChannel (m : Module) (n : Nat) (tj : Int) :
    ((m.wireChannel n tj).chan n).wireState = wireStepped n (m.chan n) (m.ambient (m.chan n)).1 tj := by
  obtain ⟨f, hit, heq, -, hstep⟩ := m.wireChannel_eq n tj
  have hset : ((m.setChan n f).chan n).wireState = wireStepped n (m.chan n) (m.ambient (m.chan n)).1 tj := by
    rw [chan_setChan_same, hstep]
  rw [heq]
  refine when_keeps (P := fun t : Module => (t.chan n).wireState = wireStepped n (m.chan n) (m.ambient (m.chan n)).1 tj) hset ?_
  rw [wireState_trip]
  exact hset

/-- While CHC runs, every channel makes its step from where it stands (R196, R201). -/
theorem wireStepAll_channels {m : Module} (hrun : m.rd F.CHC_STAT_RUN = 1) (tj : List Int) :
    (∀ n < 128, ((m.wireStepAll tj).chan n).wireState
      = wireStepped n (m.chan n) (m.ambient (m.chan n)).1 (tj.getD n 0)) ∧ ChannelsOnly m (m.wireStepAll tj) := by
  have heq : m.wireStepAll tj = forEach (List.range 128) (fun n m => m.wireChannel n (tj.getD n 0)) m :=
    if_neg (by simp [flag_eq, hrun])
  rw [heq]
  refine ⟨?_, channelsOnly_forEach _ _ (fun n t => ⟨n, (ownEvents_wireChannel n t _).toChannelOnly⟩) m⟩
  refine forEach_range_turns (view := fun n t => (chan t n, (t.ambient (chan t n)).1))
    (P := fun n x t => (chan t n).wireState = wireStepped n x.1 x.2 (tj.getD n 0)) 128 ?_ ?_ ?_ m
  · exact fun n t _ => wireState_wireChannel t n _
  · intro i j t hi hj
    have h := ownEvents_wireChannel i t (tj.getD i 0)
    rw [h.others j hj, ambient_of_ownEvents h hi]
  · intro i j x t _ _ hj hstep
    rw [(ownEvents_wireChannel i t _).others j hj]
    exact hstep

theorem wireStepAll_idle {m : Module} (hrun : m.rd F.CHC_STAT_RUN = 0) (tj : List Int) : m.wireStepAll tj = m :=
  if_pos (by simp [flag_eq, hrun])

/-- A register write leaves channels and memory. -/
theorem chcMem_wr {m t : Module} {f : Fam} {v i j k : Nat} (h : t.chc = m.chc ∧ t.mem = m.mem) :
    (t.wr f v i j k).chc = m.chc ∧ (t.wr f v i j k).mem = m.mem := h

/-- So does the update of the DIAG registers (R293). -/
theorem diagUpdate_leaves (m : Module) : m.diagUpdate.chc = m.chc ∧ m.diagUpdate.mem = m.mem := by
  unfold diagUpdate
  extract_lets m1 d
  have h1 : m1.chc = m.chc ∧ m1.mem = m.mem :=
    forEach_keeps (P := fun t : Module => t.chc = m.chc ∧ t.mem = m.mem) _ _
      (fun i t ht => chcMem_wr (chcMem_wr (chcMem_wr (chcMem_wr ht)))) m ⟨rfl, rfl⟩
  exact chcMem_wr (chcMem_wr (chcMem_wr (chcMem_wr h1)))

end Module
end Sys2Proof.Machine
end

section
/-!
SUPPORT. The groups: what one evaluation, or one estimate, of a group makes of it and leaves (R215–R217, R219, R223).
-/
namespace Sys2Proof.Machine
namespace Module

/-- In the round of group `g` nothing below the channels' events changes, the other groups stand, and so does the sum of `g`. -/
structure GroupRound (g : Nat) (m t : Module) : Prop where
  regs : BelowEvents m t
  others : ∀ k, k ≠ g → t.grp k = m.grp k
  sum : (t.grp g).sq = (m.grp g).sq

theorem groupRound_refl (g : Nat) (m : Module) : GroupRound g m m := ⟨belowEvents_refl m, fun _ _ => rfl, rfl⟩

theorem groupRound_trans {g : Nat} {m t u : Module} (h : GroupRound g m t) (h' : GroupRound g t u) : GroupRound g m u :=
  ⟨belowEvents_trans h.regs h'.regs, fun k hk => (h'.others k hk).trans (h.others k hk), h'.sum.trans h.sum⟩

theorem groupRound_of_ownEvents {n : Nat} {m t : Module} (g : Nat) (h : OwnEvents n m t) : GroupRound g m t :=
  ⟨belowEvents_of_ownEvents h, fun k _ => grp_of_channelsOnly h.toChannelsOnly k,
    congrArg Group.sq (grp_of_channelsOnly h.toChannelsOnly g)⟩

theorem groupRound_setGrp {g : Nat} {m : Module} {x : Group} (hx : x.sq = (m.grp g).sq) : GroupRound g m (m.setGrp g x) :=
  ⟨fun _ _ _ _ _ => rfl, fun k hk => (grp_setGrp m g k x).trans (if_neg hk),
    (congrArg Group.sq ((grp_setGrp m g g x).trans (if_pos rfl))).trans hx⟩

theorem groupRound_setChans (g : Nat) {f : Chan → Chan} (hf : ∀ c, (f c).ctrl = c.ctrl) (base : Nat) (l : List Nat)
    (m : Module) : GroupRound g m (forEach l (fun p t => t.setChan (base + p) f) m) :=
  forEach_keeps (P := GroupRound g m) l _ (fun p t ht => groupRound_trans ht
    (groupRound_of_ownEvents g (ownEvents_setChan (base + p) t hf))) m (groupRound_refl g m)

/-! ### The evaluation -/

theorem groupRound_setOver (g : Nat) (m : Module) (b : Bool) : GroupRound g m (m.setOver g b) := by
  unfold setOver
  extract_lets x m1
  have h1 : GroupRound g m m1 := groupRound_setGrp rfl
  refine groupRound_trans h1 (groupRound_setChans g ?_ (32 * g) _ m1)
  exact fun _ => rfl

/-- The mean squares of the last `n` steps of group `x`, of 125 sweeps each (R215; log entry 22). -/
def groupMean (n : Nat) (x : Group) : Nat := meanOf n ((x.sq :: x.sqMs).take 1000) / 125

/-- Group `g` shows its RMS current over the last second and the last 10 ms, and its sum begins anew (R215, R219). -/
def groupShown (m : Module) (g : Nat) : Module :=
  let x := m.grp g
  ((m.setGrp g { x with sq := 0, sqMs := (x.sq :: x.sqMs).take 1000, shedWait := x.shedWait - 1 }).wr F.CHC_GRP_RMS_RMS_1S
    (sat 16 (isqrt (groupMean 1000 x) / 160)) g).wr F.CHC_GRP_RMS_RMS_10MS (sat 16 (isqrt (groupMean 10 x) / 160)) g

theorem grp_wr (m : Module) (f : Fam) (v i j k g : Nat) : (m.wr f v i j k).grp g = m.grp g := rfl

theorem grp_groupShown_other (m : Module) {g k : Nat} (h : k ≠ g) : (m.groupShown g).grp k = m.grp k := by
  rw [groupShown, grp_wr, grp_wr, grp_setGrp, if_neg h]

theorem sum_groupShown (m : Module) (g : Nat) : ((m.groupShown g).grp g).sq = 0 := by
  rw [groupShown, grp_wr, grp_wr, grp_setGrp, if_pos rfl]

/-- After that it may shed a channel, and shows an overload (R216, R217, R223). -/
theorem groupRound_evalGroup (g : Nat) (m : Module) : GroupRound g (m.groupShown g) (m.evalGroup g) := by
  unfold evalGroup
  extract_lets x sqMs a b m1 m2 overloaded
  have hrefl : GroupRound g (m.groupShown g) m2 := groupRound_refl g m2
  split
  · split
    · exact groupRound_trans hrefl (groupRound_setOver g m2 false)
    · exact hrefl
  · split
    · exact hrefl
    · split
      · split
        · exact hrefl
        · exact groupRound_trans hrefl (groupRound_setOver g m2 true)
      · rename_i n _
        extract_lets m3
        have h3 : GroupRound g m2 m3 := by
          unfold m3
          split
          · exact groupRound_refl g m2
          · refine groupRound_of_ownEvents g (ownEvents_trans (ownEvents_trip n m2 5 false false)
              (ownEvents_trans (ownEvents_setChan n _ ?_) (ownEvents_latchEvt n _ _)))
            exact fun _ => rfl
        exact groupRound_trans hrefl (groupRound_trans h3 (groupRound_setGrp rfl))

theorem sat_mod (w v : Nat) : sat w v % 2 ^ w = sat w v := by
  have := Nat.two_pow_pos w
  exact Nat.mod_eq_of_lt (by unfold sat; omega)

/-- What the registers and the sum of group `g` show after its evaluation, where it stood as `x` (R215, R219). -/
def Evaluated (g : Nat) (x : Group) (t : Module) : Prop :=
  t.rd F.CHC_GRP_RMS_RMS_1S g = sat 16 (isqrt (groupMean 1000 x) / 160)
    ∧ t.rd F.CHC_GRP_RMS_RMS_10MS g = sat 16 (isqrt (groupMean 10 x) / 160) ∧ (t.grp g).sq = 0

/-- The registers of R219 of group `g` stand below the events of channels. -/
theorem rmsKey_below {g : Nat} (hg : g < 4) :
    F.CHC_GRP_RMS_RMS_1S.key g 0 0 < 0x20201000 * 64 ∧ F.CHC_GRP_RMS_RMS_10MS.key g 0 0 < 0x20201000 * 64 := by
  simp only [Fam.key, Fam.addr, F.CHC_GRP_RMS_RMS_1S, F.CHC_GRP_RMS_RMS_10MS, fam]
  omega

/-- The two fields of the register of group `g` are apart, and apart from those of the other groups. -/
theorem rmsKey_ne (g k : Nat) : F.CHC_GRP_RMS_RMS_1S.key g 0 0 ≠ F.CHC_GRP_RMS_RMS_10MS.key k 0 0 := by
  simp only [Fam.key, Fam.addr, F.CHC_GRP_RMS_RMS_1S, F.CHC_GRP_RMS_RMS_10MS, fam]
  omega

theorem rmsKey_inj {g k : Nat} (h : k ≠ g) :
    F.CHC_GRP_RMS_RMS_1S.key k 0 0 ≠ F.CHC_GRP_RMS_RMS_1S.key g 0 0
      ∧ F.CHC_GRP_RMS_RMS_10MS.key k 0 0 ≠ F.CHC_GRP_RMS_RMS_10MS.key g 0 0 := by
  simp only [Fam.key, Fam.addr, F.CHC_GRP_RMS_RMS_1S, F.CHC_GRP_RMS_RMS_10MS, fam]
  omega

theorem evaluated_evalGroup (m : Module) {g : Nat} (hg : g < 4) : Evaluated g (m.grp g) (m.evalGroup g) := by
  have hround := groupRound_evalGroup g m
  obtain ⟨hbelow1, hbelow10⟩ := rmsKey_below hg
  refine ⟨(hround.regs _ g 0 0 hbelow1).trans ?_, (hround.regs _ g 0 0 hbelow10).trans ?_, hround.sum.trans (m.sum_groupShown g)⟩
  · rw [groupShown, rd_wr_other _ _ _ _ _ _ _ _ _ _ (rmsKey_ne g g), rd_wr_same]
    exact sat_mod 16 _
  · rw [groupShown, rd_wr_same]
    exact sat_mod 16 _

theorem grp_evalGroup_other (m : Module) {g k : Nat} (h : k ≠ g) : (m.evalGroup g).grp k = m.grp k :=
  ((groupRound_evalGroup g m).others k h).trans (m.grp_groupShown_other h)

/-- The evaluation of another group leaves them. -/
theorem evaluated_other {m : Module} {g k : Nat} {x : Group} (hk : k < 4) (h : k ≠ g) (hx : Evaluated k x m) :
    Evaluated k x (m.evalGroup g) := by
  have hround := groupRound_evalGroup g m
  obtain ⟨hbelow1, hbelow10⟩ := rmsKey_below hk
  obtain ⟨hne1, hne10⟩ := rmsKey_inj h
  obtain ⟨hrms1, hrms10, hsum⟩ := hx
  refine ⟨(hround.regs _ k 0 0 hbelow1).trans ?_, (hround.regs _ k 0 0 hbelow10).trans ?_, ?_⟩
  · rw [groupShown, rd_wr_other _ _ _ _ _ _ _ _ _ _ (rmsKey_ne k g), rd_wr_other _ _ _ _ _ _ _ _ _ _ hne1]
    exact hrms1
  · rw [groupShown, rd_wr_other _ _ _ _ _ _ _ _ _ _ hne10, rd_wr_other _ _ _ _ _ _ _ _ _ _ (rmsKey_ne g k).symm]
    exact hrms10
  · rw [grp_evalGroup_other m h]
    exact hsum

/-- Each of the groups shows what it had come to (R215, R219). -/
theorem evaluated_forEach (m : Module) :
    ∀ g < 4, Evaluated g (m.grp g) (forEach (List.range 4) (fun g t => t.evalGroup g) m) := by
  refine forEach_range_turns (view := fun g t => grp t g) (P := Evaluated) 4 ?_ ?_ ?_ m
  · exact fun g t hg => evaluated_evalGroup t hg
  · exact fun g k t _ hk => grp_evalGroup_other t hk
  · exact fun g k x t _ hk hne hx => evaluated_other hk hne hx

/-! ### The loss estimate -/

/-- The loss is estimated from the channels of the group (R219). -/
theorem groupLossMw_congr {m t : Module} {g : Nat} (h : ∀ p ∈ List.range 32, t.chan (32 * g + p) = m.chan (32 * g + p)) :
    t.groupLossMw g = m.groupLossMw g := by
  unfold groupLossMw
  congr 2
  refine List.map_congr_left fun p hp => ?_
  dsimp only
  rw [h p hp]

/-- The channels of group `g` show its loss, and no other channel changes. -/
theorem chan_estimateLoss (m : Module) (g n : Nat) :
    (m.estimateLoss g).chan n
      = if n / 32 = g then { m.chan n with grpLoss := decide (7500 < m.groupLossMw g) } else m.chan n := by
  unfold estimateLoss
  extract_lets mw b m1 x m2
  rw [chan_setChans]
  exact if_congr (by omega) rfl rfl

/-- What group `g` and its channels show, where the loss is `x.1` and its channel `p` stood as `x.2 p` (R219). -/
def Estimated (g : Nat) (x : Nat × (Fin 32 → Chan)) (t : Module) : Prop :=
  t.rd F.CHC_GRP_LOSS_MW g = sat 16 x.1 ∧ (t.grp g).loss = decide (7500 < x.1)
    ∧ ∀ p : Fin 32, t.chan (32 * g + p) = { x.2 p with grpLoss := decide (7500 < x.1) }

theorem lossKey_below {g : Nat} (hg : g < 4) : F.CHC_GRP_LOSS_MW.key g 0 0 < 0x20201000 * 64 := by
  simp only [Fam.key, Fam.addr, F.CHC_GRP_LOSS_MW, fam]
  omega

theorem lossKey_inj {g k : Nat} (h : k ≠ g) : F.CHC_GRP_LOSS_MW.key k 0 0 ≠ F.CHC_GRP_LOSS_MW.key g 0 0 := by
  simp only [Fam.key, Fam.addr, F.CHC_GRP_LOSS_MW, fam]
  omega

/-- Group `g` shows its loss, before its channels do. -/
def lossShown (m : Module) (g : Nat) : Module :=
  let m1 := m.wr F.CHC_GRP_LOSS_MW (sat 16 (m.groupLossMw g)) g
  m1.setGrp g { m1.grp g with loss := decide (7500 < m.groupLossMw g) }

theorem grp_lossShown (m : Module) (g k : Nat) :
    (m.lossShown g).grp k = if k = g then { m.grp g with loss := decide (7500 < m.groupLossMw g) } else m.grp k := by
  unfold lossShown
  extract_lets m1
  rw [grp_setGrp]
  rfl

theorem estimateLoss_eq (m : Module) (g : Nat) :
    m.estimateLoss g = forEach (List.range 32) (fun p t => t.setChan (32 * g + p)
      (fun c => { c with grpLoss := decide (7500 < m.groupLossMw g) })) (m.lossShown g) := rfl

theorem estimateLoss_rest (m : Module) (g : Nat) :
    BelowEvents (m.lossShown g) (m.estimateLoss g) ∧ ∀ k, (m.estimateLoss g).grp k = (m.lossShown g).grp k := by
  rw [estimateLoss_eq]
  refine ⟨belowEvents_setChans _ ?_ _ _ _, fun k => ?_⟩
  · exact fun _ => rfl
  obtain ⟨v, c, h⟩ := setChans_frame (fun c => { c with grpLoss := decide (7500 < m.groupLossMw g) }) (32 * g) (List.range 32)
    (m.lossShown g)
  rw [h]
  rfl

theorem estimated_estimateLoss (m : Module) {g : Nat} (hg : g < 4) :
    Estimated g (m.groupLossMw g, fun p : Fin 32 => m.chan (32 * g + p)) (m.estimateLoss g) := by
  obtain ⟨hbelow, hgrp⟩ := m.estimateLoss_rest g
  refine ⟨(hbelow _ g 0 0 (lossKey_below hg)).trans ?_, ?_, fun p => ?_⟩
  · exact (rd_wr_same m F.CHC_GRP_LOSS_MW _ g 0 0).trans (sat_mod 16 _)
  · rw [hgrp, grp_lossShown, if_pos rfl]
  · rw [chan_estimateLoss, if_pos (by omega)]

/-- The estimate for another group leaves what group `k` shows. -/
theorem estimated_other {m : Module} {g k : Nat} {x : Nat × (Fin 32 → Chan)} (hk : k < 4) (h : k ≠ g) (hx : Estimated k x m) :
    Estimated k x (m.estimateLoss g) := by
  obtain ⟨hbelow, hgrp⟩ := m.estimateLoss_rest g
  obtain ⟨hmw, hloss, hchans⟩ := hx
  refine ⟨(hbelow _ k 0 0 (lossKey_below hk)).trans ?_, ?_, fun p => ?_⟩
  · exact (rd_wr_other m F.CHC_GRP_LOSS_MW _ _ g 0 0 k 0 0 (lossKey_inj h)).trans hmw
  · rw [hgrp, grp_lossShown, if_neg h]
    exact hloss
  · rw [chan_estimateLoss, if_neg (by omega)]
    exact hchans p

/-- Each group shows the loss of the channels as they stood (R219). -/
theorem estimated_forEach (m : Module) : ∀ g < 4, Estimated g (m.groupLossMw g, fun p : Fin 32 => m.chan (32 * g + p))
    (forEach (List.range 4) (fun g t => t.estimateLoss g) m) := by
  refine forEach_range_turns (view := fun g t => (groupLossMw t g, fun p : Fin 32 => chan t (32 * g + p))) (P := Estimated) 4
    ?_ ?_ ?_ m
  · exact fun g t hg => estimated_estimateLoss t hg
  · intro g k t _ hk
    have hchan : ∀ p < 32, (t.estimateLoss g).chan (32 * k + p) = t.chan (32 * k + p) := by
      intro p hp
      rw [chan_estimateLoss, if_neg (by omega)]
    rw [groupLossMw_congr fun p hp => hchan p (List.mem_range.1 hp)]
    exact congrArg _ (funext fun p => hchan p p.isLt)
  · exact fun g k x t _ hk hne hx => estimated_other hk hne hx

end Module
end Sys2Proof.Machine
end

section
/-!
SUPPORT. The sweep boundary (R182, R278, R297, R299, R691, R703, R714, R716): after the sweep is counted, nothing that CHC and DPX
do writes its number again.
-/
namespace Sys2Proof.Machine
namespace Module

/-- From `m` to `t` the number of the sweep stands. -/
def KeepsSweep (m t : Module) : Prop := t.rd F.CHC_SWEEP_NUM = m.rd F.CHC_SWEEP_NUM

theorem keepsSweep_refl (m : Module) : KeepsSweep m m := rfl

theorem keepsSweep_trans {m n t : Module} (h : KeepsSweep m n) (h' : KeepsSweep n t) : KeepsSweep m t := h'.trans h

/-- What is not in the registers does not count. -/
theorem keepsSweep_set {m n t : Module} (hregs : t.regs = n.regs) (h : KeepsSweep m n) : KeepsSweep m t :=
  keepsSweep_trans h (by rw [KeepsSweep, rd, rd, hregs])

/-- A field above the number, or one that begins within a register. -/
theorem keepsSweep_wr {m n : Module} {f : Fam} {v i j k : Nat} (hf : 0x20200004 < f.base ∨ (0 < f.lo ∧ f.lo < 64))
    (h : KeepsSweep m n) : KeepsSweep m (n.wr f v i j k) := by
  refine keepsSweep_trans h (rd_wr_other _ _ _ _ _ _ _ _ _ _ ?_)
  simp only [Fam.key, Fam.addr, F.CHC_SWEEP_NUM, fam]
  omega

theorem keepsSweep_when {m n : Module} {c : Bool} {f : Module → Module} (h : KeepsSweep m n)
    (hf : KeepsSweep m n → KeepsSweep m (f n)) : KeepsSweep m (n.when c f) :=
  when_keeps (P := KeepsSweep m) h (hf h)

theorem keepsSweep_forEach {m n : Module} (l : List Nat) {f : Nat → Module → Module}
    (hf : ∀ i t, KeepsSweep m t → KeepsSweep m (f i t)) (h : KeepsSweep m n) : KeepsSweep m (forEach l f n) :=
  forEach_keeps (P := KeepsSweep m) l f hf n h

theorem keepsSweep_channelOnly {m n t : Module} {k : Nat} (ht : ChannelOnly k n t) (h : KeepsSweep m n) : KeepsSweep m t :=
  keepsSweep_trans h (ht.regs _ 0 0 0 (by decide))

theorem keepsSweep_setChan {m n : Module} (k : Nat) (f : Chan → Chan) (h : KeepsSweep m n) : KeepsSweep m (n.setChan k f) :=
  keepsSweep_channelOnly (channelOnly_setChan n k f) h

theorem keepsSweep_turnOn {m n : Module} (k ns : Nat) (win slew0 : Bool) (h : KeepsSweep m n) :
    KeepsSweep m (n.turnOn k win ns slew0) :=
  keepsSweep_channelOnly (channelOnly_turnOn n k ns win slew0) h

theorem keepsSweep_setChi {m n : Module} (i : Nat) (x : Chi) (h : KeepsSweep m n) : KeepsSweep m (n.setChi i x) :=
  keepsSweep_set rfl h

theorem keepsSweep_setDpx {m n : Module} (f : DpxSt → DpxSt) (h : KeepsSweep m n) : KeepsSweep m (n.setDpx f) :=
  keepsSweep_set rfl h

/-! ### Commands -/

theorem keepsSweep_chiPost {m n : Module} (i : Nat) (c : ChiCmd) (st d : Nat) (h : KeepsSweep m n) :
    KeepsSweep m (n.chiPost i c st d) :=
  keepsSweep_wr (by decide) (keepsSweep_setChi i _ h)

theorem keepsSweep_chiActive {m n : Module} (i : Nat) (h : KeepsSweep m n) : KeepsSweep m (n.chiActive i) :=
  keepsSweep_setChi i _ (keepsSweep_wr (by decide) h)

theorem keepsSweep_commandOn {m n : Module} (k : Nat) (h : KeepsSweep m n) : KeepsSweep m (n.commandOn k) :=
  keepsSweep_when (keepsSweep_setChan k _ h) (keepsSweep_turnOn k 0 true false)

theorem keepsSweep_commandedOff {m n : Module} (k : Nat) (h : KeepsSweep m n) : KeepsSweep m (n.commandedOff k) := by
  unfold commandedOff
  exact keepsSweep_setChan k _ h

theorem keepsSweep_commandOff {m n : Module} (k : Nat) (h : KeepsSweep m n) : KeepsSweep m (n.commandOff k) := by
  unfold commandOff
  exact keepsSweep_setChan k _ (keepsSweep_commandedOff k h)

theorem keepsSweep_clearFault {m n : Module} (k : Nat) (h : KeepsSweep m n) : KeepsSweep m (n.clearFault k) :=
  keepsSweep_when (keepsSweep_setChan k _ h) (keepsSweep_turnOn k 0 true false)

theorem keepsSweep_calibrateNext {m n : Module} (k : Nat) (h : KeepsSweep m n) : KeepsSweep m (n.calibrateNext k) := by
  unfold calibrateNext
  extract_lets cur m1
  split
  · exact h
  · exact keepsSweep_set (n := m1) rfl (keepsSweep_wr (by decide) h)

theorem keepsSweep_cmdEffect {m n : Module} (i : Nat) (c : ChiCmd) (h : KeepsSweep m n) : KeepsSweep m (n.cmdEffect i c) := by
  unfold cmdEffect
  split
  · exact keepsSweep_commandOn _ h
  · exact keepsSweep_commandOff _ h
  · exact keepsSweep_setChan _ _ h
  · exact keepsSweep_setChan _ _ h
  · exact keepsSweep_clearFault _ h
  · exact keepsSweep_setChi i _ (keepsSweep_wr (by decide) h)
  · exact keepsSweep_calibrateNext _ (keepsSweep_setChi i _ h)

theorem keepsSweep_chiExecute {m n : Module} (i : Nat) (h : KeepsSweep m n) : KeepsSweep m (n.chiExecute i).1 := by
  unfold chiExecute
  split
  · exact h
  · split
    · exact h
    · rename_i c r _ _
      extract_lets x m1 m2
      have h1 : KeepsSweep m m1 := keepsSweep_setChi i _ h
      have h2 : KeepsSweep m m2 := keepsSweep_when h1 (keepsSweep_chiActive i)
      split
      · exact keepsSweep_chiPost i c _ _ h2
      · split
        · exact keepsSweep_chiPost i c _ _ h2
        · dsimp only
          split
          · exact keepsSweep_cmdEffect i c h2
          · exact keepsSweep_chiPost i c _ _ (keepsSweep_cmdEffect i c h2)

theorem keepsSweep_chiDrain {m n : Module} (i : Nat) (h : KeepsSweep m n) : KeepsSweep m (n.chiDrain i) := by
  unfold chiDrain
  extract_lets x p free
  split
  · extract_lets m1
    have h1 : KeepsSweep m m1 := keepsSweep_setChi i _ h
    split
    · exact keepsSweep_chiPost i _ 4 0 h1
    · exact keepsSweep_wr (by decide) (keepsSweep_wr (by decide) h1)
  · exact h

theorem keepsSweep_quiesceDone {m n : Module} (i : Nat) (h : KeepsSweep m n) : KeepsSweep m (n.quiesceDone i) := by
  unfold quiesceDone
  extract_lets p m1
  split
  · have h1 : KeepsSweep m m1 := keepsSweep_wr (by decide) (keepsSweep_wr (by decide) h)
    exact keepsSweep_when h1 fun h => keepsSweep_wr (by decide) (keepsSweep_wr (by decide) (keepsSweep_wr (by decide) h))
  · exact h

theorem keepsSweep_backlogSync {m n : Module} (h : KeepsSweep m n) : KeepsSweep m n.backlogSync := by
  unfold backlogSync
  extract_lets b m1
  have h1 : KeepsSweep m m1 := keepsSweep_forEach _ (fun i t ht => keepsSweep_setChi i _ ht) h
  clear_value m1
  split
  · exact h
  · exact keepsSweep_set (n := m1) rfl h1

theorem keepsSweep_executeShared {m : Module} (k : Nat) : ∀ n, KeepsSweep m n → KeepsSweep m (executeShared k n) := by
  induction k with
  | zero => exact fun n h => h
  | succ k ih =>
    intro n h
    unfold executeShared
    extract_lets m1
    have h1 : KeepsSweep m m1 := keepsSweep_backlogSync h
    split
    · exact ih _ (keepsSweep_chiExecute _ h1)
    · exact h1

theorem keepsSweep_executeSweep {m n : Module} (h : KeepsSweep m n) : KeepsSweep m n.executeSweep := by
  unfold executeSweep
  generalize hserved : (List.range 16).foldl _ (n.backlogSync, 0) = s
  have h1 : KeepsSweep m s.1 := by
    rw [← hserved]
    refine List.foldlRecOn (motive := fun s : Module × Nat => KeepsSweep m s.1) _ _ (keepsSweep_backlogSync h) ?_
    intro s hs i _
    dsimp only
    split
    · exact keepsSweep_chiDrain i hs
    · exact keepsSweep_chiExecute i hs
  obtain ⟨m1, k⟩ := s
  exact keepsSweep_forEach _ (fun i t ht => keepsSweep_quiesceDone i ht) (keepsSweep_executeShared _ _ h1)

/-! ### What CHC does -/

theorem keepsSweep_ucSwitch {m n : Module} (h : KeepsSweep m n) : KeepsSweep m n.ucSwitch := by
  unfold ucSwitch
  extract_lets swap due m1 m2 m3
  have h1 : KeepsSweep m m1 := keepsSweep_when h (keepsSweep_wr (by decide))
  have h2 : KeepsSweep m m2 := keepsSweep_when h1 fun h => keepsSweep_wr (by decide) (keepsSweep_wr (by decide) h)
  have h3 : KeepsSweep m m3 := keepsSweep_when h2 fun h =>
    keepsSweep_set (n := m2.raise F.CHC_EVT_UC_REVERTED) rfl (keepsSweep_wr (by decide) h)
  exact keepsSweep_set rfl h3

theorem keepsSweep_calStart {m n : Module} (h : KeepsSweep m n) : KeepsSweep m n.calStart :=
  keepsSweep_when h fun h => keepsSweep_set (n := n.wr F.CHC_CAL_STAT_CAL_ADC 0) rfl (keepsSweep_wr (by decide) h)

/-- The sweep is counted once (R182). -/
theorem rd_chcSweep (m : Module) :
    (m.chcSweep false).rd F.CHC_SWEEP_NUM = (m.rd F.CHC_SWEEP_NUM + 1) % 2 ^ F.CHC_SWEEP_NUM.width := by
  unfold chcSweep
  extract_lets m1 m2 m3 m4 m5 m6
  have h1 : KeepsSweep m m1 := keepsSweep_forEach _ (fun g t ht => keepsSweep_set rfl ht) (keepsSweep_refl m)
  have h2 : KeepsSweep m m2 := keepsSweep_forEach _ (fun n t ht => keepsSweep_set rfl ht) h1
  have hrest : KeepsSweep m3 m6.executeSweep :=
    keepsSweep_executeSweep (keepsSweep_calStart (keepsSweep_ucSwitch (keepsSweep_refl m3)))
  have hcount : m3.rd F.CHC_SWEEP_NUM = (m2.rd F.CHC_SWEEP_NUM + 1) % 2 ^ F.CHC_SWEEP_NUM.width := rd_wr_same m2 _ _ 0 0 0
  rw [hrest, hcount, h2]

/-! ### What DPX does -/

theorem keepsSweep_agentFrame {m n : Module} (p : Nat) (l : List Byte) (h : KeepsSweep m n) : KeepsSweep m (n.agentFrame p l) :=
  keepsSweep_when h (keepsSweep_set rfl)

theorem keepsSweep_onPath {m n : Module} (k : Nat) (l : List Byte) (h : KeepsSweep m n) : KeepsSweep m (n.onPath k l) := by
  unfold onPath
  split
  · exact keepsSweep_agentFrame _ _ h
  · exact keepsSweep_forEach _ (fun p t ht => keepsSweep_agentFrame _ _ ht) h

theorem keepsSweep_dpxControl {m n : Module} (op sweep cycle segs : Nat) (h : KeepsSweep m n) :
    KeepsSweep m (n.dpxControl op sweep cycle segs) := by
  unfold dpxControl
  split
  · exact h
  · exact keepsSweep_onPath _ _ h

theorem keepsSweep_showDpx {m n : Module} (h : KeepsSweep m n) : KeepsSweep m n.showDpx :=
  keepsSweep_wr (by decide) (keepsSweep_wr (by decide) (keepsSweep_wr (by decide) (keepsSweep_wr (by decide)
    (keepsSweep_wr (by decide) (keepsSweep_wr (by decide) h)))))

theorem keepsSweep_engageEnd {m n : Module} (h : KeepsSweep m n) : KeepsSweep m n.engageEnd := by
  unfold engageEnd
  split
  · exact h
  · extract_lets m1
    have h1 : KeepsSweep m m1 := keepsSweep_setDpx _ (keepsSweep_wr (by decide) h)
    split
    · split
      · exact h1
      · exact keepsSweep_dpxControl _ _ _ _ (keepsSweep_setDpx _ h1)
    · exact h1

theorem keepsSweep_engageNow {m n : Module} (h : KeepsSweep m n) : KeepsSweep m n.engageNow := by
  unfold engageNow
  refine keepsSweep_engageEnd (keepsSweep_forEach _ (fun k t ht => ?_) (keepsSweep_setDpx _ h))
  dsimp only
  split
  · exact ht
  · exact keepsSweep_when ht (keepsSweep_setChan k _)
  · split
    · exact keepsSweep_setChan k _ ht
    · split
      · exact keepsSweep_turnOn k 0 true true ht
      · exact ht

theorem keepsSweep_handoverExcite {m n : Module} (h : KeepsSweep m n) : KeepsSweep m n.handoverExcite :=
  keepsSweep_when h (keepsSweep_set rfl)

theorem keepsSweep_diagAbandon {m n : Module} (h : KeepsSweep m n) : KeepsSweep m n.diagAbandon :=
  keepsSweep_forEach _ (fun k _ ht => keepsSweep_setChan k _ ht) h

theorem keepsSweep_setExcite {m n : Module} (on : Bool) (h : KeepsSweep m n) : KeepsSweep m (n.setExcite on) := by
  unfold setExcite
  split
  · exact h
  · exact keepsSweep_set rfl (keepsSweep_wr (f := F.UIN_STAT_EXCITE) (by decide) h)

theorem keepsSweep_driveOff {m n : Module} (h : KeepsSweep m n) : KeepsSweep m n.driveOff := by
  unfold driveOff
  split
  · exact h
  · exact keepsSweep_forEach _ (fun k _ ht => keepsSweep_commandedOff k ht)
      (keepsSweep_setExcite false (keepsSweep_wr (by decide) h))

theorem keepsSweep_linkEstablish {m n : Module} (h : KeepsSweep m n) : KeepsSweep m n.linkEstablish := by
  unfold linkEstablish
  split
  · exact h
  · exact keepsSweep_wr (by decide) (keepsSweep_wr (by decide) h)

/-- A unit that loses its readiness goes back to STANDBY_SYNC, with its link up (R689, R707, R726). -/
theorem keepsSweep_setRole_sync {m n : Module} (h : KeepsSweep m n) : KeepsSweep m (n.setRole 4) := by
  unfold setRole
  extract_lets old m1 m2 m3 m4 sts m5 m6 m7 m8
  have h1 : KeepsSweep m m1 := keepsSweep_setDpx _ (keepsSweep_wr (by decide) h)
  have h2 : KeepsSweep m m2 := keepsSweep_when h1 (keepsSweep_wr (by decide))
  have h3 : KeepsSweep m m3 := keepsSweep_when h2 (keepsSweep_wr (by decide))
  have h4 : KeepsSweep m m4 := keepsSweep_when h3 keepsSweep_diagAbandon
  have h5 : KeepsSweep m m5 := keepsSweep_setDpx _ (keepsSweep_driveOff h4)
  have h6 : KeepsSweep m m6 := keepsSweep_when h5 (keepsSweep_wr (by decide))
  have h7 : KeepsSweep m m7 := keepsSweep_when h6 (keepsSweep_wr (by decide))
  have h8 : KeepsSweep m m8 := keepsSweep_linkEstablish h7
  exact keepsSweep_showDpx h8

theorem keepsSweep_judgeOwn {m n : Module} (h : KeepsSweep m n) : KeepsSweep m n.judgeOwn := by
  unfold judgeOwn
  extract_lets untaken
  split
  · exact keepsSweep_setDpx _ (keepsSweep_setRole_sync h)
  · exact h

theorem keepsSweep_hemSweep {m n : Module} (h : KeepsSweep m n) : KeepsSweep m n.hemSweep :=
  keepsSweep_setDpx _ (keepsSweep_forEach _ (fun _ _ ht => keepsSweep_wr (by decide) ht) h)

theorem keepsSweep_handoverBegin {m n : Module} (trigger : Nat) (h : KeepsSweep m n) :
    KeepsSweep m (n.handoverBegin trigger) := by
  unfold handoverBegin
  split
  · exact h
  · exact keepsSweep_dpxControl _ _ _ _ (keepsSweep_showDpx (keepsSweep_setDpx _ (keepsSweep_wr (by decide) h)))

theorem keepsSweep_handoverTriggers {m n : Module} (h : KeepsSweep m n) : KeepsSweep m n.handoverTriggers := by
  unfold handoverTriggers
  extract_lets f vsBad
  split
  · exact h
  · split
    · exact keepsSweep_handoverBegin 2 h
    · split
      · exact keepsSweep_handoverBegin 3 h
      · exact h

theorem keepsSweep_switchRequest {m n : Module} (h : KeepsSweep m n) : KeepsSweep m n.switchRequest := by
  unfold switchRequest
  split
  · exact keepsSweep_dpxControl _ _ _ _ (keepsSweep_setDpx _ h)
  · exact h

theorem keepsSweep_revertWatch {m n : Module} (h : KeepsSweep m n) : KeepsSweep m n.revertWatch := by
  unfold revertWatch
  exact keepsSweep_when h (keepsSweep_setDpx _)

theorem keepsSweep_mirrorSend {m n : Module} (h : KeepsSweep m n) : KeepsSweep m n.mirrorSend := by
  unfold mirrorSend
  extract_lets go
  have hgo : ∀ k, KeepsSweep m n → KeepsSweep m (go n k) := fun k h => keepsSweep_setDpx _ (keepsSweep_onPath k _ h)
  split
  · exact h
  · split
    · exact keepsSweep_when h (hgo 1)
    · exact hgo 0 h

theorem keepsSweep_dpxSweep {m n : Module} (h : KeepsSweep m n) : KeepsSweep m n.dpxSweep := by
  unfold dpxSweep
  split
  · exact h
  · extract_lets m1 m2 m3 m4
    have h1 : KeepsSweep m m1 := keepsSweep_setDpx _ h
    have h2 : KeepsSweep m m2 := keepsSweep_handoverExcite (keepsSweep_when h1 keepsSweep_engageNow)
    have h3 : KeepsSweep m m3 := keepsSweep_hemSweep (keepsSweep_judgeOwn h2)
    have h4 : KeepsSweep m m4 := keepsSweep_revertWatch (keepsSweep_wr (by decide) h3)
    exact keepsSweep_mirrorSend (keepsSweep_switchRequest (keepsSweep_handoverTriggers h4))

/-! ### The sweep boundary -/

theorem keepsSweep_standbyScrub {m n : Module} (h : KeepsSweep m n) : KeepsSweep m n.standbyScrub := by
  unfold standbyScrub
  split
  · exact h
  · exact keepsSweep_forEach _ (fun _ _ ht => keepsSweep_wr (by decide) (keepsSweep_wr (by decide) ht)) h

/-- At a sweep boundary that CHC takes the sweep is counted (R182). -/
theorem rd_sweepEnd {m : Module} (hrun : m.running 4 = true) :
    (m.sweepEnd false).rd F.CHC_SWEEP_NUM = (m.rd F.CHC_SWEEP_NUM + 1) % 2 ^ F.CHC_SWEEP_NUM.width := by
  unfold sweepEnd
  rw [hrun, when_true]
  exact (keepsSweep_standbyScrub (keepsSweep_when (keepsSweep_refl _) keepsSweep_dpxSweep)).trans (rd_chcSweep m)

end Module
end Sys2Proof.Machine
end

section
/-!
SUPPORT. The statement about samples and models (R182–R219, R262).
-/
namespace Sys2Proof.Machine

/-- Settles O31: a sample and a supply conversion by what they make of one channel and one group, the wire models, the evaluation
and the estimate in turns, and the sweep's number by what does not write it again. -/
theorem samplesAndModels : Obligations.SamplesAndModels := by
  unfold Obligations.SamplesAndModels
  refine ⟨?sample, ?tripped, ?supplyAlone, ?supply, ?wireIdle, ?wire, ?rms, ?loss, ?refill, ?sweep, fun s tj => rfl,
    fun s missed => rfl⟩
  case sample =>
    intro s c x energised low vout hbelow _
    refine ⟨_, congrArg s.to (Module.sampleChannel_untripped hbelow), ?_⟩
    rw [Module.chan_setChan_same]
    refine ⟨rfl, rfl, rfl, rfl, ?_, ?_, rfl, rfl, Module.onlyChannel_setChan c.val s.m fun _ => rfl⟩
    · simp only [Module.sampled, Module.hemTurn, beq_iff_eq]
    · by_cases hoff : (s.m.chan c.val).phase = .off
      · simp [Module.sampled, hoff, Module.countLow]
      · simp [Module.sampled, hoff, Module.countLow]
  case tripped =>
    rintro s c x energised low vout ⟨hlow, hhigh⟩ ⟨hphase, hpwm, hwindow⟩ ⟨hcount, hexceeds⟩
    have hsat : Module.saturated x = false := by
      simp only [Module.saturated, Bool.or_eq_false_iff, decide_eq_false_iff_not]
      omega
    have habove : s.m.overThreshold c.val x (Module.saturated x) = true := by
      simp [Module.overThreshold, hsat, hwindow, hexceeds]
    have hon : (s.m.sampled c.val x energised low vout (s.m.chan c.val)).conducting = true := by
      have : (s.m.sampled c.val x energised low vout (s.m.chan c.val)).phase = .on := hphase
      simp [Chan.conducting, this]
    obtain ⟨t, old, ht, hchan, -, honly⟩ := Module.setChan_trip (m := s.m) (n := c.val) (cause := 2)
      (f := s.m.sampled c.val x energised low vout) false false (fun _ => rfl) (.inl hon)
    refine ⟨t, congrArg s.to ((Module.sampleChannel_tripped hphase hpwm hwindow hcount habove).trans ht), ?_⟩
    rw [hchan]
    refine ⟨?_, rfl, rfl, honly⟩
    simp [Chan.tripRecorded, Chan.tripBegun, hon, Module.beginOff]
  case supplyAlone =>
    intro s g vs hnone
    refine ⟨_, congrArg s.to (Module.sampleSupply_idle hnone), ?_⟩
    rw [Module.grp_setGrp, if_pos rfl]
    exact ⟨rfl, rfl, rfl⟩
  case supply =>
    intro s g vs
    obtain ⟨hchannels, hothers⟩ := s.m.sampleSupply_channels g.val vs
    have hmem := Module.mem_of_channelsOnly hchannels
    refine ⟨s.m.sampleSupply g.val vs, rfl, ?_⟩
    rw [Module.grp_of_channelsOnly hchannels, Module.grp_setGrp, if_pos rfl]
    exact ⟨rfl, rfl, fun n _ hn => hothers n hn, hmem⟩
  case wireIdle =>
    intro s tj hrun
    exact congrArg (fun m : Module => s.to m.diagUpdate) (Module.wireStepAll_idle hrun tj)
  case wire =>
    intro s tj hrun
    obtain ⟨hstep, hchannels⟩ := Module.wireStepAll_channels hrun tj
    obtain ⟨hchc, hmem⟩ := (s.m.wireStepAll tj).diagUpdate_leaves
    have hstate : ∀ n ∈ List.range 128, (((s.m.wireStepAll tj).diagUpdate).chan n).wireState
        = Module.wireStepped n (s.m.chan n) (s.m.ambient (s.m.chan n)).1 (tj.getD n 0) := by
      intro n hn
      rw [Module.chan_of_chc hchc n]
      exact hstep n (List.mem_range.1 hn)
    refine ⟨(s.m.wireStepAll tj).diagUpdate, rfl, fun n hn => congrArg Prod.fst (hstate n hn), fun n hn => ⟨?_, ?_⟩, ?_⟩
    · exact congrArg (fun x => x.2.1) (hstate n hn)
    · exact congrArg (fun x => x.2.2) (hstate n hn)
    · exact hmem.trans (Module.mem_of_channelsOnly hchannels)
  case rms =>
    intro s
    have h := s.m.evaluated_forEach
    exact ⟨_, rfl, fun g hg => (h g (List.mem_range.1 hg)).1, fun g hg => (h g (List.mem_range.1 hg)).2.1,
      fun g hg => (h g (List.mem_range.1 hg)).2.2⟩
  case loss =>
    intro s
    have h := s.m.estimated_forEach
    refine ⟨_, rfl, fun g hg => (h g (List.mem_range.1 hg)).1, fun g hg => (h g (List.mem_range.1 hg)).2.1, fun n hn => ?_⟩
    have hn4 : n / 32 < 4 := by
      have := List.mem_range.1 hn
      omega
    have hchan := (h (n / 32) hn4).2.2 ⟨n % 32, Nat.mod_lt _ (by decide)⟩
    dsimp only at hchan
    rwa [Nat.div_add_mod] at hchan
  case refill =>
    intro s g hdroop
    exact congrArg s.to (if_pos (decide_eq_true hdroop))
  case sweep =>
    intro s hrun
    exact ⟨_, rfl, Module.rd_sweepEnd hrun⟩

end Sys2Proof.Machine
end

section
/-!
SUPPORT. A restart and the edges of a PWM (R227, R238, R241, R242, R244, R254).
-/
namespace Sys2Proof.Machine
namespace Module

/-! ### A turn-on -/

/-- The window that a turn-on leaves (R227, R244, R254): a new one where the caller asks for it, after a protection turn-off, and
at the first on-edge with a duty of a PWM that was entered with none. -/
def windowOn (m : Module) (n : Nat) (win : Bool) (ns : Nat) : Option InrushWindow :=
  if win || (m.chan n).protOff || (m.chan n).firstEdge then some (m.newWindow n ns) else (m.chan n).window

theorem windowOn_new (m : Module) (n ns : Nat) : m.windowOn n true ns = some (m.newWindow n ns) := rfl

theorem when_latchEvt (m : Module) (c : Bool) (n b : Nat) :
    m.when c (·.latchEvt n b) = m.latchEvt n (if c then b else 0) := by
  cases c
  · exact (if_pos rfl).symm
  · rfl

/-- A turn-on is one change `f` of the channel, and an event `b` that is none but after a protection turn-off (R226, R227, R256). -/
theorem turnOn_eq (m : Module) (n : Nat) (win : Bool) (ns : Nat) (slew0 : Bool) :
    ∃ (f : Chan → Chan) (b : Nat),
      m.turnOn n win ns slew0 = (m.setChan n f).latchEvt n b ∧ (∀ c, (f c).ctrl = c.ctrl)
        ∧ (f (m.chan n)).phase = .turningOn ∧ (f (m.chan n)).window = m.windowOn n win ns
        ∧ (f (m.chan n)).protOff = false ∧ (f (m.chan n)).cmd = (m.chan n).cmd :=
  ⟨_, _, when_latchEvt _ _ n _, fun _ => rfl, rfl, rfl, rfl, rfl⟩

theorem chan_turnOn (m : Module) (n : Nat) (win : Bool) (ns : Nat) (slew0 : Bool) :
    ((m.turnOn n win ns slew0).chan n).phase = .turningOn
      ∧ ((m.turnOn n win ns slew0).chan n).window = m.windowOn n win ns
      ∧ ((m.turnOn n win ns slew0).chan n).protOff = false
      ∧ ((m.turnOn n win ns slew0).chan n).cmd = (m.chan n).cmd := by
  obtain ⟨f, b, heq, -, hfields⟩ := m.turnOn_eq n win ns slew0
  rwa [heq, chan_latchEvt, chan_setChan_same]

theorem ownEvents_turnOn (n : Nat) (m : Module) (win : Bool) (ns : Nat) (slew0 : Bool) :
    OwnEvents n m (m.turnOn n win ns slew0) := by
  obtain ⟨f, b, heq, hf, -⟩ := m.turnOn_eq n win ns slew0
  rw [heq]
  exact ownEvents_trans (ownEvents_setChan n m hf) (ownEvents_latchEvt n _ b)

theorem hst_turnOn (m : Module) (n : Nat) (win : Bool) (ns : Nat) (slew0 : Bool) :
    (m.turnOn n win ns slew0).hst = m.hst := by
  obtain ⟨f, b, heq, -⟩ := m.turnOn_eq n win ns slew0
  rw [heq, hst_latchEvt, hst_setChan]

/-- A change of channel `n` and its events that leaves HST's latches is a change of channel `n` alone. -/
theorem onlyChannel_of_hst {n : Nat} {m t : Module} (h : OwnEvents n m t) (hhst : t.hst = m.hst) : onlyChannel n m t := by
  have honly := onlyChannel_of_ownEvents h
  rwa [hhst] at honly

theorem onlyChannel_turnOn (n : Nat) (m : Module) (win : Bool) (ns : Nat) (slew0 : Bool) :
    onlyChannel n m (m.turnOn n win ns slew0) :=
  onlyChannel_of_hst (ownEvents_turnOn n m win ns slew0) (hst_turnOn m n win ns slew0)

/-- A further change `f` of the same channel. -/
theorem onlyChannel_thenSetChan {n : Nat} {m t : Module} {f : Chan → Chan} (h : OwnEvents n m t) (hhst : t.hst = m.hst)
    (hf : ∀ c, (f c).ctrl = c.ctrl) : onlyChannel n m (t.setChan n f) :=
  onlyChannel_of_hst (ownEvents_trans h (ownEvents_setChan n t hf)) ((hst_setChan t n f).trans hhst)

theorem ctrl_beginOff (c : Chan) (t : Nat) (hard keepWindow watch : Bool) :
    (beginOff c t hard keepWindow watch).ctrl = c.ctrl := by
  cases keepWindow <;> rfl

/-! ### The cases of an edge -/

theorem conducting_of_off {c : Chan} (h : c.phase = .off) : c.conducting = false := by
  simp [Chan.conducting, h]

theorem restart_on {m : Module} {n : Nat} (hcmd : (m.chan n).cmd = .on) (hoff : (m.chan n).phase = .off)
    (hpwm : (m.chan n).pwm = none) (hmay : m.mayTurnOn n = true) : m.restart n = m.turnOn n true :=
  if_pos (by simp [hcmd, hoff, hpwm, hmay])

theorem gridPeriod_running {c : Chan} {p d : Nat} (h : c.pwm = some (p, d)) : gridPeriod c = p := by
  simp only [gridPeriod, h]

theorem gridPeriod_commanded {c : Chan} {p d : Nat} (hpwm : c.pwm = none) (hcmd : c.cmd = .pwm p d) : gridPeriod c = p := by
  simp only [gridPeriod, hpwm, hcmd]

/-- At an on-edge of the grid in force a channel commanded PWM goes by its commanded values (R242). -/
theorem pwmEdge_commanded {m : Module} {n p d q ns : Nat} (hcmd : (m.chan n).cmd = .pwm p d)
    (hperiod : gridPeriod (m.chan n) = q) (hgrid : m.onGrid n q = true) : m.pwmEdge n ns = m.pwmOnEdge n p d ns := by
  simp [pwmEdge, hperiod, hgrid, hcmd]

/-- There the PWM of a conducting channel commanded ON ends (R280). -/
theorem pwmEdge_on {m : Module} {n p d ns : Nat} (hcmd : (m.chan n).cmd = .on) (hon : (m.chan n).conducting = true)
    (hpwm : (m.chan n).pwm = some (p, d)) (hgrid : m.onGrid n p = true) :
    m.pwmEdge n ns = m.setChan n (fun c => { c with pwm := none }) := by
  simp [pwmEdge, gridPeriod_running hpwm, hgrid, hcmd, hpwm, hon]

/-- The end of an off-phase: the output goes on again (R241), with a new window after 10 ms (R244). -/
theorem pwmOnEdge_again {m : Module} {n p d ns : Nat} {v : Nat × Nat} (hoff : (m.chan n).phase = .off)
    (hpwm : (m.chan n).pwm = some v) (hduty : effDuty (m.profileOf (m.chan n)).slew p d ≠ 0)
    (hdrives : m.drives = true) (huv : m.vsUv n = false) (hexh : (m.chan n).exhausted = false)
    (hfw : (m.chan n).fwMissing = false) (hlatched : (m.chan n).latched = false) :
    m.pwmOnEdge n p d ns
      = (m.turnOn n (m.offPhase10 (m.chan n)) ns).setChan n (fun c => { c with pwm := some (p, d) }) := by
  simp [pwmOnEdge, conducting_of_off hoff, hoff, hpwm, hduty, hdrives, huv, hexh, hfw, hlatched]

/-- The first on-edge turns the channel on where R254 admits it. -/
theorem pwmOnEdge_first {m : Module} {n p d ns : Nat} (hoff : (m.chan n).phase = .off) (hpwm : (m.chan n).pwm = none)
    (hduty : effDuty (m.profileOf (m.chan n)).slew p d ≠ 0) (hmay : m.mayTurnOn n = true) :
    m.pwmOnEdge n p d ns = (m.turnOn n true ns).setChan n (fun c => { c with pwm := some (p, d) }) := by
  simp [pwmOnEdge, conducting_of_off hoff, hoff, hpwm, hduty, firstOn, hmay]

/-- A conducting channel goes on, and a new on-phase begins unless the duty in force is the whole period (R241, R242). -/
theorem pwmOnEdge_conducting {m : Module} {n p d ns : Nat} (hon : (m.chan n).conducting = true)
    (hduty : effDuty (m.profileNow (m.chan n)).slew p d ≠ 0) :
    m.pwmOnEdge n p d ns
      = (m.setChan n (fun c =>
          if effDuty (m.profileNow (m.chan n)).slew p d = 1000 then { c with undercurrent := false }
          else { c with undercurrent := false, onNs := - (ns : Int), edgeAt := m.now })).setChan n
            (fun c => { c with pwm := some (p, d) }) := by
  simp [pwmOnEdge, hon, hduty]

/-- The on-phase has run, and the off-phase begins (R241). -/
theorem pwmOffEdge_due {m : Module} {n p d : Nat} (hpwm : (m.chan n).pwm = some (p, d))
    (hon : (m.chan n).conducting = true) (hduty : effDuty (m.profileNow (m.chan n)).slew p d < 1000)
    (hdue : (m.chan n).edgeAt + p * d / 1000 ≤ m.now) :
    m.pwmOffEdge n = m.setChan n (fun c => beginOff c m.now false true true) := by
  unfold pwmOffEdge
  simp only [hpwm]
  exact if_pos (by simp [hon, hduty, hdue])

end Module

/-- Settles O30: a restart is a turn-on, an on-edge a turn-on or a change of the channel and then its commanded values, an
off-edge a slewed turn-off. -/
theorem restartAndPwmEdges : Obligations.RestartAndPwmEdges := by
  unfold Obligations.RestartAndPwmEdges
  refine ⟨?restart, ?again, ?first, ?conducting, ?ends, ?offEdge, fun s c => rfl, fun s c ns => rfl, fun s c => rfl⟩
  case restart =>
    rintro s c ⟨hcmd, hoff, hpwm⟩ hmay
    obtain ⟨hphase, hwindow, hprot, hkept⟩ := s.m.chan_turnOn c.val true 0 false
    exact ⟨_, congrArg s.to (Module.restart_on hcmd hoff hpwm hmay), hphase, hwindow.trans (s.m.windowOn_new c.val 0), hprot,
      hkept.trans hcmd, Module.onlyChannel_turnOn _ _ _ _ _⟩
  case again =>
    rintro s c p d ns ⟨hcmd, hoff, hpwm⟩ ⟨hduty, hgrid⟩ ⟨hdrives, huv⟩ ⟨hexh, hfw, hlatched⟩
    have hedge := (Module.pwmEdge_commanded (ns := ns) hcmd (Module.gridPeriod_running hpwm) hgrid).trans
      (Module.pwmOnEdge_again hoff hpwm hduty hdrives huv hexh hfw hlatched)
    refine ⟨_, congrArg s.to hedge, ?_, ?_, Module.onlyChannel_thenSetChan (Module.ownEvents_turnOn _ _ _ _ _)
      (Module.hst_turnOn _ _ _ _ _) fun _ => rfl⟩
    all_goals rw [Module.chan_setChan_same]
    exact (s.m.chan_turnOn c.val _ ns false).1
  case first =>
    rintro s c p d ns ⟨hcmd, hoff, hpwm⟩ ⟨hduty, hgrid⟩ hmay
    have hedge := (Module.pwmEdge_commanded (ns := ns) hcmd (Module.gridPeriod_commanded hpwm hcmd) hgrid).trans
      (Module.pwmOnEdge_first hoff hpwm hduty hmay)
    obtain ⟨hphase, hwindow, -⟩ := s.m.chan_turnOn c.val true ns false
    refine ⟨_, congrArg s.to hedge, ?_, ?_, ?_, Module.onlyChannel_thenSetChan (Module.ownEvents_turnOn _ _ _ _ _)
      (Module.hst_turnOn _ _ _ _ _) fun _ => rfl⟩
    all_goals rw [Module.chan_setChan_same]
    · exact hphase
    · exact hwindow.trans (s.m.windowOn_new c.val ns)
  case conducting =>
    rintro s c p d q ns ⟨hcmd, hon, hpwm⟩ ⟨hduty, hgrid⟩
    have hedge := (Module.pwmEdge_commanded (ns := ns) hcmd (Module.gridPeriod_running hpwm) hgrid).trans
      (Module.pwmOnEdge_conducting hon hduty)
    refine ⟨_, congrArg s.to hedge, ?_, ?_, Module.onlyChannel_thenSetChan
      (Module.ownEvents_setChan _ _ fun x => ?_) (Module.hst_setChan _ _ _) fun _ => rfl⟩
    · rw [Module.chan_setChan_same, Module.chan_setChan_same]
      split <;> rfl
    · rw [Module.chan_setChan_same]
    · split <;> rfl
  case ends =>
    rintro s c p d ns ⟨hcmd, hon, hpwm⟩ hgrid
    exact ⟨_, congrArg s.to (Module.pwmEdge_on hcmd hon hpwm hgrid), Module.setChan_spec (fun _ => rfl) rfl⟩
  case offEdge =>
    rintro s c p d ⟨hpwm, hon⟩ hduty hdue
    obtain ⟨hchan, honly⟩ := Module.setChan_spec (m := s.m) (n := c.val)
      (fun x => Module.ctrl_beginOff x s.m.now false true true) rfl
    refine ⟨_, congrArg s.to (Module.pwmOffEdge_due hpwm hon hduty hdue), ?_, ?_, ?_, honly⟩
    all_goals rw [hchan]
    · rfl
    · rfl
    · exact hpwm

end Sys2Proof.Machine
end

section
/-!
SUPPORT. The submission of a channel command (R274–R277, R284, R285).
-/
namespace Sys2Proof.Machine
namespace Module

/-- An element of a family after the element of another family with the same index and stride is written. -/
theorem rd_wr_place (m : Module) {f g : Fam} (v i : Nat)
    (h : g.d1.1 = f.d1.1 ∧ g.base * 64 + g.lo ≠ f.base * 64 + f.lo) : (m.wr f v i).rd g i = m.rd g i := by
  obtain ⟨hstride, hplace⟩ := h
  refine rd_wr_other m f g v i 0 0 i 0 0 fun h => hplace ?_
  simp only [Fam.key, Fam.addr, hstride] at h
  omega

/-- Command `c` stands last in the queue of CHIi, and the next sequence number follows (R274, R277). -/
def enqueued (m : Module) (i : Nat) (c : ChiCmd) : Module :=
  (m.setChi i { m.chi i with queue := (m.chi i).queue ++ [c] }).addW F.CHI_SEQ_NEXT_SEQ 1 i

theorem chi_enqueued (m : Module) (i k : Nat) (c : ChiCmd) :
    (m.enqueued i c).chi k = if k = i then { m.chi i with queue := (m.chi i).queue ++ [c] } else m.chi k :=
  chi_setChi m i k _

theorem rd_enqueued (m : Module) (i : Nat) (c : ChiCmd) {f : Fam}
    (h : f.d1.1 = 0x1000 ∧ f.base * 64 + f.lo ≠ 0x40060008 * 64) : (m.enqueued i c).rd f i = m.rd f i :=
  rd_wr_place _ _ i h

theorem chiSubmit_admitted {m : Module} {i op chan resv seq : Nat} (h : m.chiRefusal i seq = none) :
    m.chiSubmit i op chan resv seq
      = (m.enqueued i ⟨op, chan, resv, seq, m.rd F.CHI_CMD_ARG_ARG i⟩).when (m.rd F.CHI_STATE_STATE i != 1)
        (·.chiActive i) := by
  have hstate := m.rd_enqueued i ⟨op, chan, resv, seq, m.rd F.CHI_CMD_ARG_ARG i⟩ (f := F.CHI_STATE_STATE) (by decide)
  rw [← hstate]
  unfold chiSubmit
  rw [h]
  by_cases hhold : (m.enqueued i ⟨op, chan, resv, seq, m.rd F.CHI_CMD_ARG_ARG i⟩).rd F.CHI_STATE_STATE i = 1
  · rw [hhold]
    exact if_pos hhold
  · rw [bne_iff_ne.2 hhold]
    exact if_neg hhold

theorem chi_chiActive (m : Module) (i k : Nat) :
    (m.chiActive i).chi k = if k = i then { m.chi i with leftUs := m.wdtUs i } else m.chi k :=
  chi_setChi (m.wr F.CHI_STATE_STATE 0 i) i k _

theorem rd_chiActive (m : Module) (i : Nat) {f : Fam}
    (h : f.d1.1 = 0x1000 ∧ f.base * 64 + f.lo ≠ 0x4006000C * 64) : (m.chiActive i).rd f i = m.rd f i :=
  rd_wr_place (f := F.CHI_STATE_STATE) m 0 i h

/-- In HOLD the command only waits. -/
theorem queues_hold {m : Module} {i : Nat} (c : ChiCmd) (h : m.rd F.CHI_STATE_STATE i = 1) :
    m.queues i c (m.ok.enqueued i c) := by
  have hstate := m.ok.rd_enqueued i c (f := F.CHI_STATE_STATE) (by decide)
  have hown : (m.ok.enqueued i c).chi i = { m.chi i with queue := (m.chi i).queue ++ [c] } :=
    (chi_enqueued ..).trans (if_pos rfl)
  rw [queues, hown]
  exact ⟨rfl, rfl, rfl, rfl, fun k _ hk => (chi_enqueued ..).trans (if_neg hk), rd_wr_same _ _ _ i 0 0,
    fun hn => absurd h hn, fun _ => ⟨hstate.trans h, rfl⟩⟩

/-- Outside HOLD CHIi becomes ACTIVE with its full watchdog (R285). -/
theorem queues_active {m : Module} {i : Nat} (c : ChiCmd) (h : m.rd F.CHI_STATE_STATE i ≠ 1) :
    m.queues i c ((m.ok.enqueued i c).chiActive i) := by
  have hwdt : (m.ok.enqueued i c).wdtUs i = m.wdtUs i :=
    congrArg (· * 1000) (m.ok.rd_enqueued i c (f := F.CHI_WDT_TIMEOUT) (by decide))
  have hseq : ((m.ok.enqueued i c).chiActive i).rd F.CHI_SEQ_NEXT_SEQ i = (m.rd F.CHI_SEQ_NEXT_SEQ i + 1) % 2 ^ 16 :=
    (rd_chiActive _ i (by decide)).trans (rd_wr_same _ _ _ i 0 0)
  have hown : ((m.ok.enqueued i c).chiActive i).chi i
      = { m.chi i with queue := (m.chi i).queue ++ [c], leftUs := m.wdtUs i } := by
    rw [chi_chiActive, if_pos rfl, hwdt, chi_enqueued, if_pos rfl]
    rfl
  have hothers : ∀ k ∈ List.range 16, k ≠ i → ((m.ok.enqueued i c).chiActive i).chi k = m.chi k := by
    intro k _ hk
    rw [chi_chiActive, if_neg hk, chi_enqueued, if_neg hk]
    rfl
  rw [queues, hown]
  exact ⟨rfl, rfl, rfl, rfl, hothers, hseq, fun _ => ⟨rd_wr_same _ _ 0 i 0 0, rfl⟩, fun hn => absurd hn h⟩

/-- The registers in which the submission of a command shows. -/
def submitKeys (i : Nat) : List Nat := [F.CHI_SEQ_NEXT_SEQ.key i 0 0, F.CHI_STATE_STATE.key i 0 0]

theorem regsBut_enqueued (m : Module) (i : Nat) (c : ChiCmd) : regsBut (submitKeys i) m (m.ok.enqueued i c) :=
  regsBut_wr _ (List.mem_cons_self ..) (regsBut_refl _ m)

/-- A command that nothing refuses joins the queue (R274, R275, R277, R285). -/
theorem chiSubmit_spec {m : Module} {i op chan resv seq : Nat} (h : m.chiRefusal i seq = none) :
    m.queues i ⟨op, chan, resv, seq, m.rd F.CHI_CMD_ARG_ARG i⟩ (m.ok.chiSubmit i op chan resv seq)
      ∧ regsBut (submitKeys i) m (m.ok.chiSubmit i op chan resv seq) := by
  rw [chiSubmit_admitted (m := m.ok) h]
  have hqueued := m.regsBut_enqueued i ⟨op, chan, resv, seq, m.rd F.CHI_CMD_ARG_ARG i⟩
  by_cases hhold : m.rd F.CHI_STATE_STATE i = 1
  · rw [show (m.ok.rd F.CHI_STATE_STATE i != 1) = false from bne_eq_false_iff_eq.2 hhold, when_false]
    exact ⟨queues_hold _ hhold, hqueued⟩
  · rw [show (m.ok.rd F.CHI_STATE_STATE i != 1) = true from bne_iff_ne.2 hhold, when_true]
    exact ⟨queues_active _ hhold,
      regsBut_set rfl (regsBut_wr 0 (List.mem_cons_of_mem _ (List.mem_cons_self ..)) hqueued)⟩

end Module

/-- A write of a command word of operation `op`, as each of the seven rows writes it. -/
theorem State.runBy_chiCommand {s : State} {a : Access} (i op chan resv seq : Nat) (h : s.genuine a 1) :
    s.runBy a 1 (fun a m => m.chiCommand a i op chan resv seq) = s.to (s.m.chiCommand a i op chan resv seq) :=
  State.runBy_issued _ h

theorem State.runBy_chiSubmit {s : State} {a : Access} {i op chan resv seq : Nat}
    (hadm : s.admitsWrite a (Module.chiAddr i 4)) (h : s.m.chiRefusal i seq = none) :
    ∃ t, s.runBy a 1 (fun a m => m.chiCommand a i op chan resv seq) = s.to t
      ∧ s.m.queues i ⟨op, chan, resv, seq, s.m.rd F.CHI_CMD_ARG_ARG i⟩ t ∧ Module.regsBut (Module.submitKeys i) s.m t :=
  ⟨_, State.runBy_admittedWrite (fun _ m => m.chiSubmit i op chan resv seq) hadm, Module.chiSubmit_spec h⟩

/-- Settles O32: the seven rows differ in the operation that they submit alone; the first seven clauses speak of a command that
nothing refuses, the other seven of any. -/
theorem channelCommandsAreQueued : Obligations.ChannelCommandsAreQueued := by
  unfold Obligations.ChannelCommandsAreQueued
  and_intros
  iterate 7 exact fun s a i chan resv seq hadm hadmitted => State.runBy_chiSubmit hadm hadmitted
  iterate 7 exact fun s a i chan resv seq hg => State.runBy_chiCommand i.val _ chan.val resv.val seq.toNat hg

end Sys2Proof.Machine
end

section
/-!
SUPPORT. The command watchdog, the fail states, and the completions of CHIi (R282, R283, R285–R288, R292).
-/
namespace Sys2Proof.Machine

/-- What every round of an index of the list keeps, the loop keeps. -/
theorem forEach_keeps_mem {σ : Type} {P : σ → Prop} (l : List Nat) (f : Nat → σ → σ) {s : σ} (hs : P s)
    (hf : ∀ i ∈ l, ∀ t, P t → P (f i t)) : P (forEach l f s) :=
  List.foldlRecOn l _ hs fun t ht i hi => hf i hi t ht

namespace Module

theorem chi_of_channelsOnly {m t : Module} (h : ChannelsOnly m t) (i : Nat) : t.chi i = m.chi i := by
  rw [h.frame]
  rfl

/-! ### A fail state -/

theorem ctrl_slewedOff (c : Chan) (t : Nat) : (slewedOff c t).ctrl = c.ctrl := by
  unfold slewedOff
  split
  · exact ctrl_beginOff c t false false true
  · rfl

/-- After a commanded turn-off a channel does not conduct (R238). -/
theorem conducting_slewedOff (c : Chan) (t : Nat) : (slewedOff c t).conducting = false := by
  unfold slewedOff
  split
  next h => rfl
  next h => exact eq_false_of_ne_true h

/-- The commanded state OFF (R280, R288). -/
theorem chan_commandOff (m : Module) (n : Nat) :
    ((m.commandOff n).chan n).cmd = .off ∧ ((m.commandOff n).chan n).conducting = false := by
  unfold commandOff commandedOff
  rw [chan_setChan_same, chan_setChan_same]
  exact ⟨rfl, conducting_slewedOff (m.chan n) m.now⟩

/-- The commanded state ON (R280, R287). -/
theorem cmd_commandOn (m : Module) (n : Nat) : ((m.commandOn n).chan n).cmd = .on := by
  unfold commandOn
  extract_lets c m1
  have h1 : (m1.chan n).cmd = .on := by rw [chan_setChan_same]
  exact when_keeps (P := fun t : Module => (t.chan n).cmd = .on) h1 ((m1.chan_turnOn n true 0 false).2.2.2.trans h1)

theorem ownEvents_commandOff (n : Nat) (m : Module) : OwnEvents n m (m.commandOff n) := by
  unfold commandOff commandedOff
  exact ownEvents_trans (ownEvents_setChan n m fun c => ctrl_slewedOff c m.now) (ownEvents_setChan n _ fun _ => rfl)

theorem ownEvents_commandOn (n : Nat) (m : Module) : OwnEvents n m (m.commandOn n) := by
  unfold commandOn
  extract_lets c m1
  have h1 : OwnEvents n m m1 := ownEvents_setChan n m fun _ => rfl
  exact ownEvents_when h1 (ownEvents_turnOn n m1 true 0 false)

theorem ownEvents_applyFail (n : Nat) (m : Module) : OwnEvents n m (m.applyFail n) := by
  unfold applyFail
  extract_lets c m1
  have h1 : OwnEvents n m m1 := by
    unfold m1
    split_ifs
    · exact ownEvents_commandOff n m
    · exact ownEvents_setChan n m fun _ => rfl
    · exact ownEvents_commandOn n m
    · exact ownEvents_refl n m
  exact ownEvents_trans h1 (ownEvents_latchEvt n m1 _)

/-- FAIL_STATE OFF (R265, R288). -/
theorem chan_applyFail_off {m : Module} {n : Nat} (h : (m.chan n).failState = 1) :
    ((m.applyFail n).chan n).cmd = .off ∧ ((m.applyFail n).chan n).conducting = false := by
  unfold applyFail
  rw [chan_latchEvt]
  simp only [h, if_true]
  exact m.chan_commandOff n

/-! ### Expiry -/

/-- The turn of channel `n` at the expiry of CHIi: its fail state, where CHIi owns it (R285). -/
def failTurn (i n : Nat) (m : Module) : Module :=
  if (m.chan n).owned && (m.chan n).owner == i then m.applyFail n else m

theorem failTurn_owned {m : Module} {i n : Nat} (howned : (m.chan n).owned = true) (howner : (m.chan n).owner = i) :
    failTurn i n m = m.applyFail n := if_pos (by simp [howned, howner])

theorem failTurn_foreign {m : Module} {i n : Nat} (h : (m.chan n).owned = false ∨ (m.chan n).owner ≠ i) :
    failTurn i n m = m := if_neg (by rcases h with h | h <;> simp [h])

theorem ownEvents_failTurn (i n : Nat) (m : Module) : OwnEvents n m (failTurn i n m) := by
  unfold failTurn
  split
  · exact ownEvents_applyFail n m
  · exact ownEvents_refl n m

/-- What the expiry of CHIi makes of a channel that was `c` (R285, R288). -/
def FailApplied (i : Nat) (c d : Chan) : Prop :=
  (c.owned = false ∨ c.owner ≠ i → d = c)
    ∧ (c.owned = true → c.owner = i → c.failState = 1 → d.cmd = .off ∧ d.conducting = false)

theorem failApplied_failTurn (i n : Nat) (m : Module) : FailApplied i (m.chan n) ((failTurn i n m).chan n) :=
  ⟨fun h => by rw [failTurn_foreign h], fun howned howner hfail => by
    rw [failTurn_owned howned howner]
    exact chan_applyFail_off hfail⟩

theorem failApplied_forEach (i : Nat) (m : Module) :
    ∀ n < 128, FailApplied i (m.chan n) ((forEach (List.range 128) (failTurn i) m).chan n) := by
  refine forEach_range_turns (view := fun n t => chan t n) (P := fun n c t => FailApplied i c (t.chan n)) 128 ?_ ?_ ?_ m
  · exact fun n t _ => failApplied_failTurn i n t
  · exact fun n k t _ hk => (ownEvents_failTurn i n t).others k hk
  · intro n k c t _ _ hk h
    rwa [(ownEvents_failTurn i n t).others k hk]

/-- CHI_STATE is no event of a channel. -/
theorem rd_state_of_ownEvents {n : Nat} {m t : Module} (h : OwnEvents n m t) (hn : n < 128) (i : Nat) :
    t.rd F.CHI_STATE_STATE i = m.rd F.CHI_STATE_STATE i := by
  refine h.events _ _ _ _ fun hmem => ?_
  simp only [eventKeys, List.mem_cons, List.not_mem_nil, or_false, Fam.key, Fam.addr, F.CHC_CH_EVT_EVT, F.CHI_CH_EVT_EVT,
    F.CHI_IRQ_STAT_EVT, F.CHI_STATE_STATE, fam] at hmem
  omega

/-- The fail states change channels and their events alone. -/
theorem forEach_failTurn_frame (i : Nat) (m : Module) :
    ChannelsOnly m (forEach (List.range 128) (failTurn i) m)
      ∧ (forEach (List.range 128) (failTurn i) m).rd F.CHI_STATE_STATE i = m.rd F.CHI_STATE_STATE i := by
  refine forEach_keeps_mem (P := fun t : Module => ChannelsOnly m t ∧ t.rd F.CHI_STATE_STATE i = m.rd F.CHI_STATE_STATE i)
    _ _ ⟨channelsOnly_refl m, rfl⟩ ?_
  rintro n hn t ⟨hchannels, hstate⟩
  have h := ownEvents_failTurn i n t
  exact ⟨channelsOnly_trans hchannels h.toChannelsOnly, (rd_state_of_ownEvents h (List.mem_range.1 hn) i).trans hstate⟩

/-- CHIi is EXPIRED, with no time left. -/
def expired (m : Module) (i : Nat) : Module :=
  (m.wr F.CHI_STATE_STATE 3 i).setChi i { m.chi i with leftUs := 0 }

theorem chiExpire_eq {m : Module} {i : Nat} (hquiet : m.chiQuiesced i = false) (hst : m.rd F.CHI_STATE_STATE i ≠ 3)
    (hdrives : m.drives = true) (hleft : (m.chi i).leftUs = 0) (hrun : m.rd F.CHC_STAT_RUN = 1) :
    m.chiExpire i = (forEach (List.range 128) (failTurn i) (m.expired i)).raise F.CHI_IRQ_STAT_EXPIRED i := by
  unfold chiExpire
  rw [if_neg (by simp [hquiet, hst, hdrives, hleft, flag_eq, hrun])]
  rfl

/-- R285, R287, R288, R292: the expiry of CHIi. -/
theorem chiExpire_spec {m : Module} {i : Nat} (hquiet : m.chiQuiesced i = false) (hst : m.rd F.CHI_STATE_STATE i ≠ 3)
    (hdrives : m.drives = true) (hleft : (m.chi i).leftUs = 0) (hrun : m.rd F.CHC_STAT_RUN = 1) :
    (m.chiExpire i).rd F.CHI_STATE_STATE i = 3 ∧ ((m.chiExpire i).chi i).leftUs = 0
      ∧ (m.chiExpire i).flag F.CHI_IRQ_STAT_EXPIRED i = true
      ∧ (∀ n < 128, FailApplied i (m.chan n) ((m.chiExpire i).chan n)) ∧ (m.chiExpire i).mem = m.mem := by
  rw [chiExpire_eq hquiet hst hdrives hleft hrun]
  obtain ⟨hchannels, hstate⟩ := (m.expired i).forEach_failTurn_frame i
  have hturns := (m.expired i).failApplied_forEach i
  generalize forEach (List.range 128) (failTurn i) (m.expired i) = t at hchannels hstate hturns
  refine ⟨?_, ?_, ?_, hturns, (mem_of_channelsOnly hchannels :)⟩
  · have hshown : (m.expired i).rd F.CHI_STATE_STATE i = 3 := rd_wr_same m _ 3 i 0 0
    rw [raise_eq, rd_wr_place, hstate, hshown]
    decide
  · have hown : ((m.expired i).chi i).leftUs = 0 := by rw [expired, chi_setChi, if_pos rfl]
    exact (congrArg Chi.leftUs (chi_of_channelsOnly hchannels i)).trans hown
  · rw [flag_eq, raise_eq, rd_wr_same]
    rfl

/-! ### The completions -/

/-- The oldest completion `e` of CHIi goes, and its second word shows (R283). -/
def cplShown (m : Module) (i : Nat) (e : ChiCpl) (r : List ChiCpl) : Module :=
  (((m.setChi i { m.chi i with fifo := r }).wr F.CHI_CPL_X_CHANNEL e.chan i).wr F.CHI_CPL_X_DETAIL e.detail i).wr
    F.CHI_CPL_X_SWEEP e.sweep i

theorem cplPop_cons {m : Module} {i : Nat} {e : ChiCpl} {r : List ChiCpl} (h : (m.chi i).fifo = e :: r) :
    m.cplPop i = m.cplShown i e r := by
  simp only [cplPop, h, cplShown]

theorem cplPop_nil {m : Module} {i : Nat} (h : (m.chi i).fifo = []) : m.cplPop i = m := by
  simp only [cplPop, h]

/-- A read of CHI_CPL that commits as it completes answers the word of the oldest completion, and takes it. -/
theorem cplRead_committed {m : Module} {a : Access} {i : Nat} (hc : commitsAtOnce a)
    (hd : m.accessDeny a (chiAddr i 0x10) 4 0 = none) :
    m.cplRead a i = (m.ok.cplPop i).ok (((m.chi i).fifo.head?.map cplWord).getD 0) := reRead_admitted _ _ _ hc hd

/-- The registers of CHI_CPL_X. -/
def cplKeys (i : Nat) : List Nat :=
  [F.CHI_CPL_X_CHANNEL.key i 0 0, F.CHI_CPL_X_DETAIL.key i 0 0, F.CHI_CPL_X_SWEEP.key i 0 0]

theorem regsBut_cplShown (m : Module) (i : Nat) (e : ChiCpl) (r : List ChiCpl) :
    regsBut (cplKeys i) m (m.cplShown i e r) :=
  regsBut_wr _ (by simp [cplKeys]) (regsBut_wr _ (by simp [cplKeys]) (regsBut_wr _ (by simp [cplKeys]) (regsBut_refl _ m)))

theorem rd_cplShown (m : Module) (i : Nat) (e : ChiCpl) (r : List ChiCpl) :
    (m.cplShown i e r).rd F.CHI_CPL_X_CHANNEL i = e.chan % 2 ^ F.CHI_CPL_X_CHANNEL.width
      ∧ (m.cplShown i e r).rd F.CHI_CPL_X_DETAIL i = e.detail % 2 ^ F.CHI_CPL_X_DETAIL.width
      ∧ (m.cplShown i e r).rd F.CHI_CPL_X_SWEEP i = e.sweep % 2 ^ F.CHI_CPL_X_SWEEP.width := by
  refine ⟨?_, ?_, rd_wr_same _ _ _ i 0 0⟩
  · rw [cplShown, rd_wr_place, rd_wr_place, rd_wr_same]
    all_goals decide
  · rw [cplShown, rd_wr_place, rd_wr_same]
    decide

theorem chi_cplShown (m : Module) (i : Nat) (e : ChiCpl) (r : List ChiCpl) :
    (m.cplShown i e r).chi i = { m.chi i with fifo := r } := (chi_setChi m i i _).trans (if_pos rfl)

end Module

theorem exec_chiCplRead {s : State} {a : Access} (i : Fin 16) (hg : s.genuine a 0) :
    exec (.chiCplRead a i) s = s.to ((s.m.cplRead a i.val).pairFault a 0) :=
  State.runBy_issued (fun a m => m.cplRead a i.val) hg

/-- The same where the read is admitted and commits as it completes. -/
theorem exec_chiCplRead_committed {s : State} {a : Access} {i : Fin 16} (hadm : s.admitsRead a (Module.chiAddr i.val 0x10))
    (hc : commitsAtOnce a) :
    exec (.chiCplRead a i) s
      = s.to ((s.m.ok.cplPop i.val).ok (((s.m.chi i.val).fifo.head?.map Module.cplWord).getD 0)) := by
  rw [exec_chiCplRead i hadm.1, Module.pairFault_of_unpaired _ _ hc.2, Module.cplRead_committed hc hadm.2]

theorem exec_watchdogKick {s : State} {a : Access} {i : Fin 16} (v : Word)
    (hadm : s.admitsWrite a (Module.chiAddr i.val 0x1C)) :
    exec (.watchdogKick a i v) s
      = s.to (s.m.ok.when (bits v.toNat 15 0 == 0x4B1C && s.m.rd F.CHI_STATE_STATE i.val != 1 && ! s.m.chiQuiesced i.val)
        (fun m => m.setChi i.val { m.chi i.val with leftUs := m.wdtUs i.val })) :=
  State.runBy_admittedWrite _ hadm

/-- Settles O33: a kick by its three conditions, an expiry by the turn that each channel has, and a read of CHI_CPL by the
completion at the front of the FIFO. -/
theorem commandWatchdogAndCompletions : Obligations.CommandWatchdogAndCompletions := by
  unfold Obligations.CommandWatchdogAndCompletions
  refine ⟨?kick, ?expiry, ?oldest, ?empty, fun s i => rfl, fun s a i hg => exec_chiCplRead i hg⟩
  case kick =>
    intro s a i v hadm hkey hhold hquiet
    rw [exec_watchdogKick v hadm, bits, Nat.pow_zero, Nat.div_one, hkey, bne_iff_ne.2 hhold, hquiet]
    rfl
  case expiry =>
    rintro s i ⟨hquiet, hst, hdrives⟩ ⟨hleft, hrun⟩
    obtain ⟨hstate, htime, hirq, hturns, hmem⟩ := Module.chiExpire_spec hquiet hst hdrives hleft hrun
    exact ⟨s.m.chiExpire i.val, rfl, hstate, htime, hirq, fun n hn => (hturns n (List.mem_range.1 hn)).1,
      fun n hn => (hturns n (List.mem_range.1 hn)).2, hmem⟩
  case oldest =>
    intro s a i e r hadm hc hfifo
    obtain ⟨hchan, hdetail, hsweep⟩ := s.m.ok.rd_cplShown i.val e r
    refine ⟨(s.m.ok.cplShown i.val e r).ok (Module.cplWord e), ?_, rfl, s.m.ok.chi_cplShown i.val e r, hchan, hdetail, hsweep,
      s.m.ok.regsBut_cplShown i.val e r, rfl⟩
    rw [exec_chiCplRead_committed hadm hc, Module.cplPop_cons (m := s.m.ok) hfifo, hfifo]
    rfl
  case empty =>
    intro s a i hadm hc hfifo
    rw [exec_chiCplRead_committed hadm hc, Module.cplPop_nil (m := s.m.ok) hfifo, hfifo]
    rfl

end Sys2Proof.Machine
end

section
/-!
SUPPORT. The execution of a queued command (R279, R280, R282, R286).
-/
namespace Sys2Proof.Machine
namespace Module

/-! ### A command leaves the queue -/

/-- CHIi without its oldest command, `r` being the rest; HOLD ends (R286). -/
def queueTaken (m : Module) (i : Nat) (r : List ChiCmd) : Module :=
  (m.setChi i { m.chi i with queue := r, served := (m.chi i).served + 1 }).when (m.rd F.CHI_STATE_STATE i == 1) (·.chiActive i)

/-- From `m` to `t` the queue and the completions of CHIi stand. -/
def KeepsLists (i : Nat) (m t : Module) : Prop := (t.chi i).queue = (m.chi i).queue ∧ (t.chi i).fifo = (m.chi i).fifo

theorem keepsLists_channelsOnly {i : Nat} {m t : Module} (h : ChannelsOnly m t) : KeepsLists i m t := by
  rw [KeepsLists, chi_of_channelsOnly h]
  exact ⟨rfl, rfl⟩

theorem keepsLists_setChi (i : Nat) (m : Module) {x : Chi} (hqueue : x.queue = (m.chi i).queue)
    (hfifo : x.fifo = (m.chi i).fifo) : KeepsLists i m (m.setChi i x) := by
  rw [KeepsLists, chi_setChi, if_pos rfl]
  exact ⟨hqueue, hfifo⟩

theorem keepsLists_when {i : Nat} {m t : Module} {c : Bool} {f : Module → Module} (h : KeepsLists i m t)
    (hf : KeepsLists i t (f t)) : KeepsLists i m (t.when c f) :=
  when_keeps (P := KeepsLists i m) h ⟨hf.1.trans h.1, hf.2.trans h.2⟩

theorem queueTaken_lists (m : Module) (i : Nat) (r : List ChiCmd) :
    ((m.queueTaken i r).chi i).queue = r ∧ ((m.queueTaken i r).chi i).fifo = (m.chi i).fifo := by
  unfold queueTaken
  have hset := chi_setChi m i i { m.chi i with queue := r, served := (m.chi i).served + 1 }
  rw [if_pos rfl] at hset
  have h : KeepsLists i _ (queueTaken m i r) := keepsLists_when ⟨rfl, rfl⟩ (keepsLists_setChi i _ rfl rfl)
  rw [KeepsLists, hset] at h
  exact h

/-- Only registers and CHIi change. -/
theorem queueTaken_frame (m : Module) (i : Nat) (r : List ChiCmd) :
    ∃ v x, m.queueTaken i r = { m with regs := v, chc := { m.chc with insts := x } } := by
  unfold queueTaken
  exact when_keeps (P := fun t : Module => ∃ v x, t = { m with regs := v, chc := { m.chc with insts := x } })
    ⟨_, _, rfl⟩ ⟨_, _, rfl⟩

/-- Of the registers CHI_STATE of CHIi alone. -/
theorem regsBut_queueTaken (m : Module) (i : Nat) (r : List ChiCmd) :
    regsBut [F.CHI_STATE_STATE.key i 0 0] m (m.queueTaken i r) :=
  regsBut_when (regsBut_set rfl (regsBut_refl _ m)) (regsBut_set rfl (regsBut_wr 0 (List.mem_cons_self ..) (regsBut_refl _ m)))

/-- No field below the pages of CHI is in CHI_STATE. -/
theorem rd_queueTaken (m : Module) (i : Nat) (r : List ChiCmd) {f : Fam} (hf : f.base < 0x40060000 ∧ f.lo < 64) :
    (m.queueTaken i r).rd f = m.rd f := by
  refine m.regsBut_queueTaken i r f 0 0 0 fun hmem => ?_
  simp only [List.mem_singleton, Fam.key, Fam.addr, F.CHI_STATE_STATE, fam] at hmem
  omega

theorem drives_queueTaken (m : Module) (i : Nat) (r : List ChiCmd) : (m.queueTaken i r).drives = m.drives := by
  rw [drives, flag_eq, m.rd_queueTaken i r (f := F.DPX_STATE_DRIVE) (by decide)]
  rfl

/-- The checks of R279 do not read CHIi. -/
theorem cmdFails_queueTaken (m : Module) (i : Nat) (c : ChiCmd) (r : List ChiCmd) :
    (m.queueTaken i r).cmdFails i c = m.cmdFails i c := by
  have hvaux := m.rd_queueTaken i r (f := F.HST_SUP_STAT_VAUX_STATE) (by decide)
  have hcal := m.rd_queueTaken i r (f := F.CHC_STAT_CAL_STOPPED) (by decide)
  obtain ⟨v, x, hframe⟩ := m.queueTaken_frame i r
  unfold cmdFails
  rw [hvaux, flag_eq, hcal, hframe]
  rfl

/-! ### The effect and the completion -/

theorem channelOnly_clearFault (m : Module) (n : Nat) : ChannelOnly n m (m.clearFault n) := by
  unfold clearFault
  exact channelOnly_when (channelOnly_setChan m n _) (channelOnly_turnOn _ n 0 true false)

theorem chi_calibrateNext (m : Module) (k i : Nat) : (m.calibrateNext k).chi i = m.chi i := by
  unfold calibrateNext
  extract_lets cur m1
  split <;> rfl

/-- A command changes neither the queue of CHIi nor its completions. -/
theorem keepsLists_cmdEffect (m : Module) (i : Nat) (c : ChiCmd) : KeepsLists i m (m.cmdEffect i c) := by
  unfold cmdEffect
  split
  · exact keepsLists_channelsOnly (ownEvents_commandOn c.chan m).toChannelsOnly
  · exact keepsLists_channelsOnly (ownEvents_commandOff c.chan m).toChannelsOnly
  · exact keepsLists_channelsOnly (channelOnly_setChan m c.chan _).toChannelsOnly
  · exact keepsLists_channelsOnly (channelOnly_setChan m c.chan _).toChannelsOnly
  · exact keepsLists_channelsOnly (channelOnly_clearFault m c.chan).toChannelsOnly
  · exact keepsLists_setChi i m rfl rfl
  · rw [KeepsLists, chi_calibrateNext]
    exact keepsLists_setChi i m rfl rfl

theorem chi_chiPost (m : Module) (i : Nat) (c : ChiCmd) (st d : Nat) :
    (m.chiPost i c st d).chi i
      = { m.chi i with fifo := (m.chi i).fifo ++ [⟨c.seq, st, c.op, c.chan, d, m.rd F.CHC_SWEEP_NUM % 2 ^ 20⟩] } :=
  (chi_setChi m i i _).trans (if_pos rfl)

theorem chan_chiPost (m : Module) (i : Nat) (c : ChiCmd) (st d k : Nat) : (m.chiPost i c st d).chan k = m.chan k := rfl

theorem queue_chiPost (m : Module) (i : Nat) (c : ChiCmd) (st d : Nat) :
    ((m.chiPost i c st d).chi i).queue = (m.chi i).queue := by rw [chi_chiPost]

theorem fifo_chiPost (m : Module) (i : Nat) (c : ChiCmd) (st d : Nat) :
    ((m.chiPost i c st d).chi i).fifo
      = (m.chi i).fifo ++ [⟨c.seq, st, c.op, c.chan, d, m.rd F.CHC_SWEEP_NUM % 2 ^ 20⟩] := by rw [chi_chiPost]

/-! ### The execution -/

/-- The effect of a command that passed its checks, and its completion, which a CALIBRATE posts later (R280, R304). -/
def cmdDone (m : Module) (i : Nat) (c : ChiCmd) : Module :=
  if c.op = 7 then m.cmdEffect i c else (m.cmdEffect i c).chiPost i c 0 0

theorem cmdEffect_on {m : Module} {i : Nat} {c : ChiCmd} (h : c.op = 1) : m.cmdEffect i c = m.commandOn c.chan := by
  simp only [cmdEffect, h]

theorem cmdEffect_off {m : Module} {i : Nat} {c : ChiCmd} (h : c.op = 2) : m.cmdEffect i c = m.commandOff c.chan := by
  simp only [cmdEffect, h]

theorem cmdDone_posts {m : Module} {i : Nat} {c : ChiCmd} (h : c.op ≠ 7) :
    m.cmdDone i c = (m.cmdEffect i c).chiPost i c 0 0 := if_neg h

theorem queue_cmdDone (m : Module) (i : Nat) (c : ChiCmd) : ((m.cmdDone i c).chi i).queue = (m.chi i).queue := by
  have heffect := (m.keepsLists_cmdEffect i c).1
  unfold cmdDone
  split
  · exact heffect
  · exact (queue_chiPost _ i c 0 0).trans heffect

/-- The completion of an ON, OFF, PWM, SET_PROFILE, CLEAR_FAULT or HOLD that passed its checks (R282). -/
theorem fifo_cmdDone {m : Module} {i : Nat} {c : ChiCmd} (h : c.op ≠ 7) :
    ((m.cmdDone i c).chi i).fifo
      = (m.chi i).fifo ++ [⟨c.seq, 0, c.op, c.chan, 0, m.rd F.CHC_SWEEP_NUM % 2 ^ 20⟩] := by
  have hsweep : (m.cmdEffect i c).rd F.CHC_SWEEP_NUM = m.rd F.CHC_SWEEP_NUM :=
    keepsSweep_cmdEffect i c (keepsSweep_refl m)
  rw [cmdDone_posts h, fifo_chiPost, (m.keepsLists_cmdEffect i c).2, hsweep]

/-- A unit that drives takes the oldest command of a CHI with room for its completion, and judges it (R279, R282). -/
theorem chiExecute_eq {m : Module} {i : Nat} {c : ChiCmd} {r : List ChiCmd} (hqueue : (m.chi i).queue = c :: r)
    (hfree : m.chiFree i = true) (hdrives : m.drives = true) :
    m.chiExecute i = ((m.cmdFails i c).elim ((m.queueTaken i r).cmdDone i c)
      (fun fault => (m.queueTaken i r).chiPost i c fault.1 fault.2), true) := by
  rw [← m.drives_queueTaken i r] at hdrives
  rw [← m.cmdFails_queueTaken i c r]
  unfold chiExecute
  rw [hqueue]
  dsimp -zeta only
  rw [if_neg (by simp [hfree])]
  extract_lets x taken judged
  rw [show judged = m.queueTaken i r from rfl, if_neg (by simp [hdrives])]
  cases (m.queueTaken i r).cmdFails i c with
  | none => rfl
  | some fault => rfl

end Module

/-- Settles O34: what the command's checks answer decides between a completion with their status and the command's effect. -/
theorem sweepExecutesACommand : Obligations.SweepExecutesACommand := by
  unfold Obligations.SweepExecutesACommand
  intro m i c r _ _ hqueue hfree hdrives
  obtain ⟨hrest, hfifo⟩ := m.queueTaken_lists i r
  have hsweep := m.rd_queueTaken i r (f := F.CHC_SWEEP_NUM) (by decide)
  have hchans : (m.queueTaken i r).chc.chans = m.chc.chans := by
    obtain ⟨v, x, hframe⟩ := m.queueTaken_frame i r
    rw [hframe]
  rw [Module.chiExecute_eq hqueue hfree hdrives, ← hfifo, ← hsweep, ← hchans]
  generalize m.queueTaken i r = n at hrest
  refine ⟨rfl, ?queue, ?fails, ?off, ?on⟩
  case queue =>
    cases m.cmdFails i c with
    | none => exact (n.queue_cmdDone i c).trans hrest
    | some fault => exact (n.queue_chiPost i c fault.1 fault.2).trans hrest
  case fails =>
    intro st d hfails
    rw [hfails]
    exact ⟨rfl, n.fifo_chiPost i c st d⟩
  case off =>
    intro hop hpass
    obtain ⟨hcmd, hoff⟩ := n.chan_commandOff c.chan
    have hchan : (n.cmdDone i c).chan c.chan = (n.commandOff c.chan).chan c.chan := by
      rw [Module.cmdDone_posts (by omega), Module.chan_chiPost, Module.cmdEffect_off hop]
    have hposted := n.fifo_cmdDone (i := i) (c := c) (by omega)
    rw [hop] at hposted
    rw [hpass, Option.elim_none, hchan]
    exact ⟨hcmd, hoff, hposted⟩
  case on =>
    intro hop hpass
    have hchan : (n.cmdDone i c).chan c.chan = (n.commandOn c.chan).chan c.chan := by
      rw [Module.cmdDone_posts (by omega), Module.chan_chiPost, Module.cmdEffect_on hop]
    have hposted := n.fifo_cmdDone (i := i) (c := c) (by omega)
    rw [hop] at hposted
    rw [hpass, Option.elim_none, hchan]
    exact ⟨n.cmd_commandOn c.chan, hposted⟩

end Sys2Proof.Machine
end

section
/-!
SUPPORT. The microcode banks (R296, R297): LOAD, SWAP, and what a load reads and leaves.
-/
namespace Sys2Proof.Machine
namespace Module

/-! ### Reads by a block -/

/-- From `m` to `t` the registers from the window of CHC on read as before: FAB's stand below it (R20). -/
def AboveFab (m t : Module) : Prop := ∀ f i j k, 0x20200000 * 64 ≤ f.key i j k → t.rd f i j k = m.rd f i j k

theorem aboveFab_refl (m : Module) : AboveFab m m := fun _ _ _ _ _ => rfl

theorem aboveFab_trans {m n t : Module} (h : AboveFab m n) (h' : AboveFab n t) : AboveFab m t :=
  fun f i j k hk => (h' f i j k hk).trans (h f i j k hk)

/-- What is not in the registers does not count. -/
theorem aboveFab_set {m t : Module} (h : t.regs = m.regs) : AboveFab m t := fun _ _ _ _ _ => by rw [rd, rd, h]

theorem aboveFab_wr (m : Module) {f : Fam} (v : Nat) {i j k : Nat} (hk : f.key i j k < 0x20200000 * 64) :
    AboveFab m (m.wr f v i j k) :=
  fun g i2 j2 k2 hg => rd_wr_other m f g v i j k i2 j2 k2 (by omega)

theorem aboveFab_latch {m t : Module} {f : HstSt → HstSt} (h : AboveFab m t) : AboveFab m (t.latch f) :=
  aboveFab_trans h (aboveFab_set rfl)

theorem aboveFab_log (m : Module) (r : Rec) : AboveFab m (m.log r) := by
  intro f i j k hk
  refine (recordsOnly_logN 32 m r).regs f i j k fun hmem => ?_
  have hbelow : ∀ key ∈ logKeys, key < 0x20200000 * 64 := by decide
  have := hbelow _ hmem
  omega

theorem aboveFab_guardCount (m : Module) (c : MemSt.Check) {k : Nat} (hk : k < 7) :
    AboveFab m (if c.code = 0x0102 then m.addW F.FAB_MG_CNT_REBUILT 1 k
      else if c.code = 0x0101 then m.addS F.FAB_MG_CNT_TRANSIENT 1 k
      else if c.code = 0x0103 ∨ c.code = 0x0104 then m.addS F.FAB_MG_CNT_UNCORR 1 k else m) := by
  have hkey : ∀ f : Fam, f.base = 0x20100040 ∧ f.d1.1 = 4 ∧ f.lo < 64 → f.key k 0 0 < 0x20200000 * 64 := by
    rintro f ⟨hbase, hstride, hlo⟩
    simp only [Fam.key, Fam.addr, hbase, hstride]
    omega
  split_ifs
  · exact aboveFab_wr m _ (hkey _ (by decide))
  · exact aboveFab_wr m _ (hkey _ (by decide))
  · exact aboveFab_wr m _ (hkey _ (by decide))
  · exact aboveFab_refl m

theorem aboveFab_logChecks (m : Module) {k : Nat} (hk : k < 7) (r : Rec) (base : Nat) (cs : List MemSt.Check) :
    AboveFab m (m.logChecks k r base cs) := by
  unfold logChecks checksBy
  refine List.foldlRecOn (motive := AboveFab m) cs _ (aboveFab_refl m) fun t ht c _ => aboveFab_trans ht ?_
  dsimp only
  split
  · exact aboveFab_refl t
  · refine aboveFab_trans ?_ (aboveFab_log _ _)
    exact aboveFab_latch (aboveFab_guardCount t c hk)

theorem aboveFab_refuse (m : Module) (a : Access) (addr kind : Nat) (d : Deny) : AboveFab m (m.refuse a addr kind d) := by
  unfold refuse
  extract_lets n
  have hn : AboveFab m n := aboveFab_set rfl
  split
  · exact hn
  · split
    · exact aboveFab_trans hn (aboveFab_wr n _ (by decide))
    · exact aboveFab_trans hn (aboveFab_log n _)

theorem memOf_lt {a k : Nat} (h : memOf a = some k) : k < 7 := by
  unfold memOf at h
  split_ifs at h <;> cases h <;> decide

theorem aboveFab_memRead (m : Module) (a : Access) {k : Nat} (hk : k < 7) (addr n kind : Nat) :
    AboveFab m (m.memRead a k addr n kind).1 := by
  unfold memRead
  obtain ⟨st, cs⟩ := m.mem.checkWords [] (MemSt.touched addr n)
  dsimp -zeta only
  extract_lets m1 m2
  have h1 : AboveFab m m1 := aboveFab_set rfl
  have h2 : AboveFab m m2 := aboveFab_trans h1 (aboveFab_logChecks m1 hk _ _ _)
  split
  · exact aboveFab_trans h2 (aboveFab_set rfl)
  · exact aboveFab_trans h2 (aboveFab_set rfl)

/-- A read by a block changes no register above FAB's. -/
theorem aboveFab_busRead (m : Module) (a : Access) (addr n : Nat) (owner : Option Nat) (kind : Nat) :
    AboveFab m (m.busRead a addr n owner kind).1 := by
  unfold busRead
  split
  · exact aboveFab_refuse m a addr kind _
  · split
    · split
      · exact aboveFab_refuse m a addr kind _
      · exact aboveFab_set rfl
    · next k hk => exact aboveFab_memRead m a (memOf_lt hk) addr n kind

theorem chc_busRead (m : Module) (a : Access) (addr n : Nat) (owner : Option Nat) (kind : Nat) :
    (m.busRead a addr n owner kind).1.chc = m.chc := by
  obtain ⟨r, c, h⟩ := busRead_frame m a addr n owner kind
  exact (congrArg Module.chc h :)

/-! ### A load -/

/-- Header `h` and code `code`, judged as `st`, stand in the bank that does not run (R296). -/
def ucLoaded (m : Module) (h : List Nat) (code : List Byte) (st : Nat) : Module :=
  let b := 1 - m.rd F.CHC_STAT_BANK
  let m := (m.ucHeader b h).when (st == 0) (·.raise F.CHC_STAT_LOADED)
  { m with chc := if b = 0 then { m.chc with code0 := code } else { m.chc with code1 := code } }

/-- The load answers `st`, and is no longer pending (R296). -/
def ucAnswered (m : Module) (st : Nat) : Module :=
  let m := ((m.wr F.CHC_UC_STAT_STATUS st).lower F.CHC_UC_STAT_PEND).raise F.CHC_EVT_LOAD_DONE
  { m with chc := { m.chc with ucJob := .none } }

/-- A load ends so after its two reads, which leave CHC. -/
theorem ucLoadEnd_eq {m : Module} (hjob : m.chc.ucJob = .load) :
    ∃ t h code st, m.ucLoadEnd = (t.ucLoaded h code st).ucAnswered st ∧ AboveFab m t ∧ t.chc = m.chc := by
  unfold ucLoadEnd
  rw [if_neg (not_not_intro hjob)]
  exact ⟨_, _, _, _, rfl, aboveFab_trans (aboveFab_busRead _ _ _ _ _ _) (aboveFab_busRead _ _ _ _ _ _),
    (chc_busRead ..).trans (chc_busRead ..)⟩

theorem rd_bank_ucHeader (m : Module) (b : Nat) (h : List Nat) :
    (m.ucHeader b h).rd F.CHC_STAT_BANK = m.rd F.CHC_STAT_BANK := by
  unfold ucHeader
  split
  · rw [rd_wr_place, rd_wr_place, rd_wr_place]
    all_goals decide
  · rw [rd_wr_place, rd_wr_place, rd_wr_place]
    all_goals decide

theorem chc_ucHeader (m : Module) (b : Nat) (h : List Nat) : (m.ucHeader b h).chc = m.chc := by
  unfold ucHeader
  split <;> rfl

theorem rd_bank_ucLoaded (m : Module) (h : List Nat) (code : List Byte) (st : Nat) :
    (m.ucLoaded h code st).rd F.CHC_STAT_BANK = m.rd F.CHC_STAT_BANK := by
  have hheader := m.rd_bank_ucHeader (1 - m.rd F.CHC_STAT_BANK) h
  refine when_keeps (P := fun t : Module => t.rd F.CHC_STAT_BANK = m.rd F.CHC_STAT_BANK) hheader ?_
  rw [raise_eq, rd_wr_place, hheader]
  decide

theorem chc_ucLoaded (m : Module) (h : List Nat) (code : List Byte) (st : Nat) :
    (m.ucLoaded h code st).chc
      = if 1 - m.rd F.CHC_STAT_BANK = 0 then { m.chc with code0 := code } else { m.chc with code1 := code } := by
  have hheader := m.chc_ucHeader (1 - m.rd F.CHC_STAT_BANK) h
  have hjudged := when_keeps (P := fun t : Module => t.chc = m.chc) (c := st == 0) (f := (·.raise F.CHC_STAT_LOADED)) hheader
    hheader
  exact congrArg (fun x : ChcSt =>
    if 1 - m.rd F.CHC_STAT_BANK = 0 then { x with code0 := code } else { x with code1 := code }) hjudged

theorem rd_ucAnswered (m : Module) (st : Nat) :
    (m.ucAnswered st).rd F.CHC_UC_STAT_PEND = 0 ∧ (m.ucAnswered st).rd F.CHC_EVT_LOAD_DONE = 1
      ∧ (m.ucAnswered st).rd F.CHC_STAT_BANK = m.rd F.CHC_STAT_BANK := by
  have hregs : ∀ f : Fam, (m.ucAnswered st).rd f
      = (((m.wr F.CHC_UC_STAT_STATUS st).wr F.CHC_UC_STAT_PEND 0).wr F.CHC_EVT_LOAD_DONE 1).rd f := fun _ => rfl
  refine ⟨?_, ?_, ?_⟩
  all_goals rw [hregs]
  · rw [rd_wr_place, rd_wr_same]
    · rfl
    · decide
  · rw [rd_wr_same]
    rfl
  · rw [rd_wr_place, rd_wr_place, rd_wr_place]
    all_goals decide

/-- What LOAD_DONE of a load does (R296): the running bank and its code stay. -/
theorem ucLoadEnd_spec {m : Module} (hjob : m.chc.ucJob = .load) :
    m.ucLoadEnd.rd F.CHC_UC_STAT_PEND = 0 ∧ m.ucLoadEnd.rd F.CHC_EVT_LOAD_DONE = 1 ∧ m.ucLoadEnd.chc.ucJob = .none
      ∧ m.ucLoadEnd.rd F.CHC_STAT_BANK = m.rd F.CHC_STAT_BANK
      ∧ m.ucLoadEnd.chc.chans = m.chc.chans ∧ m.ucLoadEnd.chc.insts = m.chc.insts
      ∧ (if m.rd F.CHC_STAT_BANK = 0 then m.ucLoadEnd.chc.code0 = m.chc.code0
        else m.ucLoadEnd.chc.code1 = m.chc.code1) := by
  obtain ⟨t, h, code, st, heq, habove, hchc⟩ := ucLoadEnd_eq hjob
  have hbank : t.rd F.CHC_STAT_BANK = m.rd F.CHC_STAT_BANK := habove _ 0 0 0 (by decide)
  have hlt : m.rd F.CHC_STAT_BANK < 2 := m.rd_lt F.CHC_STAT_BANK 0 0 0
  obtain ⟨hpend, hdone, hkept⟩ := (t.ucLoaded h code st).rd_ucAnswered st
  have hend : ((t.ucLoaded h code st).ucAnswered st).chc = { (t.ucLoaded h code st).chc with ucJob := .none } := rfl
  rw [heq, hend, chc_ucLoaded, hbank, hchc]
  refine ⟨hpend, hdone, rfl, hkept.trans ((t.rd_bank_ucLoaded h code st).trans hbank), ?_⟩
  by_cases hzero : m.rd F.CHC_STAT_BANK = 0
  · rw [if_neg (by omega), if_pos hzero]
    exact ⟨rfl, rfl, rfl⟩
  · rw [if_pos (by omega), if_neg hzero]
    exact ⟨rfl, rfl, rfl⟩

/-! ### Requests -/

/-- A load is pending, and what stood in the other bank no longer counts (R296). -/
def loadBegun (m : Module) : Module :=
  { (m.lower F.CHC_STAT_LOADED).raise F.CHC_UC_STAT_PEND with chc := { m.chc with ucJob := .load } }

/-- A LOAD alone, with the key and none pending (R296). -/
theorem ucControl_load {m : Module} (h : m.rd F.CHC_UC_STAT_PEND = 0) : m.ucControl true false 0x6D31 = m.loadBegun := by
  simp [ucControl, loadBegun, flag_eq, h, raise_eq, lower_eq]

theorem rd_loadBegun (m : Module) :
    m.loadBegun.flag F.CHC_STAT_LOADED = false ∧ m.loadBegun.rd F.CHC_UC_STAT_PEND = 1
      ∧ regsBut [F.CHC_STAT_LOADED.key 0 0 0, F.CHC_UC_STAT_PEND.key 0 0 0] m m.loadBegun := by
  have hregs : m.loadBegun.regs = ((m.wr F.CHC_STAT_LOADED 0).wr F.CHC_UC_STAT_PEND 1).regs := rfl
  have hrd : ∀ f : Fam, m.loadBegun.rd f = ((m.wr F.CHC_STAT_LOADED 0).wr F.CHC_UC_STAT_PEND 1).rd f := fun _ => rfl
  refine ⟨?_, ?_, regsBut_set hregs (regsBut_wr 1 (by decide) (regsBut_wr 0 (by decide) (regsBut_refl _ m)))⟩
  · rw [flag_eq, hrd, rd_wr_place, rd_wr_same]
    · rfl
    · decide
  · rw [hrd, rd_wr_same]
    rfl

/-- A SWAP alone, with the key and none pending (R297). -/
theorem ucControl_swap {m : Module} (h : m.rd F.CHC_UC_STAT_PEND = 0) :
    m.ucControl false true 0x6D31
      = if m.flag F.CHC_STAT_LOADED then { m.wr F.CHC_UC_STAT_PEND 1 with chc := { m.chc with ucJob := .swap } }
        else m.wr F.CHC_UC_STAT_STATUS 0x10 := by
  have hpend : m.flag F.CHC_UC_STAT_PEND = false := by rw [flag_eq, h]; rfl
  cases hloaded : m.flag F.CHC_STAT_LOADED <;> simp [ucControl, hpend, hloaded, raise_eq]

end Module

/-- A write of CHC_UC_CTRL by the secure world, as LOAD and SWAP write it (R306). -/
theorem State.runBy_ucControl {s : State} {a : Access} (v : Word) (hadm : s.admitsWrite a 0x20200030)
    (hworld : a.world = true) :
    s.runBy a 1 (fun a m => m.accessIf a 0x20200030 a.world (fun m =>
      m.ucControl (bit v.toNat 0) (bit v.toNat 1) (bits v.toNat 31 16)))
      = s.to (s.m.ok.ucControl (bit v.toNat 0) (bit v.toNat 1) (bits v.toNat 31 16)) :=
  (State.runBy_admittedWrite (fun (a : Access) (m : Module) => if a.world then
    m.ucControl (bit v.toNat 0) (bit v.toNat 1) (bits v.toNat 31 16)
    else m.refuse a 0x20200030 1 (Module.denyWriter 0x20200030)) hadm).trans (congrArg s.to (if_pos hworld))

end Sys2Proof.Machine
end

section
/-!
SUPPORT. The background calibration (R299–R302, R304): the end of a phase, and what its completions leave.
-/
namespace Sys2Proof.Machine

/-- A 16-bit field read as a signed number and stored again is what it was. -/
theorem unsigned_signed {v : Nat} (h : v < 2 ^ 16) : unsigned 16 (signed 16 v) % 2 ^ 16 = v := by
  unfold signed unsigned
  split <;> omega

namespace Module

/-! ### What follows a correction -/

/-- From `m` to `t` the registers of CHC below those of its channels read as before, but for the ADC under calibration; the
channels stand, and no shadow phase begins. -/
structure CalRound (m t : Module) : Prop where
  regs : ∀ f i j k, f.key i j k < 0x20201000 * 64 → f.key i j k ≠ F.CHC_CAL_STAT_CAL_ADC.key 0 0 0 →
    t.rd f i j k = m.rd f i j k
  chans : t.chc.chans = m.chc.chans
  shadow : m.chc.calShadow = false → t.chc.calShadow = false

theorem calRound_refl (m : Module) : CalRound m m := ⟨fun _ _ _ _ _ _ => rfl, rfl, id⟩

theorem calRound_trans {m n t : Module} (h : CalRound m n) (h' : CalRound n t) : CalRound m t :=
  ⟨fun f i j k hk hadc => (h'.regs f i j k hk hadc).trans (h.regs f i j k hk hadc), h'.chans.trans h.chans,
    fun hm => h'.shadow (h.shadow hm)⟩

theorem calRound_wr {m n : Module} {f : Fam} {v i j k : Nat} (hf : 0x20201000 ≤ f.base) (h : CalRound m n) :
    CalRound m (n.wr f v i j k) := by
  refine calRound_trans h ⟨fun g i2 j2 k2 hg _ => rd_wr_other n f g v i j k i2 j2 k2 fun e => ?_, rfl, id⟩
  simp only [Fam.key, Fam.addr] at e hg
  omega

theorem calRound_when {m n : Module} {c : Bool} {f : Module → Module} (h : CalRound m n) (hf : CalRound m (f n)) :
    CalRound m (n.when c f) := when_keeps (P := CalRound m) h hf

theorem calRound_setChi {m n : Module} (i : Nat) (x : Chi) (h : CalRound m n) : CalRound m (n.setChi i x) :=
  calRound_trans h ⟨fun _ _ _ _ _ _ => rfl, rfl, id⟩

theorem calRound_setSlot {m n : Module} (i : Nat) (f : Slot → Slot) (h : CalRound m n) : CalRound m (n.setSlot i f) :=
  calRound_trans h ⟨fun _ _ _ _ _ _ => rfl, rfl, id⟩

theorem calRound_mbx {m n : Module} (x : MbxSt) (h : CalRound m n) : CalRound m { n with mbx := x } :=
  calRound_trans h ⟨fun _ _ _ _ _ _ => rfl, rfl, id⟩

theorem calRound_chiPostAt {m n : Module} (i : Nat) (c : ChiCmd) (st d sweep : Nat) (h : CalRound m n) :
    CalRound m (n.chiPostAt i c st d sweep) :=
  calRound_wr (by decide) (calRound_setChi i _ h)

theorem calRound_quiesceDone {m n : Module} (i : Nat) (h : CalRound m n) : CalRound m (n.quiesceDone i) := by
  unfold quiesceDone
  extract_lets p m1
  split
  · have h1 : CalRound m m1 := calRound_wr (by decide) (calRound_wr (by decide) h)
    exact calRound_when h1 (calRound_wr (by decide) (calRound_wr (by decide) (calRound_wr (by decide) h1)))
  · exact h

theorem calRound_calComplete {m n : Module} (k : Nat) (all : Bool) (st d : Nat) (h : CalRound m n) :
    CalRound m (n.calComplete k all st d) := by
  refine forEach_keeps (P := CalRound m) _ _ (fun i t ht => ?_) n h
  extract_lets x mine m1
  have h1 : CalRound m m1 := calRound_setChi i _ ht
  exact calRound_quiesceDone i
    (List.foldlRecOn (motive := CalRound m) mine _ h1 fun u hu c _ => calRound_chiPostAt i c.1 st d c.2 hu)

theorem calRound_calibrateNext {m n : Module} (k : Nat) (h : CalRound m n) : CalRound m (n.calibrateNext k) := by
  unfold calibrateNext
  extract_lets cur m1
  split
  · exact h
  · exact calRound_trans h
      ⟨fun f i j k2 _ hk => rd_wr_other n F.CHC_CAL_STAT_CAL_ADC f k 0 0 0 i j k2 hk, rfl, fun _ => rfl⟩

theorem calRound_opEnded {m n : Module} (l st r0 r1 : Nat) (h : CalRound m n) : CalRound m (n.opEnded l st r0 r1) := by
  unfold opEnded
  split
  · exact calRound_setSlot _ _ h
  · exact h

theorem calRound_opCommits {m n : Module} (l : Nat) (h : CalRound m n) : CalRound m (n.opCommits l) := by
  unfold opCommits
  split
  · exact calRound_setSlot _ _ h
  · exact h

theorem calRound_calOperation {m n : Module} (k : Nat) (h : CalRound m n) : CalRound m (n.calOperation k) := by
  unfold calOperation
  split
  · split
    · exact h
    · extract_lets mbx m1
      have h1 : CalRound m m1 := calRound_opCommits 3 (calRound_mbx _ h)
      split
      · exact calRound_opEnded 3 0 _ 0 h1
      · split
        · exact h1
        · exact calRound_calibrateNext _ h1
  · exact h

theorem calRound_calHalted {m n : Module} (k : Nat) (h : CalRound m n) : CalRound m (n.calHalted k) := by
  unfold calHalted
  split
  · split
    · exact h
    · exact calRound_opEnded 3 _ _ 0 (calRound_mbx _ h)
  · exact h

/-- The corrections of an ADC stand. -/
theorem rd_correction_of_calRound {m t : Module} (h : CalRound m t) {f : Fam}
    (hf : f.base = 0x20200060 ∧ f.d1.1 = 4 ∧ f.lo < 64) {k : Nat} (hk : k < 8) : t.rd f k = m.rd f k := by
  obtain ⟨hbase, hstride, hlo⟩ := hf
  refine h.regs f k 0 0 ?_ fun e => ?_
  · simp only [Fam.key, Fam.addr, hbase, hstride]
    omega
  · simp only [Fam.key, Fam.addr, hbase, hstride, F.CHC_CAL_STAT_CAL_ADC, fam] at e
    omega

/-! ### The end of the shadow phase -/

/-- The ADC under calibration. -/
abbrev calAdc (m : Module) : Nat := m.rd F.CHC_CAL_STAT_CAL_ADC

/-- The correction of gain that the end of a shadow phase of span `span` fits (R300; log entry 25). -/
def gainFitted (m : Module) (gain : Int) (span : Nat) : Int :=
  if 4095 ≤ 4 * span then gain else signed 16 (m.rd F.CHC_CAL_CORR_GAIN m.calAdc)

/-- The corrections of the ADC under calibration are stored, and the next ADC takes its turn (R299–R301). -/
def calCorrected (m : Module) (gain offset : Int) : Module :=
  let k := m.calAdc
  let m := (m.wr F.CHC_CAL_CORR_GAIN (unsigned 16 gain) k).wr F.CHC_CAL_CORR_OFFSET (unsigned 16 offset) k
  let m := m.when (k == 7) (·.addW F.CHC_CAL_STAT_CYCLES 1)
  let m := m.wr F.CHC_CAL_STAT_CAL_ADC (m.chc.calNext.getD ((k + 1) % 8))
  { m with chc := { m.chc with calShadow := false, calNext := none } }

/-- A fault of the ADC under calibration stops the calibration (R302). -/
def calFaulted (m : Module) : Module :=
  let k := m.calAdc
  let m := (m.setMap F.CHC_CAL_STAT_FAULT k).raise F.CHC_EVT_CAL_FAULT
  let m := ((m.raise F.CHC_STAT_CAL_SPARE).raise F.CHC_STAT_CAL_STOPPED).wr F.CHC_STAT_SPARE_FOR k
  let m := m.wr F.CHC_CAL_STAT_CAL_ADC 0xF
  { m with chc := { m.chc with calShadow := false, calNext := none } }

section
variable {m : Module} {gain offset : Int} {span : Nat}

theorem calPhaseEnd_primary (hrun : m.calAdc < 8 ∧ m.flag F.CHC_STAT_CAL_STOPPED = false)
    (hshadow : m.chc.calShadow = false) : m.calPhaseEnd gain offset span = { m with chc := { m.chc with calShadow := true } } := by
  obtain ⟨hadc, hstop⟩ := hrun
  unfold calPhaseEnd
  extract_lets k
  rw [if_neg (by simp [k, hstop]; omega), if_pos (by rw [hshadow]; rfl)]

/-- Corrections within the limits of R302 are stored. -/
theorem calPhaseEnd_near (hrun : m.calAdc < 8 ∧ m.flag F.CHC_STAT_CAL_STOPPED = false) (hshadow : m.chc.calShadow = true)
    (hgain : (m.gainFitted gain span - signed 16 (m.rd F.CHC_CAL_CORR_GAIN m.calAdc)).natAbs ≤ 5242)
    (hoffset : (offset - signed 16 (m.rd F.CHC_CAL_CORR_OFFSET m.calAdc)).natAbs ≤ 64) :
    m.calPhaseEnd gain offset span
      = ((m.calCorrected (m.gainFitted gain span) offset).calComplete m.calAdc false 0 0).calOperation m.calAdc := by
  obtain ⟨hadc, hstop⟩ := hrun
  unfold calPhaseEnd
  extract_lets k chc g0 o0 g far
  have hg : ¬ 5242 < (g - g0).natAbs := not_lt.2 hgain
  have ho : ¬ 64 < (offset - o0).natAbs := not_lt.2 hoffset
  rw [if_neg (by simp [k, hstop]; omega), if_neg (by rw [hshadow]; decide), if_neg (by simp [far, hg, ho])]
  rfl

/-- A correction of offset outside them is a fault. -/
theorem calPhaseEnd_far (hrun : m.calAdc < 8 ∧ m.flag F.CHC_STAT_CAL_STOPPED = false) (hshadow : m.chc.calShadow = true)
    (hoffset : 64 < (offset - signed 16 (m.rd F.CHC_CAL_CORR_OFFSET m.calAdc)).natAbs) :
    m.calPhaseEnd gain offset span
      = ((m.calFaulted.calComplete m.calAdc false 0 0).calComplete m.calAdc true 0x0F 9).calHalted m.calAdc := by
  obtain ⟨hadc, hstop⟩ := hrun
  unfold calPhaseEnd
  extract_lets k chc g0 o0 g far
  have ho : 64 < (offset - o0).natAbs := hoffset
  rw [if_neg (by simp [k, hstop]; omega), if_neg (by rw [hshadow]; decide), if_pos (by simp [far, ho])]
  rfl

/-- Where the spans suffice for no gain, or the gain fitted is near, the gain stored is within R302. -/
theorem gainFitted_near
    (h : 4 * span < 4095 ∨ (gain - signed 16 (m.rd F.CHC_CAL_CORR_GAIN m.calAdc)).natAbs ≤ 5242) :
    (m.gainFitted gain span - signed 16 (m.rd F.CHC_CAL_CORR_GAIN m.calAdc)).natAbs ≤ 5242 := by
  unfold gainFitted
  split <;> omega

theorem unsigned_gainFitted :
    unsigned 16 (m.gainFitted gain span) % 2 ^ 16
      = if 4095 ≤ 4 * span then unsigned 16 gain % 2 ^ 16 else m.rd F.CHC_CAL_CORR_GAIN m.calAdc := by
  unfold gainFitted
  split
  · rfl
  · exact unsigned_signed (m.rd_lt F.CHC_CAL_CORR_GAIN m.calAdc 0 0)

end

/-- A correction stands above the registers of the calibration's state. -/
theorem rd_correction (m : Module) {f g : Fam} (v k : Nat) (hf : f.key 0 0 0 < 0x20200060 * 64) (hg : 0x20200060 ≤ g.base) :
    (m.wr f v).rd g k = m.rd g k := by
  refine rd_wr_other m f g v 0 0 0 k 0 0 fun e => ?_
  simp only [Fam.key, Fam.addr] at e hf
  omega

theorem rd_calCorrected_correction (m : Module) (gain offset : Int) {g : Fam} (hg : 0x20200060 ≤ g.base) (k : Nat) :
    (m.calCorrected gain offset).rd g k = ((m.wr F.CHC_CAL_CORR_GAIN (unsigned 16 gain) m.calAdc).wr
      F.CHC_CAL_CORR_OFFSET (unsigned 16 offset) m.calAdc).rd g k := by
  unfold calCorrected
  extract_lets k0 m1 m2 m3
  have h2 : m2.rd g k = m1.rd g k :=
    when_keeps (P := fun t : Module => t.rd g k = m1.rd g k) rfl (rd_correction m1 _ k (by decide) hg)
  exact (rd_correction m2 _ k (by decide) hg).trans h2

theorem rd_calCorrected (m : Module) (gain offset : Int) :
    (m.calCorrected gain offset).rd F.CHC_CAL_CORR_GAIN m.calAdc = unsigned 16 gain % 2 ^ 16
      ∧ (m.calCorrected gain offset).rd F.CHC_CAL_CORR_OFFSET m.calAdc = unsigned 16 offset % 2 ^ 16 := by
  rw [rd_calCorrected_correction _ _ _ (by decide), rd_calCorrected_correction _ _ _ (by decide)]
  refine ⟨?_, rd_wr_same _ _ _ _ 0 0⟩
  rw [rd_wr_place, rd_wr_same]
  · rfl
  · decide

/-- The faults stand below the corrections. -/
theorem rd_fault_wr (m : Module) {f : Fam} (v k : Nat) (hf : 0x20200060 ≤ f.base) :
    (m.wr f v k).rd F.CHC_CAL_STAT_FAULT = m.rd F.CHC_CAL_STAT_FAULT := by
  refine rd_wr_other m f F.CHC_CAL_STAT_FAULT v k 0 0 0 0 0 fun e => ?_
  simp only [Fam.key, Fam.addr, F.CHC_CAL_STAT_FAULT, fam] at e
  omega

theorem rd_fault_calCorrected (m : Module) (gain offset : Int) :
    (m.calCorrected gain offset).rd F.CHC_CAL_STAT_FAULT = m.rd F.CHC_CAL_STAT_FAULT := by
  unfold calCorrected
  extract_lets k m1 m2 m3
  have h1 : m1.rd F.CHC_CAL_STAT_FAULT = m.rd F.CHC_CAL_STAT_FAULT :=
    (rd_fault_wr _ _ k (by decide)).trans (rd_fault_wr m _ k (by decide))
  have h2 : m2.rd F.CHC_CAL_STAT_FAULT = m.rd F.CHC_CAL_STAT_FAULT :=
    when_keeps (P := fun t : Module => t.rd F.CHC_CAL_STAT_FAULT = m.rd F.CHC_CAL_STAT_FAULT) h1
      ((rd_wr_place (f := F.CHC_CAL_STAT_CYCLES) m1 _ 0 (by decide)).trans h1)
  have h3 : m3.rd F.CHC_CAL_STAT_FAULT = m2.rd F.CHC_CAL_STAT_FAULT := rd_wr_place m2 _ 0 (by decide)
  exact (h3.trans h2 :)

theorem chc_calCorrected (m : Module) (gain offset : Int) :
    (m.calCorrected gain offset).chc = { m.chc with calShadow := false, calNext := none } := by
  have hwhen : ∀ (t : Module) (c : Bool), (t.when c (·.addW F.CHC_CAL_STAT_CYCLES 1)).chc = t.chc :=
    fun t c => when_keeps (P := fun u : Module => u.chc = t.chc) rfl rfl
  exact congrArg (fun x : ChcSt => { x with calShadow := false, calNext := none }) (hwhen _ _)

/-- The registers that a fault of calibration writes (R302, R306). -/
def calFaultKeys : List Nat :=
  [F.CHC_CAL_STAT_FAULT.key 0 0 0, F.CHC_EVT_CAL_FAULT.key 0 0 0, F.CHC_STAT_CAL_SPARE.key 0 0 0,
    F.CHC_STAT_CAL_STOPPED.key 0 0 0, F.CHC_STAT_SPARE_FOR.key 0 0 0, F.CHC_CAL_STAT_CAL_ADC.key 0 0 0]

theorem regsBut_calFaulted (m : Module) : regsBut calFaultKeys m m.calFaulted := by
  unfold calFaulted
  extract_lets k m1 m2 m3
  have h1 : regsBut calFaultKeys m m1 := regsBut_wr 1 (by decide) (regsBut_setMap _ _ (by decide) (regsBut_refl _ m))
  have h2 : regsBut calFaultKeys m m2 :=
    regsBut_wr k (by decide) (regsBut_wr 1 (by decide) (regsBut_wr 1 (by decide) h1))
  have h3 : regsBut calFaultKeys m m3 := regsBut_wr 0xF (by decide) h2
  exact regsBut_set (n := m3) rfl h3

/-- A fault leaves the corrections. -/
theorem rd_gain_calFaulted (m : Module) (k : Nat) : m.calFaulted.rd F.CHC_CAL_CORR_GAIN k = m.rd F.CHC_CAL_CORR_GAIN k := by
  refine m.regsBut_calFaulted F.CHC_CAL_CORR_GAIN k 0 0 fun hmem => ?_
  have hbelow : ∀ key ∈ calFaultKeys, key < 0x20200060 * 64 := by decide
  have := hbelow _ hmem
  simp only [Fam.key, Fam.addr, F.CHC_CAL_CORR_GAIN, fam] at this
  omega

theorem rd_calFaulted (m : Module) (hadc : m.calAdc < 8) :
    bit (m.calFaulted.rd F.CHC_CAL_STAT_FAULT) m.calAdc = true ∧ m.calFaulted.rd F.CHC_STAT_CAL_STOPPED = 1
      ∧ m.calFaulted.rd F.CHC_EVT_CAL_FAULT = 1 := by
  have hregs : ∀ f : Fam, m.calFaulted.rd f = ((((((m.setMap F.CHC_CAL_STAT_FAULT m.calAdc).wr F.CHC_EVT_CAL_FAULT 1).wr
      F.CHC_STAT_CAL_SPARE 1).wr F.CHC_STAT_CAL_STOPPED 1).wr F.CHC_STAT_SPARE_FOR m.calAdc).wr
      F.CHC_CAL_STAT_CAL_ADC 0xF).rd f := fun _ => rfl
  refine ⟨?_, ?_, ?_⟩
  all_goals simp (disch := decide) only [hregs, rd_wr_place, rd_wr_same]
  · exact bit_rd_setMap m F.CHC_CAL_STAT_FAULT true 0 0 0 hadc
  · rfl
  · rfl

end Module

theorem exec_ucLoad {s : State} {a : Access} (v : Word) (hadm : s.admitsWrite a 0x20200030) (hworld : a.world = true) :
    exec (.ucLoad a v) s = s.to (s.m.ok.ucControl (bit v.toNat 0) (bit v.toNat 1) (bits v.toNat 31 16)) :=
  State.runBy_ucControl v hadm hworld

theorem exec_ucSwap {s : State} {a : Access} (v : Word) (hadm : s.admitsWrite a 0x20200030) (hworld : a.world = true) :
    exec (.ucSwap a v) s = s.to (s.m.ok.ucControl (bit v.toNat 0) (bit v.toNat 1) (bits v.toNat 31 16)) :=
  State.runBy_ucControl v hadm hworld

/-- Settles O35: LOAD and SWAP by what CHC_UC_CTRL is written with, LOAD_DONE by the reads that leave CHC, and the end of a phase
by where the corrections lie. -/
theorem microcodeAndCalibration : Obligations.MicrocodeAndCalibration := by
  unfold Obligations.MicrocodeAndCalibration
  refine ⟨?load, ?loadDone, ?swap, ?primary, ?near, ?far, fun s a v h => exec_ucLoad v h.1 h.2, fun s => rfl,
    fun s a v h => exec_ucSwap v h.1 h.2, fun s gain offset span => rfl⟩
  case load =>
    rintro s a v hadm hworld ⟨hkey, hload, hswap⟩ hidle
    obtain ⟨hcleared, hpending, hregs⟩ := s.m.ok.rd_loadBegun
    refine ⟨s.m.ok.loadBegun, ?_, hcleared, hpending, rfl, hregs, rfl⟩
    rw [exec_ucLoad v hadm hworld, bits_31_16, hkey, bit_eq_testBit, bit_eq_testBit, hload, hswap]
    exact congrArg s.to (Module.ucControl_load (m := s.m.ok) hidle)
  case loadDone =>
    intro s hjob
    exact ⟨s.m.ucLoadEnd, rfl, Module.ucLoadEnd_spec hjob⟩
  case swap =>
    rintro s a v hadm hworld ⟨hkey, hload, hswap⟩ hidle
    rw [exec_ucSwap v hadm hworld, bits_31_16, hkey, bit_eq_testBit, bit_eq_testBit, hload, hswap]
    exact congrArg s.to (Module.ucControl_swap (m := s.m.ok) hidle)
  case primary =>
    intro s gain offset span hrun hshadow
    exact congrArg s.to (Module.calPhaseEnd_primary hrun hshadow)
  case near =>
    intro s gain offset span hrun hshadow hgain hoffset
    obtain ⟨hstored, hoffsetStored⟩ := s.m.rd_calCorrected (s.m.gainFitted gain span) offset
    have hchc := s.m.chc_calCorrected (s.m.gainFitted gain span) offset
    have hround := Module.calRound_calOperation s.m.calAdc (Module.calRound_calComplete s.m.calAdc false 0 0
      (Module.calRound_refl (s.m.calCorrected (s.m.gainFitted gain span) offset)))
    refine ⟨_, congrArg s.to (Module.calPhaseEnd_near hrun hshadow (Module.gainFitted_near hgain) hoffset),
      ?_, ?_, ?_, ?_, ?_⟩
    · exact (Module.rd_correction_of_calRound hround (by decide) hrun.1).trans (hstored.trans Module.unsigned_gainFitted)
    · exact (Module.rd_correction_of_calRound hround (by decide) hrun.1).trans hoffsetStored
    · exact (hround.regs F.CHC_CAL_STAT_FAULT 0 0 0 (by decide) (by decide)).trans (s.m.rd_fault_calCorrected _ _)
    · exact hround.shadow (by rw [hchc])
    · exact hround.chans.trans (by rw [hchc])
  case far =>
    intro s gain offset span hrun hshadow hoffset
    have hround := Module.calRound_calHalted s.m.calAdc (Module.calRound_calComplete s.m.calAdc true 0x0F 9
      (Module.calRound_calComplete s.m.calAdc false 0 0 (Module.calRound_refl s.m.calFaulted)))
    obtain ⟨hfault, hstopped, hevent⟩ := s.m.rd_calFaulted hrun.1
    refine ⟨_, congrArg s.to (Module.calPhaseEnd_far hrun hshadow hoffset), ?_, ?_, ?_, ?_, hround.chans⟩
    · exact (Module.rd_correction_of_calRound hround (by decide) hrun.1).trans (s.m.rd_gain_calFaulted _)
    · rw [← bit_eq_testBit, hround.regs F.CHC_CAL_STAT_FAULT 0 0 0 (by decide) (by decide)]
      exact hfault
    · exact (hround.regs F.CHC_STAT_CAL_STOPPED 0 0 0 (by decide) (by decide)).trans hstopped
    · exact (hround.regs F.CHC_EVT_CAL_FAULT 0 0 0 (by decide) (by decide)).trans hevent

end Sys2Proof.Machine
end

section
/-!
SUPPORT. The universal inputs (R307–R317, R826, R827): what a sample and the latching of a configuration change.
-/
namespace Sys2Proof.Machine
namespace Module

/-! ### The registers of an input -/

/-- The registers in which an input shows what it reads: UIN_VAL, UIN_RES, UIN_EDGE and UIN_FAULT_EVT (R316). -/
abbrev shownKey (key : Nat) : Prop :=
  0x20300400 * 64 ≤ key ∧ key < 0x20300600 * 64 ∨ 0x20300700 * 64 ≤ key ∧ key < 0x20300710 * 64

/-- From `m` to `t` nothing changes but the inputs and the registers in which they show what they read. -/
structure InputsOnly (m t : Module) : Prop where
  frame : t = { m with regs := t.regs, uin := { m.uin with ins := t.uin.ins } }
  regs : ∀ f i j k, ¬ shownKey (f.key i j k) → t.rd f i j k = m.rd f i j k

theorem inputsOnly_refl (m : Module) : InputsOnly m m := ⟨rfl, fun _ _ _ _ _ => rfl⟩

theorem inputsOnly_trans {m n t : Module} (h : InputsOnly m n) (h' : InputsOnly n t) : InputsOnly m t :=
  ⟨by rw [h'.frame, h.frame], fun f i j k hk => (h'.regs f i j k hk).trans (h.regs f i j k hk)⟩

theorem inputsOnly_wr {m n : Module} {f : Fam} {v i j k : Nat} (hk : shownKey (f.key i j k)) (h : InputsOnly m n) :
    InputsOnly m (n.wr f v i j k) :=
  inputsOnly_trans h ⟨rfl, fun g i2 j2 k2 hg => rd_wr_other n f g v i j k i2 j2 k2 (fun e => hg (e ▸ hk))⟩

theorem inputsOnly_when {m n : Module} {c : Bool} {f : Module → Module} (h : InputsOnly m n) (hf : InputsOnly m (f n)) :
    InputsOnly m (n.when c f) := when_keeps (P := InputsOnly m) h hf

theorem inputsOnly_setUin {m n : Module} (k : Nat) (x : UinIn) (h : InputsOnly m n) : InputsOnly m (n.setUin k x) :=
  inputsOnly_trans h ⟨rfl, fun _ _ _ _ _ => rfl⟩

/-- A field of input `n` in UIN_VAL or UIN_RES. -/
theorem shownKey_value {f : Fam} {n : Nat}
    (hf : (f.base = 0x20300400 ∨ f.base = 0x20300500) ∧ f.d1.1 = 4 ∧ f.lo < 64) (hn : n < 64) : shownKey (f.key n 0 0) := by
  obtain ⟨hbase, hstride, hlo⟩ := hf
  simp only [shownKey, Fam.key, Fam.addr, hstride]
  omega

/-- The word of input `n` in UIN_EDGE or UIN_FAULT_EVT. -/
theorem shownKey_map {f : Fam} {n : Nat}
    (hf : (f.base = 0x20300700 ∨ f.base = 0x20300708) ∧ f.d1.1 = 4 ∧ f.lo < 64) (hn : n < 64) :
    shownKey (f.key (n / 32) 0 0) := by
  obtain ⟨hbase, hstride, hlo⟩ := hf
  simp only [shownKey, Fam.key, Fam.addr, hstride]
  omega

section
variable {m t : Module} {n : Nat} (hn : n < 64)
include hn

theorem inputsOnly_value {f : Fam} {v : Nat} (hf : (f.base = 0x20300400 ∨ f.base = 0x20300500) ∧ f.d1.1 = 4 ∧ f.lo < 64)
    (h : InputsOnly m t) : InputsOnly m (t.wr f v n) :=
  inputsOnly_wr (shownKey_value hf hn) h

theorem inputsOnly_map {f : Fam} (hf : (f.base = 0x20300700 ∨ f.base = 0x20300708) ∧ f.d1.1 = 4 ∧ f.lo < 64)
    (h : InputsOnly m t) : InputsOnly m (t.putMapBit f n) :=
  inputsOnly_wr (shownKey_map hf hn) h

/-! ### A sample -/

theorem inputsOnly_uinPublish (v : Int) (h : InputsOnly m t) : InputsOnly m (t.uinPublish n v) :=
  inputsOnly_value hn (by decide) (inputsOnly_value hn (by decide) h)

theorem inputsOnly_uinDigital (mv : Nat) (h : InputsOnly m t) : InputsOnly m (t.uinDigital n mv) := by
  unfold uinDigital
  extract_lets x th new inv
  split
  next y edge _ =>
    extract_lets m1 m2 l
    have h1 : InputsOnly m m1 := inputsOnly_setUin n _ h
    have h2 : InputsOnly m m2 := inputsOnly_when h1 (inputsOnly_map hn (by decide) h1)
    exact inputsOnly_uinPublish hn _ (inputsOnly_value hn (by decide) h2)

theorem inputsOnly_uinFilter (v : Int) (h : InputsOnly m t) : InputsOnly m (t.uinFilter n v) :=
  inputsOnly_uinPublish hn _ (inputsOnly_setUin n _ h)

theorem inputsOnly_uinOut (k : Nat) (h : InputsOnly m t) : InputsOnly m (t.uinOut n k) := by
  unfold uinOut
  extract_lets x m1
  have h1 : InputsOnly m m1 := inputsOnly_value hn (by decide) (inputsOnly_value hn (by decide) h)
  split
  · exact inputsOnly_setUin n _ (inputsOnly_value hn (by decide) h)
  · split
    · exact inputsOnly_setUin n _ h
    · exact inputsOnly_setUin n _ (inputsOnly_map hn (by decide) h1)

theorem inputsOnly_uinGood (v : Int) (h : InputsOnly m t) : InputsOnly m (t.uinGood n v) := by
  unfold uinGood
  extract_lets x m1
  have h1 : InputsOnly m m1 := inputsOnly_value hn (by decide) (inputsOnly_value hn (by decide) h)
  split
  · exact inputsOnly_uinFilter hn v (inputsOnly_setUin n _ h)
  · split
    · exact inputsOnly_setUin n _ h
    · exact inputsOnly_uinFilter hn v (inputsOnly_setUin n _ h1)

theorem inputsOnly_uinJudged (r : Except Nat Int) (h : InputsOnly m t) : InputsOnly m (t.uinJudged n r) := by
  cases r with
  | error k => exact inputsOnly_uinOut hn k h
  | ok v => exact inputsOnly_uinGood hn v h

/-! ### A configuration takes effect -/

theorem inputsOnly_uinLatch (h : InputsOnly m t) : InputsOnly m (t.uinLatch n) := by
  unfold uinLatch
  extract_lets x w k r25 b bad y judged shown fresh cleared
  have hjudged : InputsOnly m judged := inputsOnly_value hn (by decide) h
  have hshown : InputsOnly m shown := inputsOnly_when hjudged (inputsOnly_value hn (by decide) hjudged)
  have hcleared : InputsOnly m cleared := inputsOnly_value hn (by decide) (inputsOnly_value hn (by decide)
    (inputsOnly_value hn (by decide) (inputsOnly_value hn (by decide) (inputsOnly_setUin n _ hshown))))
  split
  · exact h
  · split
    · exact inputsOnly_setUin n y hshown
    · exact inputsOnly_when hcleared (inputsOnly_value hn (by decide) hcleared)

end

theorem uinIn_wrb (m : Module) (f : Fam) (b : Bool) (i j k n : Nat) : (m.wrb f b i j k).uinIn n = m.uinIn n := rfl

theorem uinIn_addW (m : Module) (f : Fam) (x i j k n : Nat) : (m.addW f x i j k).uinIn n = m.uinIn n := rfl

theorem uinIn_lower (m : Module) (f : Fam) (i j k n : Nat) : (m.lower f i j k).uinIn n = m.uinIn n := rfl

theorem uinIn_when (m : Module) (c : Bool) (f : Module → Module) {n : Nat} (h : (f m).uinIn n = m.uinIn n) :
    (m.when c f).uinIn n = m.uinIn n :=
  when_keeps (P := fun t : Module => t.uinIn n = m.uinIn n) rfl h

/-- The word stored is in force, and none waits (R316). -/
theorem uinIn_uinLatch (m : Module) (n : Nat) :
    ((m.uinLatch n).uinIn n).word = m.uinWord n ∧ ((m.uinLatch n).uinIn n).changed = false := by
  unfold uinLatch
  extract_lets x w k r25 b bad y judged shown fresh cleared
  split
  next h =>
    simp only [Bool.and_eq_true, beq_iff_eq, Bool.not_eq_true'] at h
    exact ⟨h.1.1.1.1, h.2⟩
  next h =>
    split
    · rw [uinIn_setUin, if_pos rfl]
      exact ⟨rfl, rfl⟩
    · rw [uinIn_when _ _ _ (uinIn_lower ..)]
      have hfresh : cleared.uinIn n = { y with
          y := 0, started := false, reading := false, level := false, debounce := 0, faultRun := 0, shuntOpen := false } := by
        simp only [cleared, fresh, uinIn_lower]
        exact (uinIn_setUin shown n n _).trans (if_pos rfl)
      rw [hfresh]
      exact ⟨rfl, rfl⟩

/-- The other inputs stand. -/
theorem uinIn_uinLatch_other (m : Module) {n k : Nat} (hk : k ≠ n) : (m.uinLatch n).uinIn k = m.uinIn k := by
  have hset : ∀ (t : Module) (x : UinIn), (t.setUin n x).uinIn k = t.uinIn k :=
    fun t x => (uinIn_setUin t n k x).trans (if_neg hk)
  unfold uinLatch
  extract_lets x w set r25 b bad y judged shown fresh cleared
  have hshown : shown.uinIn k = m.uinIn k :=
    (uinIn_when judged _ _ (uinIn_lower ..)).trans (uinIn_wrb m F.UIN_VAL_CFG_BAD bad n 0 0 k)
  have hcleared : cleared.uinIn k = m.uinIn k := by
    simp only [cleared, fresh, uinIn_lower, hset]
    exact hshown
  split
  · rfl
  · split
    · exact (hset shown y).trans hshown
    · exact (uinIn_when cleared _ _ (uinIn_lower ..)).trans hcleared

/-! ### A frame -/

/-- From `m` to `t` nothing changes but what the inputs hold, and registers from UIN_VAL up to UIN_STAT (R316). -/
structure FrameOnly (m t : Module) : Prop where
  frame : t = { m with regs := t.regs, uin := t.uin }
  regs : ∀ f i j k, f.key i j k < 0x20300400 * 64 ∨ 0x20300710 * 64 ≤ f.key i j k → t.rd f i j k = m.rd f i j k

theorem frameOnly_refl (m : Module) : FrameOnly m m := ⟨rfl, fun _ _ _ _ _ => rfl⟩

theorem frameOnly_trans {m n t : Module} (h : FrameOnly m n) (h' : FrameOnly n t) : FrameOnly m t :=
  ⟨by rw [h'.frame, h.frame], fun f i j k hk => (h'.regs f i j k hk).trans (h.regs f i j k hk)⟩

theorem frameOnly_of_inputsOnly {m t : Module} (h : InputsOnly m t) : FrameOnly m t := by
  refine ⟨?_, fun f i j k hk => h.regs f i j k fun hshown => ?_⟩
  · rw [h.frame]
  · simp only [shownKey] at hshown
    omega

theorem frameOnly_uin (m : Module) (x : UinSt) : FrameOnly m { m with uin := x } := ⟨rfl, fun _ _ _ _ _ => rfl⟩

/-- The configuration stored stands. -/
theorem uinWord_of_frameOnly {m t : Module} (h : FrameOnly m t) {n : Nat} (hn : n < 64) : t.uinWord n = m.uinWord n := by
  have hcfg : ∀ f : Fam, f.base = 0x20300000 ∧ f.d1.1 = 4 ∧ f.lo < 64 → t.rd f n = m.rd f n := by
    rintro f ⟨hbase, hstride, hlo⟩
    refine h.regs f n 0 0 (.inl ?_)
    simp only [Fam.key, Fam.addr, hbase, hstride]
    omega
  unfold uinWord
  rw [hcfg F.UIN_CFG_MODE (by decide), hcfg F.UIN_CFG_THRESH (by decide), hcfg F.UIN_CFG_HYST (by decide),
    hcfg F.UIN_CFG_FILT (by decide), hcfg F.UIN_CFG_DEBOUNCE (by decide), hcfg F.UIN_CFG_INVERT (by decide),
    hcfg F.UIN_CFG_NTC_SET (by decide)]

/-- The edges of a frame are counted in the modes that count them (R310). -/
def pulsed (m : Module) (u : UinSample) : Module :=
  m.when (uinMode (m.uinIn u.n.val) == 1 || uinMode (m.uinIn u.n.val) == 6) (·.addW F.UIN_PULSE_COUNT u.edges u.n.val)

theorem frameOnly_pulsed (m : Module) (u : UinSample) : FrameOnly m (m.pulsed u) := by
  refine when_keeps (P := FrameOnly m) (frameOnly_refl m)
    ⟨rfl, fun f i j k hk => rd_wr_other _ _ _ _ _ _ _ _ _ _ fun e => ?_⟩
  have hn := u.n.isLt
  simp only [Fam.key, Fam.addr, F.UIN_PULSE_COUNT, fam] at e hk
  omega

theorem inputsOnly_uinSample (m : Module) (u : UinSample) : InputsOnly (m.pulsed u) (m.uinSample u) := by
  have hn := u.n.isLt
  unfold uinSample
  extract_lets n x mode counted
  have hrefl : InputsOnly (m.pulsed u) counted := inputsOnly_refl (m.pulsed u)
  clear_value counted mode
  split
  · exact hrefl
  · split
    · exact inputsOnly_uinDigital hn _ hrefl
    · exact inputsOnly_uinFilter hn _ hrefl
    · exact inputsOnly_uinJudged hn _ (inputsOnly_value hn (by decide) hrefl)
    · exact inputsOnly_uinJudged hn _ (inputsOnly_value hn (by decide) hrefl)
    · exact inputsOnly_uinJudged hn _ hrefl
    · exact inputsOnly_uinPublish hn _ hrefl
    · exact hrefl

theorem frameOnly_uinSamples (xs : List UinSample) (m : Module) : FrameOnly m (xs.foldl uinSample m) :=
  List.foldlRecOn (motive := FrameOnly m) xs _ (frameOnly_refl m) fun t ht u _ =>
    frameOnly_trans ht (frameOnly_trans (frameOnly_pulsed t u) (frameOnly_of_inputsOnly (inputsOnly_uinSample t u)))

/-- The first `k` configurations take effect in turn (R316). -/
def latched (k : Nat) (m : Module) : Module := forEach (List.range k) (fun n m => m.uinLatch n) m

theorem latched_succ (k : Nat) (m : Module) : latched (k + 1) m = (latched k m).uinLatch k := forEach_range_succ k _ m

theorem latched_spec (m : Module) : ∀ k ≤ 64, InputsOnly m (latched k m)
    ∧ ∀ n < k, ((latched k m).uinIn n).word = m.uinWord n ∧ ((latched k m).uinIn n).changed = false := by
  intro k
  induction k with
  | zero => exact fun _ => ⟨inputsOnly_refl m, fun n hn => absurd hn (Nat.not_lt_zero n)⟩
  | succ k ih =>
    intro hk
    obtain ⟨honly, hdone⟩ := ih (by omega)
    rw [latched_succ]
    refine ⟨inputsOnly_uinLatch hk honly, fun n hn => ?_⟩
    by_cases hlast : n = k
    · rw [hlast, ← uinWord_of_frameOnly (frameOnly_of_inputsOnly honly) hk]
      exact uinIn_uinLatch _ k
    · rw [uinIn_uinLatch_other _ hlast]
      exact hdone n (by omega)

/-- The inputs at the end of a frame of samples `xs`, before their configurations take effect. -/
def sampledFrame (m : Module) (xs : List UinSample) : Module :=
  { xs.foldl uinSample m with uin := { (xs.foldl uinSample m).uin with exciteChanged := false } }

theorem frameOnly_sampledFrame (m : Module) (xs : List UinSample) : FrameOnly m (m.sampledFrame xs) :=
  frameOnly_trans (frameOnly_uinSamples xs m) (frameOnly_uin _ _)

theorem frame_addW {m t : Module} (f : Fam) (n i j k : Nat) (h : t = { m with regs := t.regs, uin := t.uin }) :
    t.addW f n i j k = { m with regs := (t.addW f n i j k).regs, uin := (t.addW f n i j k).uin } := by
  rw [h]
  rfl

theorem uinFrame_eq {m : Module} (hrun : m.running 5 = true ∧ m.sys.blkRst ≠ some 5) (xs : List UinSample) :
    m.uinFrame xs = (latched 64 (m.sampledFrame xs)).addW F.UIN_STAT_FRAME 1 := by
  unfold uinFrame
  rw [if_neg (by simp [hrun.1, hrun.2])]
  rfl

/-- R309, R316: a frame of a block that runs. -/
theorem uinFrame_spec {m : Module} (hrun : m.running 5 = true ∧ m.sys.blkRst ≠ some 5) (xs : List UinSample) :
    (m.uinFrame xs).rd F.UIN_STAT_FRAME = (m.rd F.UIN_STAT_FRAME + 1) % 2 ^ F.UIN_STAT_FRAME.width
      ∧ (∀ n < 64, ((m.uinFrame xs).uinIn n).word = m.uinWord n ∧ ((m.uinFrame xs).uinIn n).changed = false)
      ∧ m.uinFrame xs = { m with regs := (m.uinFrame xs).regs, uin := (m.uinFrame xs).uin } := by
  rw [uinFrame_eq hrun]
  have hsampled := m.frameOnly_sampledFrame xs
  obtain ⟨hlatched, hwords⟩ := (m.sampledFrame xs).latched_spec 64 (Nat.le_refl 64)
  have hboth := frameOnly_trans hsampled (frameOnly_of_inputsOnly hlatched)
  refine ⟨?_, fun n hn => ?_, ?_⟩
  · rw [addW_eq, rd_wr_same, hboth.regs F.UIN_STAT_FRAME 0 0 0 (by decide)]
  · rw [← uinWord_of_frameOnly hsampled hn, uinIn_addW]
    exact hwords n hn
  · exact frame_addW _ _ 0 0 0 hboth.frame

/-- R310: the edges that one sample delivers. -/
theorem rd_pulses_uinFrame {m : Module} (hrun : m.running 5 = true ∧ m.sys.blkRst ≠ some 5) {u : UinSample}
    (hmode : uinMode (m.uinIn u.n.val) = 1 ∨ uinMode (m.uinIn u.n.val) = 6) :
    (m.uinFrame [u]).rd F.UIN_PULSE_COUNT u.n.val
      = (m.rd F.UIN_PULSE_COUNT u.n.val + u.edges) % 2 ^ F.UIN_PULSE_COUNT.width := by
  have hn := u.n.isLt
  have haside : ¬ shownKey (F.UIN_PULSE_COUNT.key u.n.val 0 0) := by
    simp only [shownKey, Fam.key, Fam.addr, F.UIN_PULSE_COUNT, fam]
    omega
  have hframe : F.UIN_PULSE_COUNT.key u.n.val 0 0 ≠ F.UIN_STAT_FRAME.key 0 0 0 := by
    simp only [Fam.key, Fam.addr, F.UIN_PULSE_COUNT, F.UIN_STAT_FRAME, fam]
    omega
  have hcounted : m.pulsed u = m.addW F.UIN_PULSE_COUNT u.edges u.n.val := by
    rcases hmode with h | h <;> simp [pulsed, h]
  obtain ⟨hlatched, -⟩ := (m.sampledFrame [u]).latched_spec 64 (Nat.le_refl 64)
  rw [uinFrame_eq hrun, addW_eq, rd_wr_other _ _ _ _ _ _ _ _ _ _ hframe, hlatched.regs _ _ _ _ haside]
  refine ((m.inputsOnly_uinSample u).regs _ _ _ _ haside).trans ?_
  rw [hcounted, addW_eq, rd_wr_same]

end Module
end Sys2Proof.Machine
end

section
/-!
SUPPORT. The writes of a configuration, and the shunts (R313, R316, R317, R826, R827).
-/
namespace Sys2Proof.Machine

/-- A field of a word, as its register takes it. -/
theorem bits_mod (v hi lo : Nat) : bits v hi lo % 2 ^ (hi + 1 - lo) = bits v hi lo := Nat.mod_mod _ _

namespace Module

/-- The word `v` is stored as the configuration of input `n`, lowers VALID, and waits for the frame (R316). -/
def cfgStored (m : Module) (n v : Nat) : Module :=
  let t := (m.putUinWord n v).lower F.UIN_VAL_VALID n
  t.setUin n { t.uinIn n with changed := true }

theorem rd_cfgStored (m : Module) (n v : Nat) :
    (m.cfgStored n v).rd F.UIN_CFG_MODE n = bits v 2 0 ∧ (m.cfgStored n v).rd F.UIN_CFG_THRESH n = bits v 11 3
      ∧ (m.cfgStored n v).rd F.UIN_CFG_HYST n = bits v 16 12 ∧ (m.cfgStored n v).rd F.UIN_CFG_FILT n = bits v 20 17
      ∧ (m.cfgStored n v).rd F.UIN_CFG_DEBOUNCE n = bits v 27 21 ∧ (m.cfgStored n v).rd F.UIN_CFG_INVERT n = bits v 28 28
      ∧ (m.cfgStored n v).rd F.UIN_CFG_NTC_SET n = bits v 31 30 ∧ (m.cfgStored n v).rd F.UIN_VAL_VALID n = 0 := by
  have hregs : ∀ f : Fam, (m.cfgStored n v).rd f n = ((((((((m.wr F.UIN_CFG_MODE (bits v 2 0) n).wr F.UIN_CFG_THRESH
      (bits v 11 3) n).wr F.UIN_CFG_HYST (bits v 16 12) n).wr F.UIN_CFG_FILT (bits v 20 17) n).wr F.UIN_CFG_DEBOUNCE
      (bits v 27 21) n).wr F.UIN_CFG_INVERT (bits v 28 28) n).wr F.UIN_CFG_NTC_SET (bits v 31 30) n).wr
      F.UIN_VAL_VALID 0 n).rd f n := fun _ => rfl
  refine ⟨?_, ?_, ?_, ?_, ?_, ?_, ?_, ?_⟩
  all_goals simp (disch := decide) only [hregs, rd_wr_place, rd_wr_same]
  case refine_8 => rfl
  all_goals exact bits_mod v _ _

theorem uinIn_cfgStored (m : Module) (n v k : Nat) :
    (m.cfgStored n v).uinIn k = if k = n then { m.uinIn n with resv := bit v 29, changed := true } else m.uinIn k := by
  unfold cfgStored putUinWord
  rw [uinIn_setUin]
  split
  · simp only [uinIn_lower, uinIn_setUin, if_true]
    rfl
  next h =>
    simp only [uinIn_lower, uinIn_setUin, if_neg h]
    rfl

theorem cfgStored_frame (m : Module) (n v : Nat) :
    m.cfgStored n v = { m with regs := (m.cfgStored n v).regs, uin := { m.uin with ins := (m.cfgStored n v).uin.ins } } := rfl

end Module

theorem exec_uinCfgWrite {s : State} {a : Access} {n : Fin 64} (v : Word) (hadm : s.admitsWrite a (0x20300000 + 4 * n.val)) :
    exec (.uinCfgWrite a n v) s = s.to (s.m.ok.cfgStored n.val v.toNat) :=
  State.runBy_admittedWrite _ hadm

theorem exec_uinNtcWrite {s : State} {a : Access} {k : Fin 4} {isB : Bool} (v : Word)
    (hadm : s.admitsWrite a (0x20300800 + 8 * k.val + 4 * b2n isB)) :
    exec (.uinNtcWrite a k isB v) s = s.to (if isB then s.m.ok.wr F.UIN_NTC_B_KELVIN (bits v.toNat 15 0) k.val
      else s.m.ok.wr F.UIN_NTC_R25_OHM (bits v.toNat 23 0) k.val) :=
  State.runBy_admittedWrite _ hadm

/-- Settles O36: a write by the fields that it stores, a frame by its samples and then each configuration in turn, and the shunts
by their conditions. -/
theorem universalInputs : Obligations.UniversalInputs := by
  unfold Obligations.UniversalInputs
  refine ⟨?cfg, ?ntc, ?frame, ?pulses, ?shuntOpens, ?reclose, fun s xs => rfl⟩
  case cfg =>
    intro s a n v hadm
    obtain ⟨hmode, hthresh, hhyst, hfilt, hdebounce, hinvert, hset, hvalid⟩ := s.m.ok.rd_cfgStored n.val v.toNat
    refine ⟨_, exec_uinCfgWrite v hadm, ?_, hthresh, hhyst, hfilt, hdebounce, hinvert, ?_, hvalid, ?_, fun k _ hk => ?_,
      s.m.ok.cfgStored_frame n.val v.toNat⟩
    · rw [hmode, bits, Nat.pow_zero, Nat.div_one]
      rfl
    · rw [hset]
      exact Nat.mod_eq_of_lt (Nat.div_lt_of_lt_mul v.isLt)
    · rw [Module.uinIn_cfgStored, if_pos rfl, bit_eq_testBit]
      rfl
    · rw [Module.uinIn_cfgStored, if_neg hk]
      rfl
  case ntc =>
    intro s a k isB v hadm
    rw [exec_uinNtcWrite v hadm, bits, bits, Nat.pow_zero, Nat.div_one]
  case frame =>
    intro s xs hrun
    obtain ⟨hcount, hinputs, hframe⟩ := Module.uinFrame_spec hrun xs
    exact ⟨s.m.uinFrame xs, rfl, hcount, fun n hn => hinputs n (List.mem_range.1 hn), hframe⟩
  case pulses =>
    intro s u hrun hmode
    exact ⟨s.m.uinFrame [u], rfl, Module.rd_pulses_uinFrame hrun hmode⟩
  case shuntOpens =>
    intro s n hexcite hmode
    exact congrArg s.to (if_pos (by simp [hexcite, hmode]))
  case reclose =>
    intro s n hexcite
    exact congrArg s.to (if_pos hexcite)

end Sys2Proof.Machine
end

section
/-!
SUPPORT. Two states of the lock-step pairs that statements about them leave out.
-/
namespace Sys2Proof.Machine

/-! ### A deferred read whose link went down -/

/-- Pair 0 runs partition 0, and its window holds a deferred read of the peer whose link has gone DOWN since; the ring of the
error log is empty. -/
def lostReadState : State :=
  { m := { (({} : Module).wr F.LSS_PAIR_STAT_STATE 3).wr F.LSS_PART_STATE 1 with
    reads := [⟨0, 0, 0x30000000, .bridge 1⟩]
    pbr := { defers := [{ cid := 1, part := 0, addr := 0, lost := true }] } } }

/-- The window ends with equal signatures and checkpoints, and holds no store. -/
def emptyWindow : WindowEnd := { pair := 0, sigA := [], sigB := [], cpA := [], cpB := [] }

theorem lostRead_ring_before : lostReadState.m.mem.byte ringWord = 0 := rfl

set_option maxRecDepth 100000 in
/-- The ring's first record is that of PBR: the COMMIT of the read is lost (R749). -/
theorem lostRead_ring_after : (lostReadState.windowCompare emptyWindow).m.mem.byte ringWord = 0x0F := by rfl

/-- Refutes O37: where the link has gone DOWN under a deferred read of the window, its commit logs COMMIT_LOST (R749), so that
the ring of the error log in memory does not stay as it was, though the window holds no store. -/
theorem not_windowsCommitOrReplay : ¬ Obligations.WindowsCommitOrReplay := by
  unfold Obligations.WindowsCommitOrReplay
  rintro ⟨-, -, hcommits, -⟩
  obtain ⟨t, ht, -, -, -, -, -, -, -, -, hmem, -⟩ :=
    hcommits lostReadState emptyWindow 0 (by decide) (by decide) (by decide) (by decide)
  have hcommitted : lostReadState.windowCompare emptyWindow = { lostReadState with m := t } := by
    injection ht
  have hafter := lostRead_ring_after
  rw [hcommitted, hmem rfl rfl, lostRead_ring_before] at hafter
  exact absurd hafter (by decide)

/-! ### A test for the start of a partition that there is not -/

/-- Pair 0 is in TEST for the start of a partition 64, of which the block has none: LSS_PART has 16 elements. -/
def strayTestState : State := { m := { lss := { pairs := [(0, { after := .start 64 })] } } }

/-- The state of an element 64 of LSS_PART would stand where the count of the lanes that pair 0 missed stands: STOPPED replaces the
one lane missed. -/
theorem strayTest_missed : (strayTestState.m.injectionDone 0 1 false).rd F.LSS_INJ_RES_MISSED = 3 := by decide

/-- Refutes O40: the statement speaks of a failed test for the start of any partition, and a number past the 16 partitions names
a register of the test's own result, which then does not show the lanes missed. No run reaches such a state; no premise shuts it
out. -/
theorem not_pairTestsAndMigration : ¬ Obligations.PairTestsAndMigration := by
  unfold Obligations.PairTestsAndMigration
  rintro ⟨-, hfails, -⟩
  obtain ⟨t, ht, -, -, -, -, hmissed, -⟩ :=
    hfails strayTestState 0 1 false (by decide) (by decide) (by decide)
  have hdone : strayTestState.m.injectionDone 0 1 false = t := State.to_inj ht
  have hshown := strayTest_missed
  rw [hdone] at hshown
  exact absurd (hshown.symm.trans hmissed) (by decide)

end Sys2Proof.Machine
end

section
/-!
SUPPORT. The atomics of a lock-step pair, and the record of a committed write that failed (R318, R327, R336, R341).
-/
namespace Sys2Proof.Machine

theorem ofBytes_lt (l : List Byte) : ofBytes l < 256 ^ l.length := by
  induction l with
  | nil => exact Nat.one_pos
  | cons b l ih =>
    have hb : b.toNat < 256 := b.isLt
    rw [List.length_cons, Nat.pow_succ, ofBytes]
    omega

/-- A word of memory holds 32 bits (R6). -/
theorem MemSt.word_lt (s : MemSt) (a : Nat) : s.word a < 2 ^ 32 := by
  have hlt := ofBytes_lt (s.bytes a 4)
  rwa [show (s.bytes a 4).length = 4 by simp [MemSt.bytes]] at hlt

theorem length_toBytes (n v : Nat) : (toBytes n v).length = n := by
  induction n generalizing v with
  | zero => rfl
  | succ n ih => rw [toBytes, List.length_cons, ih]

namespace Module

/-! ### One atomic on a word -/

/-- A read of clean memory answers the bytes there (R368). -/
theorem memRead_clean {m : Module} (hclean : m.mem.clean) (a : Access) (k addr n kind : Nat) :
    m.memRead a k addr n kind = (m.ok, some (m.mem.bytes addr n)) := by
  simp only [memRead, MemSt.checkWords_clean hclean, logChecks_quiet, quiet_none_failed]
  rfl

/-- A write that the fabric admits to clean memory, in which no semaphore stands, stores its bytes (R367, R747). -/
theorem busWrite_clean {m : Module} {a : Access} {addr k : Nat} {data : List Byte} (hclean : m.mem.clean)
    (hsems : m.pbr.sems = []) (hmem : memOf addr = some k) (hf : m.fabricDeny a addr data.length 1 = none) :
    m.busWrite a addr data = ({ m with mem := m.mem.putBytes addr data }.ok, true) := by
  obtain ⟨ws, hput⟩ := MemSt.guardedPut_clean hclean addr data
  have hsem : m.semWrite addr data.length = m := by simp [semWrite, hsems]
  simp only [busWrite, hf, hmem, hsem, hput, logChecks_quiet, quiet_none_failed]
  rfl

/-- What the response to an atomic carries: the old word, and for an SC whether it failed (R327, R336). -/
def atomicAnswer (op : AmoOp) (old : Nat) : Nat :=
  match op with
  | .sc held => if held then 0 else 1
  | _ => old

/-- Memory after an atomic on the word at `addr`: what the operation gives, if it stores anything (R318). -/
def atomicStored (s : MemSt) (op : AmoOp) (addr : Nat) (x : BitVec 32) : MemSt :=
  ((amoResult op (BitVec.ofNat 32 (s.word addr)) x).map fun v => s.putBytes addr (toBytes 4 v.toNat)).getD s

/-- R336: an admitted atomic on a word of clean memory, in which no semaphore stands, changes that word alone. -/
theorem busAtomic_clean {m : Module} {a : Access} {addr k : Nat} (op : AmoOp) (x : BitVec 32) (hclean : m.mem.clean)
    (hsems : m.pbr.sems = []) (hmem : memOf addr = some k) (hr : m.fabricDeny a addr 4 0 = none)
    (hw : m.fabricDeny a addr 4 1 = none) :
    m.busAtomic a op addr x
      = { m with mem := atomicStored m.mem op addr x
                 resp := { status := 0, data := atomicAnswer op (m.mem.word addr) } } := by
  have hold : (BitVec.ofNat 32 (ofBytes (m.mem.bytes addr 4))).toNat = m.mem.word addr :=
    (BitVec.toNat_ofNat _ _).trans (Nat.mod_eq_of_lt (m.mem.word_lt addr))
  have hwrite (v : BitVec 32) : m.ok.busWrite a addr (toBytes 4 v.toNat)
      = ({ m.ok with mem := m.mem.putBytes addr (toBytes 4 v.toNat) }.ok, true) :=
    busWrite_clean (m := m.ok) hclean hsems hmem (by rw [length_toBytes]; exact hw)
  simp only [busAtomic, hr, hw, memRead_clean hclean, hwrite, atomicStored]
  cases op with
  | sc held => cases held <;> rfl
  | _ =>
    simp only [amoResult, hold, if_true]
    rfl

/-! ### An atomic through a view -/

/-- R327, R336: an atomic that a view of the pair admits, to memory or to the bridge window, is a mismatch of a pair in RUN whose
request words differ, and is issued once otherwise. -/
theorem amoToView_viewed {m : Module} {n p pa : Nat} {op : AmoOp} {addr : Word} {u : PView} (x : Word) (mB aB : DWord)
    (hhost : m.hosted n = some p) (haddr : addr.toNat % 4 = 0 ∧ 0x20000 < addr.toNat + 4)
    (hview : (m.pairViews n).find? (fun u => decide (u.vbase ≤ addr.toNat) && decide (addr.toNat + 4 ≤ u.vbase + u.size))
      = some u)
    (hperm : u.perm.testBit 1 = true ∧ (u.perm.testBit 0 = true ∨ op = .sc true ∨ op = .sc false))
    (hpa : u.pbase + (addr.toNat - u.vbase) = pa) (htarget : isWindow pa = true ∨ memOf pa ≠ none) :
    m.amoToView n op addr x mB aB
      = if m.pairState n = 3
          ∧ (mB ≠ reqWordM (amoRequest op addr x u.device) ∨ aB ≠ reqWordA (amoRequest op addr x u.device))
        then m.mismatch n
        else if isWindow pa then m.windowAtomic (pairAccess n p) (bridgeOp op) pa (toBytes 4 x.toNat)
        else m.busAtomic (pairAccess n p) op pa x := by
  obtain ⟨halign, hpast⟩ := haddr
  obtain ⟨hwritable, hreadable⟩ := hperm
  have hreach : ((memOf pa).isNone && ! isWindow pa) = false := by
    rcases htarget with hwin | hmem
    · simp [hwin]
    · simp [Option.isNone_eq_false_iff.2 (Option.isSome_iff_ne_none.2 hmem)]
  simp only [amoToView, hhost, halign, hview, bit_eq_testBit, hwritable, hpa, hreach, if_neg (Nat.not_le.2 hpast)]
  rcases hreadable with hread | rfl | rfl
  · simp [hread]
  · simp
  · simp

/-! ### A committed write that failed -/

/-- The registers that record a committed write with an error response, and partition `p`'s own event (R341). -/
def writeErrorKeys (p : Nat) : List Nat :=
  [F.LSS_WERR_ADDR_ADDR.key 0 0 0, F.LSS_WERR_INFO_STATUS.key 0 0 0, F.LSS_WERR_INFO_PAIR.key 0 0 0,
    F.LSS_WERR_INFO_PART.key 0 0 0, F.LSS_WERR_INFO_COUNT.key 0 0 0, F.LSS_LOC_EVT_WERR.key p 0 0, F.LSS_EVT_WERR.key 0 0 0]

theorem regsBut_writeError (m : Module) (n p addr status : Nat) :
    regsBut (writeErrorKeys p) m (m.writeError n p addr status) :=
  regsBut_latch (regsBut_wr _ (by simp [writeErrorKeys]) (regsBut_wr _ (by simp [writeErrorKeys]) (regsBut_wr _
    (by simp [writeErrorKeys]) (regsBut_wr _ (by simp [writeErrorKeys]) (regsBut_wr _ (by simp [writeErrorKeys]) (regsBut_wr _
    (by simp [writeErrorKeys]) (regsBut_wr _ (by simp [writeErrorKeys]) (regsBut_refl _ m))))))))

/-- The event of a partition lies in the pair-local registers, past every register of the map of R20. -/
theorem rd_wr_locWerr (m : Module) {f : Fam} {i j k : Nat} (v p : Nat) (h : f.key i j k < 0x10000000000 * 64) :
    (m.wr F.LSS_LOC_EVT_WERR v p).rd f i j k = m.rd f i j k := by
  refine rd_wr_other m _ f v p 0 0 i j k ?_
  simp only [F.LSS_LOC_EVT_WERR, fam, Fam.key, Fam.addr] at h ⊢
  omega

theorem rd_writeError (m : Module) (n p addr status : Nat) :
    (m.writeError n p addr status).rd F.LSS_WERR_ADDR_ADDR = addr % 2 ^ F.LSS_WERR_ADDR_ADDR.width
      ∧ (m.writeError n p addr status).rd F.LSS_WERR_INFO_STATUS = status % 2 ^ F.LSS_WERR_INFO_STATUS.width
      ∧ (m.writeError n p addr status).rd F.LSS_WERR_INFO_PAIR = n % 2 ^ F.LSS_WERR_INFO_PAIR.width
      ∧ (m.writeError n p addr status).rd F.LSS_WERR_INFO_PART = p % 2 ^ F.LSS_WERR_INFO_PART.width
      ∧ (m.writeError n p addr status).rd F.LSS_WERR_INFO_COUNT
        = sat F.LSS_WERR_INFO_COUNT.width (m.rd F.LSS_WERR_INFO_COUNT + 1)
      ∧ (m.writeError n p addr status).rd F.LSS_EVT_WERR = 1 := by
  simp (disch := decide) only [writeError, rd_latch, raise_eq, addS_eq, rd_wr_other, rd_wr_same, rd_wr_locWerr, sat_mod]
  decide

theorem rd_locWerr_writeError (m : Module) (n p addr status : Nat) :
    (m.writeError n p addr status).rd F.LSS_LOC_EVT_WERR p = 1 := by
  have hapart : F.LSS_LOC_EVT_WERR.key p 0 0 ≠ F.LSS_EVT_WERR.key 0 0 0 := by
    simp only [F.LSS_LOC_EVT_WERR, F.LSS_EVT_WERR, fam, Fam.key, Fam.addr]
    omega
  rw [writeError, rd_latch, raise_eq _ F.LSS_EVT_WERR, rd_wr_other _ _ _ _ _ _ _ _ _ _ hapart, raise_eq, rd_wr_same]
  rfl

end Module

/-- Settles O38: an atomic of a pair by what its view, its target and its request words say, and the record of R341 by its
registers. -/
theorem pairAtomicsAndWriteErrors : Obligations.PairAtomicsAndWriteErrors := by
  unfold Obligations.PairAtomicsAndWriteErrors
  refine ⟨?memory, ?bridge, ?mismatch, ?pairLocal, ?writeError, fun s pair op addr x mB aB => rfl,
    fun s pair addr status => rfl⟩
  case memory =>
    rintro s pair p op addr x mB aB u pa hhost haddr hview hperm hagree hpa ⟨hclean, hsems⟩ ⟨hlo, hhi, -⟩
      ⟨⟨-, -, hr⟩, -, -, hw⟩
    have hmem : Module.memOf pa = some 0 := if_pos ⟨hlo, by omega⟩
    have hwin : Module.isWindow pa = false := by
      simp only [Module.isWindow, Bool.and_eq_false_iff, decide_eq_false_iff_not]
      omega
    have hissued := Module.amoToView_viewed (op := op) x mB aB hhost haddr hview hperm hpa.symm (.inr (by simp [hmem]))
    rw [if_neg (by tauto), hwin, if_neg (by decide), Module.busAtomic_clean op x hclean hsems hmem hr hw] at hissued
    refine ⟨_, congrArg s.to hissued, ?_, ?_, rfl⟩
    · simp only [Module.atomicStored]
      cases Module.amoResult op (BitVec.ofNat 32 (s.m.mem.word pa)) x <;> rfl
    · cases op <;> rfl
  case bridge =>
    intro s pair p op addr x mB aB u hhost haddr hview hperm hagree hwin
    have hissued := Module.amoToView_viewed (op := op) x mB aB hhost haddr hview hperm rfl (.inl hwin)
    rw [if_neg (by tauto), if_pos hwin] at hissued
    exact congrArg s.to hissued
  case mismatch =>
    rintro s pair p op addr x mB aB u ⟨hhost, hrun⟩ haddr hview hperm htarget hdiffer
    have hissued := Module.amoToView_viewed (op := op) x mB aB hhost haddr hview hperm rfl htarget
    rw [if_pos ⟨hrun, hdiffer⟩] at hissued
    exact congrArg s.to hissued
  case pairLocal =>
    rintro s pair p op addr x mB aB ⟨hhost, halign, hlocal⟩
    refine congrArg s.to ?_
    simp only [Module.amoToView, hhost, halign, hlocal]
    simp
  case writeError =>
    rintro s pair p addr status ⟨hhost, -⟩
    obtain ⟨haddr, hstatus, hpair, hpart, hcount, hevent⟩ := s.m.rd_writeError pair.val p addr status.val
    refine ⟨s.m.writeError pair.val p addr status.val, ?_, haddr, ?_, ?_, hpart, hcount,
      s.m.rd_locWerr_writeError pair.val p addr status.val, hevent, rfl, s.m.regsBut_writeError pair.val p addr status.val⟩
    · refine congrArg s.to ?_
      dsimp only
      rw [hhost]
    · exact hstatus.trans (Nat.mod_eq_of_lt status.isLt)
    · exact hpair.trans (Nat.mod_eq_of_lt pair.isLt)

end Sys2Proof.Machine
end

section
/-!
SUPPORT. The requests of LSS_CTRL (R351, R357, R358): what a request that is admitted finds, and what each does to its pair.
-/
namespace Sys2Proof.Machine
namespace Module

/-! ### Registers -/

/-- Fields that begin at different bits of their registers are different fields. -/
theorem rd_wr_lo (m : Module) {f g : Fam} (v i j k i2 j2 k2 : Nat) (h : g.lo ≠ f.lo ∧ g.lo < 64 ∧ f.lo < 64) :
    (m.wr f v i j k).rd g i2 j2 k2 = m.rd g i2 j2 k2 := by
  refine rd_wr_other m f g v i j k i2 j2 k2 ?_
  unfold Fam.key
  omega

theorem sparePair_lt {m : Module} {f : Nat} (h : m.sparePair = some f) : f < 4 :=
  List.mem_range.1 (List.mem_of_find?_eq_some h)

/-! ### The state of a pair -/

/-- The fields of LSS_PAIR_STAT that say what pair `n` does (R350). -/
def pairStateKeys (n : Nat) : List Nat :=
  [F.LSS_PAIR_STAT_STATE.key n 0 0, F.LSS_PAIR_STAT_PART.key n 0 0, F.LSS_PAIR_STAT_WINDOW.key n 0 0]

theorem regsBut_setPairState (m : Module) (n st : Nat) (p : Option Nat) : regsBut (pairStateKeys n) m (m.setPairState n st p) :=
  regsBut_wr _ (by simp [pairStateKeys]) (regsBut_wr _ (by simp [pairStateKeys]) (regsBut_wr _ (by simp [pairStateKeys])
    (regsBut_refl _ m)))

theorem pairState_setPairState (m : Module) (n st : Nat) (p : Option Nat) : (m.setPairState n st p).pairState n = st % 2 ^ 3 := by
  unfold pairState setPairState
  rw [rd_wr_lo _ _ _ _ _ _ _ _ (by decide), rd_wr_lo _ _ _ _ _ _ _ _ (by decide), rd_wr_same]
  rfl

/-- Fields that begin at another bit are none of them. -/
theorem notMem_pairStateKeys {f : Fam} {i j k n : Nat} (h : f.lo < 64 ∧ f.lo ≠ 0 ∧ f.lo ≠ 4 ∧ f.lo ≠ 8) :
    f.key i j k ∉ pairStateKeys n := by
  simp only [pairStateKeys, List.mem_cons, List.not_mem_nil, or_false, Fam.key, F.LSS_PAIR_STAT_STATE, F.LSS_PAIR_STAT_PART,
    F.LSS_PAIR_STAT_WINDOW, fam]
  omega

/-- Nor is any field of another register. -/
theorem notMem_pairStateKeys_of_addr {f : Fam} {n : Nat} (hn : n < 4)
    (h : f.lo < 64 ∧ ¬ (0x20F00010 ≤ f.addr 0 0 0 ∧ f.addr 0 0 0 < 0x20F00020)) : f.key 0 0 0 ∉ pairStateKeys n := by
  obtain ⟨hlo, haddr⟩ := h
  simp only [pairStateKeys, List.mem_cons, List.not_mem_nil, or_false, Fam.key, F.LSS_PAIR_STAT_STATE, F.LSS_PAIR_STAT_PART,
    F.LSS_PAIR_STAT_WINDOW, fam]
  simp only [Fam.addr] at haddr ⊢
  omega

theorem pair_toTest (m : Module) (n k : Nat) (after : AfterTest) (answers : Bool) :
    (m.toTest n after answers).pair k = if k = n then { (m.pair n).idle with after := after, answers := answers } else m.pair k :=
  pair_setPair _ n k _

theorem regsBut_toTest (m : Module) (n : Nat) (after : AfterTest) (answers : Bool) :
    regsBut (pairStateKeys n) m (m.toTest n after answers) := regsBut_set rfl (m.regsBut_setPairState n 0 none)

theorem pairState_toTest (m : Module) (n : Nat) (after : AfterTest) (answers : Bool) :
    (m.toTest n after answers).pairState n = 0 := m.pairState_setPairState n 0 none

/-- The wiped pair-local memory of pair `n` reads 0 (R49). -/
theorem byte_wipePair (m : Module) (n : Nat) {o : Nat} (ho : o < 0x20000) :
    (m.wipePair n).mem.byte (MemSt.lpBase n + o) = 0 :=
  m.mem.byte_wipe (by omega) (by omega)

/-! ### A request that is taken -/

/-- PEND of LSS_CTRL_STAT is set (R57, R357). -/
def lssPending (m : Module) : Module := m.ok.wr F.LSS_CTRL_STAT_PEND 1

/-- PEND alone begins at bit 8 among the fields that a request looks at. -/
theorem rd_lssPending (m : Module) {f : Fam} (i j k : Nat) (h : f.lo ≠ 8 ∧ f.lo < 64) :
    m.lssPending.rd f i j k = m.rd f i j k :=
  rd_wr_lo m.ok 1 0 0 0 i j k ⟨h.1, h.2, by decide⟩

theorem rd_lssPending_pend (m : Module) : m.lssPending.rd F.LSS_CTRL_STAT_PEND = 1 := rd_wr_same m.ok _ 1 0 0 0

@[simp] theorem pairState_lssPending (m : Module) (n : Nat) : m.lssPending.pairState n = m.pairState n :=
  m.rd_lssPending n 0 0 (by decide)

@[simp] theorem pair_lssPending (m : Module) (n : Nat) : m.lssPending.pair n = m.pair n := rfl

@[simp] theorem lss_lssPending (m : Module) : m.lssPending.lss = m.lss := rfl

@[simp] theorem hosted_lssPending (m : Module) (n : Nat) : m.lssPending.hosted n = m.hosted n := by
  simp (disch := decide) only [hosted, rd_lssPending]

@[simp] theorem sparePair_lssPending (m : Module) : m.lssPending.sparePair = m.sparePair := by
  simp only [sparePair, pairState_lssPending]

@[simp] theorem movable_lssPending (m : Module) (p : Nat) : m.lssPending.movable p = m.movable p := by
  simp (disch := decide) only [movable, rd_lssPending, lss_lssPending, pairState_lssPending, hosted_lssPending]

@[simp] theorem splitRefusal_lssPending (m : Module) (n : Nat) : m.lssPending.splitRefusal n = m.splitRefusal n := by
  simp (disch := decide) only [splitRefusal, activeInDuplex, flag_eq, rd_lssPending, lss_lssPending, pair_lssPending,
    pairState_lssPending, hosted_lssPending]
  congr

/-- R357: with its key and none pending, a write of LSS_CTRL by the secure world is taken. -/
theorem lssControl_taken {m : Module} {a : Access} {v : Word} {op : Nat} (hd : m.accessDeny a 0x20F00050 4 1 = none)
    (hfrom : a.world = true ∧ a.ini ≠ 0x3F) (hkey : v.toNat / 2 ^ 16 = 0x4C53 ∧ v.toNat % 2 ^ 4 = op)
    (hpend : m.flag F.LSS_CTRL_STAT_PEND = false) :
    m.lssControl a v.toNat = m.lssPending.lssRequest op (v.toNat / 2 ^ 4 % 4) (v.toNat / 2 ^ 8 % 16) := by
  obtain ⟨hworld, hini⟩ := hfrom
  obtain ⟨hword, rfl⟩ := hkey
  have hidle : m.ok.flag F.LSS_CTRL_STAT_PEND = false := hpend
  simp only [lssControl, accessIf, access_admitted _ hd, hini, hworld, if_false, if_true, bits_31_16, hword, hidle]
  simp only [bits, Nat.pow_zero, Nat.div_one]
  rfl

/-! ### A MOVE or ADOPT -/

/-- A MOVE or ADOPT waits for the window boundary of its pair, at which one halted in WFI stands (R357). -/
theorem moveAccept_lssPending (m : Module) (kind p : Nat) :
    m.lssPending.moveAccept kind p
      = if (m.pair (m.rd F.LSS_PART_PAIR p)).wfi = false
        then { m.lssPending with lss := { m.lss with moveReq := some (kind, p) } }
        else ({ m.lssPending with lss := { m.lss with moveReq := some (kind, p) } }).moveStart p (m.rd F.LSS_PART_PAIR p) := by
  have hwfi : (({ m.lssPending with lss := { m.lss with moveReq := some (kind, p) } } : Module).pair
      (m.rd F.LSS_PART_PAIR p)).wfi = (m.pair (m.rd F.LSS_PART_PAIR p)).wfi := rfl
  simp (disch := decide) only [moveAccept, rd_lssPending, lss_lssPending, hwfi]
  cases (m.pair (m.rd F.LSS_PART_PAIR p)).wfi <;> rfl

/-! ### RESTORE -/

theorem rd_restorePair (m : Module) (n : Nat) :
    (m.restorePair n).rd F.LSS_PAIR_STAT_FAIL_CAUSE n = 0 ∧ (m.restorePair n).rd F.LSS_PAIR_STAT_LOCKSTEP_BROKEN n = 0
      ∧ (m.restorePair n).rd F.LSS_CTRL_STAT_PEND = m.rd F.LSS_CTRL_STAT_PEND := by
  simp (disch := decide) only [restorePair, lower_eq, rd_wr_lo, rd_wr_same]
  exact ⟨rfl, rfl, rfl⟩

theorem byte_restorePair (m : Module) (n : Nat) {o : Nat} (ho : o < 0x20000) :
    (m.restorePair n).mem.byte (MemSt.lpBase n + o) = 0 := m.byte_wipePair n ho

/-! ### SPLIT -/

/-- SPLIT of a pair that hosts partition `p`, if it does: the pair is in SPLIT with its lock-step broken, and what its partition
stores is no longer safe (R358, R359, R361). -/
def splitBegun (m : Module) (n : Nat) : Option Nat → Module
  | some p => (((m.setPairState n 6 (some p)).raise F.LSS_PAIR_STAT_LOCKSTEP_BROKEN n).lower F.LSS_PART_SAFE_VALID p).lower
      F.LSS_LOC_INFO_SAFE_VALID p
  | none => (m.setPairState n 6 none).raise F.LSS_PAIR_STAT_LOCKSTEP_BROKEN n

theorem split_eq {m : Module} {n : Nat} (h : m.splitRefusal n = none) :
    m.split n = ((m.splitBegun n (m.hosted n)).raise F.LSS_EVT_SPLIT).lssDone 0 := by
  simp only [split, h]
  cases m.hosted n <;> rfl

theorem pairState_splitBegun (m : Module) (n : Nat) (h : Option Nat) : (m.splitBegun n h).pairState n = 6 := by
  have hset (p : Option Nat) := m.pairState_setPairState n 6 p
  unfold pairState at hset ⊢
  cases h <;> simp (disch := decide) only [splitBegun, raise_eq, lower_eq, rd_wr_lo, hset] <;> rfl

theorem rd_broken_splitBegun (m : Module) {n : Nat} (hn : n < 4) (h : Option Nat) :
    (m.splitBegun n h).rd F.LSS_PAIR_STAT_LOCKSTEP_BROKEN n = 1 := by
  cases h with
  | none => exact rd_wr_same _ _ 1 n 0 0
  | some p =>
    have hapart : F.LSS_PAIR_STAT_LOCKSTEP_BROKEN.key n 0 0 ≠ F.LSS_LOC_INFO_SAFE_VALID.key p 0 0 := by
      simp only [F.LSS_PAIR_STAT_LOCKSTEP_BROKEN, F.LSS_LOC_INFO_SAFE_VALID, fam, Fam.key, Fam.addr]
      omega
    rw [splitBegun, lower_eq, lower_eq, rd_wr_other _ _ _ _ _ _ _ _ _ _ hapart, rd_wr_lo _ _ _ _ _ _ _ _ (by decide), raise_eq,
      rd_wr_same]
    rfl

theorem splitBegun_frame (m : Module) (n : Nat) (h : Option Nat) :
    m.splitBegun n h = { m with regs := (m.splitBegun n h).regs } := by
  cases h <;> rfl

/-! ### The end of a request -/

/-- A request that completes at once leaves every other register and all else (R357). -/
theorem regsBut_lssDone (m : Module) (st : Nat) :
    regsBut [F.LSS_CTRL_STAT_PEND.key 0 0 0, F.LSS_CTRL_STAT_STATUS.key 0 0 0] m (m.lssDone st) :=
  regsBut_wr _ (by decide) (regsBut_wr _ (by decide) (regsBut_refl _ m))

theorem rd_lssDone (m : Module) :
    (m.lssDone 0).rd F.LSS_CTRL_STAT_PEND = 0 ∧ (m.lssDone 0).rd F.LSS_CTRL_STAT_STATUS = 0 := by
  simp (disch := decide) only [lssDone, lower_eq, rd_wr_lo, rd_wr_same]
  decide

/-- STATUS and PEND begin at the bits 0 and 8. -/
theorem rd_lssDone_lo (m : Module) {f : Fam} (st i j k : Nat) (h : f.lo ≠ 0 ∧ f.lo ≠ 8 ∧ f.lo < 64) :
    (m.lssDone st).rd f i j k = m.rd f i j k := by
  obtain ⟨hstatus, hpend, hlo⟩ := h
  rw [lssDone, lower_eq, rd_wr_lo _ _ _ _ _ _ _ _ ⟨hpend, hlo, by decide⟩,
    rd_wr_lo _ _ _ _ _ _ _ _ ⟨hstatus, hlo, by decide⟩]

theorem pairState_lssDone (m : Module) {n : Nat} (st : Nat) (hn : n < 4) : (m.lssDone st).pairState n = m.pairState n := by
  refine m.regsBut_lssDone st F.LSS_PAIR_STAT_STATE n 0 0 ?_
  simp only [List.mem_cons, List.not_mem_nil, or_false, F.LSS_PAIR_STAT_STATE, F.LSS_CTRL_STAT_PEND, F.LSS_CTRL_STAT_STATUS, fam,
    Fam.key, Fam.addr]
  omega

end Module

/-! ### The commands -/

section
variable {s : State} {a : Access} {v : Word}

/-- Every request is a write of LSS_CTRL. -/
theorem State.runBy_lssControl (v : Word) (h : s.genuine a 1) :
    s.runBy a 1 (fun a m => m.lssControl a v.toNat) = s.to (s.m.lssControl a v.toNat) := by
  simp [State.runBy_issued _ h]

/-- A request of the secure world with its key is taken while none is pending. -/
theorem State.runBy_lssTaken {op : Nat} (hadm : s.admitsWrite a 0x20F00050) (hfrom : a.world = true ∧ a.ini ≠ 0x3F)
    (hkey : v.toNat / 2 ^ 16 = 0x4C53 ∧ v.toNat % 2 ^ 4 = op) (hpend : s.m.flag F.LSS_CTRL_STAT_PEND = false) :
    s.runBy a 1 (fun a m => m.lssControl a v.toNat)
      = s.to (s.m.lssPending.lssRequest op (v.toNat / 2 ^ 4 % 4) (v.toNat / 2 ^ 8 % 16)) := by
  rw [State.runBy_lssControl v hadm.1, Module.lssControl_taken hadm.2 hfrom hkey hpend]

end

/-- Settles O39: each request is taken with PEND set, and each of its conditions is one that PEND does not change. -/
theorem pairRequests : Obligations.PairRequests := by
  unfold Obligations.PairRequests
  refine ⟨?selftest, ?restore, ?move, ?split, ?loan, ?adopt, ?giveBack, fun s a v hg => State.runBy_lssControl v hg,
    fun s a v hg => State.runBy_lssControl v hg, fun s a v hg => State.runBy_lssControl v hg,
    fun s a v hg => State.runBy_lssControl v hg, fun s a v hg => State.runBy_lssControl v hg,
    fun s a v hg => State.runBy_lssControl v hg, fun s a v hg => State.runBy_lssControl v hg⟩
  case selftest =>
    rintro s a v n hadm hfrom ⟨hkey, hop, hn⟩ hpend hstate hunused
    have htests : s.m.lssPending.lssRequest 1 n.val (v.toNat / 2 ^ 8 % 16)
        = s.m.lssPending.toTest n.val (if s.m.pairState n.val = 5 then .selftestFailed else .settle) true := by
      simp only [Module.lssRequest, Module.lss_lssPending, Module.pairState_lssPending, hunused]
      refine if_neg ?_
      rcases hstate with h | h | h <;> simp [h]
    have hexec := State.runBy_lssTaken hadm hfrom ⟨hkey, hop⟩ hpend
    rw [hn, htests] at hexec
    exact hexec
  case restore =>
    rintro s a v n hadm hfrom ⟨hkey, hop, hn⟩ hpend hstate
    have htests : s.m.lssPending.lssRequest 2 n.val (v.toNat / 2 ^ 8 % 16)
        = (s.m.lssPending.restorePair n.val).toTest n.val .restore true := by
      simp only [Module.lssRequest, Module.pairState_lssPending, Module.hosted_lssPending, if_pos hstate]
    have hexec := State.runBy_lssTaken hadm hfrom ⟨hkey, hop⟩ hpend
    rw [hn, htests] at hexec
    obtain ⟨hcause, hbroken, hpending⟩ := s.m.lssPending.rd_restorePair n.val
    have hkept := (s.m.lssPending.restorePair n.val).regsBut_toTest n.val .restore true
    refine ⟨_, hexec, Module.pairState_toTest _ _ _ _, by rw [Module.pair_toTest, if_pos rfl],
      by rw [Module.pair_toTest, if_pos rfl],
      (hkept _ _ _ _ (Module.notMem_pairStateKeys (by decide))).trans hcause,
      (hkept _ _ _ _ (Module.notMem_pairStateKeys (by decide))).trans hbroken,
      (hkept _ _ _ _ (Module.notMem_pairStateKeys_of_addr n.isLt (by decide))).trans
        (hpending.trans s.m.rd_lssPending_pend), fun k _ hk => ?_, fun o ho => ?_⟩
    · rw [Module.pair_toTest, if_neg hk]
      rfl
    · exact s.m.lssPending.byte_restorePair n.val ho
  case move =>
    rintro s a v p hadm hfrom ⟨hkey, hop, hp⟩ hpend ⟨hmovable, hspare⟩
    have haccepted : s.m.lssPending.lssRequest 3 (v.toNat / 2 ^ 4 % 4) p.val = s.m.lssPending.moveAccept 1 p.val := by
      simp only [Module.lssRequest, Module.movable_lssPending, Module.sparePair_lssPending, hmovable, hspare]
      rfl
    have hexec := State.runBy_lssTaken hadm hfrom ⟨hkey, hop⟩ hpend
    rw [hp, haccepted, Module.moveAccept_lssPending] at hexec
    exact hexec
  case split =>
    rintro s a v n hadm hfrom ⟨hkey, hop, hn⟩ hpend hallowed
    have hsplit : s.m.lssPending.lssRequest 4 n.val (v.toNat / 2 ^ 8 % 16)
        = ((s.m.lssPending.splitBegun n.val (s.m.lssPending.hosted n.val)).raise F.LSS_EVT_SPLIT).lssDone 0 :=
      Module.split_eq (by rw [Module.splitRefusal_lssPending, hallowed])
    have hexec := State.runBy_lssTaken hadm hfrom ⟨hkey, hop⟩ hpend
    rw [hn, hsplit] at hexec
    obtain ⟨hdone, hstatus⟩ :=
      ((s.m.lssPending.splitBegun n.val (s.m.lssPending.hosted n.val)).raise F.LSS_EVT_SPLIT).rd_lssDone
    refine ⟨_, hexec, ?_, ?_, ?_, hdone, hstatus, ?_⟩
    · rw [Module.pairState_lssDone _ _ n.isLt]
      exact (Module.rd_wr_lo _ _ _ _ _ _ _ _ (by decide)).trans (Module.pairState_splitBegun _ _ _)
    · rw [Module.rd_lssDone_lo _ _ _ _ _ (by decide)]
      exact (Module.rd_wr_lo _ _ _ _ _ _ _ _ (by decide)).trans (Module.rd_broken_splitBegun _ n.isLt _)
    · rw [Module.rd_lssDone_lo _ _ _ _ _ (by decide)]
      exact Module.rd_wr_same _ _ 1 0 0 0
    · rw [Module.splitBegun_frame]
      rfl
  case loan =>
    rintro s a v f hadm hfrom ⟨hkey, hop⟩ hpend ⟨hspare, hidle⟩
    have hlent : s.m.lssPending.lssRequest 5 (v.toNat / 2 ^ 4 % 4) (v.toNat / 2 ^ 8 % 16)
        = (s.m.lssPending.setPairState f 4).lssDone 0 := by
      simp only [Module.lssRequest, Module.sparePair_lssPending, Module.lss_lssPending, hspare, hidle]
      rfl
    have hexec := State.runBy_lssTaken hadm hfrom ⟨hkey, hop⟩ hpend
    rw [hlent] at hexec
    obtain ⟨hdone, hstatus⟩ := (s.m.lssPending.setPairState f 4).rd_lssDone
    refine ⟨_, hexec, ?_, hdone, hstatus, rfl, ?_⟩
    · rw [Module.pairState_lssDone _ _ (Module.sparePair_lt hspare)]
      exact Module.pairState_setPairState _ f 4 none
    · refine Module.regsBut_trans (n := s.m.lssPending) ?_ (Module.regsBut_trans (n := s.m.lssPending.setPairState f 4) ?_ ?_)
      · exact Module.regsBut_wr _ (by simp) (Module.regsBut_set rfl (Module.regsBut_refl _ _))
      · exact Module.regsBut_mono (by simp [Module.pairStateKeys]) (Module.regsBut_setPairState _ f 4 none)
      · exact Module.regsBut_mono (by simp) (Module.regsBut_lssDone _ 0)
  case adopt =>
    rintro s a v p hadm hfrom ⟨hkey, hop, hp⟩ hpend ⟨hmovable, hloaned⟩
    have haccepted : s.m.lssPending.lssRequest 6 (v.toNat / 2 ^ 4 % 4) p.val = s.m.lssPending.moveAccept 2 p.val := by
      simp only [Module.lssRequest, Module.movable_lssPending, Module.pairState_lssPending, hmovable, hloaned]
      rfl
    have hexec := State.runBy_lssTaken hadm hfrom ⟨hkey, hop⟩ hpend
    rw [hp, haccepted, Module.moveAccept_lssPending] at hexec
    exact hexec
  case giveBack =>
    rintro s a v f hadm hfrom ⟨hkey, hop⟩ hpend ⟨hloaned, hunused⟩
    have htests : s.m.lssPending.lssRequest 7 (v.toNat / 2 ^ 4 % 4) (v.toNat / 2 ^ 8 % 16)
        = (s.m.lssPending.wipePair f).toTest f .settle true := by
      simp only [Module.lssRequest, Module.pairState_lssPending, Module.lss_lssPending, hloaned, hunused]
      rfl
    have hexec := State.runBy_lssTaken hadm hfrom ⟨hkey, hop⟩ hpend
    rw [htests] at hexec
    have hf : f < 4 := List.mem_range.1 (List.mem_of_find?_eq_some hloaned)
    refine ⟨_, hexec, Module.pairState_toTest _ _ _ _, by rw [Module.pair_toTest, if_pos rfl],
      by rw [Module.pair_toTest, if_pos rfl], ?_, fun k _ hk => ?_, fun o ho => ?_⟩
    · exact (Module.regsBut_toTest _ f .settle true _ _ _ _ (Module.notMem_pairStateKeys_of_addr hf (by decide))).trans
        s.m.rd_lssPending_pend
    · rw [Module.pair_toTest, if_neg hk]
      rfl
    · exact s.m.lssPending.byte_wipePair f ho

end Sys2Proof.Machine
end

section
/-!
SUPPORT. The scrubber over clean memory, the eviction of a dirty L2 line, and the writes by which the secure world asks for scrub
passes and sets the firewall up (R372, R373, R375, R384, R385, R395).
-/
namespace Sys2Proof.Machine

/-- A write of a register that only the secure world may write, admitted and by the secure world, has its effect (R397). -/
theorem State.runBy_secureWrite {s : State} {a : Access} {addr : Nat} (eff : Access → Module → Module)
    (hadm : s.admitsWrite a addr) (hworld : a.world = true) :
    s.runBy a 1 (fun a m => m.accessIf a addr a.world (eff a)) = s.to (eff a s.m.ok) :=
  (State.runBy_admittedWrite (fun (a : Access) (m : Module) =>
    if a.world then eff a m else m.refuse a addr 1 (Module.denyWriter addr)) hadm).trans (congrArg s.to (if_pos hworld))

/-! ### Rounds -/

/-- A loop over the 1 bits of `v` is a loop over all bits, whose rounds at the 0 bits change nothing. -/
theorem forEach_bitsSet {σ : Type} (n v : Nat) (f : Nat → σ → σ) (s : σ) :
    forEach (bitsSet n v) f s = forEach (List.range n) (fun i t => if bit v i then f i t else t) s :=
  List.foldl_filter

/-! ### Clean memory -/

namespace MemSt

/-- Bytes stored in clean memory leave it clean. -/
theorem clean_putBytes {s : MemSt} (h : s.clean) (a : Nat) (l : List Byte) : (s.putBytes a l).clean := by
  rw [putBytes_guard l s a]
  exact h

/-- The bytes stored read as stored, all of them. -/
theorem bytes_putBytes_same (s : MemSt) (a : Nat) (l : List Byte) : (s.putBytes a l).bytes a l.length = l := by
  refine List.ext_getElem (by simp [bytes]) fun i hi _ => ?_
  have hil : i < l.length := by simpa [bytes] using hi
  simpa [bytes] using byte_putBytes_at l s a i hil

@[simp] theorem length_bytes (s : MemSt) (a n : Nat) : (s.bytes a n).length = n := by simp [bytes]

/-- Bytes apart from those stored read as before. -/
theorem bytes_putBytes_other (s : MemSt) (l : List Byte) {a b n : Nat} (h : b + n ≤ a ∨ a + l.length ≤ b) :
    (s.putBytes a l).bytes b n = s.bytes b n := by
  refine List.map_congr_left fun i hi => byte_putBytes_other l s a (b + i) ?_
  have hin := List.mem_range.1 hi
  omega

/-- R373: a visit of the scrubber to a line of clean memory finds nothing. -/
theorem scrub_clean {s : MemSt} (h : s.clean) (l : Nat) : s.scrub l = (s, {}) := by
  obtain ⟨hperr, hsperr, hseam, hpoison⟩ := h
  simp [scrub, poisoned, badWords, hperr, hsperr, hseam, hpoison]

/-- The L2 no longer holds line `l`. -/
def dropLine (s : MemSt) (l : Nat) : MemSt := { s with l2 := tset {} s.l2 l {} }

@[simp] theorem byte_dropLine (s : MemSt) (l b : Nat) : (s.dropLine l).byte b = s.byte b := rfl
@[simp] theorem bytes_dropLine (s : MemSt) (l a n : Nat) : (s.dropLine l).bytes a n = s.bytes a n := rfl
theorem l2_dropLine (s : MemSt) (l : Nat) : tget {} (s.dropLine l).l2 l = {} := tget_tset_same {} s.l2 l {}

/-- Memory after the L2 has stored line `l` in DRAM and no longer holds it (R372). -/
def evicted (s : MemSt) (l : Nat) : MemSt :=
  ((s.putBytes (l * 256) (s.bytes (l2Base + l * 256) 256)).putBytes (l2Base + l * 256) (List.replicate 256 blank)).dropLine l

/-- The line's place in DRAM takes the line's bytes. -/
theorem bytes_evicted (s : MemSt) (l : Nat) :
    (s.evicted l).bytes (l * 256) 256 = s.bytes (l2Base + l * 256) 256 := by
  have hstored := bytes_putBytes_same s (l * 256) (s.bytes (l2Base + l * 256) 256)
  rw [length_bytes] at hstored
  rw [evicted, bytes_dropLine, bytes_putBytes_other _ _ (.inl (by unfold l2Base; omega)), hstored]

/-- DRAM outside the line's place keeps its bytes. -/
theorem byte_evicted_outside (s : MemSt) {l b : Nat} (hout : b < l * 256 ∨ l * 256 + 256 ≤ b) (hb : b < l2Base) :
    (s.evicted l).byte b = s.byte b := by
  rw [evicted, byte_dropLine, byte_putBytes_other _ _ _ b (.inl (by omega)),
    byte_putBytes_other _ _ _ b (by simpa using hout)]

/-- The L2 no longer holds an evicted line. -/
theorem l2_evicted (s : MemSt) (l : Nat) : tget {} (s.evicted l).l2 l = {} := l2_dropLine _ l

end MemSt

namespace Module

/-! ### The scrubber and the L2 -/

/-- R373: a visit without upsets to a line of clean memory changes nothing. -/
theorem scrubVisit_clean {m : Module} (hclean : m.mem.clean) (k line : Nat) : m.scrubVisit k line [] = m := by
  simp only [scrubVisit, strikes_nil, MemSt.scrub_clean hclean]
  rfl

/-- Memory `k` after a visit to one of its lines, where they stand in order: PROGRESS shows how far the pass is (R375). -/
def scrubVisited (m : Module) (k line : Nat) (ups : List Upset) : Module :=
  (m.scrubVisit k line ups).wr F.FAB_SCRUB_STAT_PROGRESS (lineIndex k line * 256 / memLines k) k

/-- R372: a dirty line without errors is stored at its place in DRAM, and leaves the L2. -/
theorem evictLine_dirty_clean {m : Module} {l : Nat} (hclean : m.mem.clean) (hheld : (m.l2Line l).held = true)
    (hdirty : (m.l2Line l).dirty = true) : m.evictLine l = { m with mem := m.mem.evicted l } := by
  have hsound : m.mem.poisoned ((MemSt.l2Base + l * 256) / 256) = false := by
    obtain ⟨-, -, -, hpoison⟩ := hclean
    simp [MemSt.poisoned, hpoison]
  have hstored := MemSt.clean_putBytes hclean (l * 256) (m.mem.bytes (MemSt.l2Base + l * 256) 256)
  simp only [evictLine, hheld, hdirty, hsound, Bool.not_true, Bool.false_eq_true, if_false, MemSt.clearLine_clean hclean,
    MemSt.clearLine_clean hstored, MemSt.evicted, MemSt.dropLine]

/-- A pass over memory `k` is asked for (R375). -/
def scrubAsked (k : Nat) (m : Module) : Module := (m.raise F.FAB_SCRUB_STAT_REQ_BUSY k).wr F.FAB_SCRUB_STAT_PROGRESS 0 k

theorem rd_scrubAsked_same (k : Nat) (m : Module) : (m.scrubAsked k).rd F.FAB_SCRUB_STAT_REQ_BUSY k = 1 := by
  rw [scrubAsked, rd_wr_lo _ _ _ _ _ _ _ _ (by decide)]
  exact rd_wr_same m _ 1 k 0 0

theorem rd_scrubAsked_other {k j : Nat} (m : Module) (h : j ≠ k) :
    (m.scrubAsked k).rd F.FAB_SCRUB_STAT_REQ_BUSY j = m.rd F.FAB_SCRUB_STAT_REQ_BUSY j := by
  have hkey : F.FAB_SCRUB_STAT_REQ_BUSY.key j 0 0 ≠ F.FAB_SCRUB_STAT_REQ_BUSY.key k 0 0 := by
    simp only [Fam.key, Fam.addr, F.FAB_SCRUB_STAT_REQ_BUSY, fam]
    omega
  rw [scrubAsked, rd_wr_lo _ _ _ _ _ _ _ _ (by decide)]
  exact rd_wr_other m _ _ 1 k 0 0 j 0 0 hkey

/-- R375: after the passes over the memories that `v` names are asked for, REQ_BUSY is set of these, and stands
of the others. -/
theorem rd_scrubsAsked (m : Module) (n v : Nat) : ∀ k < n,
    (forEach (bitsSet n v) scrubAsked m).rd F.FAB_SCRUB_STAT_REQ_BUSY k
      = if bit v k then 1 else m.rd F.FAB_SCRUB_STAT_REQ_BUSY k := by
  rw [forEach_bitsSet]
  refine forEach_range_turns (view := fun k t => t.rd F.FAB_SCRUB_STAT_REQ_BUSY k)
    (P := fun k before t => t.rd F.FAB_SCRUB_STAT_REQ_BUSY k = if bit v k then 1 else before) n ?own ?view ?keep m
  case own =>
    intro i t _
    split
    · exact rd_scrubAsked_same i t
    · rfl
  case view =>
    intro i j t _ hj
    split
    · exact rd_scrubAsked_other t hj
    · rfl
  case keep =>
    intro i j b t _ _ hj ht
    split
    · exact (rd_scrubAsked_other t hj).trans ht
    · exact ht

/-- The fields by which the passes over the first `n` memories are asked for. -/
def scrubKeys (n : Nat) : List Nat :=
  (List.range n).flatMap (fun k => [F.FAB_SCRUB_STAT_REQ_BUSY.key k 0 0, F.FAB_SCRUB_STAT_PROGRESS.key k 0 0])

/-- Asking for passes changes these fields alone. -/
theorem scrubsAsked_frame (m : Module) (n v : Nat) :
    (forEach (bitsSet n v) scrubAsked m).resp = m.resp ∧ onlyRegs (scrubKeys n) m (forEach (bitsSet n v) scrubAsked m) := by
  refine forEach_keeps_mem (P := fun t => t.resp = m.resp ∧ onlyRegs (scrubKeys n) m t) _ _ ⟨rfl, rfl, regsBut_refl _ _⟩ ?_
  rintro k hk t ⟨hresp, hframe, hregs⟩
  have hn : k ∈ List.range n := (List.mem_filter.1 hk).1
  refine ⟨hresp, ?_, ?_⟩
  · rw [hframe]
    rfl
  · exact regsBut_wr 0 (List.mem_flatMap.2 ⟨k, hn, by simp⟩)
      (regsBut_wr 1 (List.mem_flatMap.2 ⟨k, hn, by simp⟩) hregs)

/-- R375: the end of a pass counts it. -/
theorem rd_scrubPassed_passes (m : Module) (k : Nat) :
    (m.scrubPassed k).rd F.FAB_SCRUB_STAT_PASSES k = (m.rd F.FAB_SCRUB_STAT_PASSES k + 1) % 2 ^ 16 :=
  rd_wr_same m _ _ k 0 0

/-- It leaves the other fields of FAB_SCRUB_STAT, which begin above PASSES. -/
theorem rd_scrubPassed_other (m : Module) (n : Nat) {f : Fam} (i j k : Nat) (h : f.lo ≠ 0 ∧ f.lo < 64) :
    (m.scrubPassed n).rd f i j k = m.rd f i j k :=
  have ⟨habove, hin⟩ := h
  rd_wr_lo m _ n 0 0 i j k ⟨habove, hin, by decide⟩

theorem regsBut_scrubPassed {K : List Nat} {m n : Module} {k : Nat} (hk : F.FAB_SCRUB_STAT_PASSES.key k 0 0 ∈ K)
    (h : regsBut K m n) : regsBut K m (n.scrubPassed k) :=
  regsBut_set rfl (regsBut_wr (n.rd F.FAB_SCRUB_STAT_PASSES k + 1) hk h)

/-! ### The firewall -/

/-- R385: a commit with its key, none pending and accepted copies the staged region. -/
theorem firewallCommit_accepted {m : Module} {v : Nat} (a : Access) (recOffset : Option Nat) (hkey : bits v 31 16 = 0x4657)
    (hpend : m.flag F.FAB_COMMIT_STAT_PEND = false) (hst : m.commitStatus (bits v 7 0) (bits v 11 8) = 0) :
    m.firewallCommit a v recOffset
      = ((((m.wr F.FAB_COMMIT_STAT_STATUS 0).wr F.FAB_RGN_BASE_BASE (m.rd F.FAB_STG_BASE_BASE) (bits v 7 0) (bits v 11 8)).wr
        F.FAB_RGN_LIMIT_LIMIT (m.rd F.FAB_STG_LIMIT_LIMIT) (bits v 7 0) (bits v 11 8)).wr F.FAB_RGN_KEY_KEY m.stagedKey
        (bits v 7 0) (bits v 11 8)).wr F.FAB_RGN_PART_MASK (m.rd F.FAB_STG_PART_MASK) (bits v 7 0) (bits v 11 8) := by
  have htaken : (decide (bits v 31 16 ≠ 0x4657) || m.flag F.FAB_COMMIT_STAT_PEND) = false := by simp [hkey, hpend]
  simp (disch := decide) only [firewallCommit, htaken, hst, stagedKey, rd_wr_other, if_true, Bool.false_eq_true, if_false]

/-- R395, R821: a ring within SRAM is taken while ENFORCE is 0, and stands empty. -/
theorem writeLogBase_inside {m : Module} {v : Nat} (a : Access) (hopen : m.flag F.FAB_CTRL_ENFORCE = false)
    (hlow : 0x8000 ≤ bits v 39 13) (hhigh : bits v 39 13 < 0x8800) :
    m.writeLogBase a v = ((m.wr F.FAB_LOG_BASE_ADDR (bits v 39 13)).wr F.FAB_LOG_WR_IDX 0).wr F.FAB_LOG_RD_IDX 0 := by
  simp only [writeLogBase, hopen, Bool.false_eq_true, if_false]
  exact if_pos ⟨by omega, by omega⟩

end Module

/-! ### The commands -/

/-- SCRUB_LINE_VISIT of a memory whose lines stand in order. -/
theorem exec_scrubLineVisit_ordered {mem : Fin 7} (s : State) (line : Nat) (ups : List Upset) (last : Bool)
    (hmem : mem.val ≠ 2) :
    exec (.scrubLineVisit mem line ups last) s
      = s.to ((s.m.scrubVisited mem.val line ups).when
        (Module.lineIndex mem.val line + 1 == Module.memLines mem.val
          && ! (s.m.scrubVisited mem.val line ups).flag F.FAB_SCRUB_STAT_REQ_BUSY mem.val)
        (·.scrubPassed mem.val)) := by
  show execScrubLineVisit mem line ups last s = _
  simp only [execScrubLineVisit, run_eq, hmem, if_false, Module.scrubVisited]

theorem exec_scrubRequest {s : State} {a : Access} (v : Word) (hadm : s.admitsWrite a 0x2010007C) (hworld : a.world = true) :
    exec (.scrubRequest a v) s = s.to (forEach (bitsSet 7 v.toNat) Module.scrubAsked s.m.ok) :=
  State.runBy_secureWrite (fun _ m => forEach (bitsSet 7 v.toNat) Module.scrubAsked m) hadm hworld

/-- SCRUB_PASS_DONE of a memory whose pass was requested. -/
theorem exec_scrubPassDone {s : State} {mem : Fin 7} (hbusy : s.m.rd F.FAB_SCRUB_STAT_REQ_BUSY mem.val = 1) :
    exec (.scrubPassDone mem) s
      = s.to (((s.m.lower F.FAB_SCRUB_STAT_REQ_BUSY mem.val).wr F.FAB_SCRUB_STAT_PROGRESS 255 mem.val).scrubPassed mem.val) := by
  have hflag : s.m.flag F.FAB_SCRUB_STAT_REQ_BUSY mem.val = true := by rw [Module.flag_eq, hbusy]; rfl
  show s.run _ = _
  rw [run_eq, hflag]
  rfl

theorem exec_firewallCommit {s : State} {a : Access} (v : Word) (recOffset : Option Nat) (hadm : s.admitsWrite a 0x20100218)
    (hworld : a.world = true) : exec (.firewallCommit a v recOffset) s = s.to (s.m.ok.firewallCommit a v.toNat recOffset) :=
  State.runBy_secureWrite (fun a m => m.firewallCommit a v.toNat recOffset) hadm hworld

theorem exec_enforceSet {s : State} {a : Access} (v : Word) (hadm : s.admitsWrite a 0x20100000) (hworld : a.world = true) :
    exec (.enforceSet a v) s = s.to (s.m.ok.when (bit v.toNat 0) (·.raise F.FAB_CTRL_ENFORCE)) :=
  State.runBy_secureWrite (fun _ m => m.when (bit v.toNat 0) (·.raise F.FAB_CTRL_ENFORCE)) hadm hworld

theorem exec_fabLogBaseWrite {s : State} {a : Access} (v : DWord) (hadm : s.admitsWrite a 0x20100008) (hworld : a.world = true) :
    exec (.fabLogBaseWrite a v) s = s.to (s.m.ok.writeLogBase a v.toNat) :=
  State.runBy_secureWrite (fun a m => m.writeLogBase a v.toNat) hadm hworld

/-- Settles O12: in clean memory a visit and an eviction find no error, and requests and passes write
fields of their memories alone. -/
theorem scrubberAndEviction : Obligations.ScrubberAndEviction := by
  unfold Obligations.ScrubberAndEviction
  refine ⟨?visit, ?request, ?passDone, ?eviction, fun s line => rfl, ?ordered, ?l2Lines⟩
  case visit =>
    intro s mem line last hclean hmem hbefore
    rw [exec_scrubLineVisit_ordered s line [] last hmem, beq_eq_false_iff_ne.2 (Nat.ne_of_lt hbefore), Bool.false_and,
      Module.when_false, Module.scrubVisited, Module.scrubVisit_clean hclean]
  case request =>
    intro s a v hworld hadm
    obtain ⟨hresp, hframe, hregs⟩ := s.m.ok.scrubsAsked_frame 7 v.toNat
    exact ⟨_, exec_scrubRequest v hadm hworld, hresp,
      fun k hk => s.m.ok.rd_scrubsAsked 7 v.toNat k (List.mem_range.1 hk), hframe, hregs⟩
  case passDone =>
    intro s mem hbusy
    refine ⟨_, exec_scrubPassDone hbusy, ?_, ?_, ?_, rfl, ?_⟩
    · rw [Module.rd_scrubPassed_other _ _ _ _ _ (by decide), Module.rd_wr_lo _ _ _ _ _ _ _ _ (by decide)]
      exact Module.rd_wr_same s.m _ 0 _ 0 0
    · rw [Module.rd_scrubPassed_other _ _ _ _ _ (by decide)]
      exact Module.rd_wr_same _ _ 255 _ 0 0
    · rw [Module.rd_scrubPassed_passes, Module.lower_eq, Module.rd_wr_lo _ _ _ _ _ _ _ _ (by decide),
        Module.rd_wr_lo _ _ _ _ _ _ _ _ (by decide)]
    · exact Module.regsBut_scrubPassed (by simp)
        (Module.regsBut_wr 255 (by simp) (Module.regsBut_wr 0 (by simp) (Module.regsBut_refl _ _)))
  case eviction =>
    intro s l hclean _ hheld hdirty
    refine ⟨_, congrArg s.to (Module.evictLine_dirty_clean hclean hheld hdirty), rfl,
      s.m.mem.bytes_evicted l, s.m.mem.l2_evicted l, fun b hout hb => s.m.mem.byte_evicted_outside hout hb⟩
  case ordered =>
    intro s mem line ups last hmem
    rw [exec_scrubLineVisit_ordered s line ups last hmem]
    simp [Module.when, Module.scrubVisited]
  case l2Lines =>
    intro s line ups last
    show execScrubLineVisit 2 line ups last s = _
    simp [execScrubLineVisit, Module.when]

/-- Settles O13: the secure world's admitted write has its effect, and the conditions name its branch. -/
theorem firewallCommands : Obligations.FirewallCommands := by
  unfold Obligations.FirewallCommands
  refine ⟨?commit, ?enforce, ?logBase, fun s a v recOffset ⟨hadm, hworld⟩ => exec_firewallCommit v recOffset hadm hworld,
    fun s a v ⟨hadm, hworld⟩ => exec_fabLogBaseWrite v hadm hworld⟩
  case commit =>
    intro s a v hworld hadm hkey hpend hst
    have hidle : s.m.ok.flag F.FAB_COMMIT_STAT_PEND = false := by rw [Module.flag_eq, Module.rd_ok, hpend]; rfl
    rw [exec_firewallCommit v none hadm hworld]
    exact congrArg s.to (Module.firewallCommit_accepted a none hkey hidle hst)
  case enforce =>
    intro s a v hworld hadm hbit
    rw [exec_enforceSet v hadm hworld, hbit, Module.when_true, Module.raise_eq]
  case logBase =>
    intro s a v hworld hadm henforce hlow hhigh
    have hopen : s.m.ok.flag F.FAB_CTRL_ENFORCE = false := by rw [Module.flag_eq, Module.rd_ok, henforce]; rfl
    rw [exec_fabLogBaseWrite v hadm hworld, Module.writeLogBase_inside a hopen hlow hhigh]

end Sys2Proof.Machine
end

section
/-!
SUPPORT. The cores as WCT sees them: what entry into world 1, return from it and resumption from a frame change and leave (R402,
R423, R425).
-/
namespace Sys2Proof.Machine

/-- The core after it has resumed from its frame in world 0, where one is held: past its ECALL unless `plain` (R423, R425). -/
def CoreSt.resumed (c : CoreSt) (plain : Bool) : CoreSt :=
  match c.frame with
  | none => c
  | some f => { c with ctx := if f.ecall && ! plain then Module.pastEcall f.ctx else f.ctx, secure := false, frame := none }

/-- A core that held a frame is in world 0 once it has resumed. -/
theorem CoreSt.secure_resumed {c : CoreSt} (plain : Bool) (h : c.frame.isSome = true) : (c.resumed plain).secure = false := by
  obtain ⟨f, hf⟩ := Option.isSome_iff_exists.1 h
  simp [CoreSt.resumed, hf]

namespace Module

/-! ### A core is stored -/

theorem core_setCore_cases (m : Module) (n k : Nat) (c : CoreSt) :
    (m.setCore n c).core k = if k = n then c else m.core k := tget_tset _ _ _ _ _

/-- From `m` to `t` core `n` becomes `c`; FRAME_HELD may follow, and nothing else differs. -/
structure CoreBecomes (n : Nat) (c : CoreSt) (m t : Module) : Prop where
  cores : ∀ k, t.core k = if k = n then c else m.core k
  frame : t = { m with regs := t.regs, wct := { m.wct with cores := t.wct.cores } }
  regs : regsBut [F.WCT_STAT_FRAME_HELD.key 0 0 0] m t

theorem coreBecomes_setCore (m : Module) (n : Nat) (c : CoreSt) : CoreBecomes n c m (m.setCore n c) :=
  ⟨fun k => core_setCore_cases m n k c, rfl, regsBut_setCore m n c⟩

theorem coreBecomes_self (m : Module) (n : Nat) : CoreBecomes n (m.core n) m m := by
  refine ⟨fun k => ?_, rfl, regsBut_refl _ m⟩
  split
  next hk => rw [hk]
  next => rfl

/-- Of two changes of one core the later counts. -/
theorem CoreBecomes.trans {n : Nat} {c d : CoreSt} {m t u : Module} (h : CoreBecomes n c m t) (h' : CoreBecomes n d t u) :
    CoreBecomes n d m u := by
  refine ⟨fun k => ?_, ?_, regsBut_trans h.regs h'.regs⟩
  · rw [h'.cores, h.cores]
    split <;> rfl
  · have hframe := h'.frame
    rw [h.frame] at hframe
    exact hframe

theorem CoreBecomes.same {n : Nat} {c : CoreSt} {m t : Module} (h : CoreBecomes n c m t) : t.core n = c := by
  rw [h.cores, if_pos rfl]

theorem CoreBecomes.other {n k : Nat} {c : CoreSt} {m t : Module} (h : CoreBecomes n c m t) (hk : k ≠ n) :
    t.core k = m.core k := by
  rw [h.cores, if_neg hk]

/-! ### Entry and exit -/

/-- R402: while the secure world is BOOT or READY, an ECALL from world 0 saves its frame and enters world 1. -/
theorem worldEntry_ecall {m : Module} {n : Nat} {cause : EntryCause} (ctx : CoreCtx) (hworld : (m.core n).secure = false)
    (hup : m.rd F.WCT_STAT_SEC_STATE < 2) (hcause : cause ≠ .mInterrupt) :
    m.worldEntry n cause ctx = m.enterWorld n ctx true := by
  simp only [worldEntry, hworld, Nat.not_le.2 hup, Bool.false_eq_true, if_false]

/-- R402: so does an M-level interrupt, which is then no longer pending. -/
theorem worldEntry_mInterrupt {m : Module} {n : Nat} (ctx : CoreCtx) (hworld : (m.core n).secure = false)
    (hup : m.rd F.WCT_STAT_SEC_STATE < 2) :
    m.worldEntry n .mInterrupt ctx = (m.setCore n { m.core n with irqPend := false }).enterWorld n ctx false := by
  simp only [worldEntry, hworld, Nat.not_le.2 hup, Bool.false_eq_true, if_false]

theorem coreBecomes_enterWorld (m : Module) (n : Nat) (ctx : CoreCtx) (ecall : Bool) :
    CoreBecomes n { m.core n with ctx := { ctx with mode := .m }, secure := true, frame := some ⟨ctx, ecall⟩ } m
      (m.enterWorld n ctx ecall) := coreBecomes_setCore m n _

/-- R402: an MRET to a mode below M releases the frame. -/
theorem worldExit_released {m : Module} (n : Nat) {ctx : CoreCtx} (hmode : ctx.mode ≠ .m) :
    m.worldExit n ctx = m.setCore n { m.core n with ctx := ctx, secure := false, frame := none } := by
  simp [worldExit, hmode]

theorem worldExit_kept {m : Module} (n : Nat) {ctx : CoreCtx} (hmode : ctx.mode = .m) :
    m.worldExit n ctx = m.setCore n { m.core n with ctx := ctx } := by
  simp [worldExit, hmode]

/-! ### Resumption from a frame -/

/-- R423, R425: core `n` resumes; where it holds no frame nothing changes. -/
theorem coreBecomes_unwind (m : Module) (n : Nat) (plain : Bool) :
    CoreBecomes n ((m.core n).resumed plain) m (m.unwind n plain) := by
  cases hframe : (m.core n).frame with
  | none =>
    simp only [unwind, CoreSt.resumed, hframe]
    exact coreBecomes_self m n
  | some f =>
    simp only [unwind, CoreSt.resumed, hframe]
    exact coreBecomes_setCore m n _

/-- In the round of core `n` that core resumes if it is captured. -/
theorem coreBecomes_unwindRound (m : Module) (n : Nat) :
    CoreBecomes n (if m.captured n then (m.core n).resumed false else m.core n) m
      (m.when (m.captured n) (·.unwind n false)) := by
  cases m.captured n with
  | true => exact coreBecomes_unwind m n false
  | false => exact coreBecomes_self m n

/-- R423 step 3: every captured core is in world 0 afterwards. -/
theorem secure_unwindAll (m : Module) : ∀ k < 4, m.captured k = true → (m.unwindAll.core k).secure = false := by
  refine forEach_range_turns (view := fun k t => t.captured k)
    (P := fun k before t => before = true → (t.core k).secure = false) 4 ?own ?view ?keep m
  case own =>
    intro i t _ hcaptured
    have hframe : (t.core i).frame.isSome = true := (Bool.and_eq_true_iff.1 hcaptured).2
    rw [(coreBecomes_unwindRound t i).same, if_pos hcaptured]
    exact CoreSt.secure_resumed false hframe
  case view =>
    intro i j t _ hj
    show captured _ j = t.captured j
    rw [captured, (coreBecomes_unwindRound t i).other hj, captured]
  case keep =>
    intro i j b t _ _ hj ht hb
    rw [(coreBecomes_unwindRound t i).other hj]
    exact ht hb

/-- The cores' resumption leaves everything but the cores and FRAME_HELD. -/
theorem unwindAll_frame (m : Module) :
    m.unwindAll = { m with regs := m.unwindAll.regs, wct := { m.wct with cores := m.unwindAll.wct.cores } }
      ∧ regsBut [F.WCT_STAT_FRAME_HELD.key 0 0 0] m m.unwindAll := by
  refine forEach_keeps (P := fun t : Module => t = { m with regs := t.regs, wct := { m.wct with cores := t.wct.cores } }
    ∧ regsBut [F.WCT_STAT_FRAME_HELD.key 0 0 0] m t) _ _ ?_ m ⟨rfl, regsBut_refl _ m⟩
  rintro n t ⟨hframe, hregs⟩
  have hround := coreBecomes_unwindRound t n
  refine ⟨?_, regsBut_trans hregs hround.regs⟩
  have hnext := hround.frame
  rw [hframe] at hnext
  rw [hframe]
  exact hnext

end Module
end Sys2Proof.Machine
end

section
/-!
SUPPORT. The secure watchdog (R420, R422–R425): what a restart of the secure world, and its failure, change and leave.
-/
namespace Sys2Proof.Machine
namespace Module

/-! ### A deferral that may end -/

/-- The fields in which a deferred request of world 0 ends or goes on (R60, R420). -/
def deferKeys : List Nat :=
  [F.WCT_DEFER_PEND.key 0 0 0, F.WCT_EVT_DEFER_END.key 0 0 0, F.SYSCTL_CLK_STATE_RUN.key 0 0 0] ++ gateKeys false

/-- What a request of world 0 does once it is not deferred: it may complete, and run its block's clock. -/
theorem gateContinue_leaves (m : Module) (b op : Nat) :
    regsBut deferKeys m (m.gateContinue false b op) ∧ (m.gateContinue false b op).wct = m.wct := by
  have hgate : gateKeys false ⊆ deferKeys := by decide
  unfold gateContinue
  split
  · exact ⟨regsBut_mono hgate (regsBut_gateDone m false b _), rfl⟩
  · split
    · refine ⟨regsBut_trans (n := m.when (bit (m.rd F.SYSCTL_PWR_STATE_ON) b) (·.setMap F.SYSCTL_CLK_STATE_RUN b)) ?_
        (regsBut_mono hgate (regsBut_gateDone _ false b 0)), ?_⟩
      · exact regsBut_when (regsBut_refl _ m) (regsBut_setMap _ _ (by decide) (regsBut_refl _ m))
      · rw [gateDone_frame]
        exact when_keeps (P := fun t : Module => t.wct = m.wct) rfl rfl
    · exact ⟨regsBut_set rfl (regsBut_refl _ m), rfl⟩

theorem deferLeave_leaves (m : Module) : regsBut deferKeys m m.deferLeave ∧ m.deferLeave.wct = m.wct := by
  unfold deferLeave
  split
  · obtain ⟨hregs, hwct⟩ := m.deferEnd.gateContinue_leaves (m.rd F.WCT_DEFER_BLOCK) (m.rd F.WCT_DEFER_OP)
    exact ⟨regsBut_trans (regsBut_wr 1 (by decide) (regsBut_wr 0 (by decide) (regsBut_refl _ m))) hregs, hwct⟩
  · exact ⟨regsBut_refl _ m, rfl⟩

/-! ### The restart -/

/-- The hold counts of the 22 blocks are cleared (R423 step 2). -/
def holdsCleared (m : Module) : Module := forEach (List.range 22) (fun b m => m.lower F.WCT_HOLD_COUNT b) m

/-- A deferral that only these held has then ended (R420). -/
def holdsReleased (m : Module) : Module := m.holdsCleared.deferLeave

/-- The hold counts. -/
def holdKeys : List Nat := (List.range 22).map (fun b => F.WCT_HOLD_COUNT.key b 0 0)

theorem holdKey_inj {b c : Nat} (h : c ≠ b) : F.WCT_HOLD_COUNT.key c 0 0 ≠ F.WCT_HOLD_COUNT.key b 0 0 := by
  simp only [Fam.key, Fam.addr, F.WCT_HOLD_COUNT, fam]
  omega

theorem holdKey_above (b : Nat) : 0x21000200 * 64 ≤ F.WCT_HOLD_COUNT.key b 0 0 := by
  simp only [Fam.key, Fam.addr, F.WCT_HOLD_COUNT, fam]
  omega

/-- No hold count is among fields that stand below them. -/
theorem holdKey_notMem {K : List Nat} (b : Nat) (h : ∀ key ∈ K, key < 0x21000200 * 64) :
    F.WCT_HOLD_COUNT.key b 0 0 ∉ K :=
  fun hmem => Nat.not_lt.2 (holdKey_above b) (h _ hmem)

theorem regsBut_holdsCleared (m : Module) : regsBut holdKeys m m.holdsCleared :=
  forEach_keeps_mem (P := regsBut holdKeys m) _ _ (regsBut_refl _ m)
    (fun b hb _ ht => regsBut_wr 0 (List.mem_map.2 ⟨b, hb, rfl⟩) ht)

theorem wct_holdsCleared (m : Module) : m.holdsCleared.wct = m.wct := by
  unfold holdsCleared
  exact forEach_keeps (P := fun t : Module => t.wct = m.wct) (List.range 22) _ (fun b t ht => (wr_wct t _ 0 b 0 0).trans ht) m rfl

theorem rd_holdsCleared (m : Module) : ∀ b < 22, m.holdsCleared.rd F.WCT_HOLD_COUNT b = 0 := by
  refine forEach_range_each (P := fun b t => t.rd F.WCT_HOLD_COUNT b = 0) _ (fun i t => ?_) (fun i j t hj ht => ?_) 22 m
  · exact rd_wr_same t _ 0 i 0 0
  · exact (rd_wr_other t _ _ 0 i 0 0 j 0 0 (holdKey_inj hj)).trans ht

theorem rd_holdsReleased_other (m : Module) {f : Fam} {i j k : Nat} (hhold : f.key i j k ∉ holdKeys)
    (hdefer : f.key i j k ∉ deferKeys) : m.holdsReleased.rd f i j k = m.rd f i j k :=
  (m.holdsCleared.deferLeave_leaves.1 f i j k hdefer).trans (m.regsBut_holdsCleared f i j k hhold)

theorem wct_holdsReleased (m : Module) : m.holdsReleased.wct = m.wct :=
  m.holdsCleared.deferLeave_leaves.2.trans m.wct_holdsCleared

theorem rd_hold_holdsReleased (m : Module) {b : Nat} (hb : b < 22) : m.holdsReleased.rd F.WCT_HOLD_COUNT b = 0 := by
  have hdefer : F.WCT_HOLD_COUNT.key b 0 0 ∉ deferKeys := by
    have hbelow : ∀ key ∈ deferKeys, key < 0x21000200 * 64 ∨ 0x21000300 * 64 ≤ key := by decide
    intro hmem
    have hplace := hbelow _ hmem
    simp only [Fam.key, Fam.addr, F.WCT_HOLD_COUNT, fam] at hplace
    omega
  exact (m.holdsCleared.deferLeave_leaves.1 _ _ _ _ hdefer).trans (m.rd_holdsCleared b hb)

/-- The service core `k` enters world 1 from `ctx`, where it is not there already (R423 step 4). -/
def serviceEntered (m : Module) (k : Nat) (ctx : CoreCtx) : Module :=
  if (m.core k).secure then m else m.enterWorld k ctx false

theorem secure_serviceEntered (m : Module) (k : Nat) (ctx : CoreCtx) : ((m.serviceEntered k ctx).core k).secure = true := by
  unfold serviceEntered
  split
  next h => exact h
  next => rw [(coreBecomes_enterWorld m k ctx false).same]

theorem core_serviceEntered_other (m : Module) {k n : Nat} (ctx : CoreCtx) (h : n ≠ k) :
    (m.serviceEntered k ctx).core n = m.core n := by
  unfold serviceEntered
  split
  · rfl
  · exact (coreBecomes_enterWorld m k ctx false).other h

theorem regsBut_serviceEntered (m : Module) (k : Nat) (ctx : CoreCtx) :
    regsBut [F.WCT_STAT_FRAME_HELD.key 0 0 0] m (m.serviceEntered k ctx) := by
  unfold serviceEntered
  split
  · exact regsBut_refl _ m
  · exact (coreBecomes_enterWorld m k ctx false).regs

theorem regsBut_swdtStart (m : Module) (us : Nat) : regsBut [F.WCT_SWDT_REMAIN_US.key 0 0 0] m (m.swdtStart us) :=
  regsBut_set (n := m.wr F.WCT_SWDT_REMAIN_US us) rfl (regsBut_wr us (by decide) (regsBut_refl _ m))

theorem rd_remain_swdtStart (m : Module) {us : Nat} (h : us < 2 ^ 16) :
    (m.swdtStart us).rd F.WCT_SWDT_REMAIN_US = us :=
  (rd_wr_same m F.WCT_SWDT_REMAIN_US us 0 0 0).trans (Nat.mod_eq_of_lt h)

theorem swdtRun_swdtStart (m : Module) (us : Nat) : (m.swdtStart us).wct.swdtRun = true := rfl

theorem core_swdtStart (m : Module) (us k : Nat) : (m.swdtStart us).core k = m.core k := rfl

/-- The steps of R423 from the holds on, and where the service core enters world 1 from. -/
theorem secRestart_eq (m : Module) (svc : CoreCtx) :
    ∃ ctx, m.secRestart svc
      = (m.holdsReleased.unwindAll.serviceEntered (m.rd F.WCT_CFG_SVC_CORE) ctx).swdtStart 50000 :=
  ⟨if m.holdsReleased.captured (m.rd F.WCT_CFG_SVC_CORE) then (m.holdsReleased.unwindAll.core (m.rd F.WCT_CFG_SVC_CORE)).ctx
    else svc, rfl⟩

/-- After the holds a restart writes FRAME_HELD and the watchdog's time alone. -/
theorem regsBut_secRestart (m : Module) (svc : CoreCtx) :
    regsBut [F.WCT_STAT_FRAME_HELD.key 0 0 0, F.WCT_SWDT_REMAIN_US.key 0 0 0] m.holdsReleased (m.secRestart svc) := by
  obtain ⟨ctx, hrestart⟩ := m.secRestart_eq svc
  have hcores := regsBut_trans (unwindAll_frame m.holdsReleased).2
    (regsBut_serviceEntered m.holdsReleased.unwindAll (m.rd F.WCT_CFG_SVC_CORE) ctx)
  rw [hrestart]
  exact regsBut_trans (regsBut_mono (by simp) hcores) (regsBut_mono (by simp) (regsBut_swdtStart _ 50000))

/-- The watchdog runs again, for 50 ms (R423 step 5). -/
theorem secRestart_watchdog (m : Module) (svc : CoreCtx) :
    (m.secRestart svc).rd F.WCT_SWDT_REMAIN_US = 50000 ∧ (m.secRestart svc).wct.swdtRun = true := by
  obtain ⟨ctx, hrestart⟩ := m.secRestart_eq svc
  rw [hrestart]
  exact ⟨rd_remain_swdtStart _ (by decide), swdtRun_swdtStart _ 50000⟩

theorem rd_hold_secRestart (m : Module) (svc : CoreCtx) {b : Nat} (hb : b < 22) :
    (m.secRestart svc).rd F.WCT_HOLD_COUNT b = 0 :=
  (regsBut_secRestart m svc _ b 0 0 (holdKey_notMem b (by decide))).trans (m.rd_hold_holdsReleased hb)

/-- The fields that a restart writes. -/
def restartKeys : List Nat :=
  holdKeys ++ deferKeys ++ [F.WCT_STAT_FRAME_HELD.key 0 0 0, F.WCT_SWDT_REMAIN_US.key 0 0 0]

theorem rd_secRestart_other (m : Module) (svc : CoreCtx) {f : Fam} {i j k : Nat} (h : f.key i j k ∉ restartKeys) :
    (m.secRestart svc).rd f i j k = m.rd f i j k := by
  rw [restartKeys, List.mem_append, List.mem_append, not_or, not_or] at h
  obtain ⟨⟨hhold, hdefer⟩, hlast⟩ := h
  exact (regsBut_secRestart m svc f i j k hlast).trans (m.rd_holdsReleased_other hhold hdefer)

/-- The service core is in world 1, and every other core that was captured is in world 0 (R423 steps 3 and 4). -/
theorem secure_secRestart (m : Module) (svc : CoreCtx) :
    ((m.secRestart svc).core (m.rd F.WCT_CFG_SVC_CORE)).secure = true
      ∧ ∀ k < 4, k ≠ m.rd F.WCT_CFG_SVC_CORE → m.captured k = true → ((m.secRestart svc).core k).secure = false := by
  obtain ⟨ctx, hrestart⟩ := m.secRestart_eq svc
  rw [hrestart]
  simp only [core_swdtStart]
  refine ⟨secure_serviceEntered _ _ ctx, fun k hk hother hcaptured => ?_⟩
  have hbefore : m.holdsReleased.captured k = true := by
    rw [captured, core, wct_holdsReleased]
    exact hcaptured
  rw [core_serviceEntered_other _ ctx hother]
  exact secure_unwindAll m.holdsReleased k hk hbefore

/-! ### The failure -/

/-- The registers of WCT stand above those of FAB (R20). -/
theorem wctKey_above {f : Fam} (i : Nat) (h : 0x21000000 ≤ f.base) : 0x20200000 * 64 ≤ f.key i 0 0 := by
  simp only [Fam.key, Fam.addr]
  omega

theorem wct_logBlk (m : Module) (b code addr d0 d1 : Nat) : (m.logBlk b code addr d0 d1).wct = m.wct := by
  show (m.logBlk b code addr d0 d1).logless.wct = m.logless.wct
  rw [logless_logBlk]

theorem aboveFab_logBlk (m : Module) (b code addr d0 d1 : Nat) : AboveFab m (m.logBlk b code addr d0 d1) := aboveFab_log m _

/-- Of the fields from the window of CHC on, a failure of the secure world writes SEC_STATE and SEC_FAILED. -/
theorem rd_secFailed (m : Module) (d0 : Nat) {f : Fam} {i j k : Nat} (h : 0x20200000 * 64 ≤ f.key i j k) :
    (m.secFailed d0).rd f i j k = ((m.wr F.WCT_STAT_SEC_STATE 3).wr F.WCT_EVT_SEC_FAILED 1).rd f i j k :=
  aboveFab_logBlk ((m.wr F.WCT_STAT_SEC_STATE 3).raise F.WCT_EVT_SEC_FAILED) 0x12 0x1206 0 d0 0 f i j k h

theorem rd_secFailed_other (m : Module) (d0 : Nat) {f : Fam} {i j k : Nat} (h : 0x20200000 * 64 ≤ f.key i j k)
    (hother : f.key i j k ∉ [F.WCT_STAT_SEC_STATE.key 0 0 0, F.WCT_EVT_SEC_FAILED.key 0 0 0]) :
    (m.secFailed d0).rd f i j k = m.rd f i j k :=
  (m.rd_secFailed d0 h).trans
    (regsBut_wr 1 (by decide) (regsBut_wr 3 (by decide) (regsBut_refl _ m)) f i j k hother)

theorem wct_secFailed (m : Module) (d0 : Nat) : (m.secFailed d0).wct = { m.wct with swdtRun := false } :=
  congrArg (fun x : WctSt => { x with swdtRun := false })
    (wct_logBlk ((m.wr F.WCT_STAT_SEC_STATE 3).raise F.WCT_EVT_SEC_FAILED) 0x12 0x1206 0 d0 0)

theorem swdtRun_secFailed (m : Module) (d0 : Nat) : (m.secFailed d0).wct.swdtRun = false :=
  congrArg WctSt.swdtRun (m.wct_secFailed d0)

theorem swdtRun_unwindAll (m : Module) : m.unwindAll.wct.swdtRun = m.wct.swdtRun := by
  have hframe := congrArg (fun t : Module => t.wct.swdtRun) m.unwindAll_frame.1
  exact hframe

theorem captured_secFailed (m : Module) (d0 k : Nat) : (m.secFailed d0).captured k = m.captured k := by
  rw [captured, core, wct_secFailed]
  rfl

/-- R424: SEC_STATE is FAILED, and SEC_FAILED is set. -/
theorem rd_secFailed_shown (m : Module) (d0 : Nat) :
    (m.secFailed d0).rd F.WCT_STAT_SEC_STATE = 3 ∧ (m.secFailed d0).rd F.WCT_EVT_SEC_FAILED = 1 := by
  rw [rd_secFailed _ _ (by decide), rd_secFailed _ _ (by decide), rd_wr_other _ _ _ _ _ _ _ _ _ _ (by decide), rd_wr_same,
    rd_wr_same]
  exact ⟨rfl, rfl⟩

/-! ### Expiry -/

theorem slotsBack_frame (m : Module) : ∃ x, m.slotsBack = { m with nvc := x } := by
  unfold slotsBack
  split
  · exact ⟨_, rfl⟩
  · exact ⟨m.nvc, rfl⟩

theorem captured_slotsBack (m : Module) (k : Nat) : m.slotsBack.captured k = m.captured k := by
  obtain ⟨x, hback⟩ := m.slotsBack_frame
  rw [hback]
  rfl

/-- The record of an expiry leaves WCT. -/
theorem expiryLogged_leaves (m : Module) (d0 : Nat) :
    AboveFab m (m.slotsBack.logBlk 0x12 0x1202 0 d0) ∧ (m.slotsBack.logBlk 0x12 0x1202 0 d0).wct = m.wct := by
  obtain ⟨x, hback⟩ := m.slotsBack_frame
  rw [hback]
  exact ⟨aboveFab_trans (n := { m with nvc := x }) (aboveFab_set rfl) (aboveFab_logBlk _ 0x12 0x1202 0 d0 0),
    wct_logBlk _ 0x12 0x1202 0 d0 0⟩

/-- SEC_STATE is RESTARTING, and the `r`th restart is counted (R423 step 1). -/
def restartShown (m : Module) (r : Nat) : Module :=
  (((m.raise F.WCT_EVT_SWDT_EXPIRED).wr F.WCT_STAT_SEC_STATE 2).wr F.WCT_STAT_RESTARTS r).addW F.WCT_RESTART_CNT_TOTAL 1

theorem rd_restartShown (m : Module) {r : Nat} (hr : r < 4) :
    (m.restartShown r).rd F.WCT_STAT_SEC_STATE = 2 ∧ (m.restartShown r).rd F.WCT_STAT_RESTARTS = r
      ∧ (m.restartShown r).rd F.WCT_EVT_SWDT_EXPIRED = 1
      ∧ (m.restartShown r).rd F.WCT_RESTART_CNT_TOTAL
        = (m.rd F.WCT_RESTART_CNT_TOTAL + 1) % 2 ^ F.WCT_RESTART_CNT_TOTAL.width
      ∧ (m.restartShown r).rd F.WCT_CFG_SVC_CORE = m.rd F.WCT_CFG_SVC_CORE := by
  simp (disch := decide) only [restartShown, raise_eq, addW_eq, rd_wr_same, rd_wr_other]
  exact ⟨rfl, Nat.mod_eq_of_lt hr, rfl, trivial, trivial⟩

/-- The module in which the secure world has been restarted, before the digest of its stored image is compared (R423). -/
def restarted (m : Module) (d0 : Nat) (svc : CoreCtx) : Module :=
  ((m.slotsBack.logBlk 0x12 0x1202 0 d0).restartShown (m.rd F.WCT_STAT_RESTARTS + 1)).secRestart svc

/-- R423: an expiry after fewer than three restarts restarts the secure world, which fails where its digest differs. -/
theorem swdtExpire_restarts {m : Module} (d : Bool) (svc : CoreCtx) (hrun : m.wct.swdtRun = true)
    (hcount : m.rd F.WCT_STAT_RESTARTS < 3) (hout : m.rd F.WCT_SWDT_REMAIN_US = 0) :
    ∃ d0, m.swdtExpire d svc = if d then m.restarted d0 svc else (m.restarted d0 svc).secFailed 1 := by
  obtain ⟨x, hback⟩ := m.slotsBack_frame
  have hbelow : ({ m with nvc := x } : Module).rd F.WCT_STAT_RESTARTS ≠ 3 := Nat.ne_of_lt hcount
  simp only [swdtExpire, restarted, hback, hrun, hout, hbelow, if_false, Bool.not_true, bne_self_eq_false, Bool.or_self,
    Bool.false_eq_true]
  exact ⟨_, rfl⟩

/-- R424: after three restarts the secure world fails, and every captured core resumes. -/
theorem swdtExpire_fails {m : Module} (d : Bool) (svc : CoreCtx) (hrun : m.wct.swdtRun = true)
    (hcount : m.rd F.WCT_STAT_RESTARTS = 3) (hout : m.rd F.WCT_SWDT_REMAIN_US = 0) :
    m.swdtExpire d svc = (m.slotsBack.secFailed 0).unwindAll := by
  obtain ⟨x, hback⟩ := m.slotsBack_frame
  have hlast : ({ m with nvc := x } : Module).rd F.WCT_STAT_RESTARTS = 3 := hcount
  simp only [swdtExpire, hback, hrun, hout, hlast, if_true, Bool.not_true, bne_self_eq_false, Bool.or_self,
    Bool.false_eq_true, if_false]

/-- What WCT_STAT and the counts show of a restart (R423). -/
theorem rd_restarted {m : Module} (d0 : Nat) (svc : CoreCtx) (hcount : m.rd F.WCT_STAT_RESTARTS < 3) :
    (m.restarted d0 svc).rd F.WCT_STAT_SEC_STATE = 2
      ∧ (m.restarted d0 svc).rd F.WCT_STAT_RESTARTS = m.rd F.WCT_STAT_RESTARTS + 1
      ∧ (m.restarted d0 svc).rd F.WCT_EVT_SWDT_EXPIRED = 1
      ∧ (m.restarted d0 svc).rd F.WCT_RESTART_CNT_TOTAL
        = (m.rd F.WCT_RESTART_CNT_TOTAL + 1) % 2 ^ F.WCT_RESTART_CNT_TOTAL.width := by
  obtain ⟨hstate, hrestarts, hexpired, htotal, -⟩ :=
    (m.slotsBack.logBlk 0x12 0x1202 0 d0).rd_restartShown (r := m.rd F.WCT_STAT_RESTARTS + 1) (by omega)
  rw [(m.expiryLogged_leaves d0).1 _ 0 0 0 (by decide)] at htotal
  exact ⟨(rd_secRestart_other _ svc (by decide)).trans hstate, (rd_secRestart_other _ svc (by decide)).trans hrestarts,
    (rd_secRestart_other _ svc (by decide)).trans hexpired, (rd_secRestart_other _ svc (by decide)).trans htotal⟩

/-- The cores after a restart (R423). -/
theorem secure_restarted {m : Module} (d0 : Nat) (svc : CoreCtx) (hcount : m.rd F.WCT_STAT_RESTARTS < 3) :
    ((m.restarted d0 svc).core (m.rd F.WCT_CFG_SVC_CORE)).secure = true
      ∧ ∀ k < 4, k ≠ m.rd F.WCT_CFG_SVC_CORE → m.captured k = true → ((m.restarted d0 svc).core k).secure = false := by
  obtain ⟨hregs, hwct⟩ := m.expiryLogged_leaves d0
  obtain ⟨-, -, -, -, hservice⟩ :=
    (m.slotsBack.logBlk 0x12 0x1202 0 d0).rd_restartShown (r := m.rd F.WCT_STAT_RESTARTS + 1) (by omega)
  rw [hregs _ 0 0 0 (by decide)] at hservice
  obtain ⟨hsecure, hothers⟩ :=
    secure_secRestart ((m.slotsBack.logBlk 0x12 0x1202 0 d0).restartShown (m.rd F.WCT_STAT_RESTARTS + 1)) svc
  rw [hservice] at hsecure hothers
  refine ⟨hsecure, fun k hk hother hcaptured => hothers k hk hother ?_⟩
  show ((tget {} (m.slotsBack.logBlk 0x12 0x1202 0 d0).wct.cores k).secure
    && (tget {} (m.slotsBack.logBlk 0x12 0x1202 0 d0).wct.cores k).frame.isSome) = true
  rw [hwct]
  exact hcaptured

end Module
end Sys2Proof.Machine
end

section
/-!
SUPPORT. READY of the secure world (R425), and the commands of the worlds.
-/
namespace Sys2Proof.Machine
namespace Module

/-- R425: the secure world is READY from now on, with 10 ms on its watchdog. -/
def readyShown (m : Module) : Module :=
  let t := ((m.wr F.WCT_STAT_SEC_STATE 1).wr F.WCT_EVT_SEC_READY 1).swdtStart 10000
  { t with wct := { t.wct with readyAt := m.now } }

theorem rd_readyShown (m : Module) :
    m.readyShown.rd F.WCT_STAT_SEC_STATE = 1 ∧ m.readyShown.rd F.WCT_EVT_SEC_READY = 1
      ∧ m.readyShown.rd F.WCT_SWDT_REMAIN_US = 10000 ∧ m.readyShown.rd F.WCT_CFG_SVC_CORE = m.rd F.WCT_CFG_SVC_CORE := by
  have hregs : ∀ f : Fam, m.readyShown.rd f = (((m.wr F.WCT_STAT_SEC_STATE 1).wr F.WCT_EVT_SEC_READY 1).wr
      F.WCT_SWDT_REMAIN_US 10000).rd f := fun _ => rfl
  simp (disch := decide) only [hregs, rd_wr_same, rd_wr_other]
  exact ⟨rfl, rfl, rfl, trivial⟩

/-- The fields in which READY shows. -/
def readyKeys : List Nat :=
  [F.WCT_STAT_SEC_STATE.key 0 0 0, F.WCT_EVT_SEC_READY.key 0 0 0, F.WCT_SWDT_REMAIN_US.key 0 0 0]

theorem regsBut_readyShown (m : Module) : regsBut readyKeys m m.readyShown := by
  refine regsBut_set (n := ((m.wr F.WCT_STAT_SEC_STATE 1).wr F.WCT_EVT_SEC_READY 1).wr F.WCT_SWDT_REMAIN_US 10000) rfl ?_
  exact regsBut_wr _ (by decide) (regsBut_wr _ (by decide) (regsBut_wr _ (by decide) (regsBut_refl _ m)))

/-- R425: READY with its key, in BOOT or RESTARTING, is taken, and the service core goes on from its frame. -/
theorem secReady_taken {m : Module} {v : Word} (hkey : v.toNat / 2 ^ 16 = 0x5EC0) (hready : v.toNat.testBit 0 = true)
    (hstate : m.rd F.WCT_STAT_SEC_STATE = 0 ∨ m.rd F.WCT_STAT_SEC_STATE = 2) :
    m.secReady v.toNat = m.readyShown.unwind (m.rd F.WCT_CFG_SVC_CORE) true := by
  have htaken : ¬ (bits v.toNat 31 16 ≠ 0x5EC0 ∨ (! bit v.toNat 0) = true
      ∨ (m.rd F.WCT_STAT_SEC_STATE ≠ 0 ∧ m.rd F.WCT_STAT_SEC_STATE ≠ 2)) := by
    rw [bits_31_16, hkey, bit_eq_testBit, hready]
    rcases hstate with h | h <;> simp [h]
  obtain ⟨-, -, -, hservice⟩ := m.rd_readyShown
  rw [← hservice]
  exact if_neg htaken

end Module

theorem CoreSt.resumed_of_none {c : CoreSt} (plain : Bool) (h : c.frame = none) : c.resumed plain = c := by
  simp [CoreSt.resumed, h]

/-- Past READY the core goes on from its frame as it stands (R425). -/
theorem CoreSt.resumed_plain {c : CoreSt} {f : Frame} (h : c.frame = some f) :
    c.resumed true = { c with ctx := f.ctx, secure := false, frame := none } := by
  simp [CoreSt.resumed, h]

theorem exec_swdtKick {s : State} {a : Access} {v : Word} (hadm : s.admitsWrite a 0x21000014) (hworld : a.world = true) :
    exec (.swdtKick a v) s
      = s.to (s.m.ok.when (bits v.toNat 15 0 == 0x5EC1 && s.m.ok.wct.swdtRun) (·.swdtStart 10000)) :=
  State.runBy_secureWrite (fun _ m => m.when (bits v.toNat 15 0 == 0x5EC1 && m.wct.swdtRun) (·.swdtStart 10000)) hadm hworld

theorem exec_secReady {s : State} {a : Access} (v : Word) (hadm : s.admitsWrite a 0x21000010) (hworld : a.world = true) :
    exec (.secReady a v) s = s.to (s.m.ok.secReady v.toNat) :=
  State.runBy_secureWrite (fun _ m => m.secReady v.toNat) hadm hworld

/-- A watchdog that runs already is only given its time. -/
theorem Module.swdtStart_running {m : Module} (us : Nat) (h : m.wct.swdtRun = true) :
    m.swdtStart us = m.wr F.WCT_SWDT_REMAIN_US us := by
  have hsame : { m.wct with swdtRun := true } = m.wct := by rw [← h]
  exact congrArg (fun x : WctSt => { m.wr F.WCT_SWDT_REMAIN_US us with wct := x }) hsame

/-- Settles O41: an entry or exit stores one core; a restart is followed step by step, and a failure leaves what it showed. -/
theorem worldsAndTheSecureWatchdog : Obligations.WorldsAndTheSecureWatchdog := by
  unfold Obligations.WorldsAndTheSecureWatchdog
  refine ⟨?ecall, ?interrupt, ?exits, ?stays, ?kick, ?restarts, ?digest, ?fourth, ?ready, ?clear, fun _ _ _ _ => rfl,
    fun _ _ _ => rfl, fun _ _ _ => rfl, fun s a v ⟨hadm, hworld⟩ => exec_secReady v hadm hworld⟩
  case ecall =>
    intro s core cause ctx hworld hup hcause
    have hcore := s.m.coreBecomes_enterWorld core.val ctx true
    exact ⟨_, congrArg s.to (Module.worldEntry_ecall ctx hworld hup hcause), hcore.same, fun k _ hk => hcore.other hk,
      hcore.frame, hcore.regs⟩
  case interrupt =>
    intro s core ctx hworld hup
    have hcleared := s.m.coreBecomes_setCore core.val { s.m.core core.val with irqPend := false }
    have hentered := Module.coreBecomes_enterWorld (s.m.setCore core.val { s.m.core core.val with irqPend := false })
      core.val ctx false
    rw [hcleared.same] at hentered
    have hcore := hcleared.trans hentered
    exact ⟨_, congrArg s.to (Module.worldEntry_mInterrupt ctx hworld hup), hcore.same, fun k _ hk => hcore.other hk,
      hcore.frame, hcore.regs⟩
  case exits =>
    intro s core ctx hmode
    have hcore := s.m.coreBecomes_setCore core.val { s.m.core core.val with ctx := ctx, secure := false, frame := none }
    exact ⟨_, congrArg s.to (Module.worldExit_released core.val hmode), hcore.same, fun k _ hk => hcore.other hk,
      hcore.regs, hcore.frame⟩
  case stays =>
    intro s core ctx hmode
    exact congrArg s.to (Module.worldExit_kept core.val hmode)
  case kick =>
    rintro s a v hadm ⟨hworld, hkey, hrun⟩
    have hword : bits v.toNat 15 0 = 0x5EC1 := by rw [bits, Nat.pow_zero, Nat.div_one]; exact hkey
    have hrunning : s.m.ok.wct.swdtRun = true := hrun
    rw [exec_swdtKick hadm hworld, hword, hrunning, beq_self_eq_true, Bool.and_self, Module.when_true,
      Module.swdtStart_running 10000 hrunning]
  case restarts =>
    rintro s svc ⟨hrun, hcount, hout⟩
    obtain ⟨d0, hexpires⟩ := Module.swdtExpire_restarts true svc hrun hcount hout
    obtain ⟨hstate, hrestarts, hexpired, htotal⟩ := Module.rd_restarted d0 svc hcount
    obtain ⟨hremain, hruns⟩ := Module.secRestart_watchdog _ svc
    obtain ⟨hservice, hothers⟩ := Module.secure_restarted d0 svc hcount
    exact ⟨_, congrArg s.to hexpires, hstate, hrestarts, hexpired, hremain, hruns, htotal,
      fun b hb => Module.rd_hold_secRestart _ svc (List.mem_range.1 hb), hservice, fun k hk => hothers k (List.mem_range.1 hk)⟩
  case digest =>
    rintro s svc ⟨hrun, hcount, hout⟩
    obtain ⟨d0, hexpires⟩ := Module.swdtExpire_restarts false svc hrun hcount hout
    obtain ⟨-, -, hexpired, -⟩ := Module.rd_restarted d0 svc hcount
    obtain ⟨hstate, hfailed⟩ := (s.m.restarted d0 svc).rd_secFailed_shown 1
    refine ⟨_, congrArg s.to hexpires, hstate, hfailed, ?_, Module.swdtRun_secFailed _ 1, fun b hb => ?_⟩
    · exact ((s.m.restarted d0 svc).rd_secFailed_other 1 (by decide) (by decide)).trans hexpired
    · exact ((s.m.restarted d0 svc).rd_secFailed_other 1 (Module.wctKey_above b (by decide))
        (Module.holdKey_notMem b (by decide))).trans (Module.rd_hold_secRestart _ svc (List.mem_range.1 hb))
  case fourth =>
    rintro s d svc ⟨hrun, hcount, hout⟩
    obtain ⟨-, hregs⟩ := (s.m.slotsBack.secFailed 0).unwindAll_frame
    obtain ⟨hstate, hfailed⟩ := s.m.slotsBack.rd_secFailed_shown 0
    refine ⟨_, congrArg s.to (Module.swdtExpire_fails d svc hrun hcount hout), (hregs _ 0 0 0 (by decide)).trans hstate,
      (hregs _ 0 0 0 (by decide)).trans hfailed, ?_, fun k hk hcaptured => ?_⟩
    · exact (Module.swdtRun_unwindAll _).trans (Module.swdtRun_secFailed _ 0)
    · refine Module.secure_unwindAll _ k (List.mem_range.1 hk) ?_
      rw [Module.captured_secFailed, Module.captured_slotsBack]
      exact hcaptured
  case ready =>
    rintro s a v hadm ⟨hworld, hkey, hready⟩ hstate
    obtain ⟨hshown, hevent, hremain, -⟩ := s.m.ok.rd_readyShown
    have hcore := s.m.ok.readyShown.coreBecomes_unwind (s.m.rd F.WCT_CFG_SVC_CORE) true
    refine ⟨_, (exec_secReady v hadm hworld).trans (congrArg s.to (Module.secReady_taken hkey hready hstate)),
      (hcore.regs _ 0 0 0 (by decide)).trans hshown, (hcore.regs _ 0 0 0 (by decide)).trans hevent,
      (hcore.regs _ 0 0 0 (by decide)).trans hremain, hcore.same.trans ?_, fun k _ hk => hcore.other hk, hcore.frame, ?_⟩
    · show (s.m.core (s.m.rd F.WCT_CFG_SVC_CORE)).resumed true = _
      cases hframe : (s.m.core (s.m.rd F.WCT_CFG_SVC_CORE)).frame with
      | none => exact CoreSt.resumed_of_none true hframe
      | some f => exact CoreSt.resumed_plain hframe
    · exact Module.regsBut_trans (Module.regsBut_mono (by decide) s.m.ok.regsBut_readyShown)
        (Module.regsBut_mono (by decide) hcore.regs)
  case clear =>
    rintro s ⟨hstate, hlong⟩
    refine congrArg s.to (?_ : s.m.when _ _ = _)
    have hdue : s.m.wct.readyAt + 60000000 ≤ s.m.boot.us := hlong
    rw [hstate, beq_self_eq_true, Bool.true_and, decide_eq_true hdue, Module.when_true, Module.lower_eq]

end Sys2Proof.Machine
end

section
/-!
SUPPORT. The world map, the VMID entries, the secure holds and the end of a deferral (R409, R411, R414, R416, R419, R420).
-/
namespace Sys2Proof.Machine
namespace Module

/-! ### The world map -/

/-- The worlds and gates of the 22 blocks from a WORLD_MAP record of the words `w` (R409, R411). -/
def blocksMapped (m : Module) (w : List Nat) : Module :=
  forEach (List.range 22) (fun b m => (m.wr F.WCT_BLK_WORLD (effWorld b (w.getD (2 + b) 0)) b).wr F.WCT_BLK_GATE
    (effGate b (w.getD (2 + b) 0)) b) m

/-- The worlds of the interrupt sources from it. -/
def interruptsMapped (m : Module) (w : List Nat) : Module :=
  forEach (List.range 16) (fun k m => m.wr F.WCT_IRQ_WORLD_SECURE (w.getD (24 + k) 0) k) m

/-- The worlds of the instances from it. -/
def instancesMapped (m : Module) (w : List Nat) : Module :=
  forEach (List.range 4) (fun k m => m.wr F.WCT_INST_WORLD_SECURE (w.getD (40 + k) 0) k) m

theorem worldMapApply_eq (m : Module) (w : List Nat) :
    ∃ v, m.worldMapApply w = ((({ m with regs := v } : Module).blocksMapped w).interruptsMapped w).instancesMapped w :=
  ⟨_, rfl⟩

theorem effWorld_lt (b w : Nat) : effWorld b w < 2 ^ F.WCT_BLK_WORLD.width := by
  unfold effWorld
  split_ifs
  · decide
  · decide
  · exact Nat.mod_lt _ (by decide)

theorem effGate_lt (b w : Nat) : effGate b w < 2 ^ F.WCT_BLK_GATE.width := by
  unfold effGate
  split_ifs
  · decide
  · decide
  · exact Nat.mod_lt _ (by decide)

theorem rd_blocksMapped (m : Module) (w : List Nat) : ∀ b < 22,
    (m.blocksMapped w).rd F.WCT_BLK_WORLD b = effWorld b (w.getD (2 + b) 0)
      ∧ (m.blocksMapped w).rd F.WCT_BLK_GATE b = effGate b (w.getD (2 + b) 0) := by
  refine forEach_range_each (P := fun b t => t.rd F.WCT_BLK_WORLD b = effWorld b (w.getD (2 + b) 0)
    ∧ t.rd F.WCT_BLK_GATE b = effGate b (w.getD (2 + b) 0)) _ (fun b t => ⟨?_, ?_⟩) (fun i j t hj ht => ?_) 22 m
  · rw [rd_wr_lo _ _ _ _ _ _ _ _ (by decide), rd_wr_same, Nat.mod_eq_of_lt (effWorld_lt b _)]
  · rw [rd_wr_same, Nat.mod_eq_of_lt (effGate_lt b _)]
  · obtain ⟨hworld, hgate⟩ := ht
    have hkey : ∀ f g : Fam, f.base = g.base ∧ f.d1.1 = 4 ∧ g.d1.1 = 4 ∧ f.lo < 64 ∧ g.lo < 64 →
        f.key j 0 0 ≠ g.key i 0 0 := by
      rintro f g ⟨hbase, hf, hg, hflo, hglo⟩
      simp only [Fam.key, Fam.addr, hbase, hf, hg]
      omega
    rw [rd_wr_other _ _ _ _ _ _ _ _ _ _ (hkey _ _ (by decide)), rd_wr_other _ _ _ _ _ _ _ _ _ _ (hkey _ _ (by decide)),
      rd_wr_other _ _ _ _ _ _ _ _ _ _ (hkey _ _ (by decide)), rd_wr_other _ _ _ _ _ _ _ _ _ _ (hkey _ _ (by decide))]
    exact ⟨hworld, hgate⟩

/-- The words of the interrupts and of the instances stand above those of the blocks. -/
theorem rd_mapped_below (m : Module) (w : List Nat) {f : Fam} {i : Nat} (h : f.key i 0 0 < 0x21000400 * 64) :
    ((m.interruptsMapped w).instancesMapped w).rd f i = m.rd f i := by
  refine forEach_keeps (P := fun t : Module => t.rd f i = m.rd f i) _ _ (fun k t ht => ?_) _ ?_
  · refine (rd_wr_other t _ f _ k 0 0 i 0 0 ?_).trans ht
    simp only [F.WCT_INST_WORLD_SECURE, fam, Fam.key, Fam.addr] at h ⊢
    omega
  · refine forEach_keeps (P := fun t : Module => t.rd f i = m.rd f i) _ _ (fun k t ht => ?_) _ rfl
    refine (rd_wr_other t _ f _ k 0 0 i 0 0 ?_).trans ht
    simp only [F.WCT_IRQ_WORLD_SECURE, fam, Fam.key, Fam.addr] at h ⊢
    omega

theorem rd_instancesMapped (m : Module) (w : List Nat) : ∀ k < 4,
    (m.instancesMapped w).rd F.WCT_INST_WORLD_SECURE k = w.getD (40 + k) 0 % 2 ^ 32 := by
  refine forEach_range_each (P := fun k t => t.rd F.WCT_INST_WORLD_SECURE k = w.getD (40 + k) 0 % 2 ^ 32) _
    (fun k t => rd_wr_same t _ _ k 0 0) (fun i j t hj ht => ?_) 4 m
  refine (rd_wr_other t _ _ _ i 0 0 j 0 0 ?_).trans ht
  simp only [Fam.key, Fam.addr, F.WCT_INST_WORLD_SECURE, fam]
  omega

/-- R409, R411: the blocks and the instances after the record is taken. -/
theorem rd_worldMapApply (m : Module) (w : List Nat) :
    (∀ b < 22, (m.worldMapApply w).rd F.WCT_BLK_WORLD b = effWorld b (w.getD (2 + b) 0)
        ∧ (m.worldMapApply w).rd F.WCT_BLK_GATE b = effGate b (w.getD (2 + b) 0))
      ∧ ∀ k < 4, (m.worldMapApply w).rd F.WCT_INST_WORLD_SECURE k = w.getD (40 + k) 0 % 2 ^ 32 := by
  obtain ⟨v, happly⟩ := m.worldMapApply_eq w
  rw [happly]
  refine ⟨fun b hb => ?_, fun k hk => rd_instancesMapped _ w k hk⟩
  have hbelow : F.WCT_BLK_WORLD.key b 0 0 < 0x21000400 * 64 ∧ F.WCT_BLK_GATE.key b 0 0 < 0x21000400 * 64 := by
    simp only [Fam.key, Fam.addr, F.WCT_BLK_WORLD, F.WCT_BLK_GATE, fam]
    omega
  rw [rd_mapped_below _ w hbelow.1, rd_mapped_below _ w hbelow.2]
  exact rd_blocksMapped _ w b hb

/-- A loop whose rounds change registers alone changes registers alone. -/
theorem forEach_regs {l : List Nat} {f : Nat → Module → Module} (hf : ∀ i (t : Module), ∃ v, f i t = { t with regs := v })
    (m : Module) : ∃ v, forEach l f m = { m with regs := v } := by
  refine forEach_keeps (P := fun t : Module => ∃ v, t = { m with regs := v }) l f ?_ m ⟨m.regs, rfl⟩
  rintro i t ⟨v, rfl⟩
  obtain ⟨v', hround⟩ := hf i { m with regs := v }
  exact ⟨v', hround⟩

/-- A record changes registers alone. -/
theorem worldMapApply_frame (m : Module) (w : List Nat) : ∃ v, m.worldMapApply w = { m with regs := v } := by
  obtain ⟨v, happly⟩ := m.worldMapApply_eq w
  obtain ⟨v1, hblocks⟩ : ∃ v1, ({ m with regs := v } : Module).blocksMapped w = { m with regs := v1 } :=
    forEach_regs (fun _ _ => ⟨_, rfl⟩) _
  obtain ⟨v2, hinterrupts⟩ : ∃ v2, ({ m with regs := v1 } : Module).interruptsMapped w = { m with regs := v2 } :=
    forEach_regs (fun _ _ => ⟨_, rfl⟩) _
  rw [happly, hblocks, hinterrupts]
  exact forEach_regs (fun _ _ => ⟨_, rfl⟩) { m with regs := v2 }

/-- A record with no reserved bit set is taken, any other refused (R409, R416). -/
def mapJudged (m : Module) (w : List Nat) : Module :=
  if worldMapOk w then (m.worldMapApply w).wr F.WCT_MAP_STAT_STATUS 0 else m.wr F.WCT_MAP_STAT_STATUS 0x10

theorem rd_mapJudged_status (m : Module) (w : List Nat) :
    (m.mapJudged w).rd F.WCT_MAP_STAT_STATUS = if worldMapOk w then 0 else 0x10 := by
  unfold mapJudged
  split
  · exact rd_wr_same _ F.WCT_MAP_STAT_STATUS 0 0 0 0
  · exact rd_wr_same _ F.WCT_MAP_STAT_STATUS 0x10 0 0 0

/-- R409, R411: the blocks and the instances after a record that is taken. -/
theorem rd_mapJudged_good (m : Module) {w : List Nat} (hok : worldMapOk w = true) :
    (∀ b < 22, (m.mapJudged w).rd F.WCT_BLK_WORLD b = effWorld b (w.getD (2 + b) 0)
        ∧ (m.mapJudged w).rd F.WCT_BLK_GATE b = effGate b (w.getD (2 + b) 0))
      ∧ ∀ k < 4, (m.mapJudged w).rd F.WCT_INST_WORLD_SECURE k = w.getD (40 + k) 0 % 2 ^ 32 := by
  have hmap : ∀ (f : Fam) (i : Nat), 0x21000100 ≤ f.base → (m.mapJudged w).rd f i = (m.worldMapApply w).rd f i := by
    intro f i hbase
    rw [mapJudged, if_pos hok]
    refine rd_wr_other _ _ f 0 0 0 0 i 0 0 ?_
    simp only [Fam.key, Fam.addr, F.WCT_MAP_STAT_STATUS, fam]
    omega
  obtain ⟨hblocks, hinstances⟩ := m.rd_worldMapApply w
  refine ⟨fun b hb => ?_, fun k hk => ?_⟩
  · rw [hmap _ b (by decide), hmap _ b (by decide)]
    exact hblocks b hb
  · rw [hmap _ k (by decide)]
    exact hinstances k hk

theorem mapJudged_frame (m : Module) (w : List Nat) : m.mapJudged w = { m with regs := (m.mapJudged w).regs } := by
  obtain ⟨v, happly⟩ := m.worldMapApply_frame w
  unfold mapJudged
  rw [happly]
  split <;> rfl

/-- R416: before WORLD_LOCK the record at WCT_MAP_SRC, in clean SRAM, is read and judged. -/
theorem mapLoad_unlocked {m : Module} {a : Access} {v src : Nat} (hload : bit v 0 = true)
    (hopen : m.flag F.WCT_LOCK_WORLD_LOCK = false) (hsrc : m.rd F.WCT_MAP_SRC_ADDR = src) (hclean : m.mem.clean)
    (hlow : 0x10000000 ≤ src) (hhigh : src + 176 ≤ 0x11000000) (hf : m.fabricDeny a src 176 0 = none) :
    m.ok.mapLoad a v = m.ok.mapJudged (words (m.mem.bytes src 176)) := by
  have hmem : memOf src = some 0 := if_pos ⟨hlow, by omega⟩
  have hadmitted : m.ok.fabricDeny a src 176 0 = none := hf
  have hread : m.ok.busRead a src 176 = (m.ok, some (m.mem.bytes src 176)) := by
    simp only [busRead, hadmitted, hmem]
    exact memRead_clean (m := m.ok) hclean a 0 src 176 0
  have hunlocked : m.ok.flag F.WCT_LOCK_WORLD_LOCK = false := hopen
  simp only [mapLoad, hunlocked, hload, rd_ok, hsrc, hread, Bool.false_eq_true, if_false, Bool.not_true]
  rfl

/-- R416: after WORLD_LOCK the write is refused, and the map stays. -/
theorem mapLoad_locked {m : Module} {a : Access} {v : Nat} (hlocked : m.flag F.WCT_LOCK_WORLD_LOCK = true) :
    m.mapLoad a v = m.mapLocked a 0x21000038 := if_pos hlocked

theorem aboveFab_mapLocked (m : Module) (a : Access) (addr : Nat) : AboveFab m (m.mapLocked a addr) :=
  aboveFab_trans (n := { m with resp := { status := 2 } }) (aboveFab_set rfl) (aboveFab_log _ _)

theorem resp_mapLocked (m : Module) (a : Access) (addr : Nat) : (m.mapLocked a addr).resp = { status := 2 } := by
  show (m.mapLocked a addr).logless.resp = _
  rw [mapLocked, logless_log]
  rfl

/-! ### VMID entries -/

/-- Entry `e` of WCT_VMID takes its fields (R414). -/
def vmidStored (m : Module) (e vmid part valid : Nat) : Module :=
  ((m.wr F.WCT_VMID_VMID vmid e).wr F.WCT_VMID_PART part e).wr F.WCT_VMID_VALID valid e

theorem rd_vmidStored (m : Module) (e : Nat) {vmid part valid : Nat} (hvmid : vmid < 2 ^ 14) (hpart : part < 2 ^ 4)
    (hvalid : valid < 2) :
    (m.vmidStored e vmid part valid).rd F.WCT_VMID_VMID e = vmid ∧ (m.vmidStored e vmid part valid).rd F.WCT_VMID_PART e = part
      ∧ (m.vmidStored e vmid part valid).rd F.WCT_VMID_VALID e = valid := by
  simp (disch := decide) only [vmidStored, rd_wr_place, rd_wr_same]
  exact ⟨Nat.mod_eq_of_lt hvmid, Nat.mod_eq_of_lt hpart, Nat.mod_eq_of_lt hvalid⟩

theorem onlyRegs_vmidStored (m : Module) (e vmid part valid : Nat) :
    onlyRegs [F.WCT_VMID_VMID.key e 0 0, F.WCT_VMID_PART.key e 0 0, F.WCT_VMID_VALID.key e 0 0] m
      (m.ok.vmidStored e vmid part valid) :=
  ⟨rfl, regsBut_wr _ (by simp) (regsBut_wr _ (by simp) (regsBut_wr _ (by simp) (regsBut_set rfl (regsBut_refl _ m))))⟩

/-- The fields of a write of WCT_VMID (R414). -/
theorem vmidFields (v : Nat) :
    bits v 13 0 = v % 2 ^ 14 ∧ bits v 19 16 = v / 2 ^ 16 % 16 ∧ bits v 31 31 = if v.testBit 31 then 1 else 0 := by
  refine ⟨by rw [bits, Nat.pow_zero, Nat.div_one], rfl, ?_⟩
  rw [Nat.testBit_eq_decide_div_mod_eq, bits]
  simp only [decide_eq_true_eq]
  split <;> omega

/-- R414: a VMID that no other entry holds, for a partition of the application cores, is stored. -/
theorem vmidWrite_valid {m : Module} {a : Access} {e v : Nat} (hvalid : v.testBit 31 = true)
    (hpart : (m.rd F.WCT_CFG_AC_PARTS).testBit (v / 2 ^ 16 % 16) = true) (hfree : m.vmidHolder e (v % 2 ^ 14) = none) :
    m.vmidWrite a e v = m.vmidStored e (v % 2 ^ 14) (v / 2 ^ 16 % 16) 1 := by
  obtain ⟨hvmid, hfield, hbit⟩ := vmidFields v
  simp only [vmidWrite, hvmid, hfield, hbit, bit_eq_testBit, hvalid, hpart, hfree, Bool.not_true, Bool.and_false,
    Bool.false_eq_true, if_false, if_true]
  rfl

/-- R414: an entry that is made invalid is stored whatever it holds. -/
theorem vmidWrite_invalid {m : Module} {a : Access} {e v : Nat} (hvalid : v.testBit 31 = false) :
    m.vmidWrite a e v = m.vmidStored e (v % 2 ^ 14) (v / 2 ^ 16 % 16) 0 := by
  obtain ⟨hvmid, hfield, hbit⟩ := vmidFields v
  simp only [vmidWrite, hvmid, hfield, hbit, bit_eq_testBit, hvalid, Bool.false_and, Bool.false_eq_true, if_false]
  rfl

/-! ### Secure holds -/

/-- The fields of a write of WCT_HOLD_CTRL (R419). -/
theorem holdFields {v b op : Nat} (hb : b < 256) (h : v % 2 ^ 10 = b + 256 * op) :
    bits v 7 0 = b ∧ bits v 9 8 = op := by
  simp only [bits]
  omega

/-- A SHARED block is one of the 22. -/
theorem lt_of_gateOf {m : Module} {b : Nat} (h : m.gateOf b = 2) : b < 22 := by
  by_contra hb
  have hcore : coreDomain b = true := by simp [coreDomain, Nat.not_lt.1 hb]
  simp [gateOf, hcore] at h

/-- The count of holds of block `b` becomes `n`, with status OK (R419). -/
def holdSet (m : Module) (b n : Nat) : Module := (m.wr F.WCT_HOLD_COUNT n b).wr F.WCT_HOLD_STAT_STATUS 0

theorem holdKey_ne_status {b : Nat} (hb : b < 22) :
    F.WCT_HOLD_COUNT.key b 0 0 ≠ F.WCT_HOLD_STAT_STATUS.key 0 0 0 := by
  simp only [Fam.key, Fam.addr, F.WCT_HOLD_COUNT, F.WCT_HOLD_STAT_STATUS, fam]
  omega

theorem rd_holdSet (m : Module) {b n : Nat} (hb : b < 22) (hn : n < 256) :
    (m.holdSet b n).rd F.WCT_HOLD_COUNT b = n ∧ (m.holdSet b n).rd F.WCT_HOLD_STAT_STATUS = 0 := by
  rw [holdSet, rd_wr_other _ _ _ _ _ _ _ _ _ _ (holdKey_ne_status hb), rd_wr_same, rd_wr_same]
  exact ⟨Nat.mod_eq_of_lt hn, rfl⟩

theorem rd_deferBlock_holdSet (m : Module) {b : Nat} (hb : b < 22) (n : Nat) :
    (m.holdSet b n).rd F.WCT_DEFER_BLOCK = m.rd F.WCT_DEFER_BLOCK := by
  rw [holdSet, rd_wr_other _ _ _ _ _ _ _ _ _ _ (by decide)]
  refine rd_wr_other _ _ _ _ _ _ _ _ _ _ ?_
  simp only [Fam.key, Fam.addr, F.WCT_HOLD_COUNT, F.WCT_DEFER_BLOCK, fam]
  omega

theorem onlyRegs_holdSet (m : Module) (b n : Nat) :
    onlyRegs [F.WCT_HOLD_COUNT.key b 0 0, F.WCT_HOLD_STAT_STATUS.key 0 0 0] m (m.ok.holdSet b n) :=
  ⟨rfl, regsBut_wr _ (by simp) (regsBut_wr _ (by simp) (regsBut_set rfl (regsBut_refl _ m)))⟩

/-- R419: INC of a SHARED block that no gate-off of world 0 drains. -/
theorem holdControl_inc {m : Module} {v b : Nat} (hword : v % 2 ^ 10 = b + 256) (hb : b < 256) (hgate : m.gateOf b = 2)
    (hdrain : m.normalDrains b = false) (hcount : m.rd F.WCT_HOLD_COUNT b < 255) :
    m.holdControl v = m.holdSet b (m.rd F.WCT_HOLD_COUNT b + 1) := by
  obtain ⟨hblock, hop⟩ := holdFields (op := 1) hb hword
  have hroom : (m.rd F.WCT_HOLD_COUNT b == 255) = false := beq_eq_false_iff_ne.2 (Nat.ne_of_lt hcount)
  simp [holdControl, hblock, hop, hgate, hdrain, hroom, holdSet]

/-- R419, R420: DEC of a SHARED block that is held. -/
theorem holdControl_dec {m : Module} {v b : Nat} (hword : v % 2 ^ 10 = b + 512) (hb : b < 256) (hgate : m.gateOf b = 2)
    (hcount : 1 ≤ m.rd F.WCT_HOLD_COUNT b) :
    m.holdControl v = (m.holdSet b (m.rd F.WCT_HOLD_COUNT b - 1)).deferLeave := by
  obtain ⟨hblock, hop⟩ := holdFields (op := 2) hb hword
  have hheld : m.rd F.WCT_HOLD_COUNT b ≠ 0 := by omega
  simp [holdControl, hblock, hop, hgate, hheld, holdSet]

/-- R420: a deferral whose block is still held stays. -/
theorem deferLeave_held {m : Module} (h : m.rd F.WCT_HOLD_COUNT (m.rd F.WCT_DEFER_BLOCK) ≠ 0) : m.deferLeave = m := by
  simp [deferLeave, h]

/-! ### The end of a deferral -/

/-- R420: a deferral that is cancelled. -/
def deferCancelled (m : Module) : Module := m.deferEnd.gateDone false (m.rd F.WCT_DEFER_BLOCK) 0x0A

theorem rd_deferCancelled (m : Module) :
    m.deferCancelled.rd F.WCT_DEFER_PEND = 0 ∧ m.deferCancelled.rd F.WCT_EVT_DEFER_END = 1
      ∧ m.deferCancelled.rd F.SYSCTL_GATE_STAT_N_STATUS = 0x0A ∧ m.deferCancelled.rd F.SYSCTL_GATE_STAT_N_PEND = 0 := by
  have hgate := regsBut_gateDone m.deferEnd false (m.rd F.WCT_DEFER_BLOCK) 0x0A
  refine ⟨(hgate _ 0 0 0 (by decide)).trans ?_, (hgate _ 0 0 0 (by decide)).trans ?_,
    rd_gateDone_status m.deferEnd false _ (by decide), rd_gateDone_pend m.deferEnd false _ _⟩
  · exact (rd_wr_other _ _ _ 1 0 0 0 0 0 0 (by decide)).trans (rd_wr_same m F.WCT_DEFER_PEND 0 0 0 0)
  · exact rd_wr_same _ F.WCT_EVT_DEFER_END 1 0 0 0

end Module

/-! ### The commands -/

theorem exec_mapLoad {s : State} {a : Access} (v : Word) (hadm : s.admitsWrite a 0x21000038) (hworld : a.world = true) :
    exec (.mapLoad a v) s = s.to (s.m.ok.mapLoad a v.toNat) :=
  State.runBy_secureWrite (fun a m => m.mapLoad a v.toNat) hadm hworld

theorem exec_worldLockSet {s : State} {a : Access} (v : Word) (hadm : s.admitsWrite a 0x21000000) (hworld : a.world = true) :
    exec (.worldLockSet a v) s = s.to (s.m.ok.when (bit v.toNat 0) (·.raise F.WCT_LOCK_WORLD_LOCK)) :=
  State.runBy_secureWrite (fun _ m => m.when (bit v.toNat 0) (·.raise F.WCT_LOCK_WORLD_LOCK)) hadm hworld

theorem exec_vmidWrite {s : State} {a : Access} {e : Fin 32} (v : Word) (hadm : s.admitsWrite a (0x21000600 + 4 * e.val)) :
    exec (.vmidWrite a e v) s = s.to (s.m.ok.vmidWrite a e.val v.toNat) :=
  State.runBy_admittedWrite (fun a m => m.vmidWrite a e.val v.toNat) hadm

theorem exec_holdInc {s : State} {a : Access} (v : Word) (hadm : s.admitsWrite a 0x21000300) (hworld : a.world = true) :
    exec (.holdInc a v) s = s.to (s.m.ok.holdControl v.toNat) :=
  State.runBy_secureWrite (fun _ m => m.holdControl v.toNat) hadm hworld

theorem exec_holdDec {s : State} {a : Access} (v : Word) (hadm : s.admitsWrite a 0x21000300) (hworld : a.world = true) :
    exec (.holdDec a v) s = s.to (s.m.ok.holdControl v.toNat) :=
  State.runBy_secureWrite (fun _ m => m.holdControl v.toNat) hadm hworld

theorem exec_deferCancel {s : State} {a : Access} (v : Word) (hadm : s.admitsWrite a 0x21000314) :
    exec (.deferCancel a v) s
      = s.to (s.m.ok.when (bit v.toNat 0 && s.m.ok.flag F.WCT_DEFER_PEND) (·.deferCancelled)) :=
  State.runBy_admittedWrite (fun _ m => m.when (bit v.toNat 0 && m.flag F.WCT_DEFER_PEND) (·.deferCancelled)) hadm

/-- Settles O42: each write by the conditions that decide it, which the response of the access does not touch. -/
theorem worldMapAndHolds : Obligations.WorldMapAndHolds := by
  unfold Obligations.WorldMapAndHolds
  refine ⟨?load, ?locked, ?lock, ?valid, ?invalid, ?inc, ?stillHeld, ?dec, ?cancel,
    fun s a v ⟨hadm, hworld⟩ => exec_mapLoad v hadm hworld, fun s a e v hadm => exec_vmidWrite v hadm,
    fun s a v ⟨hadm, hworld⟩ => exec_holdInc v hadm hworld, fun s a v ⟨hadm, hworld⟩ => exec_holdDec v hadm hworld⟩
  case load =>
    rintro s a v src hadm ⟨hworld, hload, hopen⟩ ⟨hsrc, hclean, hlow, hhigh⟩ ⟨-, -, hf⟩
    have hjudged := Module.mapLoad_unlocked ((bit_eq_testBit _ _).trans hload) hopen hsrc hclean hlow hhigh hf
    exact ⟨_, (exec_mapLoad v hadm hworld).trans (congrArg s.to hjudged), Module.rd_mapJudged_status _ _,
      fun hok b hb => (s.m.ok.rd_mapJudged_good hok).1 b (List.mem_range.1 hb),
      fun hok k hk => (s.m.ok.rd_mapJudged_good hok).2 k (List.mem_range.1 hk), Module.mapJudged_frame s.m.ok _⟩
  case locked =>
    rintro s a v hadm ⟨hworld, hlocked⟩
    have hkept := s.m.ok.aboveFab_mapLocked a 0x21000038
    exact ⟨_, (exec_mapLoad v hadm hworld).trans (congrArg s.to (Module.mapLoad_locked hlocked)),
      congrArg Resp.status (s.m.ok.resp_mapLocked a _),
      fun b _ => ⟨hkept _ b 0 0 (Module.wctKey_above b (by decide)), hkept _ b 0 0 (Module.wctKey_above b (by decide))⟩,
      fun k _ => hkept _ k 0 0 (Module.wctKey_above k (by decide))⟩
  case lock =>
    rintro s a v hadm ⟨hworld, hbit⟩
    rw [exec_worldLockSet v hadm hworld, bit_eq_testBit, hbit, Module.when_true, Module.raise_eq]
  case valid =>
    rintro s a e v hadm ⟨hvalid, hpart⟩ hfree
    obtain ⟨hvmid, hshown, hset⟩ := s.m.ok.rd_vmidStored e.val (vmid := v.toNat % 2 ^ 14) (part := v.toNat / 2 ^ 16 % 16)
      (valid := 1) (Nat.mod_lt _ (by decide)) (Nat.mod_lt _ (by decide)) (by decide)
    exact ⟨_, (exec_vmidWrite v hadm).trans (congrArg s.to (Module.vmidWrite_valid (m := s.m.ok) hvalid hpart hfree)),
      hvmid, hshown, hset, rfl, s.m.onlyRegs_vmidStored e.val _ _ _⟩
  case invalid =>
    intro s a e v hadm hvalid
    obtain ⟨hvmid, hshown, hset⟩ := s.m.ok.rd_vmidStored e.val (vmid := v.toNat % 2 ^ 14) (part := v.toNat / 2 ^ 16 % 16)
      (valid := 0) (Nat.mod_lt _ (by decide)) (Nat.mod_lt _ (by decide)) (by decide)
    exact ⟨_, (exec_vmidWrite v hadm).trans (congrArg s.to (Module.vmidWrite_invalid (m := s.m.ok) hvalid)), hvmid, hshown,
      hset, rfl, s.m.onlyRegs_vmidStored e.val _ _ _⟩
  case inc =>
    rintro s a v b hadm ⟨hworld, hb, hword⟩ ⟨hgate, hdrain, hcount⟩
    obtain ⟨hshown, hstatus⟩ := s.m.ok.rd_holdSet (n := s.m.rd F.WCT_HOLD_COUNT b + 1) (Module.lt_of_gateOf hgate) (by omega)
    exact ⟨_, (exec_holdInc v hadm hworld).trans (congrArg s.to
      (Module.holdControl_inc (m := s.m.ok) hword hb hgate hdrain hcount)), hshown, hstatus, rfl, s.m.onlyRegs_holdSet b _⟩
  case stillHeld =>
    rintro s a v b hadm ⟨hworld, hb, hword⟩ ⟨hgate, hcount, hblock⟩
    have hfits : s.m.rd F.WCT_HOLD_COUNT b < 256 := s.m.rd_lt F.WCT_HOLD_COUNT b 0 0
    obtain ⟨hshown, hstatus⟩ := s.m.ok.rd_holdSet (n := s.m.rd F.WCT_HOLD_COUNT b - 1) (Module.lt_of_gateOf hgate) (by omega)
    have hstays : (s.m.ok.holdSet b (s.m.rd F.WCT_HOLD_COUNT b - 1)).deferLeave
        = s.m.ok.holdSet b (s.m.rd F.WCT_HOLD_COUNT b - 1) := by
      refine Module.deferLeave_held ?_
      rw [Module.rd_deferBlock_holdSet _ (Module.lt_of_gateOf hgate), Module.rd_ok, hblock, hshown]
      omega
    exact ⟨_, (exec_holdDec v hadm hworld).trans (congrArg s.to
      ((Module.holdControl_dec (m := s.m.ok) hword hb hgate hcount.le).trans hstays)), hshown, hstatus, rfl,
      s.m.onlyRegs_holdSet b _⟩
  case dec =>
    rintro s a v b hadm ⟨hworld, hb, hword⟩ ⟨hgate, hcount⟩
    exact (exec_holdDec v hadm hworld).trans (congrArg s.to (Module.holdControl_dec (m := s.m.ok) hword hb hgate hcount))
  case cancel =>
    rintro s a v hadm ⟨hbit, hpend⟩
    have hpending : s.m.ok.flag F.WCT_DEFER_PEND = true := hpend
    obtain ⟨hended, hevent, hstatus, hidle⟩ := s.m.ok.rd_deferCancelled
    refine ⟨s.m.ok.deferCancelled, ?_, hended, hevent, hstatus, hidle, Module.gateDone_frame _ _ _ _⟩
    rw [exec_deferCancel v hadm, bit_eq_testBit, hbit, hpending, Bool.and_self, Module.when_true]

end Sys2Proof.Machine
end

section
/-!
SUPPORT. The requests of IMG_CTRL (R440, R442, R448–R450, R453, R455, R458): a request that is taken, its end, and what each of
them makes of its page.
-/
namespace Sys2Proof.Machine
namespace Module

/-! ### A request that is taken, and its end -/

/-- A request for page `p` is shown as pending (R458). -/
def imgTaken (m : Module) (p : Nat) : Module := (m.ok.wr F.IMG_CTRL_STAT_PAGE p).raise F.IMG_CTRL_STAT_PEND

/-- A request that answers a status completes with it (R458). -/
def imgAnswer : Module × Option Nat → Module
  | (m, some st) => m.imgDone st
  | (m, none) => m

/-- The registers that every request writes stand below the other registers of IMG and the instances' pages. -/
theorem notMem_imgKeys {f : Fam} {i j k : Nat} (h : 0x20E00010 ≤ f.base) : f.key i j k ∉ imgKeys := by
  simp only [imgKeys, List.mem_cons, List.not_mem_nil, or_false, Fam.key, Fam.addr, F.IMG_CTRL_STAT_PAGE, F.IMG_CTRL_STAT_PEND,
    F.IMG_CTRL_STAT_STATUS, F.IMG_EVT_DONE, fam]
  omega

theorem regsBut_imgTaken (m : Module) (p : Nat) :
    regsBut [F.IMG_CTRL_STAT_PEND.key 0 0 0, F.IMG_CTRL_STAT_PAGE.key 0 0 0] m (m.imgTaken p) :=
  regsBut_wr _ (by simp) (regsBut_wr _ (by simp) (regsBut_set rfl (regsBut_refl _ m)))

theorem regsBut_imgDone (m : Module) (st : Nat) : regsBut imgKeys m (m.imgDone st) :=
  regsBut_wr _ (by decide) (regsBut_wr _ (by decide) (regsBut_wr _ (by decide) (regsBut_refl _ m)))

theorem rd_imgTaken_apart (m : Module) (p : Nat) {f : Fam} {i j k : Nat} (h : f.key i j k ∉ imgKeys) :
    (m.imgTaken p).rd f i j k = m.rd f i j k :=
  regsBut_mono (by decide) (m.regsBut_imgTaken p) f i j k h

theorem rd_imgTaken (m : Module) (p : Nat) {f : Fam} (i j k : Nat) (h : 0x20E00010 ≤ f.base) :
    (m.imgTaken p).rd f i j k = m.rd f i j k := m.rd_imgTaken_apart p (notMem_imgKeys h)

theorem rd_imgDone (m : Module) (st : Nat) {f : Fam} (i j k : Nat) (h : 0x20E00010 ≤ f.base) :
    (m.imgDone st).rd f i j k = m.rd f i j k := m.regsBut_imgDone st f i j k (notMem_imgKeys h)

@[simp] theorem rd_imgTaken_part (m : Module) (p : Nat) : (m.imgTaken p).rd F.IMG_ARG_PART = m.rd F.IMG_ARG_PART :=
  m.rd_imgTaken_apart p (by decide)

@[simp] theorem rd_imgTaken_share (m : Module) (p : Nat) : (m.imgTaken p).rd F.IMG_ARG_SHARE = m.rd F.IMG_ARG_SHARE :=
  m.rd_imgTaken_apart p (by decide)

@[simp] theorem rd_imgTaken_weight (m : Module) (p : Nat) : (m.imgTaken p).rd F.IMG_ARG_WEIGHT = m.rd F.IMG_ARG_WEIGHT :=
  m.rd_imgTaken_apart p (by decide)

theorem rd_imgTaken_pend (m : Module) (p : Nat) : (m.imgTaken p).rd F.IMG_CTRL_STAT_PEND = 1 := rd_wr_same _ _ 1 0 0 0

theorem rd_imgTaken_page (m : Module) {p : Nat} (hp : p < 112) : (m.imgTaken p).rd F.IMG_CTRL_STAT_PAGE = p := by
  rw [imgTaken, raise_eq, rd_wr_lo _ _ _ _ _ _ _ _ (by decide), rd_wr_same]
  exact Nat.mod_eq_of_lt (hp.trans (by decide))

theorem chi_imgDone (m : Module) (st i : Nat) : (m.imgDone st).chi i = m.chi i := rfl

/-- A request that changes registers and the command instances alone, and completes. -/
theorem imgDone_frame {m n : Module} {p : Nat} {r : Tbl Nat} {x : Tbl Chi}
    (h : n = { m.imgTaken p with regs := r, chc := { m.chc with insts := x } }) :
    n.resp = {} ∧ (n.imgDone 0).chc.chans = m.chc.chans
      ∧ n.imgDone 0 = { m.ok with regs := (n.imgDone 0).regs, chc := (n.imgDone 0).chc }
      ∧ n.imgDone 0 = { m.ok with regs := (n.imgDone 0).regs, chc := { m.chc with insts := (n.imgDone 0).chc.insts } } := by
  subst h
  exact ⟨rfl, rfl, rfl, rfl⟩

/-- A register of a page is written. -/
theorem rd_page_wr (m : Module) {f : Fam} (v i j k : Nat) (h : 0x20E00010 ≤ f.base) :
    (m.wr f v i j k).rd F.IMG_CTRL_STAT_PAGE = m.rd F.IMG_CTRL_STAT_PAGE :=
  rd_wr_other _ _ _ _ _ _ _ _ _ _ fun hkey => notMem_imgKeys (i := i) (j := j) (k := k) h (hkey ▸ by decide)

/-- R458: a request whose page stands in IMG_CTRL_STAT completes with OK. -/
theorem imgCompletes_imgDone {m : Module} {p : Nat} (hpage : m.rd F.IMG_CTRL_STAT_PAGE = p) (hresp : m.resp = {}) :
    (m.imgDone 0).imgCompletes 0 p := by
  refine ⟨?_, ?_, rd_wr_same _ _ 1 0 0 0, ?_, hresp⟩
  · exact (rd_wr_lo _ _ _ _ _ _ _ _ (by decide)).trans (rd_wr_same _ _ 0 0 0 0)
  · exact (rd_wr_other _ _ _ _ _ _ _ _ _ _ (by decide)).trans
      ((rd_wr_lo _ _ _ _ _ _ _ _ (by decide)).trans (rd_wr_same _ _ 0 0 0 0))
  · simp (disch := decide) only [imgDone, raise_eq, lower_eq, rd_wr_lo, hpage]

/-- A request that changes the registers at the keys of `L` alone, and completes. -/
theorem onlyRegs_imgDone {m n : Module} {L : List Nat} {p : Nat} (hframe : n = { m.imgTaken p with regs := n.regs })
    (h : regsBut L (m.imgTaken p) n) : onlyRegs (L ++ imgKeys) m (n.imgDone 0) := by
  refine ⟨?_, ?_⟩
  · show { n with regs := _ } = _
    rw [hframe]
    rfl
  · have htaken : regsBut (L ++ imgKeys) m (m.imgTaken p) :=
      regsBut_mono (List.subset_append_of_subset_right L (by decide)) (m.regsBut_imgTaken p)
    have hchanged : regsBut (L ++ imgKeys) (m.imgTaken p) n := regsBut_mono (List.subset_append_left L imgKeys) h
    exact regsBut_trans (regsBut_trans htaken hchanged)
      (regsBut_mono (List.subset_append_right L imgKeys) (n.regsBut_imgDone 0))

/-- R458: with its key and none pending, a write of IMG_CTRL is taken. -/
theorem imgControl_taken {m : Module} {a : Access} {v : Word} {op p : Nat} (hd : m.accessDeny a 0x20E00000 4 1 = none)
    (hkey : v.toNat / 2 ^ 16 = 0x494D ∧ v.toNat % 2 ^ 4 = op ∧ v.toNat / 2 ^ 4 % 2 ^ 7 = p)
    (hpend : m.flag F.IMG_CTRL_STAT_PEND = false) :
    m.imgControl a v.toNat = imgAnswer ((m.imgTaken p).imgOp op p) := by
  obtain ⟨hword, hop, hpage⟩ := hkey
  have hidle : m.ok.flag F.IMG_CTRL_STAT_PEND = false := hpend
  have hkeyBits : bits v.toNat 31 16 = 0x494D := (bits_31_16 v).trans hword
  have hopBits : bits v.toNat 3 0 = op := by rw [bits, Nat.pow_zero, Nat.div_one]; exact hop
  have hpageBits : bits v.toNat 10 4 = p := hpage
  rw [imgControl, access_admitted _ hd, if_neg (by simp [hkeyBits, hidle]), hopBits, hpageBits]
  show (match (m.imgTaken p).imgOp op p with | (n, st) => match st with | some st => n.imgDone st | none => n) = _
  cases h : (m.imgTaken p).imgOp op p with
  | mk n st => cases st <;> rfl

/-! ### What a request finds is not what its taking changes -/

@[simp] theorem pageWorld_imgTaken (m : Module) (p q : Nat) : (m.imgTaken p).pageWorld q = m.pageWorld q :=
  congrArg (bit · (q % 32)) (m.rd_imgTaken p (q / 32) 0 0 (by decide))

@[simp] theorem secPart_imgTaken (m : Module) (p : Nat) : (m.imgTaken p).rd F.WCT_CFG_SEC_PART = m.rd F.WCT_CFG_SEC_PART :=
  m.rd_imgTaken p 0 0 0 (by decide)

@[simp] theorem ownsSafety_imgTaken (m : Module) (p q : Nat) : (m.imgTaken p).ownsSafety q = m.ownsSafety q := rfl

@[simp] theorem quiescedPage_imgTaken (m : Module) (p q : Nat) : (m.imgTaken p).quiescedPage q = m.quiescedPage q :=
  congrArg (· != 0) (m.rd_imgTaken p q 0 0 (by decide))

theorem flag_imgTaken (m : Module) (p : Nat) {f : Fam} (i : Nat) (h : 0x20E00010 ≤ f.base) :
    (m.imgTaken p).flag f i = m.flag f i := congrArg (· != 0) (m.rd_imgTaken p i 0 0 h)

@[simp] theorem chi_imgTaken (m : Module) (p i : Nat) : (m.imgTaken p).chi i = m.chi i := rfl

@[simp] theorem wdtUs_imgTaken (m : Module) (p i : Nat) : (m.imgTaken p).wdtUs i = m.wdtUs i :=
  congrArg (· * 1000) (m.rd_imgTaken p i 0 0 (by decide))

@[simp] theorem instShare_imgTaken (m : Module) (p : Nat) : (m.imgTaken p).instShare = m.instShare :=
  funext fun q => m.rd_imgTaken p q 0 0 (by decide)

@[simp] theorem instOcc_imgTaken (m : Module) (p : Nat) : (m.imgTaken p).instOcc = m.instOcc := rfl

theorem chiPage_sub {p : Nat} (hp : 96 ≤ p) : chiPage (p - 96) = p := Nat.add_sub_cancel' hp

/-! ### ASSIGN and UNASSIGN -/

/-- Page `p` is assigned to the partition in IMG_ARG (R440). -/
def pageAssigned (m : Module) (p : Nat) : Module :=
  (m.raise F.IMG_INST_CFG_ASSIGNED p).wr F.IMG_INST_CFG_PART (m.rd F.IMG_ARG_PART) p

/-- R440, R449: a quiesced command page is assigned. -/
theorem imgAssign_control {m : Module} {p : Nat} (hp : 96 ≤ p)
    (hworld : m.pageWorld p = (m.rd F.IMG_ARG_PART == m.rd F.WCT_CFG_SEC_PART)) (hsafe : m.ownsSafety p = false)
    (hquiet : m.quiescedPage p = true) : m.imgAssign p = (m.pageAssigned p, some 0) := by
  simp only [imgAssign, hworld, hsafe, hquiet, hp, bne_self_eq_false, Bool.false_and, Bool.not_true, Bool.false_eq_true,
    and_false, if_false, if_true]
  rfl

/-- R440, R442: a data page is assigned with a reset. -/
theorem imgAssign_data {m : Module} {p : Nat} (hp : p < 96)
    (hworld : m.pageWorld p = (m.rd F.IMG_ARG_PART == m.rd F.WCT_CFG_SEC_PART)) :
    m.imgAssign p = ((m.pageAssigned p).instReset p true false, none) := by
  have hdata : ¬ 96 ≤ p := Nat.not_le.2 hp
  have hsafe : m.ownsSafety p = false := by rw [ownsSafety, decide_eq_false hdata, Bool.false_and]
  simp only [imgAssign, hworld, hsafe, hdata, bne_self_eq_false, Bool.false_and, Bool.false_eq_true, false_and, if_false]
  rfl

theorem rd_pageAssigned (m : Module) (p : Nat) :
    (m.pageAssigned p).rd F.IMG_INST_CFG_ASSIGNED p = 1
      ∧ (m.pageAssigned p).rd F.IMG_INST_CFG_PART p = m.rd F.IMG_ARG_PART % 2 ^ F.IMG_INST_CFG_PART.width
      ∧ (m.pageAssigned p).rd F.IMG_CTRL_STAT_PAGE = m.rd F.IMG_CTRL_STAT_PAGE := by
  simp (disch := decide) only [pageAssigned, raise_eq, rd_wr_lo, rd_wr_same]
  exact ⟨rfl, trivial, trivial⟩

/-- R440, R449: a quiesced command page is assigned to none. -/
theorem imgUnassign_control {m : Module} {p : Nat} (hp : 96 ≤ p) (hquiet : m.quiescedPage p = true) :
    m.imgUnassign p = (m.lower F.IMG_INST_CFG_ASSIGNED p, some 0) := by
  simp only [imgUnassign, hquiet, hp, Bool.not_true, Bool.false_eq_true, and_false, if_false, if_true]

/-- R440, R442: the assignment of a data page ends with a reset. -/
theorem imgUnassign_data {m : Module} {p : Nat} (hp : p < 96) :
    m.imgUnassign p = ((m.lower F.IMG_INST_CFG_ASSIGNED p).instReset p true false, none) := by
  simp only [imgUnassign, Nat.not_le.2 hp, false_and, if_false]

/-! ### RESET -/

/-- CHIi is reset, with the event and the count of its resets (R442, R449). -/
def controlReset (m : Module) (p : Nat) : Module :=
  ((m.chiReset (p - 96)).raise F.INST_EVT_RESET p).addW F.IMG_INST_STALE_RESETS 1 p

theorem imgResetPage_control {m : Module} {p : Nat} (hp : 96 ≤ p) (hquiet : m.quiescedPage p = true) :
    m.imgResetPage p = (m.controlReset p, some 0) := by
  simp only [imgResetPage, hquiet, hp, Bool.not_true, Bool.false_eq_true, if_false, if_true]
  rfl

theorem imgResetPage_data {m : Module} {p : Nat} (hp : p < 96) (hassigned : m.flag F.IMG_INST_CFG_ASSIGNED p = true) :
    m.imgResetPage p = (m.instReset p true false, none) := by
  simp only [imgResetPage, hassigned, Nat.not_le.2 hp, Bool.not_true, Bool.false_eq_true, if_false]

theorem showQuiesced_frame (m : Module) (i : Nat) : m.showQuiesced i = { m with regs := (m.showQuiesced i).regs } :=
  when_keeps (P := fun t => t = { m with regs := t.regs }) rfl rfl

/-- R303, R449: CHIi is left with no command and no completion. -/
theorem chi_chiReset (m : Module) (i : Nat) : ∃ us, (m.chiReset i).chi i = { leftUs := us } := by
  unfold chiReset
  extract_lets b n
  have hempty : (n.restoreCfg b (b + 0x700)).chi i = {} := (chi_setChi m i i {}).trans (if_pos rfl)
  have hshown : (((n.restoreCfg b (b + 0x700)).chiActive i).showQuiesced i).chi i
      = ((n.restoreCfg b (b + 0x700)).chiActive i).chi i := by rw [showQuiesced_frame]; rfl
  rw [hshown, chi_chiActive, if_pos rfl, hempty]
  exact ⟨_, rfl⟩

theorem chiReset_frame (m : Module) (i : Nat) :
    m.chiReset i = { m with regs := (m.chiReset i).regs, chc := { m.chc with insts := (m.chiReset i).chc.insts } } := by
  unfold chiReset
  extract_lets b n
  rw [showQuiesced_frame]
  rfl

/-- R449: the reset of CHIi leaves the registers below the command pages. -/
theorem rd_chiReset_below (m : Module) (n : Nat) {f : Fam} {i : Nat} (h : f.addr i 0 0 < 0x40060000 ∧ f.lo < 64) :
    (m.chiReset n).rd f i = m.rd f i := by
  obtain ⟨haddr, hlo⟩ := h
  have hbase : 0x40060000 ≤ pageBase (chiPage n) := by unfold pageBase chiPage; omega
  have hstate : f.key i 0 0 ≠ F.CHI_STATE_STATE.key n 0 0 := by
    simp only [Fam.key, Fam.addr, F.CHI_STATE_STATE, fam] at haddr ⊢
    omega
  unfold chiReset
  extract_lets b t
  have hrange : (t.restoreCfg b (b + 0x700)).rd f i = m.rd f i := by
    rw [rd_restoreCfg_outside t hlo (by omega), rd_clrRange _ _ _ _ _ _ _ hlo, if_neg (by omega), rd_clrRange _ _ _ _ _ _ _ hlo,
      if_neg (by omega)]
    rfl
  have hactive : ((t.restoreCfg b (b + 0x700)).chiActive n).rd f i = m.rd f i :=
    (rd_wr_other _ _ _ 0 _ _ _ _ _ _ hstate).trans hrange
  exact when_keeps (P := fun u => u.rd f i = m.rd f i) hactive ((rd_wr_other _ _ _ _ _ _ _ _ _ _ hstate).trans hactive)

theorem rd_controlReset (m : Module) {p : Nat} (hp : p < 112) :
    (m.controlReset p).rd F.IMG_INST_STALE_RESETS p = (m.rd F.IMG_INST_STALE_RESETS p + 1) % 2 ^ F.IMG_INST_STALE_RESETS.width
      ∧ (m.controlReset p).rd F.INST_EVT_RESET p = 1
      ∧ (m.controlReset p).rd F.IMG_CTRL_STAT_PAGE = m.rd F.IMG_CTRL_STAT_PAGE := by
  have hcount : (m.chiReset (p - 96)).rd F.IMG_INST_STALE_RESETS p = m.rd F.IMG_INST_STALE_RESETS p := by
    refine m.rd_chiReset_below _ ?_
    simp only [Fam.addr, F.IMG_INST_STALE_RESETS, fam]
    omega
  have hpage : (m.chiReset (p - 96)).rd F.IMG_CTRL_STAT_PAGE = m.rd F.IMG_CTRL_STAT_PAGE := m.rd_chiReset_below _ (by decide)
  unfold controlReset
  simp (disch := decide) only [addW_eq, raise_eq, rd_page_wr, rd_wr_same, rd_wr_lo, hcount, hpage]
  exact ⟨trivial, rfl, trivial⟩

theorem chi_controlReset (m : Module) (p : Nat) : ∃ us, (m.controlReset p).chi (p - 96) = { leftUs := us } := by
  simp only [controlReset, chi, addW_eq, raise_eq, wr_chc]
  exact m.chi_chiReset (p - 96)

theorem controlReset_frame (m : Module) (p : Nat) :
    ∃ r x, m.controlReset p = { m with regs := r, chc := { m.chc with insts := x } } := by
  unfold controlReset
  rw [chiReset_frame]
  exact ⟨_, _, rfl⟩

/-! ### QUIESCE and RESUME -/

/-- QUIESCE of page `p` stands in its registers and in CHI_STATE (R284, R448). -/
def quiesceShown (m : Module) (p : Nat) : Module :=
  ((m.raise F.IMG_INST_STAT_QUIESCE p).raise F.INST_EVT_QUIESCE p).wr F.CHI_STATE_STATE 2 (p - 96)

theorem rd_quiesceShown_lo (m : Module) (p : Nat) {f : Fam} (i j k : Nat) (h : f.lo ≠ 0 ∧ f.lo ≠ 2 ∧ f.lo ≠ 13 ∧ f.lo < 64) :
    (m.quiesceShown p).rd f i j k = m.rd f i j k := by
  obtain ⟨hstate, hevent, hquiesce, hlo⟩ := h
  rw [quiesceShown, raise_eq, raise_eq, rd_wr_lo _ _ _ _ _ _ _ _ ⟨hstate, hlo, by decide⟩,
    rd_wr_lo _ _ _ _ _ _ _ _ ⟨hevent, hlo, by decide⟩, rd_wr_lo _ _ _ _ _ _ _ _ ⟨hquiesce, hlo, by decide⟩]

theorem rd_quiesceShown (m : Module) (p : Nat) :
    (m.quiesceShown p).rd F.IMG_INST_STAT_QUIESCE p = 1 ∧ (m.quiesceShown p).rd F.INST_EVT_QUIESCE p = 1
      ∧ (m.quiesceShown p).rd F.CHI_STATE_STATE (p - 96) = 2 := by
  simp (disch := decide) only [quiesceShown, raise_eq, rd_wr_lo, rd_wr_same]
  decide

/-- A QUIESCE that is taken: its request stays shown as pending, and QUIESCE_DONE as it was. -/
theorem rd_quiesceShown_taken (m : Module) {p : Nat} (hp : p < 112) :
    ((m.imgTaken p).quiesceShown p).rd F.IMG_CTRL_STAT_PEND = 1 ∧ ((m.imgTaken p).quiesceShown p).rd F.IMG_CTRL_STAT_PAGE = p
      ∧ ((m.imgTaken p).quiesceShown p).rd F.IMG_INST_STAT_QUIESCE_DONE p = m.rd F.IMG_INST_STAT_QUIESCE_DONE p := by
  simp (disch := decide) only [rd_quiesceShown_lo, rd_imgTaken, rd_imgTaken_pend, m.rd_imgTaken_page hp]
  exact ⟨trivial, trivial, trivial⟩

theorem onlyRegs_quiesceShown (m : Module) (p : Nat) :
    onlyRegs [F.IMG_INST_STAT_QUIESCE.key p 0 0, F.CHI_STATE_STATE.key (p - 96) 0 0, F.INST_EVT_QUIESCE.key p 0 0,
      F.IMG_CTRL_STAT_PEND.key 0 0 0, F.IMG_CTRL_STAT_PAGE.key 0 0 0] m ((m.imgTaken p).quiesceShown p) :=
  ⟨rfl, regsBut_wr _ (by simp) (regsBut_wr _ (by simp) (regsBut_wr _ (by simp)
    (regsBut_mono (by simp) (m.regsBut_imgTaken p))))⟩

theorem rd_done_of_quiesced {m : Module} {p : Nat} (h : m.quiescedPage p = true) : m.rd F.IMG_INST_STAT_QUIESCE_DONE p = 1 := by
  have hbit : m.rd F.IMG_INST_STAT_QUIESCE_DONE p < 2 := m.rd_lt F.IMG_INST_STAT_QUIESCE_DONE p 0 0
  have hset : m.rd F.IMG_INST_STAT_QUIESCE_DONE p ≠ 0 := bne_iff_ne.1 h
  omega

/-- R448: QUIESCE of an assigned command page answers at once where the page is quiesced. -/
theorem imgQuiesce_assigned {m : Module} {p : Nat} (hp : 96 ≤ p) (hassigned : m.flag F.IMG_INST_CFG_ASSIGNED p = true) :
    m.imgQuiesce p
      = if m.quiescedPage p then (m.quiesceShown p, some 0) else ((m.quiesceShown p).quiesceDone (p - 96), none) := by
  have hquiesced : ((m.raise F.IMG_INST_STAT_QUIESCE p).raise F.INST_EVT_QUIESCE p).chiQuiesced (p - 96) = true := by
    rw [chiQuiesced, chiPage_sub hp, flag_eq, raise_eq, raise_eq, rd_wr_lo _ _ _ _ _ _ _ _ (by decide), rd_wr_same]
    rfl
  have hshown : ((m.raise F.IMG_INST_STAT_QUIESCE p).raise F.INST_EVT_QUIESCE p).showQuiesced (p - 96) = m.quiesceShown p := by
    rw [showQuiesced, hquiesced, when_true]
    rfl
  have hdone : (m.quiesceShown p).quiescedPage p = m.quiescedPage p :=
    congrArg (· != 0) (m.rd_quiesceShown_lo p p 0 0 (by decide))
  simp only [imgQuiesce, hassigned, Nat.not_lt.2 hp, hshown, hdone, Bool.not_true, Bool.false_eq_true, or_self, if_false]

/-- R448: a busy page is not yet quiesced. -/
theorem quiesceDone_busy {m : Module} {i : Nat} (h : m.chiOcc i ≠ 0) : m.quiesceDone i = m := by
  simp [quiesceDone, h]

/-- QUIESCE_DONE of page `p` becomes 1, and the request that waits for it completes (R448, R458). -/
def quiesceEnded (m : Module) (p : Nat) : Module :=
  ((((m.raise F.IMG_INST_STAT_QUIESCE_DONE p).raise F.IMG_EVT_QUIESCE_DONE).lower F.IMG_CTRL_STAT_PEND).wr F.IMG_CTRL_STAT_STATUS
    0).raise F.IMG_EVT_DONE

/-- R448, R458: an idle page is quiesced, and the request that is pending for it completes. -/
theorem quiesceDone_idle {m : Module} {p : Nat} (hp : 96 ≤ p) (hquiesce : m.rd F.IMG_INST_STAT_QUIESCE p = 1)
    (hidle : m.chiOcc (p - 96) = 0) (hdone : m.quiescedPage p = false)
    (hrequest : m.rd F.IMG_CTRL_STAT_PEND = 1 ∧ m.rd F.IMG_CTRL_STAT_PAGE = p) : m.quiesceDone (p - 96) = m.quiesceEnded p := by
  obtain ⟨hpend, hpage⟩ := hrequest
  have hdone' : m.flag F.IMG_INST_STAT_QUIESCE_DONE p = false := hdone
  unfold quiesceDone
  dsimp only
  rw [chiQuiesced, chiPage_sub hp, hidle, hdone', flag_eq, hquiesce]
  have hwaits : ((m.raise F.IMG_INST_STAT_QUIESCE_DONE p).raise F.IMG_EVT_QUIESCE_DONE).rd F.IMG_CTRL_STAT_PEND = 1
      ∧ ((m.raise F.IMG_INST_STAT_QUIESCE_DONE p).raise F.IMG_EVT_QUIESCE_DONE).rd F.IMG_CTRL_STAT_PAGE = p := by
    simp (disch := decide) only [raise_eq, rd_wr_lo, hpend, hpage]
    exact ⟨trivial, trivial⟩
  rw [if_pos (by decide), flag_eq, hwaits.1, hwaits.2, beq_self_eq_true]
  rfl

theorem rd_quiesceEnded_lo (m : Module) (p : Nat) {f : Fam} (i j k : Nat)
    (h : f.lo ≠ 0 ∧ f.lo ≠ 1 ∧ f.lo ≠ 8 ∧ f.lo ≠ 14 ∧ f.lo < 64) : (m.quiesceEnded p).rd f i j k = m.rd f i j k := by
  obtain ⟨hzero, hevent, hpend, hdone, hlo⟩ := h
  rw [quiesceEnded, raise_eq, lower_eq, raise_eq, raise_eq, rd_wr_lo _ _ _ _ _ _ _ _ ⟨hzero, hlo, by decide⟩,
    rd_wr_lo _ _ _ _ _ _ _ _ ⟨hzero, hlo, by decide⟩, rd_wr_lo _ _ _ _ _ _ _ _ ⟨hpend, hlo, by decide⟩,
    rd_wr_lo _ _ _ _ _ _ _ _ ⟨hevent, hlo, by decide⟩, rd_wr_lo _ _ _ _ _ _ _ _ ⟨hdone, hlo, by decide⟩]

/-- The state of CHIi stands in its page. -/
theorem rd_state_quiesceEnded (m : Module) (p i : Nat) :
    (m.quiesceEnded p).rd F.CHI_STATE_STATE i = m.rd F.CHI_STATE_STATE i := by
  have hkey : F.CHI_STATE_STATE.key i 0 0 ∉ imgKeys := notMem_imgKeys (by decide)
  simp only [imgKeys, List.mem_cons, List.not_mem_nil, or_false, not_or] at hkey
  obtain ⟨-, -, hstatus, hevent⟩ := hkey
  rw [quiesceEnded, raise_eq, rd_wr_other _ _ _ _ _ _ _ _ _ _ hevent, rd_wr_other _ _ _ _ _ _ _ _ _ _ hstatus]
  simp (disch := decide) only [lower_eq, raise_eq, rd_wr_lo]

theorem rd_done_quiesceEnded (m : Module) (p : Nat) : (m.quiesceEnded p).rd F.IMG_INST_STAT_QUIESCE_DONE p = 1 := by
  simp (disch := decide) only [quiesceEnded, lower_eq, raise_eq, rd_wr_lo, rd_wr_same]
  rfl

theorem imgCompletes_quiesceEnded {m : Module} {p : Nat} (hpage : m.rd F.IMG_CTRL_STAT_PAGE = p) (hresp : m.resp = {}) :
    (m.quiesceEnded p).imgCompletes 0 p := by
  refine ⟨?_, ?_, rd_wr_same _ _ 1 0 0 0, (m.rd_quiesceEnded_lo p 0 0 0 (by decide)).trans hpage, hresp⟩
  · simp (disch := decide) only [quiesceEnded, lower_eq, raise_eq, rd_wr_lo, rd_wr_same]
    rfl
  · exact (rd_wr_other _ _ _ _ _ _ _ _ _ _ (by decide)).trans (rd_wr_same _ _ 0 0 0 0)

/-- R285, R450: page `p` leaves QUIESCED. -/
def resumed (m : Module) (p : Nat) : Module :=
  (((m.lower F.IMG_INST_STAT_QUIESCE p).lower F.IMG_INST_STAT_QUIESCE_DONE p).chiActive (p - 96)).raise F.INST_EVT_RESUME p

theorem imgResume_quiescing {m : Module} {p : Nat} (hp : 96 ≤ p) (hquiesce : m.flag F.IMG_INST_STAT_QUIESCE p = true) :
    m.imgResume p = (m.resumed p, some 0) := by
  simp only [imgResume, hquiesce, Nat.not_lt.2 hp, Bool.not_true, Bool.false_eq_true, or_self, if_false]
  rfl

/-- Fields that begin above bit 0 are not CHI_STATE. -/
theorem rd_chiActive_lo (m : Module) (n : Nat) {f : Fam} (i j k : Nat) (h : f.lo ≠ 0 ∧ f.lo < 64) :
    (m.chiActive n).rd f i j k = m.rd f i j k :=
  rd_wr_lo (f := F.CHI_STATE_STATE) m 0 n 0 0 i j k ⟨h.1, h.2, by decide⟩

theorem rd_resumed (m : Module) (p : Nat) :
    (m.resumed p).rd F.IMG_INST_STAT_QUIESCE p = 0 ∧ (m.resumed p).rd F.IMG_INST_STAT_QUIESCE_DONE p = 0
      ∧ (m.resumed p).rd F.INST_EVT_RESUME p = 1 ∧ (m.resumed p).rd F.CHI_STATE_STATE (p - 96) = 0
      ∧ (m.resumed p).rd F.IMG_CTRL_STAT_PAGE = m.rd F.IMG_CTRL_STAT_PAGE := by
  have hstate (n : Module) : (n.chiActive (p - 96)).rd F.CHI_STATE_STATE (p - 96) = 0 := rd_wr_same _ _ 0 _ 0 0
  simp (disch := decide) only [resumed, lower_eq, raise_eq, rd_wr_lo, rd_chiActive_lo, rd_wr_same, hstate]
  exact ⟨rfl, rfl, rfl, trivial, trivial⟩

theorem resumed_frame (m : Module) (p : Nat) :
    ∃ r x, m.resumed p = { m with regs := r, chc := { m.chc with insts := x } } := ⟨_, _, rfl⟩

theorem chi_resumed (m : Module) (p : Nat) :
    (m.resumed p).chi (p - 96) = { m.chi (p - 96) with leftUs := m.wdtUs (p - 96) } := by
  have hwdt : ((m.lower F.IMG_INST_STAT_QUIESCE p).lower F.IMG_INST_STAT_QUIESCE_DONE p).wdtUs (p - 96) = m.wdtUs (p - 96) := by
    simp (disch := decide) only [wdtUs, lower_eq, rd_wr_lo]
  exact (chi_chiActive _ _ _).trans (by rw [if_pos rfl, hwdt]; rfl)

/-! ### SET_SHARE and SET_WEIGHT -/

/-- R453: a SHARE that fits the pool with what the others hold fits it with their shares. -/
theorem imgSetShare_fits {m : Module} {p : Nat} (hmax : m.rd F.IMG_ARG_SHARE ≤ shareMax (classOfPage p))
    (hpool : m.rd F.IMG_ARG_SHARE + (((classPages (classOfPage p)).filter (fun q => q != p)).map
      (fun q => max (m.instShare q) (m.instOcc q))).sum ≤ pool (classOfPage p)) :
    m.imgSetShare p = ((m.wr F.IMG_INST_SHARE_SHARE (m.rd F.IMG_ARG_SHARE) p).raise F.INST_EVT_SHARE p, some 0) := by
  have hshares : (((classPages (classOfPage p)).filter (fun q => q != p)).map m.instShare).sum
      ≤ (((classPages (classOfPage p)).filter (fun q => q != p)).map (fun q => max (m.instShare q) (m.instOcc q))).sum :=
    List.sum_le_sum fun q _ => le_max_left _ _
  unfold imgSetShare
  dsimp only
  rw [if_neg (by omega), if_neg (by omega)]

theorem imgSetWeight_nonzero {m : Module} {p : Nat} (h : m.rd F.IMG_ARG_WEIGHT ≠ 0) :
    m.imgSetWeight p = ((m.wr F.IMG_INST_SHARE_WEIGHT (m.rd F.IMG_ARG_WEIGHT) p).raise F.INST_EVT_SHARE p, some 0) :=
  if_neg h

/-- A value of page `p` is stored with the event of R453. -/
theorem rd_shareStored (m : Module) {f : Fam} (v p : Nat) (h : 0x20E00010 ≤ f.base ∧ f.lo ≠ 1 ∧ f.lo < 64) :
    ((m.wr f v p).raise F.INST_EVT_SHARE p).rd f p = v % 2 ^ f.width
      ∧ ((m.wr f v p).raise F.INST_EVT_SHARE p).rd F.INST_EVT_SHARE p = 1
      ∧ ((m.wr f v p).raise F.INST_EVT_SHARE p).rd F.IMG_CTRL_STAT_PAGE = m.rd F.IMG_CTRL_STAT_PAGE := by
  obtain ⟨hbase, hlo⟩ := h
  refine ⟨?_, rd_wr_same _ _ 1 p 0 0, ?_⟩
  · rw [raise_eq, rd_wr_lo _ _ _ _ _ _ _ _ ⟨hlo.1, hlo.2, by decide⟩, rd_wr_same]
  · rw [raise_eq, rd_page_wr _ _ _ _ _ (by decide), rd_page_wr _ _ _ _ _ hbase]

end Module

/-! ### The commands -/

section
variable {s : State} {a : Access} {v : Word}

/-- Every request is a write of IMG_CTRL. -/
theorem State.runBy_imgControl (v : Word) (h : s.genuine a 1) :
    s.runBy a 1 (fun a m => m.imgControl a v.toNat) = s.to (s.m.imgControl a v.toNat) := by
  simp [State.runBy_issued _ h]

/-- A request with its key, taken while none is pending, whose operation answers a status. -/
theorem State.runBy_imgDone {op p st : Nat} {n : Module} (hadm : s.admitsWrite a 0x20E00000)
    (hkey : v.toNat / 2 ^ 16 = 0x494D ∧ v.toNat % 2 ^ 4 = op ∧ v.toNat / 2 ^ 4 % 2 ^ 7 = p)
    (hpend : s.m.flag F.IMG_CTRL_STAT_PEND = false) (hop : (s.m.imgTaken p).imgOp op p = (n, some st)) :
    s.runBy a 1 (fun a m => m.imgControl a v.toNat) = s.to (n.imgDone st) := by
  rw [State.runBy_imgControl v hadm.1, Module.imgControl_taken hadm.2 hkey hpend, hop, Module.imgAnswer]

/-- The same for an operation that completes later. -/
theorem State.runBy_imgWaits {op p : Nat} {n : Module} (hadm : s.admitsWrite a 0x20E00000)
    (hkey : v.toNat / 2 ^ 16 = 0x494D ∧ v.toNat % 2 ^ 4 = op ∧ v.toNat / 2 ^ 4 % 2 ^ 7 = p)
    (hpend : s.m.flag F.IMG_CTRL_STAT_PEND = false) (hop : (s.m.imgTaken p).imgOp op p = (n, none)) :
    s.runBy a 1 (fun a m => m.imgControl a v.toNat) = s.to n := by
  rw [State.runBy_imgControl v hadm.1, Module.imgControl_taken hadm.2 hkey hpend, hop, Module.imgAnswer]

end
end Sys2Proof.Machine
end

section
/-!
SUPPORT. The resets of data instances and their ends (R442, R445–R447, R458, R546): what HDMA's part of a reset leaves, and what
the end of a reset shows.
-/
namespace Sys2Proof.Machine
namespace Module

/-! ### HDMA's part of a reset -/

/-- A field is aside of the generations: it stands below the instances' registers in IMG, or not where IMG_INST_STAT has the word
of any page. -/
abbrev genAside (key : Nat) : Prop := key < 0x20E01000 * 64 ∨ key / 64 % 16 ≠ 8

/-- What giving up the frames of a queue pair changes (R546): the switch, the ports, HDMA, HST's latches, and registers, but no
generation of a page whose register stands below the apertures. -/
structure GenerationsKept (m t : Module) : Prop where
  frame : t = { m with regs := t.regs, swc := t.swc, mac := t.mac, hdma := t.hdma, hst := t.hst }
  gen : ∀ p < 112, t.rd F.IMG_INST_STAT_GEN p = m.rd F.IMG_INST_STAT_GEN p

theorem generationsKept_refl (m : Module) : GenerationsKept m m := ⟨rfl, fun _ _ => rfl⟩

theorem generationsKept_trans {m n t : Module} (h : GenerationsKept m n) (h' : GenerationsKept n t) : GenerationsKept m t :=
  ⟨by rw [h'.frame, h.frame], fun p hp => (h'.gen p hp).trans (h.gen p hp)⟩

theorem generationsKept_wr (m : Module) {f : Fam} (v : Nat) {i j k : Nat} (h : genAside (f.key i j k)) :
    GenerationsKept m (m.wr f v i j k) := by
  refine ⟨rfl, fun p _ => rd_wr_other _ _ _ _ _ _ _ _ _ _ fun hkey => ?_⟩
  rw [← hkey] at h
  simp only [Fam.key, Fam.addr, F.IMG_INST_STAT_GEN, fam] at h
  omega

/-- A table of the switch, of the ports, of HDMA or of HST's latches changes. -/
theorem generationsKept_set {m t : Module} (hregs : t.regs = m.regs)
    (h : t = { m with swc := t.swc, mac := t.mac, hdma := t.hdma, hst := t.hst }) : GenerationsKept m t := by
  refine ⟨?_, fun p _ => by rw [rd, rd, hregs]⟩
  rw [hregs]
  exact h

theorem generationsKept_when {m n : Module} {c : Bool} {f : Module → Module} (h : GenerationsKept m n)
    (hf : GenerationsKept m (f n)) : GenerationsKept m (n.when c f) := when_keeps (P := GenerationsKept m) h hf

theorem generationsKept_staleCount (m : Module) {p : Nat} (n : Nat) : GenerationsKept m (m.staleCount p n) := by
  refine generationsKept_trans (generationsKept_wr m _ ?_) (generationsKept_wr _ _ ?_)
  · simp only [genAside, Fam.key, Fam.addr, F.INST_STALE_COUNT, fam]
    omega
  · simp only [genAside, Fam.key, Fam.addr, F.IMG_INST_STALE_COUNT, fam]
    omega

/-- The port windows repeat every 64 KiB. -/
theorem generationsKept_tsFree (m : Module) (port : Option Nat) : GenerationsKept m (m.tsFree port) := by
  cases port with
  | none => exact generationsKept_refl m
  | some p =>
    refine generationsKept_wr m _ ?_
    simp only [genAside, Fam.key, Fam.addr, F.MAC_TXTS_STAT_OCC, fam]
    omega

theorem generationsKept_tsFrees (l : List TxFrame) (m : Module) :
    GenerationsKept m (l.foldl (fun m f => m.tsFree f.tsPort) m) :=
  List.foldlRecOn (motive := GenerationsKept m) l _ (generationsKept_refl m)
    fun t ht f _ => generationsKept_trans ht (generationsKept_tsFree t f.tsPort)

theorem generationsKept_swcXoff (m : Module) : GenerationsKept m m.swcXoff := by
  have hround (c : Nat) (b : Bool) (p : Nat) (t : Module) : GenerationsKept t (t.setMap F.SWC_PORT_STAT_XOFF c b p) := by
    refine generationsKept_wr t _ ?_
    simp only [genAside, Fam.key, Fam.addr, F.SWC_PORT_STAT_XOFF, fam]
    omega
  refine forEach_keeps (P := GenerationsKept m) _ _ (fun p t ht => ?_) m (generationsKept_refl m)
  refine forEach_keeps (P := GenerationsKept m) _ _ (fun c u hu => generationsKept_trans hu ?_) t ht
  dsimp only
  split
  · exact hround c true p u
  · split
    · exact hround c false p u
    · exact generationsKept_refl u

theorem generationsKept_sporeCapture (m : Module) (f : SwFrame) : GenerationsKept m (m.sporeCapture f) := by
  unfold sporeCapture
  split
  · exact generationsKept_refl m
  · split
    · exact generationsKept_trans (generationsKept_wr m _ (by decide))
        (generationsKept_trans (generationsKept_wr _ _ (by decide)) (generationsKept_set rfl rfl))
    · exact generationsKept_set rfl rfl

theorem generationsKept_frameGone (m : Module) (id : Nat) : GenerationsKept m (m.frameGone id) := by
  unfold frameGone
  split
  · exact generationsKept_refl m
  · split
    · exact generationsKept_refl m
    · exact generationsKept_trans (generationsKept_sporeCapture m _) (generationsKept_set rfl rfl)

theorem generationsKept_holdsBegin (m : Module) (p : Nat) : GenerationsKept m (m.holdsBegin p) :=
  generationsKept_when (generationsKept_refl m) (generationsKept_set rfl rfl)

theorem generationsKept_copyGone (m : Module) (id p : Nat) : GenerationsKept m (m.copyGone id p) := by
  have hgone (f : SwFrame → SwFrame) : GenerationsKept m ((m.setFrame id f).frameGone id) :=
    generationsKept_trans (generationsKept_set (t := m.setFrame id f) rfl rfl) (generationsKept_frameGone _ id)
  exact generationsKept_trans (hgone _) (generationsKept_trans (generationsKept_holdsBegin _ p) (generationsKept_swcXoff _))

theorem generationsKept_setPark (m : Module) (q : Nat) (r : Option RxFrame) : GenerationsKept m (m.setPark q r) := by
  refine generationsKept_trans (generationsKept_set (t := m.setHq q (fun x => { x with park := r })) rfl rfl)
    (generationsKept_trans (generationsKept_wr _ _ ?_) (generationsKept_wr _ _ (by decide)))
  simp only [genAside, Fam.key, Fam.addr, F.HQ_STAT_PARKED, fam]
  omega

/-- The frames of HQq are given up (R546). -/
def framesGone (m : Module) (q : Nat) : Module :=
  let n := (m.hq q).frames.foldl (fun m f => m.tsFree f.tsPort) (m.staleCount (hqPage q) (m.hqOcc q))
  match (m.hq q).park with
  | some r => (n.setPark q none).copyGone r.id 15
  | none => n

theorem hqInstReset_eq (m : Module) (q : Nat) :
    m.hqInstReset q = ((m.framesGone q).setHq q (fun x => { txNo := x.txNo })).clrRange (pageBase (hqPage q))
      (pageBase (hqPage q) + 0x700) := by
  cases hpark : (m.hq q).park with
  | none => simp only [hqInstReset, framesGone, hpark]
  | some r => simp only [hqInstReset, framesGone, hpark]

theorem generationsKept_framesGone (m : Module) (q : Nat) : GenerationsKept m (m.framesGone q) := by
  have hfrees := generationsKept_trans (m.generationsKept_staleCount (p := hqPage q) (m.hqOcc q))
    (generationsKept_tsFrees (m.hq q).frames _)
  unfold framesGone
  dsimp only
  split
  · exact generationsKept_trans hfrees
      (generationsKept_trans (generationsKept_setPark _ q none) (generationsKept_copyGone _ _ 15))
  · exact hfrees

/-- R546: HDMA's part of a reset keeps the generations. -/
theorem generationsKept_hqInstReset (m : Module) (q : Nat) : GenerationsKept m (m.hqInstReset q) := by
  rw [hqInstReset_eq]
  refine generationsKept_trans (m.generationsKept_framesGone q) ⟨rfl, fun p hp => ?_⟩
  rw [rd_clrRange _ _ _ _ _ _ _ (by decide), if_neg]
  · rfl
  · simp only [Fam.addr, F.IMG_INST_STAT_GEN, fam, pageBase, hqPage]
    omega

/-! ### The end of a reset -/

/-- GEN of page `p` takes `gen`, and the reset is counted and shown (R442). -/
def resetShown (m : Module) (p gen : Nat) : Module :=
  (((m.setInst p (fun _ => {})).wr F.IMG_INST_STAT_GEN gen p).raise F.INST_EVT_RESET p).addW F.IMG_INST_STALE_RESETS 1 p

/-- INST_RESET_STAT answers the tenant (R447). -/
def tenantAnswered (m : Module) (p : Nat) : Module :=
  (m.wr F.INST_RESET_STAT_STATUS 0 p).lower F.INST_RESET_STAT_PEND p

theorem instResetDone_eq (m : Module) (p gen : Nat) :
    m.instResetDone p gen = ((m.resetShown p gen).when (tget {} m.inst p).tenantWaits (·.tenantAnswered p)).when
      (tget {} m.inst p).imgWaits (·.imgDone 0) := by
  unfold instResetDone
  rfl

theorem instResetDone_frame (m : Module) (p gen : Nat) : ∃ r x, m.instResetDone p gen = { m with regs := r, inst := x } := by
  have htenant : ∃ r x, (m.resetShown p gen).when (tget {} m.inst p).tenantWaits (·.tenantAnswered p)
      = { m with regs := r, inst := x } :=
    when_keeps (P := fun t => ∃ r x, t = { m with regs := r, inst := x }) ⟨_, _, rfl⟩ ⟨_, _, rfl⟩
  obtain ⟨r, x, hframe⟩ := htenant
  rw [instResetDone_eq, hframe]
  exact when_keeps (P := fun t => ∃ r x, t = { m with regs := r, inst := x }) ⟨r, x, rfl⟩ ⟨_, x, rfl⟩

theorem inst_instResetDone (m : Module) (p gen : Nat) : tget {} (m.instResetDone p gen).inst p = {} := by
  have hshown : tget {} (m.resetShown p gen).inst p = {} :=
    (tget_tmod {} m.inst p p (fun _ => {})).trans (if_pos rfl)
  have htenant : tget {} ((m.resetShown p gen).when (tget {} m.inst p).tenantWaits (·.tenantAnswered p)).inst p = {} :=
    when_keeps (P := fun t => tget {} t.inst p = {}) hshown hshown
  exact when_keeps (P := fun t => tget {} t.inst p = {}) htenant htenant

/-- A field that neither answer of a reset writes reads as the reset shows it. -/
theorem rd_instResetDone (m : Module) (p gen : Nat) {f : Fam} {i : Nat} (himg : f.key i 0 0 ∉ imgKeys)
    (htenant : ∀ n, (tenantAnswered n p).rd f i = n.rd f i) :
    (m.instResetDone p gen).rd f i = (m.resetShown p gen).rd f i := by
  have hanswered : ((m.resetShown p gen).when (tget {} m.inst p).tenantWaits (·.tenantAnswered p)).rd f i
      = (m.resetShown p gen).rd f i := when_keeps (P := fun t => t.rd f i = (m.resetShown p gen).rd f i) rfl (htenant _)
  exact when_keeps (P := fun t => t.rd f i = (m.resetShown p gen).rd f i) hanswered
    ((regsBut_imgDone _ 0 f i 0 0 himg).trans hanswered)

theorem rd_tenantAnswered_lo (m : Module) (p : Nat) {f : Fam} (i : Nat) (h : f.lo ≠ 0 ∧ f.lo ≠ 8 ∧ f.lo < 64) :
    (m.tenantAnswered p).rd f i = m.rd f i := by
  obtain ⟨hstatus, hpend, hlo⟩ := h
  rw [tenantAnswered, lower_eq, rd_wr_lo _ _ _ _ _ _ _ _ ⟨hpend, hlo, by decide⟩,
    rd_wr_lo _ _ _ _ _ _ _ _ ⟨hstatus, hlo, by decide⟩]

/-- A field of IMG stands below the pages in which tenants are answered. -/
theorem rd_tenantAnswered_gen (m : Module) {p : Nat} (hp : p < 112) :
    (m.tenantAnswered p).rd F.IMG_INST_STAT_GEN p = m.rd F.IMG_INST_STAT_GEN p := by
  rw [tenantAnswered, lower_eq, rd_wr_lo _ _ _ _ _ _ _ _ (by decide)]
  refine rd_wr_other _ _ _ _ _ _ _ _ _ _ ?_
  simp only [Fam.key, Fam.addr, F.IMG_INST_STAT_GEN, F.INST_RESET_STAT_STATUS, fam]
  omega

theorem rd_tenantAnswered_event (m : Module) (p : Nat) :
    (m.tenantAnswered p).rd F.INST_EVT_RESET p = m.rd F.INST_EVT_RESET p := by
  rw [tenantAnswered, lower_eq, rd_wr_lo _ _ _ _ _ _ _ _ (by decide), rd_wr_place _ _ _ (by decide)]

/-- R442: the generation, the event and the count of a reset that ends. -/
theorem rd_instResetDone_shown (m : Module) {p : Nat} (hp : p < 112) (gen : Nat) :
    (m.instResetDone p gen).rd F.IMG_INST_STAT_GEN p = gen % 2 ^ 12
      ∧ (m.instResetDone p gen).rd F.INST_EVT_RESET p = 1
      ∧ (m.instResetDone p gen).rd F.IMG_INST_STALE_RESETS p
          = (m.rd F.IMG_INST_STALE_RESETS p + 1) % 2 ^ F.IMG_INST_STALE_RESETS.width := by
  have hgen : (m.resetShown p gen).rd F.IMG_INST_STAT_GEN p = gen % 2 ^ 12 := by
    rw [resetShown, addW_eq, rd_wr_lo _ _ _ _ _ _ _ _ (by decide), raise_eq, rd_wr_other, rd_wr_same]
    · rfl
    · simp only [Fam.key, Fam.addr, F.IMG_INST_STAT_GEN, F.INST_EVT_RESET, fam]
      omega
  have hevent : (m.resetShown p gen).rd F.INST_EVT_RESET p = 1 :=
    (rd_wr_lo _ _ _ _ _ _ _ _ (by decide)).trans (rd_wr_same _ _ 1 p 0 0)
  have hcount : (m.resetShown p gen).rd F.IMG_INST_STALE_RESETS p
      = (m.rd F.IMG_INST_STALE_RESETS p + 1) % 2 ^ F.IMG_INST_STALE_RESETS.width := by
    simp (disch := decide) only [resetShown, addW_eq, raise_eq, rd_wr_same, rd_wr_lo]
    rfl
  exact ⟨(m.rd_instResetDone p gen (notMem_imgKeys (by decide)) (fun n => n.rd_tenantAnswered_gen hp)).trans hgen,
    (m.rd_instResetDone p gen (notMem_imgKeys (by decide)) (fun n => n.rd_tenantAnswered_event p)).trans hevent,
    (m.rd_instResetDone p gen (notMem_imgKeys (by decide)) (fun n => n.rd_tenantAnswered_lo p p (by decide))).trans hcount⟩

/-- Fields that begin at other bits than those of a reset read as before. -/
theorem rd_instResetDone_lo (m : Module) (p gen : Nat) {f : Fam} (i : Nat)
    (h : f.lo ≠ 0 ∧ f.lo ≠ 8 ∧ f.lo ≠ 16 ∧ f.lo < 64) : (m.instResetDone p gen).rd f i = m.rd f i := by
  obtain ⟨hzero, hpend, hcount, hlo⟩ := h
  have himg : f.key i 0 0 ∉ imgKeys := by
    simp only [imgKeys, List.mem_cons, List.not_mem_nil, or_false, Fam.key, F.IMG_CTRL_STAT_PAGE, F.IMG_CTRL_STAT_PEND,
      F.IMG_CTRL_STAT_STATUS, F.IMG_EVT_DONE, fam]
    omega
  rw [m.rd_instResetDone p gen himg (fun n => n.rd_tenantAnswered_lo p i ⟨hzero, hpend, hlo⟩), resetShown, addW_eq, raise_eq,
    rd_wr_lo _ _ _ _ _ _ _ _ ⟨hcount, hlo, by decide⟩, rd_wr_lo _ _ _ _ _ _ _ _ ⟨hzero, hlo, by decide⟩,
    rd_wr_lo _ _ _ _ _ _ _ _ ⟨hzero, hlo, by decide⟩]
  rfl

/-- R447: the tenant that waits is answered with OK. -/
theorem rd_instResetDone_tenant {m : Module} {p : Nat} (gen : Nat) (h : (tget {} m.inst p).tenantWaits = true) :
    (m.instResetDone p gen).rd F.INST_RESET_STAT_PEND p = 0 ∧ (m.instResetDone p gen).rd F.INST_RESET_STAT_STATUS p = 0 := by
  have hanswered : ((m.resetShown p gen).tenantAnswered p).rd F.INST_RESET_STAT_PEND p = 0
      ∧ ((m.resetShown p gen).tenantAnswered p).rd F.INST_RESET_STAT_STATUS p = 0 :=
    ⟨rd_wr_same _ _ 0 p 0 0, (rd_wr_lo _ _ _ _ _ _ _ _ (by decide)).trans (rd_wr_same _ _ 0 p 0 0)⟩
  rw [instResetDone_eq, h, when_true]
  refine when_keeps (P := fun t => t.rd F.INST_RESET_STAT_PEND p = 0 ∧ t.rd F.INST_RESET_STAT_STATUS p = 0) hanswered ?_
  rw [rd_imgDone _ _ _ _ _ (by decide), rd_imgDone _ _ _ _ _ (by decide)]
  exact hanswered

/-! ### A reset by the tenant, and the ends of the wrap fence -/

/-- R447: with its key, INST_RESET of a command page is denied. -/
theorem tenantReset_control {m : Module} {p v : Nat} (hp : 96 ≤ p) (hkey : v % 2 ^ 16 = 0x1E5A) :
    m.tenantReset p v = m.wr F.INST_RESET_STAT_STATUS 2 p := by
  have hword : bits v 15 0 = 0x1E5A := by rw [bits, Nat.pow_zero, Nat.div_one]; exact hkey
  rw [tenantReset, if_neg (by simp [hword]), if_pos hp]

/-- R447: INST_RESET of a data page begins a reset. -/
theorem tenantReset_data {m : Module} {p v : Nat} (hp : p < 96) (hkey : v % 2 ^ 16 = 0x1E5A) :
    m.tenantReset p v = m.instReset p false true := by
  have hword : bits v 15 0 = 0x1E5A := by rw [bits, Nat.pow_zero, Nat.div_one]; exact hkey
  rw [tenantReset, if_neg (by simp [hword]), if_neg (Nat.not_le.2 hp)]

/-- The tenant of page `p` waits for its reset (R447). -/
def tenantBegun (m : Module) (p : Nat) : Module :=
  (m.raise F.INST_RESET_STAT_PEND p).setInst p (fun x => { x with tenantWaits := true })

/-- R442, R447: where nothing is held and no generation wraps, the reset of a queue pair ends at once, with the next
generation. -/
theorem instReset_hdma {m : Module} {p : Nat} (hp : 64 ≤ p ∧ p < 96) (hfree : tget {} m.inst p = {})
    (hgen : m.rd F.IMG_INST_STAT_GEN p < 4095) :
    m.instReset p false true
      = ((m.tenantBegun p).hqInstReset (p - 64)).instResetDone p (m.rd F.IMG_INST_STAT_GEN p + 1) := by
  obtain ⟨hlow, hhigh⟩ := hp
  have hbegun : (m.tenantBegun p).rd F.IMG_INST_STAT_GEN p = m.rd F.IMG_INST_STAT_GEN p :=
    rd_wr_lo (f := F.INST_RESET_STAT_PEND) m 1 p 0 0 p 0 0 (by decide)
  have hkept : ((m.tenantBegun p).hqInstReset (p - 64)).rd F.IMG_INST_STAT_GEN p = m.rd F.IMG_INST_STAT_GEN p :=
    (((m.tenantBegun p).generationsKept_hqInstReset (p - 64)).gen p (by omega)).trans hbegun
  have hfence : (tget {} (m.raise F.INST_RESET_STAT_PEND p).inst p).fence = false := congrArg InstSt.fence hfree
  have hblock (n : Module) : n.blockInstReset p = n.hqInstReset (p - 64) := if_neg (by omega)
  have hwaits : (m.raise F.INST_RESET_STAT_PEND p).setInst p
      (fun x => { x with imgWaits := x.imgWaits || false, tenantWaits := x.tenantWaits || true }) = m.tenantBegun p := by
    simp only [Bool.or_false, Bool.or_true]
    rfl
  unfold instReset
  dsimp only
  rw [when_true, hfence, hwaits, hblock, hkept, if_neg Bool.false_ne_true, if_neg (by omega)]

/-- R445: a fence with no work in flight is released. -/
theorem fenceRelease_idle {m : Module} {p : Nat} (hfence : (tget {} m.inst p).fence = true) (hidle : m.instInFlight p = 0) :
    m.fenceRelease p = m.instResetDone p 1 := by
  rw [fenceRelease, hfence, hidle]
  rfl

/-- R446: 100 ms after the fence began the work is abandoned, which shows and is logged, and then the reset ends. -/
theorem fenceForce_due {m : Module} {p : Nat} (hfence : (tget {} m.inst p).fence = true)
    (hdue : (tget {} m.inst p).since + 100000 ≤ m.now) :
    ∃ (n : Module) (d : Nat), m.fenceForce p = (((n.raise F.INST_EVT_FENCE_FORCED p).raise F.IMG_EVT_FENCE_FORCED).logBlk 0x10
      0x1002 (pageBase p) d).instResetDone p 1 := by
  have hlate : ¬ m.boot.us < (tget {} m.inst p).since + 100000 := Nat.not_lt.2 hdue
  rw [fenceForce, if_neg (by simp [hfence, hlate])]
  rcases (if p < 64 then m.cpeAbandon p else (m, 0)) with ⟨n, k⟩
  exact ⟨n, _, rfl⟩

/-- R446: the events of a forced fence outlast its record and the end of the reset. -/
theorem rd_fenceForced (n : Module) (p d : Nat) :
    ((((n.raise F.INST_EVT_FENCE_FORCED p).raise F.IMG_EVT_FENCE_FORCED).logBlk 0x10 0x1002 (pageBase p) d).instResetDone p 1).rd
        F.INST_EVT_FENCE_FORCED p = 1
      ∧ ((((n.raise F.INST_EVT_FENCE_FORCED p).raise F.IMG_EVT_FENCE_FORCED).logBlk 0x10 0x1002 (pageBase p) d).instResetDone p
        1).rd F.IMG_EVT_FENCE_FORCED = 1 := by
  have hlog := ((n.raise F.INST_EVT_FENCE_FORCED p).raise F.IMG_EVT_FENCE_FORCED).aboveFab_logBlk 0x10 0x1002 (pageBase p) d 0
  have hkey : 0x20200000 * 64 ≤ F.INST_EVT_FENCE_FORCED.key p 0 0 := by
    simp only [Fam.key, Fam.addr, F.INST_EVT_FENCE_FORCED, fam]
    omega
  rw [rd_instResetDone_lo _ _ _ _ (by decide), rd_instResetDone_lo _ _ _ _ (by decide), hlog _ _ _ _ hkey,
    hlog _ _ _ _ (by decide)]
  exact ⟨(rd_wr_lo _ _ _ _ _ _ _ _ (by decide)).trans (rd_wr_same _ _ 1 p 0 0), rd_wr_same _ _ 1 0 0 0⟩

end Module

/-- R442, R447: what the tenant of a queue pair finds when its reset has ended at once. -/
theorem Module.instReset_hdma_ends {m : Module} {p : Nat} (hp : 64 ≤ p ∧ p < 96) (hfree : tget {} m.inst p = {})
    (hgen : m.rd F.IMG_INST_STAT_GEN p < 4095) :
    (m.instReset p false true).rd F.IMG_INST_STAT_GEN p = m.rd F.IMG_INST_STAT_GEN p + 1
      ∧ (m.instReset p false true).rd F.INST_RESET_STAT_PEND p = 0
      ∧ (m.instReset p false true).rd F.INST_RESET_STAT_STATUS p = 0
      ∧ (m.instReset p false true).rd F.INST_EVT_RESET p = 1
      ∧ (m.instReset p false true).mem = m.mem ∧ (m.instReset p false true).chc = m.chc := by
  rw [instReset_hdma hp hfree hgen]
  have hkept := ((m.tenantBegun p).generationsKept_hqInstReset (p - 64)).frame
  have hwaits : (tget {} ((m.tenantBegun p).hqInstReset (p - 64)).inst p).tenantWaits = true := by
    have hbegun : tget {} (m.tenantBegun p).inst p = { tget {} m.inst p with tenantWaits := true } :=
      (tget_tmod {} m.inst p p (fun x => { x with tenantWaits := true })).trans (if_pos rfl)
    rw [hkept]
    exact congrArg InstSt.tenantWaits hbegun
  obtain ⟨hshown, hevent, -⟩ := ((m.tenantBegun p).hqInstReset (p - 64)).rd_instResetDone_shown (p := p) (by omega)
    (m.rd F.IMG_INST_STAT_GEN p + 1)
  obtain ⟨hpend, hstatus⟩ := rd_instResetDone_tenant (m.rd F.IMG_INST_STAT_GEN p + 1) hwaits
  obtain ⟨r, x, hframe⟩ := ((m.tenantBegun p).hqInstReset (p - 64)).instResetDone_frame p (m.rd F.IMG_INST_STAT_GEN p + 1)
  refine ⟨hshown.trans (Nat.mod_eq_of_lt (by omega)), hpend, hstatus, hevent, ?_, ?_⟩
  · rw [hframe, hkept]
    rfl
  · rw [hframe, hkept]
    rfl

theorem exec_instResetRequest {s : State} {a : Access} {page : Fin 112} (v : Word)
    (hadm : s.admitsWrite a (Module.pageBase page.val + 0x720)) :
    exec (.instResetRequest a page v) s = s.to (s.m.ok.tenantReset page.val v.toNat) :=
  State.runBy_admittedWrite (fun _ m => m.tenantReset page.val v.toNat) hadm

/-- Settles O43: each request is taken with its page shown, which none of its conditions reads, and the resets and the fence ends
by what a reset shows when it ends. -/
theorem instanceRequests : Obligations.InstanceRequests := by
  unfold Obligations.InstanceRequests
  refine ⟨?assign, ?assignData, ?unassign, ?unassignData, ?reset, ?resetData, ?quiesceBusy, ?quiesceIdle, ?resume, ?share,
    ?weight, ?denied, ?hdma, ?tenant, ?released, ?forced, fun s a v hg => State.runBy_imgControl v hg,
    fun s a v hg => State.runBy_imgControl v hg, fun s a v hg => State.runBy_imgControl v hg,
    fun s a v hg => State.runBy_imgControl v hg, fun s a v hg => State.runBy_imgControl v hg,
    fun s a v hg => State.runBy_imgControl v hg, fun s a v hg => State.runBy_imgControl v hg,
    fun s a page v hadm => exec_instResetRequest v hadm, fun s page => rfl, fun s page => rfl⟩
  case assign =>
    rintro s a v p hadm ⟨hword, hop, hpage, hlow, hp, hpend⟩ hworld ⟨hsafe, hquiet⟩
    have hassigns : (s.m.imgTaken p).imgOp 1 p = ((s.m.imgTaken p).pageAssigned p, some 0) :=
      (if_neg (by omega)).trans (Module.imgAssign_control hlow (by simpa using hworld) (by simpa using hsafe)
        (by simpa using hquiet))
    obtain ⟨hshown, hpart, hkept⟩ := (s.m.imgTaken p).rd_pageAssigned p
    refine ⟨_, State.runBy_imgDone hadm ⟨hword, hop, hpage⟩ hpend hassigns, ?_, ?_,
      Module.imgCompletes_imgDone (hkept.trans (s.m.rd_imgTaken_page hp)) rfl, Module.onlyRegs_imgDone (p := p) rfl ?_⟩
    · exact (Module.rd_imgDone _ 0 p 0 0 (by decide)).trans hshown
    · exact (Module.rd_imgDone _ 0 p 0 0 (by decide)).trans (hpart.trans (by rw [Module.rd_imgTaken_part]))
    · exact Module.regsBut_wr _ (by simp) (Module.regsBut_wr _ (by simp) (Module.regsBut_refl _ _))
  case assignData =>
    rintro s a v p hadm ⟨hword, hop, hpage, hp, hpend⟩ hworld
    have hassigns : (s.m.imgTaken p).imgOp 1 p = (((s.m.imgTaken p).pageAssigned p).instReset p true false, none) :=
      (if_neg (by omega)).trans (Module.imgAssign_data hp (by simpa using hworld))
    rw [Module.pageAssigned, Module.rd_imgTaken_part] at hassigns
    exact State.runBy_imgWaits hadm ⟨hword, hop, hpage⟩ hpend hassigns
  case unassign =>
    rintro s a v p hadm ⟨hword, hop, hpage, hlow, hp, hpend⟩ hquiet
    have hends : (s.m.imgTaken p).imgOp 2 p = ((s.m.imgTaken p).lower F.IMG_INST_CFG_ASSIGNED p, some 0) :=
      (if_neg (by omega)).trans (Module.imgUnassign_control hlow (by simpa using hquiet))
    refine ⟨_, State.runBy_imgDone hadm ⟨hword, hop, hpage⟩ hpend hends, ?_,
      Module.imgCompletes_imgDone ((Module.rd_page_wr _ 0 p 0 0 (by decide)).trans (s.m.rd_imgTaken_page hp)) rfl,
      Module.onlyRegs_imgDone (p := p) rfl ?_⟩
    · exact (Module.rd_imgDone _ 0 p 0 0 (by decide)).trans (Module.rd_wr_same _ F.IMG_INST_CFG_ASSIGNED 0 p 0 0)
    · exact Module.regsBut_wr _ (by simp) (Module.regsBut_refl _ _)
  case unassignData =>
    rintro s a v p hadm ⟨hword, hop, hpage, hp, hpend⟩
    exact State.runBy_imgWaits hadm ⟨hword, hop, hpage⟩ hpend ((if_neg (by omega)).trans (Module.imgUnassign_data hp))
  case reset =>
    rintro s a v p hadm ⟨hword, hop, hpage, hlow, hp, hpend⟩ hquiet
    have hresets : (s.m.imgTaken p).imgOp 3 p = ((s.m.imgTaken p).controlReset p, some 0) :=
      (if_neg (by omega)).trans (Module.imgResetPage_control hlow (by simpa using hquiet))
    obtain ⟨hcount, hevent, hkept⟩ := (s.m.imgTaken p).rd_controlReset hp
    obtain ⟨us, hempty⟩ := (s.m.imgTaken p).chi_controlReset p
    obtain ⟨r, x, hreset⟩ := (s.m.imgTaken p).controlReset_frame p
    obtain ⟨hresp, hchans, hframe, -⟩ := Module.imgDone_frame hreset
    have hchi := (Module.chi_imgDone _ 0 (p - 96)).trans hempty
    exact ⟨_, State.runBy_imgDone hadm ⟨hword, hop, hpage⟩ hpend hresets, congrArg Chi.queue hchi, congrArg Chi.fifo hchi,
      congrArg Chi.cal hchi,
      (Module.rd_imgDone _ 0 p 0 0 (by decide)).trans (hcount.trans (by rw [Module.rd_imgTaken _ _ _ _ _ (by decide)])),
      (Module.rd_imgDone _ 0 p 0 0 (by decide)).trans hevent,
      Module.imgCompletes_imgDone (hkept.trans (s.m.rd_imgTaken_page hp)) hresp, hchans, hframe⟩
  case resetData =>
    rintro s a v p hadm ⟨hword, hop, hpage, hp, hpend⟩ hassigned
    have htaken := (s.m.flag_imgTaken p (f := F.IMG_INST_CFG_ASSIGNED) p (by decide)).trans hassigned
    exact State.runBy_imgWaits hadm ⟨hword, hop, hpage⟩ hpend ((if_neg (by omega)).trans (Module.imgResetPage_data hp htaken))
  case quiesceBusy =>
    rintro s a v p hadm ⟨hword, hop, hpage, hlow, hp, hpend⟩ ⟨hassigned, hnot, hbusy⟩
    have htaken := (s.m.flag_imgTaken p (f := F.IMG_INST_CFG_ASSIGNED) p (by decide)).trans hassigned
    have hwaits : (s.m.imgTaken p).imgOp 4 p = ((s.m.imgTaken p).quiesceShown p, none) := by
      refine (if_neg (by omega)).trans ((Module.imgQuiesce_assigned hlow htaken).trans ?_)
      rw [Module.quiescedPage_imgTaken, hnot, if_neg Bool.false_ne_true,
        Module.quiesceDone_busy (m := (s.m.imgTaken p).quiesceShown p) hbusy]
    obtain ⟨hquiesce, hevent, hstate⟩ := (s.m.imgTaken p).rd_quiesceShown p
    obtain ⟨hshownPend, hshownPage, -⟩ := s.m.rd_quiesceShown_taken hp
    exact ⟨_, State.runBy_imgWaits hadm ⟨hword, hop, hpage⟩ hpend hwaits, hquiesce, hevent, hshownPend, hshownPage, hstate,
      s.m.onlyRegs_quiesceShown p⟩
  case quiesceIdle =>
    rintro s a v p hadm ⟨hword, hop, hpage, hlow, hp, hpend⟩ ⟨hassigned, hidle⟩
    have htaken := (s.m.flag_imgTaken p (f := F.IMG_INST_CFG_ASSIGNED) p (by decide)).trans hassigned
    have hquiesces : (s.m.imgTaken p).imgOp 4 p = _ := (if_neg (by omega)).trans (Module.imgQuiesce_assigned hlow htaken)
    obtain ⟨hquiesce, hevent, hstate⟩ := (s.m.imgTaken p).rd_quiesceShown p
    obtain ⟨hshownPend, hshownPage, hshownDone⟩ := s.m.rd_quiesceShown_taken hp
    rw [Module.quiescedPage_imgTaken] at hquiesces
    cases hquiet : s.m.quiescedPage p with
    | true =>
      rw [if_pos hquiet] at hquiesces
      exact ⟨_, State.runBy_imgDone hadm ⟨hword, hop, hpage⟩ hpend hquiesces,
        (Module.rd_imgDone _ 0 p 0 0 (by decide)).trans hquiesce, (Module.rd_imgDone _ 0 p 0 0 (by decide)).trans hevent,
        (Module.rd_imgDone _ 0 p 0 0 (by decide)).trans (hshownDone.trans (Module.rd_done_of_quiesced hquiet)),
        Module.imgCompletes_imgDone hshownPage rfl, (Module.rd_imgDone _ 0 _ 0 0 (by decide)).trans hstate, rfl⟩
    | false =>
      have hends := Module.quiesceDone_idle (m := (s.m.imgTaken p).quiesceShown p) hlow hquiesce
        (hidle.resolve_left (by simp [hquiet])) (by rw [Module.quiescedPage, Module.flag_eq, hshownDone]; exact hquiet)
        ⟨hshownPend, hshownPage⟩
      rw [if_neg (by simp [hquiet]), hends] at hquiesces
      exact ⟨_, State.runBy_imgWaits hadm ⟨hword, hop, hpage⟩ hpend hquiesces,
        (Module.rd_quiesceEnded_lo _ p p 0 0 (by decide)).trans hquiesce,
        (Module.rd_quiesceEnded_lo _ p p 0 0 (by decide)).trans hevent, Module.rd_done_quiesceEnded _ p,
        Module.imgCompletes_quiesceEnded hshownPage rfl, (Module.rd_state_quiesceEnded _ p _).trans hstate, rfl⟩
  case resume =>
    rintro s a v p hadm ⟨hword, hop, hpage, hlow, hp, hpend⟩ hquiesce
    have htaken := (s.m.flag_imgTaken p (f := F.IMG_INST_STAT_QUIESCE) p (by decide)).trans hquiesce
    have hresumes : (s.m.imgTaken p).imgOp 5 p = ((s.m.imgTaken p).resumed p, some 0) :=
      (if_neg (by omega)).trans (Module.imgResume_quiescing hlow htaken)
    obtain ⟨hasked, hdone, hevent, hstate, hkept⟩ := (s.m.imgTaken p).rd_resumed p
    obtain ⟨r, x, hresumed⟩ := (s.m.imgTaken p).resumed_frame p
    obtain ⟨hresp, -, -, hframe⟩ := Module.imgDone_frame hresumed
    have hchi := (Module.chi_imgDone _ 0 _).trans ((s.m.imgTaken p).chi_resumed p)
    rw [Module.wdtUs_imgTaken, Module.chi_imgTaken] at hchi
    exact ⟨_, State.runBy_imgDone hadm ⟨hword, hop, hpage⟩ hpend hresumes,
      (Module.rd_imgDone _ 0 p 0 0 (by decide)).trans hasked, (Module.rd_imgDone _ 0 p 0 0 (by decide)).trans hdone,
      (Module.rd_imgDone _ 0 p 0 0 (by decide)).trans hevent, (Module.rd_imgDone _ 0 _ 0 0 (by decide)).trans hstate, hchi,
      Module.imgCompletes_imgDone (hkept.trans (s.m.rd_imgTaken_page hp)) hresp, hframe⟩
  case share =>
    rintro s a v p hadm ⟨hword, hop, hpage, hp, hpend⟩ hmax hpool
    have hstores : (s.m.imgTaken p).imgOp 6 p = _ :=
      (if_neg (by omega)).trans (Module.imgSetShare_fits (by simpa using hmax) (by simpa using hpool))
    obtain ⟨hshare, hevent, hkept⟩ := (s.m.imgTaken p).rd_shareStored (f := F.IMG_INST_SHARE_SHARE)
      ((s.m.imgTaken p).rd F.IMG_ARG_SHARE) p (by decide)
    refine ⟨_, State.runBy_imgDone hadm ⟨hword, hop, hpage⟩ hpend hstores, ?_,
      (Module.rd_imgDone _ 0 p 0 0 (by decide)).trans hevent,
      Module.imgCompletes_imgDone (hkept.trans (s.m.rd_imgTaken_page hp)) rfl, Module.onlyRegs_imgDone (p := p) rfl ?_⟩
    · exact (Module.rd_imgDone _ 0 p 0 0 (by decide)).trans (hshare.trans (by rw [Module.rd_imgTaken_share]))
    · exact Module.regsBut_wr _ (by simp) (Module.regsBut_wr _ (by simp) (Module.regsBut_refl _ _))
  case weight =>
    rintro s a v p hadm ⟨hword, hop, hpage, hp, hpend⟩ hweight
    have hstores : (s.m.imgTaken p).imgOp 7 p = _ :=
      (if_neg (by omega)).trans (Module.imgSetWeight_nonzero (by simpa using hweight))
    obtain ⟨hstored, hevent, hkept⟩ := (s.m.imgTaken p).rd_shareStored (f := F.IMG_INST_SHARE_WEIGHT)
      ((s.m.imgTaken p).rd F.IMG_ARG_WEIGHT) p (by decide)
    refine ⟨_, State.runBy_imgDone hadm ⟨hword, hop, hpage⟩ hpend hstores, ?_,
      (Module.rd_imgDone _ 0 p 0 0 (by decide)).trans hevent,
      Module.imgCompletes_imgDone (hkept.trans (s.m.rd_imgTaken_page hp)) rfl, Module.onlyRegs_imgDone (p := p) rfl ?_⟩
    · exact (Module.rd_imgDone _ 0 p 0 0 (by decide)).trans (hstored.trans (by rw [Module.rd_imgTaken_weight]))
    · exact Module.regsBut_wr _ (by simp) (Module.regsBut_wr _ (by simp) (Module.regsBut_refl _ _))
  case denied =>
    rintro s a page v hadm ⟨hlow, hkey⟩
    rw [exec_instResetRequest v hadm, Module.tenantReset_control hlow hkey]
  case hdma =>
    rintro s a page v hadm ⟨hlow, hhigh, hkey⟩ ⟨hfree, hgen⟩
    exact ⟨_, (exec_instResetRequest v hadm).trans (congrArg s.to (Module.tenantReset_data hhigh hkey)),
      Module.instReset_hdma_ends (m := s.m.ok) ⟨hlow, hhigh⟩ hfree hgen⟩
  case tenant =>
    rintro s a page v hadm ⟨hp, hkey⟩
    rw [exec_instResetRequest v hadm, Module.tenantReset_data hp hkey]
  case released =>
    rintro s page ⟨hfence, hidle⟩
    obtain ⟨hgen, hevent, hcount⟩ := s.m.rd_instResetDone_shown (p := page.val) (by omega) 1
    obtain ⟨r, x, hframe⟩ := s.m.instResetDone_frame page.val 1
    exact ⟨_, congrArg s.to (Module.fenceRelease_idle hfence hidle), hgen, hevent, s.m.inst_instResetDone page.val 1, hcount,
      by rw [hframe]⟩
  case forced =>
    rintro s page ⟨hfence, hdue⟩
    obtain ⟨n, d, hforced⟩ := Module.fenceForce_due hfence hdue
    obtain ⟨hevent, hblock⟩ := Module.rd_fenceForced n page.val d
    obtain ⟨hgen, -⟩ := Module.rd_instResetDone_shown (((n.raise F.INST_EVT_FENCE_FORCED page.val).raise
      F.IMG_EVT_FENCE_FORCED).logBlk 0x10 0x1002 (Module.pageBase page.val) d) (p := page.val) (by omega) 1
    exact ⟨_, congrArg s.to hforced, hgen, hevent, hblock, Module.inst_instResetDone _ page.val 1⟩

end Sys2Proof.Machine
end
